-- ==== Sys2Proof/Word.lean ====
section
/-! DEFINITION.  The register word, the plainest arithmetic on numbers that stand
in words, and the numbering of the wafer (chapter 01). -/

namespace Sys2Proof

/-- A register word (R16: every access is one aligned 32-bit word). -/
abbrev Word := BitVec 32

/-- Two's complement reading of the low `w` bits of `n`. -/
def signed (w n : Nat) : Int :=
  if 2 ^ (w - 1) ≤ n % 2 ^ w then (n % 2 ^ w : Int) - (2 ^ w : Int) else (n % 2 ^ w : Int)

/-- The low `w` bits of an integer in two's complement. -/
def unsigned (w : Nat) (v : Int) : Nat := (v % (2 ^ w : Int)).toNat

/-- An integer held within an inclusive range. -/
def clampI (lo hi v : Int) : Int := if v < lo then lo else if hi < v then hi else v

/-- A number held within an inclusive range. (DEDUCED: log 19.) -/
def clampN (lo hi v : Nat) : Nat := if v < lo then lo else if hi < v then hi else v

/-- `a / b` rounded to nearest, ties upward (`b` positive). -/
def roundDiv (a b : Int) : Int := (2 * a + b) / (2 * b)

/-- One bit as a number. -/
def bit (b : Bool) : Nat := if b then 1 else 0

/-- The 28 edge partitions in ascending order; the place in the list is the edge
ordinal of R23. -/
def edgeParts : List Nat :=
  [0, 1, 2, 3, 4, 5, 6, 7, 8, 15, 16, 23, 24, 31, 32, 39, 40, 47, 48, 55, 56, 57, 58, 59, 60, 61, 62, 63]

/-- Whether partition `p` is an edge partition (R22: row or column 0 or 7). -/
def isEdge (p : Nat) : Bool := p / 8 == 0 || p / 8 == 7 || p % 8 == 0 || p % 8 == 7

/-- The edge ordinal of an edge partition (R23). -/
def edgeOrd (p : Nat) : Nat := edgeParts.idxOf p

/-- The partition of edge ordinal `e` (R23). -/
def edgePart (e : Nat) : Nat := edgeParts.getD e 0

/-- Wafer column of Tussock G (R25). -/
def tusX (g : Nat) : Nat := 8 * (g / 64 % 8) + g % 64 % 8

/-- Wafer row of Tussock G (R25). -/
def tusY (g : Nat) : Nat := 8 * (g / 64 / 8) + g % 64 / 8

/-- The Tussock at wafer coordinates (R25). -/
def tusAt (x y : Nat) : Nat := 64 * (8 * (y / 8) + x / 8) + (8 * (y % 8) + x % 8)

/-- The neighbour of Tussock G on a tie port (R26): 0 north, 1 east, 2 south,
3 west; none for a tied-off port. (DEDUCED: log 17.) -/
def neighbour (g port : Nat) : Option Nat :=
  match port with
  | 0 => if tusY g = 0 then none else some (tusAt (tusX g) (tusY g - 1))
  | 1 => if tusX g = 63 then none else some (tusAt (tusX g + 1) (tusY g))
  | 2 => if tusY g = 63 then none else some (tusAt (tusX g) (tusY g + 1))
  | 3 => if tusX g = 0 then none else some (tusAt (tusX g - 1) (tusY g))
  | _ => none

/-- The port on which a neighbour sees this Tussock. -/
def facingPort (port : Nat) : Nat := (port + 2) % 4

/-- Whether a Tussock lies on the outer ring of the grid (R182). -/
def isEdgeTussock (g : Nat) : Bool := tusX g == 0 || tusX g == 63 || tusY g == 0 || tusY g == 63

end Sys2Proof
end

