-- ==== Sys2Proof/Machine/Store.lean ====
section
/-! DEFINITION.  Sparse data by key: a list of (key, value) pairs in one
canonical form, read against a default value for every key it does not list. -/

namespace Sys2Proof.Machine

/-- Pairs of key and value; canonical when the keys rise strictly and no entry
equals the default of its key (`Store.Wf`). (DESIGN CHOICE: log 58.) -/
abbrev Store (α : Type) := List (Nat × α)

/-- The value at a key: the listed one, else the default. -/
def Store.get {α : Type} (dflt : Nat → α) : Store α → Nat → α
  | [], k => dflt k
  | (k', v) :: t, k => if k' = k then v else Store.get dflt t k

/-- Insertion before the first larger key. -/
def Store.insert {α : Type} : Store α → Nat → α → Store α
  | [], k, v => [(k, v)]
  | (k', v') :: t, k, v => if k < k' then (k, v) :: (k', v') :: t else (k', v') :: Store.insert t k v

/-- The store with one key set; a value equal to the default is not listed. -/
def Store.set {α : Type} [DecidableEq α] (dflt : Nat → α) (l : Store α) (k : Nat) (v : α) : Store α :=
  let l' := l.filter fun e => e.1 ≠ k
  if v = dflt k then l' else Store.insert l' k v

/-- The store with every listed value mapped. -/
def Store.map {α : Type} [DecidableEq α] (dflt : Nat → α) (f : Nat → α → α) (l : Store α) : Store α :=
  l.foldr (fun e t => Store.set dflt t e.1 (f e.1 e.2)) []

/-- The store of the first `n` keys with the values of a function. -/
def Store.build {α : Type} [DecidableEq α] (dflt : Nat → α) (n : Nat) (f : Nat → α) : Store α :=
  ((List.range n).map fun i => (i, f i)).filter fun e => e.2 ≠ dflt e.1

/-- Canonical form. -/
abbrev Store.Wf {α : Type} (dflt : Nat → α) (l : Store α) : Prop :=
  l.Pairwise (fun a b => a.1 < b.1) ∧ ∀ e ∈ l, e.2 ≠ dflt e.1

end Sys2Proof.Machine
end

