-- ==== Sys2Proof/Machine/Fields.lean ====
section
/-! DEFINITION.  Every named field of every register table of spec/, as a bit
range at an offset: the offset is within the block of the register (the Heath's
own space, one Sward, or one Tussock or Verge), and an indexed register takes
its indices as arguments.  The docstring of a field gives its table, its access
code (Table 0.6) and its reset value. -/

namespace Sys2Proof.Machine

/-- A field of a register: `wid` bits from bit `lo` of the word at offset `off`
of its block. -/
structure Fld where
  off : Nat
  lo : Nat
  wid : Nat
  deriving DecidableEq, Repr

/-- Table 0.2: RO, reset 0xD5. -/
abbrev HTH_IDENT.DEVICE : Fld := ⟨0, 24, 8⟩
/-- Table 0.2: RO, reset mask. -/
abbrev HTH_IDENT.SIL_MAJOR : Fld := ⟨0, 20, 4⟩
/-- Table 0.2: RO, reset mask. -/
abbrev HTH_IDENT.SIL_MINOR : Fld := ⟨0, 16, 4⟩
/-- Table 0.2: RO, reset fuses. -/
abbrev HTH_IDENT.VARIANT : Fld := ⟨0, 12, 4⟩
/-- Table 0.2: RO, reset fuses. -/
abbrev HTH_IDENT.FUSE_ERR : Fld := ⟨0, 11, 1⟩
/-- Table 0.2: RO, reset 0b0. -/
abbrev HTH_IDENT.HEATH_ID : Fld := ⟨0, 10, 1⟩
/-- Table 0.2: RO, reset fuses. -/
abbrev HTH_IDENT.PACE_RUNG : Fld := ⟨0, 5, 5⟩
/-- Table 0.2: RO, reset fuses. -/
abbrev HTH_IDENT.TOP_RUNG : Fld := ⟨0, 0, 5⟩
/-- Table 2.15: RO, reset measured. -/
abbrev HTH_PINSTAT.RST_CAUSE : Fld := ⟨8, 8, 2⟩
/-- Table 2.15: RO, reset 0b0. -/
abbrev HTH_PINSTAT.THERMTRIP : Fld := ⟨8, 7, 1⟩
/-- Table 2.15: W1C, reset 0b0. -/
abbrev HTH_PINSTAT.MSYNC_LOST : Fld := ⟨8, 6, 1⟩
/-- Table 2.15: RO, reset measured. -/
abbrev HTH_PINSTAT.MSYNC_LVL : Fld := ⟨8, 5, 1⟩
/-- Table 2.15: RO, reset measured. -/
abbrev HTH_PINSTAT.VIB_PRES : Fld := ⟨8, 4, 1⟩
/-- Table 2.15: RO, reset measured. -/
abbrev HTH_PINSTAT.TEST_ON : Fld := ⟨8, 3, 1⟩
/-- Table 2.15: RO, reset measured. -/
abbrev HTH_PINSTAT.TEST_STRAP : Fld := ⟨8, 2, 1⟩
/-- Table 2.15: RO, reset measured. -/
abbrev HTH_PINSTAT.SMB_ADDR : Fld := ⟨8, 0, 2⟩
/-- Table 5.15: RO, reset 0x0000. -/
abbrev HTH_HLTHCTL.RET_CNT : Fld := ⟨0x20, 16, 14⟩
/-- Table 5.15: RO, reset 0b0. -/
abbrev HTH_HLTHCTL.STORE_PEND : Fld := ⟨0x20, 1, 1⟩
/-- Table 5.15: RWP, reset 0b0. -/
abbrev HTH_HLTHCTL.AUTO_STORE_RETIRE : Fld := ⟨0x20, 0, 1⟩
/-- Table 9.9: RO, reset 0b0. -/
abbrev HTH_BUSTAT.POWER_READY : Fld := ⟨0x40, 31, 1⟩
/-- Table 9.9: RO, reset 0b0. -/
abbrev HTH_BUSTAT.HALT : Fld := ⟨0x40, 30, 1⟩
/-- Table 9.9: RO, reset 0b0. -/
abbrev HTH_BUSTAT.VIB_WAIT : Fld := ⟨0x40, 29, 1⟩
/-- Table 9.9: W1C, reset 0b0. -/
abbrev HTH_BUSTAT.SEQ_ERR : Fld := ⟨0x40, 28, 1⟩
/-- Table 9.9: RO, reset 0x0. -/
abbrev HTH_BUSTAT.STEP : Fld := ⟨0x40, 24, 4⟩
/-- Table 9.9: RO, reset 0x00. -/
abbrev HTH_BUSTAT.KAT_FAIL : Fld := ⟨0x40, 17, 7⟩
/-- Table 9.9: W1C, reset 0b0. -/
abbrev HTH_BUSTAT.RST_REJ : Fld := ⟨0x40, 16, 1⟩
/-- Table 9.9: W1C, reset 0b0. -/
abbrev HTH_BUSTAT.LONE_RST : Fld := ⟨0x40, 15, 1⟩
/-- Table 9.9: RO, reset 0x0000. -/
abbrev HTH_BUSTAT.PT_RET : Fld := ⟨0x40, 0, 14⟩
/-- Table 9.10: WO, reset 0x00. -/
abbrev HTH_RSTCTL.KEY : Fld := ⟨0x44, 24, 8⟩
/-- Table 9.10: WO, reset 0b0. -/
abbrev HTH_RSTCTL.WAFER_RST : Fld := ⟨0x44, 23, 1⟩
/-- Table 9.10: WO, reset 0b0. -/
abbrev HTH_RSTCTL.HEATH_RST : Fld := ⟨0x44, 22, 1⟩
/-- Table 9.10: WO, reset 0b0. -/
abbrev HTH_RSTCTL.SWD_RST : Fld := ⟨0x44, 21, 1⟩
/-- Table 9.10: WO, reset 0x00. -/
abbrev HTH_RSTCTL.PART : Fld := ⟨0x44, 0, 6⟩
/-- Table 9.11: RO, reset 0b0. -/
abbrev HTH_HBSTAT.STBY_OK : Fld := ⟨0x48, 31, 1⟩
/-- Table 9.11: W1C, reset 0b0. -/
abbrev HTH_HBSTAT.HB_LOST : Fld := ⟨0x48, 30, 1⟩
/-- Table 9.11: RO, reset 0b0. -/
abbrev HTH_HBSTAT.MIRROR_SYNC : Fld := ⟨0x48, 29, 1⟩
/-- Table 9.11: RO, reset 0x00. -/
abbrev HTH_HBSTAT.GEN : Fld := ⟨0x48, 16, 8⟩
/-- Table 9.11: RO, reset 0x00. -/
abbrev HTH_HBSTAT.TAKEOVERS : Fld := ⟨0x48, 8, 8⟩
/-- Table 9.12: RO, reset 0x00000000. -/
abbrev HTH_LIVE_LO.LIVE : Fld := ⟨0x50, 0, 32⟩
/-- Table 9.12: RO, reset 0x00000000. -/
abbrev HTH_LIVE_HI.LIVE : Fld := ⟨0x54, 0, 32⟩
/-- Table 9.12: RO, reset 0x00000000. -/
abbrev HTH_UNREACH_LO.UNREACH : Fld := ⟨0x58, 0, 32⟩
/-- Table 9.12: RO, reset 0x00000000. -/
abbrev HTH_UNREACH_HI.UNREACH : Fld := ⟨0x5C, 0, 32⟩
/-- Table 9.13: RWP, reset 0b0. -/
abbrev HTH_SEQ.SKIP (i : Nat) : Fld := ⟨0x100 + 4 * i, 31, 1⟩
/-- Table 9.13: RWP, reset 0x01. -/
abbrev HTH_SEQ.GAP (i : Nat) : Fld := ⟨0x100 + 4 * i, 8, 8⟩
/-- Table 9.13: RWP, reset position. -/
abbrev HTH_SEQ.PART (i : Nat) : Fld := ⟨0x100 + 4 * i, 0, 6⟩
/-- Table 1.12: RO, reset 0x00000000. -/
abbrev HTH_WTIME_LO.WTIME_LO : Fld := ⟨0x60000, 0, 32⟩
/-- Table 1.12: RO, reset 0x00000000. -/
abbrev HTH_WTIME_HI.WTIME_HI : Fld := ⟨0x60004, 0, 32⟩
/-- Table 1.13: W1C, reset 0b0. -/
abbrev HTH_TBSTAT.MARK_MISS : Fld := ⟨0x60008, 3, 1⟩
/-- Table 1.13: W1C, reset 0b0. -/
abbrev HTH_TBSTAT.REF_LOST : Fld := ⟨0x60008, 2, 1⟩
/-- Table 1.13: RO, reset 0b0. -/
abbrev HTH_TBSTAT.ALIGNED : Fld := ⟨0x60008, 1, 1⟩
/-- Table 1.13: RO, reset 0b0. -/
abbrev HTH_TBSTAT.REF_OK : Fld := ⟨0x60008, 0, 1⟩
/-- Table 1.4: RO, reset 0x00. -/
abbrev HTH_MAPCTL.MAP_GEN : Fld := ⟨0x100000, 8, 8⟩
/-- Table 1.4: W1C, reset 0b0. -/
abbrev HTH_MAPCTL.OPEN_REJ : Fld := ⟨0x100000, 4, 1⟩
/-- Table 1.4: W1C, reset 0b0. -/
abbrev HTH_MAPCTL.MAP_WERR : Fld := ⟨0x100000, 3, 1⟩
/-- Table 1.4: W1C, reset 0b0. -/
abbrev HTH_MAPCTL.MAP_ERR : Fld := ⟨0x100000, 2, 1⟩
/-- Table 1.4: WO, reset 0b0. -/
abbrev HTH_MAPCTL.COMMIT : Fld := ⟨0x100000, 1, 1⟩
/-- Table 1.4: RW, reset 0b0. -/
abbrev HTH_MAPCTL.OPEN : Fld := ⟨0x100000, 0, 1⟩
/-- Table 1.16: RW, reset 0x000. -/
abbrev HTH_LSEL.LOG : Fld := ⟨0x100004, 0, 12⟩
/-- Table 1.5: RWP, reset 0b1. -/
abbrev HTH_LMAP.VALID (n : Nat) : Fld := ⟨0x101000 + 4 * n, 31, 1⟩
/-- Table 1.5: RWP, reset n. -/
abbrev HTH_LMAP.PHYS (n : Nat) : Fld := ⟨0x101000 + 4 * n, 0, 12⟩
/-- Table 8.5: RWP, reset fuses: 0x7530, 0x5DC0 or 0x4650. -/
abbrev HTH_CAPREQ.PMB_CAP : Fld := ⟨0x10000, 0, 16⟩
/-- Table 8.5: W1C, reset 0b0. -/
abbrev HTH_CAPEFF.CAP_CLAMP : Fld := ⟨0x10004, 23, 1⟩
/-- Table 8.5: RO, reset 0x0. -/
abbrev HTH_CAPEFF.LIMIT_BY : Fld := ⟨0x10004, 20, 3⟩
/-- Table 8.5: RO, reset fuses. -/
abbrev HTH_CAPEFF.CAP_EFF : Fld := ⟨0x10004, 0, 16⟩
/-- Table 8.6: RWP, reset 0x0A. -/
abbrev HTH_CAPCFG.DUR : Fld := ⟨0x10008, 24, 8⟩
/-- Table 8.6: RWP, reset 0x00. -/
abbrev HTH_CAPCFG.RSV : Fld := ⟨0x10008, 16, 8⟩
/-- Table 8.6: RWP, reset 0x32. -/
abbrev HTH_CAPCFG.FLOOR_PCT : Fld := ⟨0x10008, 0, 7⟩
/-- Table 8.7: RW, reset 0b0. -/
abbrev HTH_EFF.ETA_FRZ : Fld := ⟨0x1000C, 31, 1⟩
/-- Table 8.7: RWP, reset 0x049. -/
abbrev HTH_EFF.OVH : Fld := ⟨0x1000C, 16, 11⟩
/-- Table 8.7: RW, reset 0x22A6. -/
abbrev HTH_EFF.ETA : Fld := ⟨0x1000C, 0, 14⟩
/-- Table 8.8: RWP, reset 0x40. -/
abbrev HTH_FASTCFG.PARTIAL_N : Fld := ⟨0x10010, 24, 8⟩
/-- Table 8.8: RWP, reset 0x1. -/
abbrev HTH_FASTCFG.BRK_BLANK : Fld := ⟨0x10010, 20, 4⟩
/-- Table 8.8: RWP, reset 0x10. -/
abbrev HTH_FASTCFG.REL_N : Fld := ⟨0x10010, 8, 8⟩
/-- Table 8.8: RWP, reset 0x0A. -/
abbrev HTH_FASTCFG.REL : Fld := ⟨0x10010, 0, 8⟩
/-- Table 8.9: RO, reset 0b0. -/
abbrev HTH_FASTSTAT.BRAKE_ACT : Fld := ⟨0x10014, 4, 1⟩
/-- Table 8.9: W1C, reset 0b0. -/
abbrev HTH_FASTSTAT.MTR_OVER : Fld := ⟨0x10014, 3, 1⟩
/-- Table 8.9: W1C, reset 0b0. -/
abbrev HTH_FASTSTAT.LATE : Fld := ⟨0x10014, 2, 1⟩
/-- Table 8.9: W1C, reset 0b0. -/
abbrev HTH_FASTSTAT.PARTIAL_LONG : Fld := ⟨0x10014, 1, 1⟩
/-- Table 8.9: W1C, reset 0b0. -/
abbrev HTH_FASTSTAT.PARTIAL_SUM : Fld := ⟨0x10014, 0, 1⟩
/-- Table 8.10: RO, reset 0x00000000. -/
abbrev HTH_WSUM.SUM : Fld := ⟨0x10018, 0, 32⟩
/-- Table 8.10: RO, reset 0x00000000. -/
abbrev HTH_WEST.EST : Fld := ⟨0x1001C, 0, 32⟩
/-- Table 8.10: RO, reset 0x00000000. -/
abbrev HTH_EPOCH.EPOCH : Fld := ⟨0x10020, 0, 32⟩
/-- Table 8.10: RO, reset 0x0000. -/
abbrev HTH_FASTCNT.BRAKES : Fld := ⟨0x10024, 16, 16⟩
/-- Table 8.10: RO, reset 0x0000. -/
abbrev HTH_FASTCNT.PARTIALS : Fld := ⟨0x10024, 0, 16⟩
/-- Table 8.11: RWP, reset 20 + 5k. -/
abbrev HTH_DERATE.TEMP (k : Nat) : Fld := ⟨0x10040 + 4 * k, 16, 8⟩
/-- Table 8.11: RWP, reset 0xFFFF. -/
abbrev HTH_DERATE.CAP (k : Nat) : Fld := ⟨0x10040 + 4 * k, 0, 16⟩
/-- Table 8.12: W1C, reset 0b0. -/
abbrev HTH_DERSTAT.TBL_ERR : Fld := ⟨0x10060, 17, 1⟩
/-- Table 8.12: RO, reset 0b1. -/
abbrev HTH_DERSTAT.DER_FAIL : Fld := ⟨0x10060, 16, 1⟩
/-- Table 8.12: RO, reset 0xFFFF. -/
abbrev HTH_DERSTAT.DER_CAP : Fld := ⟨0x10060, 0, 16⟩
/-- Table 8.12: RO, reset 0x00000000. -/
abbrev HTH_INLET.INLET : Fld := ⟨0x10064, 0, 32⟩
/-- Table 8.12: RWP, reset 0x09. -/
abbrev HTH_LNKBUD.FULL : Fld := ⟨0x10070, 16, 8⟩
/-- Table 8.12: RWP, reset 0x05. -/
abbrev HTH_LNKBUD.HALF : Fld := ⟨0x10070, 8, 8⟩
/-- Table 8.12: RWP, reset 0x03. -/
abbrev HTH_LNKBUD.QUARTER : Fld := ⟨0x10070, 0, 8⟩
/-- Table 8.13: RO, reset 0x00000000. -/
abbrev HTH_PLEASE.LEASE (p : Nat) : Fld := ⟨0x10100 + 4 * p, 0, 32⟩
/-- Table 8.14: RWP, reset 0b0. -/
abbrev HTH_CMNCFG.EN : Fld := ⟨0x10800, 31, 1⟩
/-- Table 8.14: RWP, reset 0x01. -/
abbrev HTH_CMNCFG.N : Fld := ⟨0x10800, 24, 7⟩
/-- Table 8.14: RWP, reset 0x00. -/
abbrev HTH_CMNCFG.ID : Fld := ⟨0x10800, 16, 6⟩
/-- Table 8.14: RWP, reset 0x0000. -/
abbrev HTH_CMNCFG.GROUP : Fld := ⟨0x10800, 0, 16⟩
/-- Table 8.14: RWP, reset fuses. -/
abbrev HTH_CMNCAP.GROUP_CAP : Fld := ⟨0x10804, 0, 32⟩
/-- Table 8.14: RWP, reset 0x50. -/
abbrev HTH_CMNGAIN.FLOOR_PCT : Fld := ⟨0x10808, 24, 8⟩
/-- Table 8.14: RWP, reset 0x5F. -/
abbrev HTH_CMNGAIN.USE_PCT : Fld := ⟨0x10808, 16, 8⟩
/-- Table 8.14: RWP, reset 0x0014. -/
abbrev HTH_CMNGAIN.K : Fld := ⟨0x10808, 0, 16⟩
/-- Table 8.14: RO, reset 0b0. -/
abbrev HTH_CMNSTAT.COORD : Fld := ⟨0x1080C, 31, 1⟩
/-- Table 8.14: RO, reset 0b0. -/
abbrev HTH_CMNSTAT.FALLBACK : Fld := ⟨0x1080C, 30, 1⟩
/-- Table 8.14: W1C, reset 0b0. -/
abbrev HTH_CMNSTAT.CFG_MISM : Fld := ⟨0x1080C, 29, 1⟩
/-- Table 8.14: W1C, reset 0b0. -/
abbrev HTH_CMNSTAT.GRANT_LOST : Fld := ⟨0x1080C, 28, 1⟩
/-- Table 8.14: RO, reset 0b0. -/
abbrev HTH_CMNSTAT.ID_ERR : Fld := ⟨0x1080C, 27, 1⟩
/-- Table 8.14: RO, reset 0b0. -/
abbrev HTH_CMNSTAT.DUP_ID : Fld := ⟨0x1080C, 26, 1⟩
/-- Table 8.14: RO, reset 0x00. -/
abbrev HTH_CMNSTAT.COORD_ID : Fld := ⟨0x1080C, 16, 6⟩
/-- Table 8.14: RO, reset 0x00. -/
abbrev HTH_CMNSTAT.LIVE : Fld := ⟨0x1080C, 0, 7⟩
/-- Table 8.14: RO, reset 0x00000000. -/
abbrev HTH_CMNGRANT.GRANT : Fld := ⟨0x10810, 0, 32⟩
/-- Table 8.14: WO, reset 0x0000. -/
abbrev HTH_CMNBAR.WAIT : Fld := ⟨0x10814, 0, 16⟩
/-- Table 8.14: RO, reset 0x0000. -/
abbrev HTH_CMNCNT.BAD_FRM : Fld := ⟨0x10818, 16, 16⟩
/-- Table 8.14: RO, reset 0x0000. -/
abbrev HTH_CMNCNT.FOREIGN : Fld := ⟨0x10818, 0, 16⟩
/-- Table 7.16: RWP, reset 0b0. -/
abbrev HTH_PACECTL.MODE : Fld := ⟨0x10F00, 31, 1⟩
/-- Table 7.16: RWP, reset 0x2. -/
abbrev HTH_PACECTL.PACE_EXTRA : Fld := ⟨0x10F00, 0, 4⟩
/-- Table 7.16: RO, reset 0b0. -/
abbrev HTH_PACESTAT.ON : Fld := ⟨0x10F04, 31, 1⟩
/-- Table 7.16: W1C, reset 0b0. -/
abbrev HTH_PACESTAT.BREAK : Fld := ⟨0x10F04, 30, 1⟩
/-- Table 7.16: RO, reset 0x0000. -/
abbrev HTH_PACESTAT.BREAK_CNT : Fld := ⟨0x10F04, 0, 16⟩
/-- Table 12.7: W1C, reset 0b0. -/
abbrev HTH_FSTAT.WTRIP : Fld := ⟨0x20000, 31, 1⟩
/-- Table 12.7: W1C, reset 0b0. -/
abbrev HTH_FSTAT.PTRIP : Fld := ⟨0x20000, 30, 1⟩
/-- Table 12.7: W1C, reset 0b0. -/
abbrev HTH_FSTAT.SEV_CLAMP : Fld := ⟨0x20000, 29, 1⟩
/-- Table 12.7: RO, reset measured. -/
abbrev HTH_FSTAT.INJ_AVAIL : Fld := ⟨0x20000, 28, 1⟩
/-- Table 12.7: RO, reset 0x00. -/
abbrev HTH_FSTAT.FIFO_HWM : Fld := ⟨0x20000, 16, 5⟩
/-- Table 12.7: WO, reset 0b0. -/
abbrev HTH_FACK.ACK : Fld := ⟨0x20004, 31, 1⟩
/-- Table 12.7: WO, reset 0b0. -/
abbrev HTH_FACK.ALL : Fld := ⟨0x20004, 30, 1⟩
/-- Table 12.7: WO, reset 0x00. -/
abbrev HTH_FACK.SRC : Fld := ⟨0x20004, 0, 6⟩
/-- Table 12.8: RO, reset 0x00000000. -/
abbrev HTH_FPEND_LO.PEND : Fld := ⟨0x20008, 0, 32⟩
/-- Table 12.8: RO, reset 0x00000000. -/
abbrev HTH_FPEND_HI.PEND : Fld := ⟨0x2000C, 0, 32⟩
/-- Table 12.8: RO, reset 0x00000000. -/
abbrev HTH_FGRACE_LO.GRACE : Fld := ⟨0x20010, 0, 32⟩
/-- Table 12.8: RO, reset 0x00000000. -/
abbrev HTH_FGRACE_HI.GRACE : Fld := ⟨0x20014, 0, 32⟩
/-- Table 12.8: W1C, reset 0x00000000. -/
abbrev HTH_FESC_LO.ESC : Fld := ⟨0x20018, 0, 32⟩
/-- Table 12.8: W1C, reset 0x00000000. -/
abbrev HTH_FESC_HI.ESC : Fld := ⟨0x2001C, 0, 32⟩
/-- Table 12.8: RO, reset 0x00000000. -/
abbrev HTH_FCONT_LO.CONT : Fld := ⟨0x20020, 0, 32⟩
/-- Table 12.8: RO, reset 0x00000000. -/
abbrev HTH_FCONT_HI.CONT : Fld := ⟨0x20024, 0, 32⟩
/-- Table 12.9: W1C, reset 0b0. -/
abbrev HTH_FEC_INFO.VALID : Fld := ⟨0x20030, 31, 1⟩
/-- Table 12.9: RO, reset 0x00. -/
abbrev HTH_FEC_INFO.SRC : Fld := ⟨0x20030, 22, 6⟩
/-- Table 12.9: RO, reset 0x0. -/
abbrev HTH_FEC_INFO.MASTER : Fld := ⟨0x20030, 19, 3⟩
/-- Table 12.9: RO, reset 0x0. -/
abbrev HTH_FEC_INFO.TYPE : Fld := ⟨0x20030, 17, 2⟩
/-- Table 12.9: RO, reset 0x0. -/
abbrev HTH_FEC_INFO.ERR : Fld := ⟨0x20030, 14, 3⟩
/-- Table 12.9: RO, reset 0x00. -/
abbrev HTH_FEC_INFO.MORE : Fld := ⟨0x20030, 0, 8⟩
/-- Table 12.9: RO, reset 0x00000000. -/
abbrev HTH_FEC_UNIT.UNIT : Fld := ⟨0x20034, 0, 32⟩
/-- Table 12.9: RO, reset 0x00000000. -/
abbrev HTH_FEC_ADDR.ADDR : Fld := ⟨0x20038, 0, 30⟩
/-- Table 12.9: RO, reset 0x00000000. -/
abbrev HTH_FEC_TLO.TIME_LO : Fld := ⟨0x2003C, 0, 32⟩
/-- Table 12.9: RO, reset 0x00000000. -/
abbrev HTH_FEC_THI.TIME_HI : Fld := ⟨0x20040, 0, 32⟩
/-- Table 12.10: RO, reset 0x00000000. -/
abbrev HTH_FRING_WP.WP : Fld := ⟨0x20048, 0, 32⟩
/-- Table 12.10: RW, reset 0x00000000. -/
abbrev HTH_FRING_RP.RP : Fld := ⟨0x2004C, 0, 32⟩
/-- Table 12.10: RO, reset 0b0. -/
abbrev HTH_FRING_STAT.NEWEST : Fld := ⟨0x20050, 31, 1⟩
/-- Table 12.10: RO, reset 0b0. -/
abbrev HTH_FRING_STAT.FULL : Fld := ⟨0x20050, 30, 1⟩
/-- Table 12.10: RO, reset 0x0000. -/
abbrev HTH_FRING_STAT.DROP : Fld := ⟨0x20050, 0, 16⟩
/-- Table 12.10: RO, reset 0x3F. -/
abbrev HTH_FBUF.FREE : Fld := ⟨0x20058, 24, 6⟩
/-- Table 12.10: RO, reset 0b0. -/
abbrev HTH_FBUF.ALM_BUSY : Fld := ⟨0x20058, 23, 1⟩
/-- Table 12.10: RO, reset 0x000. -/
abbrev HTH_FBUFCNT.RETRY_CMN : Fld := ⟨0x2005C, 20, 10⟩
/-- Table 12.10: RO, reset 0x000. -/
abbrev HTH_FBUFCNT.RETRY_SW : Fld := ⟨0x2005C, 10, 10⟩
/-- Table 12.10: RO, reset 0x000. -/
abbrev HTH_FBUFCNT.RETRY_SMB : Fld := ⟨0x2005C, 0, 10⟩
/-- Table 12.10: RWP, reset 0b0. -/
abbrev HTH_FTRC.EN : Fld := ⟨0x20060, 31, 1⟩
/-- Table 12.10: RWP, reset 0x00. -/
abbrev HTH_FTRC.RING_LOG2 : Fld := ⟨0x20060, 20, 5⟩
/-- Table 12.10: RO, reset 0x0000. -/
abbrev HTH_FTRC.DROP : Fld := ⟨0x20060, 0, 16⟩
/-- Table 12.10: RWP, reset 0x00000000. -/
abbrev HTH_FTRC_BASE_LO.ADDR : Fld := ⟨0x20064, 0, 32⟩
/-- Table 12.10: RWP, reset 0x00000000. -/
abbrev HTH_FTRC_BASE_HI.ADDR : Fld := ⟨0x20068, 0, 32⟩
/-- Table 12.11: WO, reset 0x00. -/
abbrev HTH_LFCTL.KEY : Fld := ⟨0x20070, 24, 8⟩
/-- Table 12.11: WO, reset 0b0. -/
abbrev HTH_LFCTL.CLR : Fld := ⟨0x20070, 23, 1⟩
/-- Table 12.11: RO, reset 0b0. -/
abbrev HTH_LFCTL.WR_BUSY : Fld := ⟨0x20070, 22, 1⟩
/-- Table 12.11: RO, reset 0b0. -/
abbrev HTH_LFCTL.WR_PEND : Fld := ⟨0x20070, 21, 1⟩
/-- Table 12.11: RO, reset NVM. -/
abbrev HTH_LFCTL.NEXT : Fld := ⟨0x20070, 16, 4⟩
/-- Table 12.11: RO, reset NVM. -/
abbrev HTH_LFCTL.TOTAL : Fld := ⟨0x20070, 0, 16⟩
/-- Table 12.11: WO, reset 0b0. -/
abbrev HTH_FINJ_CTL.GO : Fld := ⟨0x20080, 31, 1⟩
/-- Table 12.11: WO, reset 0b0. -/
abbrev HTH_FINJ_CTL.ORIGIN : Fld := ⟨0x20080, 30, 1⟩
/-- Table 12.11: WO, reset 0x00. -/
abbrev HTH_FINJ_CTL.PART : Fld := ⟨0x20080, 8, 6⟩
/-- Table 12.11: WO, reset 0x00. -/
abbrev HTH_FINJ_CTL.SRC : Fld := ⟨0x20080, 0, 6⟩
/-- Table 12.11: RW; zero in the field, reset 0x00000000. -/
abbrev HTH_FINJ_UNIT.UNIT : Fld := ⟨0x20084, 0, 32⟩
/-- Table 12.11: RW; zero in the field, reset 0x00000000. -/
abbrev HTH_FINJ_DA.DATA_A : Fld := ⟨0x20088, 0, 32⟩
/-- Table 12.11: RW; zero in the field, reset 0x00000000. -/
abbrev HTH_FINJ_DB.DATA_B : Fld := ⟨0x2008C, 0, 32⟩
/-- Table 12.12: RWP, reset 0b1. -/
abbrev HTH_FSEV.IRQ_EN (c : Nat) : Fld := ⟨0x20100 + 4 * c, 31, 1⟩
/-- Table 12.12: RWP, reset 0b1. -/
abbrev HTH_FSEV.ALERT_EN (c : Nat) : Fld := ⟨0x20100 + 4 * c, 30, 1⟩
/-- Table 12.12: RO, reset Table 12.1. -/
abbrev HTH_FSEV.MIN (c : Nat) : Fld := ⟨0x20100 + 4 * c, 24, 3⟩
/-- Table 12.12: RWP, reset 0xC. -/
abbrev HTH_FSEV.GRACE (c : Nat) : Fld := ⟨0x20100 + 4 * c, 16, 4⟩
/-- Table 12.12: RWP, reset Table 12.1. -/
abbrev HTH_FSEV.ESC (c : Nat) : Fld := ⟨0x20100 + 4 * c, 8, 3⟩
/-- Table 12.12: RWP, reset Table 12.1. -/
abbrev HTH_FSEV.SEV (c : Nat) : Fld := ⟨0x20100 + 4 * c, 0, 3⟩
/-- Table 12.12: RO, reset 0x00000000. -/
abbrev HTH_FCNT.COUNT (c : Nat) : Fld := ⟨0x20200 + 4 * c, 0, 32⟩
/-- Table 12.12: RO, reset 0x0000. -/
abbrev HTH_FSUB.SUBSEQ (c : Nat) : Fld := ⟨0x20300 + 4 * c, 0, 16⟩
/-- Table 12.5: word `w` of last-fault record `i`. -/
abbrev HTH_LFREC.WORD (i w : Nat) : Fld := ⟨0x21000 + 0x40 * i + 4 * w, 0, 32⟩
/-- Table 12.4: RO, reset 0x00. -/
abbrev HTH_FREC.SRC (j : Nat) : Fld := ⟨0x800000 + 0x20 * j, 26, 6⟩
/-- Table 12.4: RO, reset 0x0. -/
abbrev HTH_FREC.ACT (j : Nat) : Fld := ⟨0x800000 + 0x20 * j, 23, 3⟩
/-- Table 12.4: RO, reset 0b0. -/
abbrev HTH_FREC.ESCALATED (j : Nat) : Fld := ⟨0x800000 + 0x20 * j, 22, 1⟩
/-- Table 12.4: RO, reset 0b0. -/
abbrev HTH_FREC.INJECTED (j : Nat) : Fld := ⟨0x800000 + 0x20 * j, 21, 1⟩
/-- Table 12.4: RO, reset 0x0000. -/
abbrev HTH_FREC.SUBSEQ (j : Nat) : Fld := ⟨0x800000 + 0x20 * j, 0, 16⟩
/-- Table 12.4: RO, reset 0x00000000. -/
abbrev HTH_FREC.UNIT (j : Nat) : Fld := ⟨0x800000 + 0x20 * j + 4, 0, 32⟩
/-- Table 12.4: RO, reset 0x00000000. -/
abbrev HTH_FREC.DATA_A (j : Nat) : Fld := ⟨0x800000 + 0x20 * j + 8, 0, 32⟩
/-- Table 12.4: RO, reset 0x00000000. -/
abbrev HTH_FREC.DATA_B (j : Nat) : Fld := ⟨0x800000 + 0x20 * j + 12, 0, 32⟩
/-- Table 12.4: RO, reset 0x00000000. -/
abbrev HTH_FREC.TIME_LO (j : Nat) : Fld := ⟨0x800000 + 0x20 * j + 16, 0, 32⟩
/-- Table 12.4: RO, reset 0x00000000. -/
abbrev HTH_FREC.TIME_HI (j : Nat) : Fld := ⟨0x800000 + 0x20 * j + 20, 0, 32⟩
/-- Table 12.4: RO, reset 0x00000000. -/
abbrev HTH_FREC.RSEQ (j : Nat) : Fld := ⟨0x800000 + 0x20 * j + 24, 0, 32⟩
/-- Table 12.4: RO, reset 0x00000000. -/
abbrev HTH_FREC.CRC (j : Nat) : Fld := ⟨0x800000 + 0x20 * j + 28, 0, 32⟩
/-- Table 10.5: RWP, reset 0b1. -/
abbrev MTR_CFG.RUN : Fld := ⟨0x30000, 31, 1⟩
/-- Table 10.5: WO, reset 0b0. -/
abbrev MTR_CFG.RESTART : Fld := ⟨0x30000, 30, 1⟩
/-- Table 10.5: RWP, reset 0b0. -/
abbrev MTR_CFG.EDGE : Fld := ⟨0x30000, 29, 1⟩
/-- Table 10.5: RWP, reset 0x32. -/
abbrev MTR_CFG.OW_DELTA : Fld := ⟨0x30000, 16, 8⟩
/-- Table 10.5: RWP, reset 0x14. -/
abbrev MTR_CFG.FREE_PERIOD : Fld := ⟨0x30000, 0, 8⟩
/-- Table 10.6: RO, reset 0x0. -/
abbrev MTR_STAT.SEQ_EMPTY : Fld := ⟨0x30004, 28, 4⟩
/-- Table 10.6: RO, reset 0x0. -/
abbrev MTR_STAT.URG_PEND : Fld := ⟨0x30004, 24, 4⟩
/-- Table 10.6: RO, reset 0b0. -/
abbrev MTR_STAT.FREE : Fld := ⟨0x30004, 23, 1⟩
/-- Table 10.6: RO, reset 0b0. -/
abbrev MTR_STAT.CAL_BUSY : Fld := ⟨0x30004, 22, 1⟩
/-- Table 10.6: RO, reset 0x00. -/
abbrev MTR_STAT.EDGE_IGN : Fld := ⟨0x30004, 8, 8⟩
/-- Table 10.6: W1C, reset 0b0. -/
abbrev MTR_STAT.FREQ_OOR : Fld := ⟨0x30004, 7, 1⟩
/-- Table 10.6: W1C, reset 0b0. -/
abbrev MTR_STAT.REF_ERR : Fld := ⟨0x30004, 6, 1⟩
/-- Table 10.6: W1C, reset 0b0. -/
abbrev MTR_STAT.STBY_ERR : Fld := ⟨0x30004, 5, 1⟩
/-- Table 10.6: W1C, reset 0b0. -/
abbrev MTR_STAT.NOCAL : Fld := ⟨0x30004, 4, 1⟩
/-- Table 10.6: W1C, reset 0b0. -/
abbrev MTR_STAT.ROUND_TO : Fld := ⟨0x30004, 3, 1⟩
/-- Table 10.6: W1C, reset 0b0. -/
abbrev MTR_STAT.OW_ANY : Fld := ⟨0x30004, 2, 1⟩
/-- Table 10.6: W1C, reset 0b0. -/
abbrev MTR_STAT.CFG_ERR : Fld := ⟨0x30004, 1, 1⟩
/-- Table 10.6: W1C, reset 0b0. -/
abbrev MTR_STAT.WIN_ANY : Fld := ⟨0x30004, 0, 1⟩
/-- Table 10.7: RO, reset 0x00000000. -/
abbrev MTR_PERIOD.PERIOD : Fld := ⟨0x30008, 0, 32⟩
/-- Table 10.7: WO, reset 0b0. -/
abbrev MTR_URG.GO : Fld := ⟨0x3000C, 31, 1⟩
/-- Table 10.7: W1C, reset 0b0. -/
abbrev MTR_URG.URG_REJ : Fld := ⟨0x3000C, 30, 1⟩
/-- Table 10.7: WO, reset 0x0. -/
abbrev MTR_URG.CONV : Fld := ⟨0x3000C, 8, 2⟩
/-- Table 10.7: WO, reset 0x00. -/
abbrev MTR_URG.CH : Fld := ⟨0x3000C, 0, 6⟩
/-- Table 10.7: WO, reset 0b0. -/
abbrev MTR_CALCMD.ZERO : Fld := ⟨0x30010, 31, 1⟩
/-- Table 10.7: WO, reset 0b0. -/
abbrev MTR_CALCMD.FS : Fld := ⟨0x30010, 30, 1⟩
/-- Table 10.7: W1C, reset 0b0. -/
abbrev MTR_CALCMD.CAL_DONE : Fld := ⟨0x30010, 28, 1⟩
/-- Table 10.7: W1C, reset 0b0. -/
abbrev MTR_CALCMD.CAL_ERR : Fld := ⟨0x30010, 27, 1⟩
/-- Table 10.7: W1C, reset 0b0. -/
abbrev MTR_CALCMD.CAL_REJ : Fld := ⟨0x30010, 26, 1⟩
/-- Table 10.7: RW, reset 0x0. -/
abbrev MTR_CALCMD.CONV : Fld := ⟨0x30010, 8, 2⟩
/-- Table 10.7: RW, reset 0x00. -/
abbrev MTR_CALCMD.CH : Fld := ⟨0x30010, 0, 6⟩
/-- Table 10.7: RW, reset 0x00000000. -/
abbrev MTR_CALREF.REF : Fld := ⟨0x30014, 0, 32⟩
/-- Table 10.8: RO, reset 0x00000000. -/
abbrev MTR_PIN.PIN : Fld := ⟨0x30018, 0, 32⟩
/-- Table 10.8: RO, reset 0x0000. -/
abbrev MTR_RNDSTAT.RND_CNT : Fld := ⟨0x3001C, 16, 16⟩
/-- Table 10.8: RO, reset 0b0. -/
abbrev MTR_RNDSTAT.FREE : Fld := ⟨0x3001C, 8, 1⟩
/-- Table 10.8: RO, reset 0x00. -/
abbrev MTR_RNDSTAT.CYCLES : Fld := ⟨0x3001C, 0, 8⟩
/-- Table 10.8: RO, reset 0x00000000. -/
abbrev MTR_ENERGY_LO.ENERGY_LO : Fld := ⟨0x30020, 0, 32⟩
/-- Table 10.8: RO, reset 0x00000000. -/
abbrev MTR_ENERGY_HI.ENERGY_HI : Fld := ⟨0x30024, 0, 32⟩
/-- Table 10.8: W1C, reset 0x00000000. -/
abbrev MTR_OW0.OW : Fld := ⟨0x30028, 0, 32⟩
/-- Table 10.8: W1C, reset 0x00. -/
abbrev MTR_OW1.OW : Fld := ⟨0x3002C, 0, 8⟩
/-- Table 10.8: RWP, reset 0xFFFF. -/
abbrev MTR_FEEDCFG.FEN : Fld := ⟨0x30030, 0, 16⟩
/-- Table 10.9: RO, reset 0b0. -/
abbrev MTR_DATA.VALID (c : Nat) : Fld := ⟨0x30040 + 8 * c, 31, 1⟩
/-- Table 10.9: RO, reset 0b0. -/
abbrev MTR_DATA.OVR (c : Nat) : Fld := ⟨0x30040 + 8 * c, 30, 1⟩
/-- Table 10.9: RO, reset 0x00. -/
abbrev MTR_DATA.CH (c : Nat) : Fld := ⟨0x30040 + 8 * c, 24, 6⟩
/-- Table 10.9: RO, reset 0x000000. -/
abbrev MTR_DATA.CODE (c : Nat) : Fld := ⟨0x30040 + 8 * c, 0, 24⟩
/-- Table 10.9: RO, reset 0b0. -/
abbrev MTR_DSTAT.URG (c : Nat) : Fld := ⟨0x30044 + 8 * c, 31, 1⟩
/-- Table 10.9: RO, reset 0b0. -/
abbrev MTR_DSTAT.FREE (c : Nat) : Fld := ⟨0x30044 + 8 * c, 30, 1⟩
/-- Table 10.9: RO, reset 0b0. -/
abbrev MTR_DSTAT.PULLED (c : Nat) : Fld := ⟨0x30044 + 8 * c, 29, 1⟩
/-- Table 10.9: RO, reset 0b0. -/
abbrev MTR_DSTAT.OVRNG (c : Nat) : Fld := ⟨0x30044 + 8 * c, 28, 1⟩
/-- Table 10.9: RO, reset 0x00. -/
abbrev MTR_DSTAT.ENTRY (c : Nat) : Fld := ⟨0x30044 + 8 * c, 8, 5⟩
/-- Table 10.9: RO, reset 0x00. -/
abbrev MTR_DSTAT.REP (c : Nat) : Fld := ⟨0x30044 + 8 * c, 0, 8⟩
/-- Table 10.8: RO, reset 0x00000000. -/
abbrev MTR_FPWR.PWR (n : Nat) : Fld := ⟨0x30080 + 4 * n, 0, 32⟩
/-- Table 10.10: RO, reset 0x00000000. -/
abbrev MTR_VAL.VAL (ch : Nat) : Fld := ⟨0x30100 + 4 * ch, 0, 32⟩
/-- Table 10.10: RWP; RO for 40 to 43, reset 0x001312D0; factory for 40 to 43. -/
abbrev MTR_CALG.GAIN (ch : Nat) : Fld := ⟨0x30200 + 4 * ch, 0, 32⟩
/-- Table 10.10: RWP; RO for 40 to 43, reset 0b0; 0b1 for 40 to 43. -/
abbrev MTR_CALZ.VALID (ch : Nat) : Fld := ⟨0x30300 + 4 * ch, 31, 1⟩
/-- Table 10.10: RWP; RO for 40 to 43, reset 0x000000; factory for 40 to 43. -/
abbrev MTR_CALZ.CODE_Z (ch : Nat) : Fld := ⟨0x30300 + 4 * ch, 0, 24⟩
/-- Table 10.10: RWP; RO for 40 to 43, reset 0x00000000; factory for 40 to 43. -/
abbrev MTR_CALRZ.REF_Z (ch : Nat) : Fld := ⟨0x30400 + 4 * ch, 0, 32⟩
/-- Table 10.2: RWP, reset 0b0. -/
abbrev MTR_SEQ.WIN (c e : Nat) : Fld := ⟨0x31000 + 0x80 * c + 4 * e, 25, 1⟩
/-- Table 10.2: RWP, reset 0b0. -/
abbrev MTR_SEQ.OW (c e : Nat) : Fld := ⟨0x31000 + 0x80 * c + 4 * e, 24, 1⟩
/-- Table 10.2: RWP, reset 0x00. -/
abbrev MTR_SEQ.DELAY (c e : Nat) : Fld := ⟨0x31000 + 0x80 * c + 4 * e, 16, 8⟩
/-- Table 10.2: RWP, reset Table 10.3. -/
abbrev MTR_SEQ.REPEAT (c e : Nat) : Fld := ⟨0x31000 + 0x80 * c + 4 * e, 8, 8⟩
/-- Table 10.2: RWP, reset Table 10.3. -/
abbrev MTR_SEQ.CH (c e : Nat) : Fld := ⟨0x31000 + 0x80 * c + 4 * e, 0, 6⟩
/-- Table 10.10: RWP, reset 0x80000000. -/
abbrev MTR_WLO.LO (c e : Nat) : Fld := ⟨0x32000 + 0x100 * c + 8 * e, 0, 32⟩
/-- Table 10.10: RWP, reset 0x7FFFFFFF. -/
abbrev MTR_WHI.HI (c e : Nat) : Fld := ⟨0x32004 + 0x100 * c + 8 * e, 0, 32⟩
/-- Table 10.10: W1C, reset 0x00000000. -/
abbrev MTR_WSTAT.LEFT (c : Nat) : Fld := ⟨0x33000 + 4 * c, 0, 32⟩
/-- Table 13.11: WO, reset 0x00. -/
abbrev HTH_NVMCMD.KEY : Fld := ⟨0x40000, 24, 8⟩
/-- Table 13.11: WO, reset 0b0. -/
abbrev HTH_NVMCMD.STORE : Fld := ⟨0x40000, 23, 1⟩
/-- Table 13.11: WO, reset 0x00. -/
abbrev HTH_NVMCMD.REGIONS : Fld := ⟨0x40000, 0, 6⟩
/-- Table 13.11: RO, reset 0b0. -/
abbrev HTH_NVMSTAT.BUSY0 : Fld := ⟨0x40004, 31, 1⟩
/-- Table 13.11: RO, reset 0b0. -/
abbrev HTH_NVMSTAT.BUSY1 : Fld := ⟨0x40004, 30, 1⟩
/-- Table 13.11: RO, reset 0x00. -/
abbrev HTH_NVMSTAT.PEND : Fld := ⟨0x40004, 24, 6⟩
/-- Table 13.11: W1C, reset 0b0. -/
abbrev HTH_NVMSTAT.WR_ERR : Fld := ⟨0x40004, 23, 1⟩
/-- Table 13.11: W1C, reset 0b0. -/
abbrev HTH_NVMSTAT.REJ : Fld := ⟨0x40004, 22, 1⟩
/-- Table 13.11: W1C, reset 0b0. -/
abbrev HTH_NVMSTAT.STBY_LAG : Fld := ⟨0x40004, 21, 1⟩
/-- Table 13.11: RO, reset 0b0. -/
abbrev HTH_NVMSTAT.DEFER : Fld := ⟨0x40004, 20, 1⟩
/-- Table 13.11: W1C, reset measured. -/
abbrev HTH_NVMSTAT.BAD : Fld := ⟨0x40004, 8, 6⟩
/-- Table 13.11: RO, reset measured. -/
abbrev HTH_NVMSTAT.SPLIT : Fld := ⟨0x40004, 0, 6⟩
/-- Table 13.12: RO, reset measured. -/
abbrev HTH_NVMREG.VALID (r : Nat) : Fld := ⟨0x40010 + 8 * r, 31, 1⟩
/-- Table 13.12: RO, reset measured. -/
abbrev HTH_NVMREG.SLOT (r : Nat) : Fld := ⟨0x40010 + 8 * r, 30, 1⟩
/-- Table 13.12: RO, reset measured. -/
abbrev HTH_NVMREG.OTHER (r : Nat) : Fld := ⟨0x40010 + 8 * r, 29, 1⟩
/-- Table 13.12: RO, reset 0b0. -/
abbrev HTH_NVMREG.STBY_OK (r : Nat) : Fld := ⟨0x40010 + 8 * r, 28, 1⟩
/-- Table 13.12: RO, reset 0x0000. -/
abbrev HTH_NVMREG.STORES (r : Nat) : Fld := ⟨0x40010 + 8 * r, 0, 16⟩
/-- Table 13.12: RO, reset measured. -/
abbrev HTH_NVMSEQ.SEQ (r : Nat) : Fld := ⟨0x40014 + 8 * r, 0, 32⟩
/-- Table 13.13: RO, reset 0b0. -/
abbrev HTH_IMGSTAT.LOADED : Fld := ⟨0x40040, 31, 1⟩
/-- Table 13.13: RO, reset 0b0. -/
abbrev HTH_IMGSTAT.COPY : Fld := ⟨0x40040, 30, 1⟩
/-- Table 13.13: RO, reset 0b0. -/
abbrev HTH_IMGSTAT.NONE : Fld := ⟨0x40040, 29, 1⟩
/-- Table 13.13: RO, reset 0b0. -/
abbrev HTH_IMGSTAT.A_BAD : Fld := ⟨0x40040, 28, 1⟩
/-- Table 13.13: RO, reset 0b0. -/
abbrev HTH_IMGSTAT.B_BAD : Fld := ⟨0x40040, 27, 1⟩
/-- Table 13.13: W1C, reset 0b0. -/
abbrev HTH_IMGSTAT.DIG_ERR : Fld := ⟨0x40040, 26, 1⟩
/-- Table 13.13: W1C, reset 0b0. -/
abbrev HTH_IMGSTAT.VAR_ERR : Fld := ⟨0x40040, 25, 1⟩
/-- Table 13.13: W1C, reset 0b0. -/
abbrev HTH_IMGSTAT.FMT_ERR : Fld := ⟨0x40040, 24, 1⟩
/-- Table 13.13: RO, reset 0x0000. -/
abbrev HTH_IMGSTAT.SKIPPED : Fld := ⟨0x40040, 0, 16⟩
/-- Table 13.13: RO, reset measured. -/
abbrev HTH_IMGSEQ_A.SEQ : Fld := ⟨0x40044, 0, 32⟩
/-- Table 13.13: RO, reset measured. -/
abbrev HTH_IMGSEQ_B.SEQ : Fld := ⟨0x40048, 0, 32⟩
/-- Table 13.13: RWP, reset 0b0. -/
abbrev HTH_IMGCFG.DIG_REQ : Fld := ⟨0x4004C, 31, 1⟩
/-- Table 13.13: RW, reset 0b0. -/
abbrev HTH_IMGCFG.SPI_REL : Fld := ⟨0x4004C, 30, 1⟩
/-- Table 13.13: RO, reset measured. -/
abbrev HTH_FLSTAT.SFDP_OK : Fld := ⟨0x40050, 31, 1⟩
/-- Table 13.13: RO, reset measured. -/
abbrev HTH_FLSTAT.QUAD : Fld := ⟨0x40050, 30, 1⟩
/-- Table 13.13: RO, reset measured. -/
abbrev HTH_FLSTAT.ADDR4 : Fld := ⟨0x40050, 29, 1⟩
/-- Table 13.13: RO, reset measured. -/
abbrev HTH_FLSTAT.DENS_LOG2 : Fld := ⟨0x40050, 16, 8⟩
/-- Table 13.13: RWP, reset 0x00000000. -/
abbrev HTH_IMGDIG.DIG (k : Nat) : Fld := ⟨0x40060 + 4 * k, 0, 32⟩
/-- Table 13.14: RWP, reset 0b0. -/
abbrev HTH_SMBCFG.PEC_REQ : Fld := ⟨0x50000, 31, 1⟩
/-- Table 13.14: RO, reset 0x00. -/
abbrev HTH_SMBCFG.PAGE : Fld := ⟨0x50000, 0, 5⟩
/-- Table 13.14: W1C, reset 0b0. -/
abbrev HTH_SMBSTAT.INV_CMD : Fld := ⟨0x50004, 31, 1⟩
/-- Table 13.14: W1C, reset 0b0. -/
abbrev HTH_SMBSTAT.INV_DATA : Fld := ⟨0x50004, 30, 1⟩
/-- Table 13.14: W1C, reset 0b0. -/
abbrev HTH_SMBSTAT.PEC_FAIL : Fld := ⟨0x50004, 29, 1⟩
/-- Table 13.14: W1C, reset 0b0. -/
abbrev HTH_SMBSTAT.STALL : Fld := ⟨0x50004, 28, 1⟩
/-- Table 13.14: W1C, reset 0b0. -/
abbrev HTH_SMBSTAT.STRETCH_TO : Fld := ⟨0x50004, 27, 1⟩
/-- Table 13.14: RO, reset 0x0000. -/
abbrev HTH_SMBSTAT.ABANDON_CNT : Fld := ⟨0x50004, 0, 16⟩
/-- Table 13.14: RO, reset 0x0000. -/
abbrev HTH_SMBCNT.TXN_OK : Fld := ⟨0x50008, 16, 16⟩
/-- Table 13.14: RO, reset 0x0000. -/
abbrev HTH_SMBCNT.DISCARD : Fld := ⟨0x50008, 0, 16⟩
/-- Table 13.14: RO, reset 0x0000. -/
abbrev HTH_SWSTAT.ERR_CNT : Fld := ⟨0x50010, 16, 16⟩
/-- Table 13.14: RO, reset 0x0. -/
abbrev HTH_SWSTAT.LAST_ERR : Fld := ⟨0x50010, 0, 3⟩
/-- Table 2.11: RO, reset 0b0. -/
abbrev SWD_BSTAT.SPINE_ON : Fld := ⟨8, 16, 1⟩
/-- Table 2.11: RO, reset 0x0. -/
abbrev SWD_BSTAT.LNK3 : Fld := ⟨8, 14, 2⟩
/-- Table 2.11: RO, reset 0x0. -/
abbrev SWD_BSTAT.LNK2 : Fld := ⟨8, 12, 2⟩
/-- Table 2.11: RO, reset 0x0. -/
abbrev SWD_BSTAT.LNK1 : Fld := ⟨8, 10, 2⟩
/-- Table 2.11: RO, reset 0x0. -/
abbrev SWD_BSTAT.LNK0 : Fld := ⟨8, 8, 2⟩
/-- Table 2.11: W1C, reset 0x0. -/
abbrev SWD_BSTAT.LNK_CHG : Fld := ⟨8, 4, 4⟩
/-- Table 2.11: W1C, reset 0b0. -/
abbrev SWD_BSTAT.FENCE_ERR : Fld := ⟨8, 3, 1⟩
/-- Table 2.11: W1C, reset 0b0. -/
abbrev SWD_BSTAT.MESH_DROP : Fld := ⟨8, 2, 1⟩
/-- Table 2.11: RO, reset 0b0. -/
abbrev SWD_BSTAT.PRST : Fld := ⟨8, 1, 1⟩
/-- Table 2.11: RO, reset 0b0. -/
abbrev SWD_BSTAT.FENCE : Fld := ⟨8, 0, 1⟩
/-- Table 7.6: RWS, reset 0b1. -/
abbrev SWD_LDCTL.DRIVE : Fld := ⟨0x40, 31, 1⟩
/-- Table 7.6: RWS, reset 0b1. -/
abbrev SWD_LDCTL.WALK_EN : Fld := ⟨0x40, 30, 1⟩
/-- Table 7.6: RWS, reset 0x6. -/
abbrev SWD_LDCTL.GUARD : Fld := ⟨0x40, 20, 4⟩
/-- Table 7.6: RWS, reset 0x4. -/
abbrev SWD_LDCTL.BUMP_STEP : Fld := ⟨0x40, 16, 4⟩
/-- Table 7.6: RWS, reset 0x20. -/
abbrev SWD_LDCTL.SPAN : Fld := ⟨0x40, 10, 6⟩
/-- Table 7.6: RWS, reset 0x060. -/
abbrev SWD_LDCTL.DWELL : Fld := ⟨0x40, 0, 10⟩
/-- Table 7.7: RWS, reset 0x40. -/
abbrev SWD_LDCFG.SWAP_N : Fld := ⟨0x44, 16, 7⟩
/-- Table 7.7: RWS, reset 0x40. -/
abbrev SWD_LDCFG.SETTLE_MAX : Fld := ⟨0x44, 0, 8⟩
/-- Table 7.8: RO, reset 0x0. -/
abbrev SWD_LDSTAT.SH_STATE : Fld := ⟨0x48, 28, 4⟩
/-- Table 7.8: RO, reset 0b0. -/
abbrev SWD_LDSTAT.WALKING : Fld := ⟨0x48, 27, 1⟩
/-- Table 7.8: RO, reset 0b0. -/
abbrev SWD_LDSTAT.FULL_BUSY : Fld := ⟨0x48, 26, 1⟩
/-- Table 7.8: W1C, reset 0b0. -/
abbrev SWD_LDSTAT.FULL_DONE : Fld := ⟨0x48, 25, 1⟩
/-- Table 7.8: W1C, reset 0b0. -/
abbrev SWD_LDSTAT.CRC_ERR : Fld := ⟨0x48, 24, 1⟩
/-- Table 7.8: W1C, reset 0b0. -/
abbrev SWD_LDSTAT.RANGE_ERR : Fld := ⟨0x48, 23, 1⟩
/-- Table 7.8: W1C, reset 0b0. -/
abbrev SWD_LDSTAT.MONO_ERR : Fld := ⟨0x48, 22, 1⟩
/-- Table 7.8: W1C, reset 0b0. -/
abbrev SWD_LDSTAT.WR_REJ : Fld := ⟨0x48, 21, 1⟩
/-- Table 7.8: W1C, reset 0b0. -/
abbrev SWD_LDSTAT.CMD_REJ : Fld := ⟨0x48, 20, 1⟩
/-- Table 7.8: W1C, reset 0b0. -/
abbrev SWD_LDSTAT.SETTLE_TO : Fld := ⟨0x48, 19, 1⟩
/-- Table 7.8: W1C, reset 0b0. -/
abbrev SWD_LDSTAT.BUMP_MAX : Fld := ⟨0x48, 18, 1⟩
/-- Table 7.8: W1C, reset 0b0. -/
abbrev SWD_LDSTAT.CFG_CLAMP : Fld := ⟨0x48, 17, 1⟩
/-- Table 7.8: RO, reset 0x0000. -/
abbrev SWD_LDSTAT.SWAPS : Fld := ⟨0x48, 0, 16⟩
/-- Table 7.9: WO, reset 0b0. -/
abbrev SWD_LDCMD.SWAP : Fld := ⟨0x4C, 31, 1⟩
/-- Table 7.9: WO, reset 0b0. -/
abbrev SWD_LDCMD.RESYNC : Fld := ⟨0x4C, 30, 1⟩
/-- Table 7.9: WO, reset 0b0. -/
abbrev SWD_LDCMD.FW_OPEN : Fld := ⟨0x4C, 29, 1⟩
/-- Table 7.9: WO, reset 0b0. -/
abbrev SWD_LDCMD.FULL : Fld := ⟨0x4C, 28, 1⟩
/-- Table 7.9: WO, reset 0b0. -/
abbrev SWD_LDCMD.WALK_REQ : Fld := ⟨0x4C, 27, 1⟩
/-- Table 7.9: WO, reset 0b0. -/
abbrev SWD_LDCMD.KA_FAIL : Fld := ⟨0x4C, 26, 1⟩
/-- Table 7.9: WO, reset 0x00. -/
abbrev SWD_LDCMD.T : Fld := ⟨0x4C, 0, 6⟩
/-- Table 7.10: RO, reset CRC of the default curve. -/
abbrev SWD_LDCRC.CRC : Fld := ⟨0x50, 0, 32⟩
/-- Table 7.10: RW, reset CRC of the default curve. -/
abbrev SWD_LDSHCRC.SH_CRC : Fld := ⟨0x54, 0, 32⟩
/-- Table 7.11: RO, reset 0b0. -/
abbrev SWD_LDWALK.ACTIVE : Fld := ⟨0x58, 31, 1⟩
/-- Table 7.11: RO, reset 0x00. -/
abbrev SWD_LDWALK.T : Fld := ⟨0x58, 16, 6⟩
/-- Table 7.11: RO, reset 0x00. -/
abbrev SWD_LDWALK.RUNG : Fld := ⟨0x58, 8, 5⟩
/-- Table 7.11: RO, reset 0x00. -/
abbrev SWD_LDWALK.STEP : Fld := ⟨0x58, 0, 8⟩
/-- Table 7.11: RO, reset 0b0. -/
abbrev SWD_LDRES.ABORT : Fld := ⟨0x5C, 31, 1⟩
/-- Table 7.11: RO, reset 0b0. -/
abbrev SWD_LDRES.FLOOR : Fld := ⟨0x5C, 30, 1⟩
/-- Table 7.11: RO, reset 0b0. -/
abbrev SWD_LDRES.FIT : Fld := ⟨0x5C, 29, 1⟩
/-- Table 7.11: RO, reset 0x00. -/
abbrev SWD_LDRES.T : Fld := ⟨0x5C, 23, 6⟩
/-- Table 7.11: RO, reset 0x00. -/
abbrev SWD_LDRES.RUNG : Fld := ⟨0x5C, 18, 5⟩
/-- Table 7.11: RO, reset 0x000. -/
abbrev SWD_LDRES.VMIN : Fld := ⟨0x5C, 9, 9⟩
/-- Table 7.11: RO, reset 0x000. -/
abbrev SWD_LDRES.NEW : Fld := ⟨0x5C, 0, 9⟩
/-- Table 7.10: RO, reset 0x0000. -/
abbrev SWD_LDCNT.ABORTS : Fld := ⟨0x60, 16, 16⟩
/-- Table 7.10: RO, reset 0x0000. -/
abbrev SWD_LDCNT.WALKS : Fld := ⟨0x60, 0, 16⟩
/-- Table 7.12: RO, reset 0x0. -/
abbrev SWD_RUNGSTAT.SEQ : Fld := ⟨0x64, 30, 2⟩
/-- Table 7.12: RO, reset 0b0. -/
abbrev SWD_RUNGSTAT.PACE : Fld := ⟨0x64, 29, 1⟩
/-- Table 7.12: RO, reset 0b0. -/
abbrev SWD_RUNGSTAT.PBREAK : Fld := ⟨0x64, 28, 1⟩
/-- Table 7.12: RO, reset fuses. -/
abbrev SWD_RUNGSTAT.REQ : Fld := ⟨0x64, 16, 5⟩
/-- Table 7.12: RO, reset 0x00. -/
abbrev SWD_RUNGSTAT.TGT : Fld := ⟨0x64, 8, 5⟩
/-- Table 7.12: RO, reset 0x00. -/
abbrev SWD_RUNGSTAT.RUNG : Fld := ⟨0x64, 0, 5⟩
/-- Table 7.12: RWS, reset 0x0. -/
abbrev SWD_LDBUMP.BUMP (i k : Nat) : Fld := ⟨0x80 + 4 * i, 4 * k, 4⟩
/-- Table 8.15: RO, reset 0x0000. -/
abbrev SWD_LEASE.SEQ : Fld := ⟨0x100, 16, 16⟩
/-- Table 8.15: RO, reset 0x00. -/
abbrev SWD_LEASE.DUR : Fld := ⟨0x100, 8, 8⟩
/-- Table 8.15: RO, reset 0b1. -/
abbrev SWD_LEASE.EXPIRED : Fld := ⟨0x100, 3, 1⟩
/-- Table 8.15: W1C, reset 0b0. -/
abbrev SWD_LEASE.LEASE_EXP : Fld := ⟨0x100, 2, 1⟩
/-- Table 8.15: W1C, reset 0b0. -/
abbrev SWD_LEASE.LEASE_REJ : Fld := ⟨0x100, 1, 1⟩
/-- Table 8.15: RO, reset 0b0. -/
abbrev SWD_LEASE.FIRST : Fld := ⟨0x100, 0, 1⟩
/-- Table 8.15: RO, reset 0x00000000. -/
abbrev SWD_LBUD.BUDGET : Fld := ⟨0x104, 0, 32⟩
/-- Table 8.15: RO, reset 0x00000000. -/
abbrev SWD_LFLR.FLOOR : Fld := ⟨0x108, 0, 32⟩
/-- Table 8.15: RO, reset 0x00. -/
abbrev SWD_BRAKE.BRK_CNT : Fld := ⟨0x10C, 24, 8⟩
/-- Table 8.15: RO, reset 0b0. -/
abbrev SWD_BRAKE.BRK_HELD : Fld := ⟨0x10C, 13, 1⟩
/-- Table 8.15: RO, reset 0x1F. -/
abbrev SWD_BRAKE.BRK_LIM : Fld := ⟨0x10C, 8, 5⟩
/-- Table 8.15: RO, reset fuses. -/
abbrev SWD_BRAKE.RLIM : Fld := ⟨0x10C, 0, 5⟩
/-- Table 8.16: RWS, reset c = 0: 0b1; others 0b0. -/
abbrev SWD_CTX.EN (c : Nat) : Fld := ⟨0x140 + 8 * c, 31, 1⟩
/-- Table 8.16: WO, reset 0b0. -/
abbrev SWD_CTX.RESTART (c : Nat) : Fld := ⟨0x140 + 8 * c, 30, 1⟩
/-- Table 8.16: RWS, reset 0x10. -/
abbrev SWD_CTX.WEIGHT (c : Nat) : Fld := ⟨0x140 + 8 * c, 16, 8⟩
/-- Table 8.16: RWS, reset 0x1F. -/
abbrev SWD_CTX.RUNG_LIM (c : Nat) : Fld := ⟨0x140 + 8 * c, 8, 5⟩
/-- Table 8.16: RWS, reset 0x00. -/
abbrev SWD_CTX.BASE (c : Nat) : Fld := ⟨0x140 + 8 * c, 0, 8⟩
/-- Table 8.16: RO, reset 0x00. -/
abbrev SWD_CTXPTR.PTR (c : Nat) : Fld := ⟨0x144 + 8 * c, 0, 8⟩
/-- Table 8.17: RO, reset 0x0000. -/
abbrev SWD_CTXSTAT.SW_CNT : Fld := ⟨0x180, 16, 16⟩
/-- Table 8.17: W1C, reset 0b0. -/
abbrev SWD_CTXSTAT.CONFLICT : Fld := ⟨0x180, 5, 1⟩
/-- Table 8.17: W1C, reset 0b0. -/
abbrev SWD_CTXSTAT.CTX_REJ : Fld := ⟨0x180, 4, 1⟩
/-- Table 8.17: RO, reset 0x0. -/
abbrev SWD_CTXSTAT.CUR : Fld := ⟨0x180, 0, 3⟩
/-- Table 8.18: RW, reset 0b1. -/
abbrev SWD_SWIDX.AINC : Fld := ⟨0x184, 31, 1⟩
/-- Table 8.18: RW, reset 0x0. -/
abbrev SWD_SWIDX.CTX : Fld := ⟨0x184, 8, 3⟩
/-- Table 8.18: RW, reset 0x00. -/
abbrev SWD_SWIDX.ENTRY : Fld := ⟨0x184, 0, 8⟩
/-- Table 8.18: RWS, reset 0x00. -/
abbrev SWD_SWDATA.RUNG_HINT : Fld := ⟨0x188, 27, 5⟩
/-- Table 8.18: RWS, reset 0x000. -/
abbrev SWD_SWDATA.DUR : Fld := ⟨0x188, 16, 11⟩
/-- Table 8.18: RWS, reset 0x0000. -/
abbrev SWD_SWDATA.PWR : Fld := ⟨0x188, 0, 16⟩
/-- Table 8.18: RO, reset 0x0000. -/
abbrev SWD_SWSTAT.TMO_CNT : Fld := ⟨0x18C, 16, 16⟩
/-- Table 8.18: RO, reset 0b1. -/
abbrev SWD_SWSTAT.SW_EMPTY : Fld := ⟨0x18C, 9, 1⟩
/-- Table 8.18: RO, reset 0x00. -/
abbrev SWD_SWSTAT.PTR : Fld := ⟨0x18C, 0, 8⟩
/-- Table 9.14: RWS, reset 0b1. -/
abbrev SWD_DOMCTL.MIF : Fld := ⟨0x1000, 7, 1⟩
/-- Table 9.14: RWS, reset 0b1. -/
abbrev SWD_DOMCTL.LINK : Fld := ⟨0x1000, 6, 1⟩
/-- Table 9.14: RWS, reset 0b0. -/
abbrev SWD_DOMCTL.LOGIC_OFF : Fld := ⟨0x1000, 5, 1⟩
/-- Table 9.14: RWS, reset 0b0. -/
abbrev SWD_DOMCTL.SPINE_OFF : Fld := ⟨0x1000, 4, 1⟩
/-- Table 9.14: RWS, reset 0x2. -/
abbrev SWD_DOMCTL.ARR : Fld := ⟨0x1000, 2, 2⟩
/-- Table 9.14: RWS, reset 0b1. -/
abbrev SWD_DOMCTL.CORE : Fld := ⟨0x1000, 1, 1⟩
/-- Table 9.15: RO, reset 0b0. -/
abbrev SWD_DOMSTAT.GRANTED : Fld := ⟨0x1004, 31, 1⟩
/-- Table 9.15: RO, reset 0b0. -/
abbrev SWD_DOMSTAT.SON_WAIT : Fld := ⟨0x1004, 30, 1⟩
/-- Table 9.15: W1C, reset 0b0. -/
abbrev SWD_DOMSTAT.CORE_HOLD : Fld := ⟨0x1004, 29, 1⟩
/-- Table 9.15: W1C, reset 0b0. -/
abbrev SWD_DOMSTAT.DOM_ADJ : Fld := ⟨0x1004, 28, 1⟩
/-- Table 9.15: W1C, reset 0b0. -/
abbrev SWD_DOMSTAT.SPINE_REJ : Fld := ⟨0x1004, 27, 1⟩
/-- Table 9.15: RO, reset 0b0. -/
abbrev SWD_DOMSTAT.TRAIN : Fld := ⟨0x1004, 26, 1⟩
/-- Table 9.15: RO, reset 0x0. -/
abbrev SWD_DOMSTAT.LOGIC_ST : Fld := ⟨0x1004, 10, 2⟩
/-- Table 9.15: RO, reset 0x0. -/
abbrev SWD_DOMSTAT.MIF_ST : Fld := ⟨0x1004, 8, 2⟩
/-- Table 9.15: RO, reset 0x0. -/
abbrev SWD_DOMSTAT.LINK_ST : Fld := ⟨0x1004, 6, 2⟩
/-- Table 9.15: RO, reset 0x0. -/
abbrev SWD_DOMSTAT.SPINE_ST : Fld := ⟨0x1004, 4, 2⟩
/-- Table 9.15: RO, reset 0x0. -/
abbrev SWD_DOMSTAT.ARRAY_ST : Fld := ⟨0x1004, 2, 2⟩
/-- Table 9.15: RO, reset 0x0. -/
abbrev SWD_DOMSTAT.CORE_ST : Fld := ⟨0x1004, 0, 2⟩
/-- Table 9.16: RWS, reset 0x64. -/
abbrev SWD_DOMCFG.TRAIN_MS : Fld := ⟨0x1008, 0, 8⟩
/-- Table 9.16: WO, reset 0b0. -/
abbrev SWD_RSTCMD.URST : Fld := ⟨0x1010, 31, 1⟩
/-- Table 9.16: WO, reset 0x00. -/
abbrev SWD_RSTCMD.UNIT : Fld := ⟨0x1010, 0, 7⟩
/-- Table 9.16: RO, reset 0x00. -/
abbrev SWD_RSTSTAT.URST_CNT : Fld := ⟨0x1014, 24, 8⟩
/-- Table 9.16: RO, reset 0x00. -/
abbrev SWD_RSTSTAT.SRST_CNT : Fld := ⟨0x1014, 16, 8⟩
/-- Table 9.16: RO, reset 0x00. -/
abbrev SWD_RSTSTAT.MISM_CNT : Fld := ⟨0x1014, 10, 6⟩
/-- Table 9.16: W1C, reset 0b0. -/
abbrev SWD_RSTSTAT.EP_MISM : Fld := ⟨0x1014, 9, 1⟩
/-- Table 9.16: W1C, reset 0b0. -/
abbrev SWD_RSTSTAT.URST_REJ : Fld := ⟨0x1014, 8, 1⟩
/-- Table 9.16: RO, reset 0b0. -/
abbrev SWD_RSTSTAT.RESTORE_BUSY : Fld := ⟨0x1014, 7, 1⟩
/-- Table 9.16: RO, reset 0x00. -/
abbrev SWD_RSTSTAT.UNIT : Fld := ⟨0x1014, 0, 7⟩
/-- Table 9.17: RO, reset 0b0. -/
abbrev SWD_UEPOCH.VALID (u : Nat) : Fld := ⟨0x1100 + 4 * u, 31, 1⟩
/-- Table 9.17: RO, reset 0b0. -/
abbrev SWD_UEPOCH.RST_SEEN (u : Nat) : Fld := ⟨0x1100 + 4 * u, 30, 1⟩
/-- Table 9.17: RO, reset 0x0000. -/
abbrev SWD_UEPOCH.EPOCH (u : Nat) : Fld := ⟨0x1100 + 4 * u, 0, 16⟩
/-- Table 7.13: RO (LDA); RW in FW (LDS), reset 259 + 6m. -/
abbrev SWD_LDA.ENTRY_HI (t m : Nat) : Fld := ⟨0x2000 + 0x40 * t + 4 * m, 16, 16⟩
/-- Table 7.13: RO (LDA); RW in FW (LDS), reset 256 + 6m. -/
abbrev SWD_LDA.ENTRY_LO (t m : Nat) : Fld := ⟨0x2000 + 0x40 * t + 4 * m, 0, 16⟩
/-- Table 7.13: RO (LDA); RW in FW (LDS), reset 259 + 6m. -/
abbrev SWD_LDS.ENTRY_HI (t m : Nat) : Fld := ⟨0x3000 + 0x40 * t + 4 * m, 16, 16⟩
/-- Table 7.13: RO (LDA); RW in FW (LDS), reset 256 + 6m. -/
abbrev SWD_LDS.ENTRY_LO (t m : Nat) : Fld := ⟨0x3000 + 0x40 * t + 4 * m, 0, 16⟩
/-- Table 6.6: RWS, reset 0b0. -/
abbrev SWD_SCTL.EN (n : Nat) : Fld := ⟨0x4000 + 0x40 * n, 31, 1⟩
/-- Table 6.6: WO, reset 0b0. -/
abbrev SWD_SCTL.INT_CLR (n : Nat) : Fld := ⟨0x4000 + 0x40 * n, 30, 1⟩
/-- Table 6.6: RWS, reset 0x0. -/
abbrev SWD_SCTL.RATE_SHIFT (n : Nat) : Fld := ⟨0x4000 + 0x40 * n, 26, 4⟩
/-- Table 6.6: RWS, reset 0x000. -/
abbrev SWD_SCTL.PHASE (n : Nat) : Fld := ⟨0x4000 + 0x40 * n, 16, 10⟩
/-- Table 6.6: RWS, reset 0x0. -/
abbrev SWD_SCTL.ERR_MODE (n : Nat) : Fld := ⟨0x4000 + 0x40 * n, 14, 2⟩
/-- Table 6.6: RWS, reset 0b0. -/
abbrev SWD_SCTL.NOTCH_EN (n : Nat) : Fld := ⟨0x4000 + 0x40 * n, 13, 1⟩
/-- Table 6.6: RWS, reset 0b0. -/
abbrev SWD_SCTL.FF_EN (n : Nat) : Fld := ⟨0x4000 + 0x40 * n, 12, 1⟩
/-- Table 6.6: RWS, reset 0x0. -/
abbrev SWD_SSEL.NOTCH_SET (n : Nat) : Fld := ⟨0x4004 + 0x40 * n, 28, 4⟩
/-- Table 6.6: RWS, reset 0x0. -/
abbrev SWD_SSEL.FF_PRED (n : Nat) : Fld := ⟨0x4004 + 0x40 * n, 24, 4⟩
/-- Table 6.6: RWS, reset 0x000. -/
abbrev SWD_SSEL.SP_SIG (n : Nat) : Fld := ⟨0x4004 + 0x40 * n, 10, 10⟩
/-- Table 6.6: RWS, reset 0x000. -/
abbrev SWD_SSEL.FB_SIG (n : Nat) : Fld := ⟨0x4004 + 0x40 * n, 0, 10⟩
/-- Table 6.6: RWS, reset 0x00000000. -/
abbrev SWD_SKP.KP (n : Nat) : Fld := ⟨0x4008 + 0x40 * n, 0, 32⟩
/-- Table 6.6: RWS, reset 0x00000000. -/
abbrev SWD_SKI.KI (n : Nat) : Fld := ⟨0x400C + 0x40 * n, 0, 32⟩
/-- Table 6.6: RWS, reset 0x00000000. -/
abbrev SWD_SKFF.KFF (n : Nat) : Fld := ⟨0x4010 + 0x40 * n, 0, 32⟩
/-- Table 6.6: RWS, reset 0x00000000. -/
abbrev SWD_SOMIN.OUT_MIN (n : Nat) : Fld := ⟨0x4014 + 0x40 * n, 0, 32⟩
/-- Table 6.6: RWS, reset 0x00000000. -/
abbrev SWD_SOMAX.OUT_MAX (n : Nat) : Fld := ⟨0x4018 + 0x40 * n, 0, 32⟩
/-- Table 6.6: RWS, reset 0x00000000. -/
abbrev SWD_SSLEW.SLEW (n : Nat) : Fld := ⟨0x401C + 0x40 * n, 0, 31⟩
/-- Table 6.6: RWS, reset 0x0. -/
abbrev SWD_SDEST.KIND (n : Nat) : Fld := ⟨0x4020 + 0x40 * n, 28, 4⟩
/-- Table 6.6: RWS, reset 0b0. -/
abbrev SWD_SDEST.VERGE (n : Nat) : Fld := ⟨0x4020 + 0x40 * n, 27, 1⟩
/-- Table 6.6: RWS, reset 0x00. -/
abbrev SWD_SDEST.UNIT (n : Nat) : Fld := ⟨0x4020 + 0x40 * n, 16, 7⟩
/-- Table 6.6: RWS, reset 0x0. -/
abbrev SWD_SDEST.FIELD (n : Nat) : Fld := ⟨0x4020 + 0x40 * n, 0, 4⟩
/-- Table 6.6: RW, reset 0x00000000. -/
abbrev SWD_SINTLO.INTEG_LO (n : Nat) : Fld := ⟨0x4028 + 0x40 * n, 0, 32⟩
/-- Table 6.6: RW, reset 0x00000000. -/
abbrev SWD_SINTHI.INTEG_HI (n : Nat) : Fld := ⟨0x402C + 0x40 * n, 0, 32⟩
/-- Table 6.6: RW, reset 0x00000000. -/
abbrev SWD_SNS1.NS1 (n : Nat) : Fld := ⟨0x4030 + 0x40 * n, 0, 32⟩
/-- Table 6.6: RW, reset 0x00000000. -/
abbrev SWD_SNS2.NS2 (n : Nat) : Fld := ⟨0x4034 + 0x40 * n, 0, 32⟩
/-- Table 6.6: RW, reset 0x00000000. -/
abbrev SWD_SOUT.OUT (n : Nat) : Fld := ⟨0x4038 + 0x40 * n, 0, 32⟩
/-- Table 6.6: RO, reset 0x00. -/
abbrev SWD_SSTAT.MISS_CNT (n : Nat) : Fld := ⟨0x403C + 0x40 * n, 24, 8⟩
/-- Table 6.6: RO, reset 0x00. -/
abbrev SWD_SSTAT.EXEC_F (n : Nat) : Fld := ⟨0x403C + 0x40 * n, 16, 8⟩
/-- Table 6.6: W1C, reset 0b0. -/
abbrev SWD_SSTAT.CFG_ERR (n : Nat) : Fld := ⟨0x403C + 0x40 * n, 3, 1⟩
/-- Table 6.6: RO, reset 0b0. -/
abbrev SWD_SSTAT.SAT_LO (n : Nat) : Fld := ⟨0x403C + 0x40 * n, 2, 1⟩
/-- Table 6.6: RO, reset 0b0. -/
abbrev SWD_SSTAT.SAT_HI (n : Nat) : Fld := ⟨0x403C + 0x40 * n, 1, 1⟩
/-- Table 6.6: RO, reset 0b0. -/
abbrev SWD_SSTAT.SLEWING (n : Nat) : Fld := ⟨0x403C + 0x40 * n, 0, 1⟩
/-- Table 6.11: RW, reset 0b0. -/
abbrev SWD_SCHED.RUN : Fld := ⟨0x8000, 31, 1⟩
/-- Table 6.11: RW, reset 0b0. -/
abbrev SWD_SCHED.HOLD : Fld := ⟨0x8000, 30, 1⟩
/-- Table 6.11: RO, reset 0b0. -/
abbrev SWD_SCHED.HOLD_PEND : Fld := ⟨0x8000, 29, 1⟩
/-- Table 6.11: WO, reset 0b0. -/
abbrev SWD_SCHED.PK_CLR : Fld := ⟨0x8000, 28, 1⟩
/-- Table 6.12: W1C, reset 0b0. -/
abbrev SWD_ESTAT.STATE_WERR : Fld := ⟨0x8004, 5, 1⟩
/-- Table 6.12: W1C, reset 0b0. -/
abbrev SWD_ESTAT.DEST_CONF : Fld := ⟨0x8004, 4, 1⟩
/-- Table 6.12: W1C, reset 0b0. -/
abbrev SWD_ESTAT.SCHED_CLAMP : Fld := ⟨0x8004, 3, 1⟩
/-- Table 6.12: W1C, reset 0b0. -/
abbrev SWD_ESTAT.CFG_ERR : Fld := ⟨0x8004, 2, 1⟩
/-- Table 6.12: W1C, reset 0b0. -/
abbrev SWD_ESTAT.SLOT_MISS : Fld := ⟨0x8004, 0, 1⟩
/-- Table 6.13: RO, reset 0x0000. -/
abbrev SWD_LOAD.PEAK : Fld := ⟨0x8008, 16, 16⟩
/-- Table 6.13: RO, reset 0x0000. -/
abbrev SWD_LOAD.LAST : Fld := ⟨0x8008, 0, 16⟩
/-- Table 6.13: RO, reset measured. -/
abbrev SWD_FNUM.FNUM : Fld := ⟨0x800C, 0, 32⟩
/-- Table 6.13: W1C, reset 0x00000000. -/
abbrev SWD_MISSMAP.MISS (i : Nat) : Fld := ⟨0x8010 + 4 * i, 0, 32⟩
/-- Table 6.14: RWS, reset fuses. -/
abbrev SWD_RUNGCTL.WARN_RUNG : Fld := ⟨0x8030, 8, 5⟩
/-- Table 6.14: RWS, reset fuses. -/
abbrev SWD_RUNGCTL.FW_RUNG : Fld := ⟨0x8030, 0, 5⟩
/-- Table 6.15: WO, reset 0b0. -/
abbrev SWD_KAT.START : Fld := ⟨0x8034, 31, 1⟩
/-- Table 6.15: RO, reset 0b0. -/
abbrev SWD_KAT.BUSY : Fld := ⟨0x8034, 30, 1⟩
/-- Table 6.15: RO, reset 0b0. -/
abbrev SWD_KAT.PASS : Fld := ⟨0x8034, 29, 1⟩
/-- Table 6.15: RO, reset 0b0. -/
abbrev SWD_KAT.FAIL : Fld := ⟨0x8034, 28, 1⟩
/-- Table 6.15: RO, reset 0x0. -/
abbrev SWD_KAT.LANE_FAIL : Fld := ⟨0x8034, 24, 4⟩
/-- Table 6.15: W1C, reset 0b0. -/
abbrev SWD_KAT.KAT_REJ : Fld := ⟨0x8034, 23, 1⟩
/-- Table 6.16: W1C, reset 0x00. -/
abbrev SWD_SWERR.STOP_LOST : Fld := ⟨0x8038, 8, 8⟩
/-- Table 6.16: W1C, reset 0x00. -/
abbrev SWD_SWERR.CRC_ERR : Fld := ⟨0x8038, 0, 8⟩
/-- Table 6.17: RWS, reset 0b0. -/
abbrev SWD_CTAP.EN (j : Nat) : Fld := ⟨0x8040 + 4 * j, 31, 1⟩
/-- Table 6.17: RWS, reset 0x00. -/
abbrev SWD_CTAP.CNT (j : Nat) : Fld := ⟨0x8040 + 4 * j, 0, 7⟩
/-- Table 6.17: RW, reset 0x000. -/
abbrev SWD_SIGIDX.IDX : Fld := ⟨0x8060, 0, 10⟩
/-- Table 6.17: RO, reset 0x00000000. -/
abbrev SWD_SIGVAL.VAL : Fld := ⟨0x8064, 0, 32⟩
/-- Table 6.18: RWS, reset 0x40000000. -/
abbrev SWD_NCOEF_B0.COEF (k : Nat) : Fld := ⟨0x8100 + 0x20 * k, 0, 32⟩
/-- Table 6.18: RWS, reset 0x00000000. -/
abbrev SWD_NCOEF_B1.COEF (k : Nat) : Fld := ⟨0x8104 + 0x20 * k, 0, 32⟩
/-- Table 6.18: RWS, reset 0x00000000. -/
abbrev SWD_NCOEF_B2.COEF (k : Nat) : Fld := ⟨0x8108 + 0x20 * k, 0, 32⟩
/-- Table 6.18: RWS, reset 0x00000000. -/
abbrev SWD_NCOEF_A1.COEF (k : Nat) : Fld := ⟨0x810C + 0x20 * k, 0, 32⟩
/-- Table 6.18: RWS, reset 0x00000000. -/
abbrev SWD_NCOEF_A2.COEF (k : Nat) : Fld := ⟨0x8110 + 0x20 * k, 0, 32⟩
/-- Table 6.18: RWS, reset 0x00000000. -/
abbrev SWD_PARAM.PARAM (n : Nat) : Fld := ⟨0x8400 + 4 * n, 0, 32⟩
/-- Table 6.18: RWS, reset 0b0. -/
abbrev SWD_PRCTL.EN (k : Nat) : Fld := ⟨0x9000 + 0x100 * k, 31, 1⟩
/-- Table 6.18: WO, reset 0b0. -/
abbrev SWD_PRCTL.CLR (k : Nat) : Fld := ⟨0x9000 + 0x100 * k, 30, 1⟩
/-- Table 6.18: RWS, reset 0x0. -/
abbrev SWD_PRCTL.RATE_SHIFT (k : Nat) : Fld := ⟨0x9000 + 0x100 * k, 26, 4⟩
/-- Table 6.18: RWS, reset 0x000. -/
abbrev SWD_PRCTL.PHASE (k : Nat) : Fld := ⟨0x9000 + 0x100 * k, 16, 10⟩
/-- Table 6.18: RWS, reset 0x000. -/
abbrev SWD_PRCTL.IN_SIG (k : Nat) : Fld := ⟨0x9000 + 0x100 * k, 0, 10⟩
/-- Table 6.18: RO, reset 0x00000000. -/
abbrev SWD_PROUT.Y (k : Nat) : Fld := ⟨0x9004 + 0x100 * k, 0, 32⟩
/-- Table 6.18: RWS, reset 0x00000000. -/
abbrev SWD_PRTAP.C (k j : Nat) : Fld := ⟨0x9040 + 0x100 * k + 4 * j, 0, 32⟩
/-- Table 11.7: RO, reset 0x00000000. -/
abbrev SWD_CNT_LO.CNT_LO (k : Nat) : Fld := ⟨0xA000 + 8 * k, 0, 32⟩
/-- Table 11.7: RO, reset 0x0000; 0x0000. -/
abbrev SWD_CNT_HI.CNT_HI (k : Nat) : Fld := ⟨0xA004 + 8 * k, 0, 16⟩
/-- Table 11.7: RO, reset 0x00000000. -/
abbrev SWD_CSNAP_LO.SNAP (k : Nat) : Fld := ⟨0xA300 + 8 * k, 0, 32⟩
/-- Table 11.7: RO, reset 0x00000000. -/
abbrev SWD_CSNAP_HI.SNAP (k : Nat) : Fld := ⟨0xA304 + 8 * k, 0, 16⟩
/-- Table 11.7: RWS, reset 0b0. -/
abbrev SWD_CCFG.SNAP_OVF (k : Nat) : Fld := ⟨0xA600 + 4 * k, 9, 1⟩
/-- Table 11.7: RWS, reset 0b0. -/
abbrev SWD_CCFG.OVF_IE (k : Nat) : Fld := ⟨0xA600 + 4 * k, 8, 1⟩
/-- Table 11.7: RWS, reset 0x0. -/
abbrev SWD_CCFG.FSEL (k : Nat) : Fld := ⟨0xA600 + 4 * k, 0, 3⟩
/-- Table 11.7: RWS, reset 0x00000000. -/
abbrev SWD_CPRE_LO.PRE (k : Nat) : Fld := ⟨0xA800 + 8 * k, 0, 32⟩
/-- Table 11.7: RWS, reset 0x00000000. -/
abbrev SWD_CPRE_HI.PRE (k : Nat) : Fld := ⟨0xA804 + 8 * k, 0, 16⟩
/-- Table 11.7: WO, reset 0b0. -/
abbrev SWD_CCMD.SNAP : Fld := ⟨0xAB00, 31, 1⟩
/-- Table 11.7: WO, reset 0b0. -/
abbrev SWD_CCMD.CLR : Fld := ⟨0xAB00, 30, 1⟩
/-- Table 11.7: WO, reset 0b0. -/
abbrev SWD_CCMD.ALL : Fld := ⟨0xAB00, 29, 1⟩
/-- Table 11.7: WO, reset 0x00. -/
abbrev SWD_CCMD.CNT : Fld := ⟨0xAB00, 0, 7⟩
/-- Table 11.7: W1C, reset 0b0. -/
abbrev SWD_CSTAT.RST_GAP : Fld := ⟨0xAB04, 31, 1⟩
/-- Table 11.7: W1C, reset 0b0. -/
abbrev SWD_CSTAT.CFG_CLAMP : Fld := ⟨0xAB04, 30, 1⟩
/-- Table 11.7: RO, reset 0x0000. -/
abbrev SWD_CSTAT.SNAPS : Fld := ⟨0xAB04, 0, 16⟩
/-- Table 11.7: W1C, reset 0x00000000. -/
abbrev SWD_COVF.OVF (i : Nat) : Fld := ⟨0xAB08 + 4 * i, 0, 32⟩
/-- Table 11.7: W1C, reset 0b0. -/
abbrev SWD_CSAMP.VALID : Fld := ⟨0xAB20, 31, 1⟩
/-- Table 11.7: W1C, reset 0b0. -/
abbrev SWD_CSAMP.SAMP_OVR : Fld := ⟨0xAB20, 30, 1⟩
/-- Table 11.7: RO, reset 0b0. -/
abbrev SWD_CSAMP.PRED : Fld := ⟨0xAB20, 29, 1⟩
/-- Table 11.7: RO, reset 0x00. -/
abbrev SWD_CSAMP.SLOT : Fld := ⟨0xAB20, 16, 8⟩
/-- Table 11.7: RO, reset 0x00. -/
abbrev SWD_CSAMP.FNUM : Fld := ⟨0xAB20, 8, 8⟩
/-- Table 11.7: RO, reset 0x00. -/
abbrev SWD_CSAMP.CNT : Fld := ⟨0xAB20, 0, 7⟩
/-- Table 11.7: RO, reset 0x00000000. -/
abbrev SWD_CSAMPT.WTIME : Fld := ⟨0xAB24, 0, 32⟩
/-- Table 11.7: RWS, reset 0b0. -/
abbrev SWD_CFCTL.EN (f : Nat) : Fld := ⟨0xAB40 + 0x10 * f, 31, 1⟩
/-- Table 11.7: RWS, reset 0x7. -/
abbrev SWD_CFCTL.PRIV_M (f : Nat) : Fld := ⟨0xAB40 + 0x10 * f, 24, 3⟩
/-- Table 11.7: RWS, reset 0x3F. -/
abbrev SWD_CFCTL.MK_M (f : Nat) : Fld := ⟨0xAB40 + 0x10 * f, 16, 6⟩
/-- Table 11.7: RWS, reset 0xFF. -/
abbrev SWD_CFCTL.CLS_M (f : Nat) : Fld := ⟨0xAB40 + 0x10 * f, 8, 8⟩
/-- Table 11.7: RO; RWS, reset 0x0; 0xFFF. -/
abbrev SWD_CFMID.MID_HI (f : Nat) : Fld := ⟨0xAB44 + 0x10 * f, 16, 12⟩
/-- Table 11.7: RO; RWS, reset 0x0; 0x000. -/
abbrev SWD_CFMID.MID_LO (f : Nat) : Fld := ⟨0xAB44 + 0x10 * f, 0, 12⟩
/-- Table 11.7: RO; RWS, reset 0x0; 0x00000000. -/
abbrev SWD_CFALO.ALO (f : Nat) : Fld := ⟨0xAB48 + 0x10 * f, 0, 30⟩
/-- Table 11.7: RO; RWS, reset 0x0; 0x3FFFFFFF. -/
abbrev SWD_CFAHI.AHI (f : Nat) : Fld := ⟨0xAB4C + 0x10 * f, 0, 30⟩
/-- Table 11.7: RWS, reset 0b0. -/
abbrev SWD_UAPCTL.USER_EN : Fld := ⟨0xAB80, 31, 1⟩
/-- Table 11.7: RWS, reset 0b0. -/
abbrev SWD_TACFG.TEL_EN : Fld := ⟨0xB000, 31, 1⟩
/-- Table 11.7: RWS, reset 0x0A. -/
abbrev SWD_TACFG.WIN_N : Fld := ⟨0xB000, 0, 5⟩
/-- Table 11.7: RO, reset 0b1. -/
abbrev SWD_TASTAT.STALE : Fld := ⟨0xB004, 31, 1⟩
/-- Table 11.7: W1C, reset 0b0. -/
abbrev SWD_TASTAT.WCLAMP : Fld := ⟨0xB004, 30, 1⟩
/-- Table 11.7: RO, reset 0x0000. -/
abbrev SWD_TASTAT.WSEQ : Fld := ⟨0xB004, 0, 16⟩
/-- Table 11.7: RO, reset 0x00000000. -/
abbrev SWD_TAPWR.P (r : Nat) : Fld := ⟨0xB010 + 4 * r, 0, 32⟩
/-- Table 11.7: RO, reset 0x00000000. -/
abbrev SWD_TAVMIN.V : Fld := ⟨0xB024, 0, 32⟩
/-- Table 11.7: RO, reset 0x00000000. -/
abbrev SWD_TAVMIN_U.UNIT : Fld := ⟨0xB028, 0, 32⟩
/-- Table 11.7: RO, reset 0x00000000. -/
abbrev SWD_TAIMAX.I : Fld := ⟨0xB02C, 0, 32⟩
/-- Table 11.7: RO, reset 0x00000000. -/
abbrev SWD_TAIMAX_U.UNIT : Fld := ⟨0xB030, 0, 32⟩
/-- Table 11.7: RO, reset 0x00000000. -/
abbrev SWD_TATMAX.T : Fld := ⟨0xB034, 0, 32⟩
/-- Table 11.7: RO, reset 0x00000000. -/
abbrev SWD_TATMAX_U.UNIT : Fld := ⟨0xB038, 0, 32⟩
/-- Table 11.7: RO, reset 0x00000000. -/
abbrev SWD_TAENERGY_LO.E : Fld := ⟨0xB040, 0, 32⟩
/-- Table 11.7: RO, reset 0x00000000. -/
abbrev SWD_TAENERGY_HI.E : Fld := ⟨0xB044, 0, 32⟩
/-- Table 11.7: RWS, reset 0x00000000. -/
abbrev SWD_TDEST_LO.ADDR : Fld := ⟨0xB048, 0, 32⟩
/-- Table 11.7: RWS, reset 0x00000000. -/
abbrev SWD_TDEST_HI.ADDR : Fld := ⟨0xB04C, 0, 32⟩
/-- Table 11.7: RWS, reset 0b0. -/
abbrev SWD_TRCFG.EN : Fld := ⟨0xB080, 31, 1⟩
/-- Table 11.7: RWS, reset 0x00. -/
abbrev SWD_TRCFG.RING_LOG2 : Fld := ⟨0xB080, 20, 5⟩
/-- Table 11.7: RWS, reset 0x0. -/
abbrev SWD_TRCFG.RATE_SHIFT : Fld := ⟨0xB080, 16, 4⟩
/-- Table 11.7: RWS, reset 0x1. -/
abbrev SWD_TRCFG.NSIG : Fld := ⟨0xB080, 0, 4⟩
/-- Table 11.7: RO, reset 0x0000. -/
abbrev SWD_TRSTAT.TR_DROP : Fld := ⟨0xB084, 16, 16⟩
/-- Table 11.7: RO, reset 0x0000. -/
abbrev SWD_TRSTAT.TEL_DROP : Fld := ⟨0xB084, 0, 16⟩
/-- Table 11.7: RWS, reset 0x00000000. -/
abbrev SWD_TRBASE_LO.ADDR : Fld := ⟨0xB088, 0, 32⟩
/-- Table 11.7: RWS, reset 0x00000000. -/
abbrev SWD_TRBASE_HI.ADDR : Fld := ⟨0xB08C, 0, 32⟩
/-- Table 11.7: RO; RWS, reset 0x000000; 0x000. -/
abbrev SWD_TRSEL.SIG (i : Nat) : Fld := ⟨0xB090 + 4 * i, 0, 10⟩
/-- Table 12.13: W1C, reset 0b0. -/
abbrev SWD_FSTAT.FL_SEEN : Fld := ⟨0xC000, 31, 1⟩
/-- Table 12.13: W1C, reset 0b0. -/
abbrev SWD_FSTAT.BAD_EVT : Fld := ⟨0xC000, 30, 1⟩
/-- Table 12.13: RO, reset 0x00. -/
abbrev SWD_FSTAT.QDEPTH : Fld := ⟨0xC000, 16, 6⟩
/-- Table 12.13: RO, reset 0x0000. -/
abbrev SWD_FSTAT.RESENDS : Fld := ⟨0xC000, 0, 16⟩
/-- Table 3.8: RO, reset position. -/
abbrev TSK_UNIT.UNIT : Fld := ⟨0, 0, 32⟩
/-- Table 3.9: RW, reset 0b0. -/
abbrev TSK_CTL.OWN_OSC : Fld := ⟨4, 6, 1⟩
/-- Table 3.9: RW, reset 0b0. -/
abbrev TSK_CTL.FLL_HOLD : Fld := ⟨4, 5, 1⟩
/-- Table 3.9: RW, reset 0b0. -/
abbrev TSK_CTL.BAL_EN : Fld := ⟨4, 4, 1⟩
/-- Table 3.9: RW, reset 0b0. -/
abbrev TSK_CTL.RET : Fld := ⟨4, 2, 1⟩
/-- Table 3.9: RW, reset 0b0. -/
abbrev TSK_CTL.EN1 : Fld := ⟨4, 1, 1⟩
/-- Table 3.9: RW, reset 0b0. -/
abbrev TSK_CTL.EN0 : Fld := ⟨4, 0, 1⟩
/-- Table 3.10: RO, reset 0b0. -/
abbrev TSK_STAT.VIB_STOP : Fld := ⟨8, 4, 1⟩
/-- Table 3.10: RO, reset 0b0. -/
abbrev TSK_STAT.SINK_INH : Fld := ⟨8, 3, 1⟩
/-- Table 3.10: W1C, reset 0b0. -/
abbrev TSK_STAT.VIB_OV : Fld := ⟨8, 2, 1⟩
/-- Table 3.10: W1C, reset 0b0. -/
abbrev TSK_STAT.VIB_OOR : Fld := ⟨8, 1, 1⟩
/-- Table 3.10: W1C, reset 0b0. -/
abbrev TSK_STAT.VIB_UV : Fld := ⟨8, 0, 1⟩
/-- Table 3.11: RO, reset 0x0000. -/
abbrev TSK_CFGEP.CFG_EPOCH : Fld := ⟨0xC, 0, 16⟩
/-- Table 3.12: RO, reset measured. -/
abbrev TSK_VIB.VIB : Fld := ⟨0x10, 0, 32⟩
/-- Table 3.13: RO, reset 0x0000. -/
abbrev TSK_SYNC.REJ_CNT : Fld := ⟨0x14, 16, 16⟩
/-- Table 3.13: RO, reset 0x00. -/
abbrev TSK_SYNC.GOOD_CNT : Fld := ⟨0x14, 8, 7⟩
/-- Table 3.13: W1C, reset 0b0. -/
abbrev TSK_SYNC.SYNC_LOST : Fld := ⟨0x14, 2, 1⟩
/-- Table 3.13: RO, reset 0x0. -/
abbrev TSK_SYNC.SRC : Fld := ⟨0x14, 0, 2⟩
/-- Table 6.19: RO, reset 0x0000. -/
abbrev TSK_SWATH.BAD_CNT : Fld := ⟨0x18, 16, 16⟩
/-- Table 6.19: RO, reset 0x00. -/
abbrev TSK_SWATH.EVQ_OVF : Fld := ⟨0x18, 8, 8⟩
/-- Table 6.19: RO, reset 0x0. -/
abbrev TSK_SWATH.EVQ : Fld := ⟨0x18, 4, 4⟩
/-- Table 9.18: RO, reset 0b1. -/
abbrev TSK_RST.RESTORE : Fld := ⟨0x1C, 31, 1⟩
/-- Table 9.18: WO, reset 0b0. -/
abbrev TSK_RST.RELEASE : Fld := ⟨0x1C, 30, 1⟩
/-- Table 3.14: RW, reset Tussock q = 0: 0x000AFC80; q = 1: 0x000C3500. Verge q = 0: 0x000B71B0; q = 1: 0x00118C30. -/
abbrev TSK_VSET.VSET (q : Nat) : Fld := ⟨0x100 + 0x40 * q, 0, 32⟩
/-- Table 3.15: RW, reset 0x00000000. -/
abbrev TSK_VTRIM.VTRIM (q : Nat) : Fld := ⟨0x104 + 0x40 * q, 0, 32⟩
/-- Table 3.16: RO, reset 0x00000000. -/
abbrev TSK_VNOW.VNOW (q : Nat) : Fld := ⟨0x108 + 0x40 * q, 0, 32⟩
/-- Table 3.17: RW, reset 0x10. -/
abbrev TSK_HYST.H (q : Nat) : Fld := ⟨0x10C + 0x40 * q, 0, 6⟩
/-- Table 3.18: RW, reset 0x32. -/
abbrev TSK_SLEW.SLEW (q : Nat) : Fld := ⟨0x110 + 0x40 * q, 0, 8⟩
/-- Table 3.19: RW, reset 0x0000. -/
abbrev TSK_ONDLY.ONDLY (q : Nat) : Fld := ⟨0x114 + 0x40 * q, 0, 16⟩
/-- Table 3.20: RW, reset 0x0064. -/
abbrev TSK_RAMP.OFF_RAMP (q : Nat) : Fld := ⟨0x118 + 0x40 * q, 16, 16⟩
/-- Table 3.20: RW, reset 0x03E8. -/
abbrev TSK_RAMP.ON_RAMP (q : Nat) : Fld := ⟨0x118 + 0x40 * q, 0, 16⟩
/-- Table 3.21: RW, reset 0x28. -/
abbrev TSK_SHED.SHED_I (q : Nat) : Fld := ⟨0x11C + 0x40 * q, 0, 7⟩
/-- Table 3.22: RW, reset 0x8. -/
abbrev TSK_OVS.SINK_LIM (q : Nat) : Fld := ⟨0x120 + 0x40 * q, 8, 4⟩
/-- Table 3.22: RW, reset 0x1E. -/
abbrev TSK_OVS.OV_SOFT (q : Nat) : Fld := ⟨0x120 + 0x40 * q, 0, 7⟩
/-- Table 3.23: RO, reset 0b0. -/
abbrev TSK_KTON.FLL_HELD (q : Nat) : Fld := ⟨0x124 + 0x40 * q, 17, 1⟩
/-- Table 3.23: RO, reset 0b0. -/
abbrev TSK_KTON.FLL_SAT (q : Nat) : Fld := ⟨0x124 + 0x40 * q, 16, 1⟩
/-- Table 3.23: RO, reset 0x8000. -/
abbrev TSK_KTON.K_TON (q : Nat) : Fld := ⟨0x124 + 0x40 * q, 0, 16⟩
/-- Table 3.24: RO, reset 0b0. -/
abbrev TSK_RSTAT.AT_TGT (q : Nat) : Fld := ⟨0x128 + 0x40 * q, 9, 1⟩
/-- Table 3.24: RO, reset 0b0. -/
abbrev TSK_RSTAT.SINK (q : Nat) : Fld := ⟨0x128 + 0x40 * q, 8, 1⟩
/-- Table 3.24: RO, reset 0b0. -/
abbrev TSK_RSTAT.SHED (q : Nat) : Fld := ⟨0x128 + 0x40 * q, 7, 1⟩
/-- Table 3.24: W1C, reset 0b0. -/
abbrev TSK_RSTAT.CARRY_FIRE (q : Nat) : Fld := ⟨0x128 + 0x40 * q, 6, 1⟩
/-- Table 3.24: W1C, reset 0b0. -/
abbrev TSK_RSTAT.PARAM_CLAMP (q : Nat) : Fld := ⟨0x128 + 0x40 * q, 5, 1⟩
/-- Table 3.24: W1C, reset 0b0. -/
abbrev TSK_RSTAT.VSET_CLAMP (q : Nat) : Fld := ⟨0x128 + 0x40 * q, 4, 1⟩
/-- Table 3.24: RO, reset 0x0. -/
abbrev TSK_RSTAT.STATE (q : Nat) : Fld := ⟨0x128 + 0x40 * q, 0, 3⟩
/-- Table 3.25: RW, reset Tussock: 0x0006DDD0. Verge: 0x00000000. -/
abbrev TSK_VRET.VRET : Fld := ⟨0x16C, 0, 32⟩
/-- Table 3.26: W1C, reset 0b0. -/
abbrev TSK_PHCTL.DT_CLAMP (s : Nat) : Fld := ⟨0x200 + 0x20 * s, 25, 1⟩
/-- Table 3.26: W1C, reset 0b0. -/
abbrev TSK_PHCTL.TON_CLAMP (s : Nat) : Fld := ⟨0x200 + 0x20 * s, 24, 1⟩
/-- Table 3.26: RW, reset 0x08. -/
abbrev TSK_PHCTL.DT_LH (s : Nat) : Fld := ⟨0x200 + 0x20 * s, 16, 5⟩
/-- Table 3.26: RW, reset 0x08. -/
abbrev TSK_PHCTL.DT_HL (s : Nat) : Fld := ⟨0x200 + 0x20 * s, 8, 5⟩
/-- Table 3.26: RW, reset 0x40. -/
abbrev TSK_PHCTL.TON_MIN (s : Nat) : Fld := ⟨0x200 + 0x20 * s, 0, 8⟩
/-- Table 3.27: W1C, reset 0b0. -/
abbrev TSK_PHTRIM.TRIM_CLAMP (s : Nat) : Fld := ⟨0x204 + 0x20 * s, 8, 1⟩
/-- Table 3.27: RW, reset 0x00. -/
abbrev TSK_PHTRIM.BAL_TRIM (s : Nat) : Fld := ⟨0x204 + 0x20 * s, 0, 6⟩
/-- Table 3.28: RO, reset 0b0. -/
abbrev TSK_PHSTAT.FORCED_OFF (s : Nat) : Fld := ⟨0x208 + 0x20 * s, 4, 1⟩
/-- Table 3.28: RO, reset 0b0. -/
abbrev TSK_PHSTAT.SUSPENDED (s : Nat) : Fld := ⟨0x208 + 0x20 * s, 3, 1⟩
/-- Table 3.28: RO, reset 0b0. -/
abbrev TSK_PHSTAT.RETIRED (s : Nat) : Fld := ⟨0x208 + 0x20 * s, 2, 1⟩
/-- Table 3.28: RO, reset 0b0. -/
abbrev TSK_PHSTAT.SHED (s : Nat) : Fld := ⟨0x208 + 0x20 * s, 1, 1⟩
/-- Table 3.28: RO, reset 0b0. -/
abbrev TSK_PHSTAT.AVAIL (s : Nat) : Fld := ⟨0x208 + 0x20 * s, 0, 1⟩
/-- Table 3.29: RO, reset 0x00000000. -/
abbrev TSK_PHPULSE.PULSES (s : Nat) : Fld := ⟨0x20C + 0x20 * s, 0, 32⟩
/-- Table 4.5: RW, reset 0b1. -/
abbrev TSK_GORSE.EN : Fld := ⟨0x300, 31, 1⟩
/-- Table 4.5: RW, reset 0x18. -/
abbrev TSK_GORSE.TG : Fld := ⟨0x300, 24, 6⟩
/-- Table 4.5: RW, reset 0x0C. -/
abbrev TSK_GORSE.SG : Fld := ⟨0x300, 16, 6⟩
/-- Table 4.5: RW, reset 0x1E. -/
abbrev TSK_GORSE.DG_ARM : Fld := ⟨0x300, 8, 7⟩
/-- Table 4.5: RW, reset 0x3C. -/
abbrev TSK_GORSE.DG : Fld := ⟨0x300, 0, 7⟩
/-- Table 4.6: RO, reset 0b0. -/
abbrev TSK_GSTAT.ARMED : Fld := ⟨0x304, 6, 1⟩
/-- Table 4.6: RO, reset 0b0. -/
abbrev TSK_GSTAT.BURST : Fld := ⟨0x304, 5, 1⟩
/-- Table 4.6: RO, reset 0b0. -/
abbrev TSK_GSTAT.INT_ARM : Fld := ⟨0x304, 4, 1⟩
/-- Table 4.6: RO, reset 0b0. -/
abbrev TSK_GSTAT.SMALL : Fld := ⟨0x304, 3, 1⟩
/-- Table 4.6: RO, reset 0b0. -/
abbrev TSK_GSTAT.SUPP : Fld := ⟨0x304, 2, 1⟩
/-- Table 4.6: W1C, reset 0b0. -/
abbrev TSK_GSTAT.GCLAMP : Fld := ⟨0x304, 1, 1⟩
/-- Table 4.6: RO, reset 0b0. -/
abbrev TSK_GSTAT.REARM_WAIT : Fld := ⟨0x304, 0, 1⟩
/-- Table 4.7: RO, reset 0x00000000. -/
abbrev TSK_GBURST.BURSTS : Fld := ⟨0x308, 0, 32⟩
/-- Table 4.7: RO, reset 0x00000000. -/
abbrev TSK_TIEPULSE.TIE_PULSES : Fld := ⟨0x30C, 0, 32⟩
/-- Table 4.8: RW, reset 0b1. -/
abbrev TSK_TIE.GUARD_EN : Fld := ⟨0x310, 8, 1⟩
/-- Table 4.8: RW, reset 0x14. -/
abbrev TSK_TIE.HOLD : Fld := ⟨0x310, 0, 8⟩
/-- Table 4.9: RO, reset position. -/
abbrev TSK_TIESTAT.TIED_OFF (n : Nat) : Fld := ⟨0x314, 8 * n + 7, 1⟩
/-- Table 4.9: RO, reset 0b0. -/
abbrev TSK_TIESTAT.CLOSED (n : Nat) : Fld := ⟨0x314, 8 * n + 6, 1⟩
/-- Table 4.9: RO, reset 0b0. -/
abbrev TSK_TIESTAT.ACK_IN (n : Nat) : Fld := ⟨0x314, 8 * n + 5, 1⟩
/-- Table 4.9: W1C, reset 0b0. -/
abbrev TSK_TIESTAT.GUARD (n : Nat) : Fld := ⟨0x314, 8 * n + 4, 1⟩
/-- Table 4.9: W1C, reset 0b0. -/
abbrev TSK_TIESTAT.NOACK (n : Nat) : Fld := ⟨0x314, 8 * n + 3, 1⟩
/-- Table 4.9: RO, reset 0x0. -/
abbrev TSK_TIESTAT.REQ_IN (n : Nat) : Fld := ⟨0x314, 8 * n, 2⟩
/-- Table 4.10: RO, reset 0x0000. -/
abbrev TSK_TIECNT.NOACK_CNT : Fld := ⟨0x318, 16, 16⟩
/-- Table 4.10: RO, reset 0x0000. -/
abbrev TSK_TIECNT.HOLD_CNT : Fld := ⟨0x318, 0, 16⟩
/-- Table 4.11: RO, reset 0x0. -/
abbrev TSK_NBR.OWN_PH : Fld := ⟨0x31C, 4, 4⟩
/-- Table 4.11: RO, reset 0x0. -/
abbrev TSK_NBR.NBR_PH : Fld := ⟨0x31C, 0, 4⟩
/-- Table 4.12: RW, reset 0b1. -/
abbrev TSK_STR.EN : Fld := ⟨0x320, 31, 1⟩
/-- Table 4.12: RO, reset 0b0. -/
abbrev TSK_STR.ACT : Fld := ⟨0x320, 30, 1⟩
/-- Table 4.12: RW, reset 0x10. -/
abbrev TSK_STR.HOLD : Fld := ⟨0x320, 16, 8⟩
/-- Table 4.12: RW, reset 0x50. -/
abbrev TSK_STR.DSTR : Fld := ⟨0x320, 0, 7⟩
/-- Table 4.12: RO, reset 0x00000000. -/
abbrev TSK_STRCNT.RISES : Fld := ⟨0x324, 0, 32⟩
/-- Table 4.13: RW, reset 0x28. -/
abbrev TSK_ICFG.TPRE : Fld := ⟨0x328, 24, 7⟩
/-- Table 4.13: RW, reset 0x32. -/
abbrev TSK_ICFG.EXP : Fld := ⟨0x328, 16, 8⟩
/-- Table 4.13: RW, reset 0x64. -/
abbrev TSK_ICFG.PL_GAIN : Fld := ⟨0x328, 8, 8⟩
/-- Table 4.13: RW, reset 0x20. -/
abbrev TSK_ICFG.PL_MAX : Fld := ⟨0x328, 0, 8⟩
/-- Table 4.14: RO, reset 0x00. -/
abbrev TSK_ISTAT.PL1 : Fld := ⟨0x32C, 24, 8⟩
/-- Table 4.14: RO, reset 0x00. -/
abbrev TSK_ISTAT.PL0 : Fld := ⟨0x32C, 16, 8⟩
/-- Table 4.14: RO, reset 0x0. -/
abbrev TSK_ISTAT.INFLIGHT : Fld := ⟨0x32C, 8, 4⟩
/-- Table 4.14: RO, reset 0b0. -/
abbrev TSK_ISTAT.INT_ARM : Fld := ⟨0x32C, 3, 1⟩
/-- Table 4.14: W1C, reset 0b0. -/
abbrev TSK_ISTAT.ICLAMP : Fld := ⟨0x32C, 2, 1⟩
/-- Table 4.14: W1C, reset 0b0. -/
abbrev TSK_ISTAT.FULL : Fld := ⟨0x32C, 1, 1⟩
/-- Table 4.14: W1C, reset 0b0. -/
abbrev TSK_ISTAT.MALF : Fld := ⟨0x32C, 0, 1⟩
/-- Table 4.15: RO, reset 0x00000000. -/
abbrev TSK_IHIT.HITS : Fld := ⟨0x330, 0, 32⟩
/-- Table 4.15: RO, reset 0x00000000. -/
abbrev TSK_IMISS.MISSES : Fld := ⟨0x334, 0, 32⟩
/-- Table 4.15: RO, reset 0x0000. -/
abbrev TSK_IREJ.FULL_CNT : Fld := ⟨0x338, 16, 16⟩
/-- Table 4.15: RO, reset 0x0000. -/
abbrev TSK_IREJ.MALF_CNT : Fld := ⟨0x338, 0, 16⟩
/-- Table 4.15: RO, reset 0x0000. -/
abbrev TSK_IMRK.MARK_CNT : Fld := ⟨0x33C, 16, 16⟩
/-- Table 4.15: RO, reset 0x0000. -/
abbrev TSK_IMRK.IDLE_CNT : Fld := ⟨0x33C, 0, 16⟩
/-- Table 4.15: RO, reset 0b0. -/
abbrev TSK_OVL.OVL_ACT : Fld := ⟨0x340, 31, 1⟩
/-- Table 4.15: W1C, reset 0b0. -/
abbrev TSK_OVL.OVL : Fld := ⟨0x340, 30, 1⟩
/-- Table 4.15: RW, reset 0x04. -/
abbrev TSK_OVL.OVL_T : Fld := ⟨0x340, 0, 7⟩
/-- Table 5.5: W1C, reset 0b0. -/
abbrev TSK_ILIM.ILIM_CLAMP (s : Nat) : Fld := ⟨0x400 + 0x20 * s, 24, 1⟩
/-- Table 5.5: RO, reset 0x00. -/
abbrev TSK_ILIM.IEFF (s : Nat) : Fld := ⟨0x400 + 0x20 * s, 16, 8⟩
/-- Table 5.5: RW, reset L: 0xB4; A0: 0x6E; K: 0x8C; M: 0x6E. -/
abbrev TSK_ILIM.IPK (s : Nat) : Fld := ⟨0x400 + 0x20 * s, 0, 8⟩
/-- Table 5.6: RWS, reset 0b0. -/
abbrev TSK_PHHLTH.RETIRE (s : Nat) : Fld := ⟨0x404 + 0x20 * s, 31, 1⟩
/-- Table 5.6: WO, reset 0b0. -/
abbrev TSK_PHHLTH.TEST (s : Nat) : Fld := ⟨0x404 + 0x20 * s, 30, 1⟩
/-- Table 5.6: RO, reset 0b0. -/
abbrev TSK_PHHLTH.TEST_BUSY (s : Nat) : Fld := ⟨0x404 + 0x20 * s, 29, 1⟩
/-- Table 5.6: RO, reset 0b0. -/
abbrev TSK_PHHLTH.TEST_PASS (s : Nat) : Fld := ⟨0x404 + 0x20 * s, 28, 1⟩
/-- Table 5.6: RO, reset 0b0. -/
abbrev TSK_PHHLTH.TEST_FAIL (s : Nat) : Fld := ⟨0x404 + 0x20 * s, 27, 1⟩
/-- Table 5.6: W1C, reset 0b0. -/
abbrev TSK_PHHLTH.UNRET_REJ (s : Nat) : Fld := ⟨0x404 + 0x20 * s, 26, 1⟩
/-- Table 5.7: RO, reset 0x00. -/
abbrev TSK_PHFLT.RETRIES (s : Nat) : Fld := ⟨0x408 + 0x20 * s, 24, 8⟩
/-- Table 5.7: RO, reset 0x0. -/
abbrev TSK_PHFLT.RECENT (s : Nat) : Fld := ⟨0x408 + 0x20 * s, 16, 4⟩
/-- Table 5.7: W1C, reset 0b0. -/
abbrev TSK_PHFLT.CRACK (s : Nat) : Fld := ⟨0x408 + 0x20 * s, 6, 1⟩
/-- Table 5.7: W1C, reset 0b0. -/
abbrev TSK_PHFLT.LIMIT (s : Nat) : Fld := ⟨0x408 + 0x20 * s, 5, 1⟩
/-- Table 5.7: W1C, reset 0b0. -/
abbrev TSK_PHFLT.DRV (s : Nat) : Fld := ⟨0x408 + 0x20 * s, 4, 1⟩
/-- Table 5.7: W1C, reset 0b0. -/
abbrev TSK_PHFLT.OPEN (s : Nat) : Fld := ⟨0x408 + 0x20 * s, 3, 1⟩
/-- Table 5.7: W1C, reset 0b0. -/
abbrev TSK_PHFLT.HOC (s : Nat) : Fld := ⟨0x408 + 0x20 * s, 2, 1⟩
/-- Table 5.7: W1C, reset 0b0. -/
abbrev TSK_PHFLT.LSHORT (s : Nat) : Fld := ⟨0x408 + 0x20 * s, 1, 1⟩
/-- Table 5.7: W1C, reset 0b0. -/
abbrev TSK_PHFLT.HSHORT (s : Nat) : Fld := ⟨0x408 + 0x20 * s, 0, 1⟩
/-- Table 5.8: RO, reset 0x00. -/
abbrev TSK_CRK.SKIP_CNT (s : Nat) : Fld := ⟨0x40C + 0x20 * s, 24, 8⟩
/-- Table 5.8: RO, reset 0b0. -/
abbrev TSK_CRK.VALID (s : Nat) : Fld := ⟨0x40C + 0x20 * s, 18, 1⟩
/-- Table 5.8: W1C, reset 0b0. -/
abbrev TSK_CRK.CRK_SUSP (s : Nat) : Fld := ⟨0x40C + 0x20 * s, 17, 1⟩
/-- Table 5.8: W1C, reset 0b0. -/
abbrev TSK_CRK.CRK_WARN (s : Nat) : Fld := ⟨0x40C + 0x20 * s, 16, 1⟩
/-- Table 5.8: RO, reset 0x0000. -/
abbrev TSK_CRK.EST (s : Nat) : Fld := ⟨0x40C + 0x20 * s, 0, 16⟩
/-- Table 5.8: WO, reset 0b0. -/
abbrev TSK_CRKBASE.CAPT (s : Nat) : Fld := ⟨0x410 + 0x20 * s, 31, 1⟩
/-- Table 5.8: RO, reset 0b0. -/
abbrev TSK_CRKBASE.CAPT_PEND (s : Nat) : Fld := ⟨0x410 + 0x20 * s, 30, 1⟩
/-- Table 5.8: RWP, reset 0x0000. -/
abbrev TSK_CRKBASE.BASE (s : Nat) : Fld := ⟨0x410 + 0x20 * s, 0, 16⟩
/-- Table 5.9: RW, reset 0x50. -/
abbrev TSK_RLIM.UV (q : Nat) : Fld := ⟨0x480 + 0x20 * q, 16, 7⟩
/-- Table 5.9: W1C, reset 0b0. -/
abbrev TSK_RLIM.RLIM_CLAMP (q : Nat) : Fld := ⟨0x480 + 0x20 * q, 15, 1⟩
/-- Table 5.9: RW, reset 0x3C. -/
abbrev TSK_RLIM.OV_HARD (q : Nat) : Fld := ⟨0x480 + 0x20 * q, 0, 7⟩
/-- Table 5.10: RO, reset 0x00. -/
abbrev TSK_RFLT.TRIPS (q : Nat) : Fld := ⟨0x484 + 0x20 * q, 24, 8⟩
/-- Table 5.10: RO, reset 0x0. -/
abbrev TSK_RFLT.RECENT (q : Nat) : Fld := ⟨0x484 + 0x20 * q, 16, 4⟩
/-- Table 5.10: RO, reset 0b0. -/
abbrev TSK_RFLT.OV_LATCH (q : Nat) : Fld := ⟨0x484 + 0x20 * q, 3, 1⟩
/-- Table 5.10: RO, reset 0b0. -/
abbrev TSK_RFLT.UV_NOW (q : Nat) : Fld := ⟨0x484 + 0x20 * q, 2, 1⟩
/-- Table 5.10: W1C, reset 0b0. -/
abbrev TSK_RFLT.UV (q : Nat) : Fld := ⟨0x484 + 0x20 * q, 1, 1⟩
/-- Table 5.10: W1C, reset 0b0. -/
abbrev TSK_RFLT.OV (q : Nat) : Fld := ⟨0x484 + 0x20 * q, 0, 1⟩
/-- Table 5.11: RW, reset 0b1. -/
abbrev TSK_OT.SD_CORE : Fld := ⟨0x4C0, 31, 1⟩
/-- Table 5.11: RW, reset position: 0x64 or 0x5F. -/
abbrev TSK_OT.OT_WARN : Fld := ⟨0x4C0, 16, 8⟩
/-- Table 5.11: RW, reset position: 0x78 or 0x73. -/
abbrev TSK_OT.OT_SD : Fld := ⟨0x4C0, 8, 8⟩
/-- Table 5.11: RO, reset measured. -/
abbrev TSK_TEMP.TEMP : Fld := ⟨0x4C4, 0, 32⟩
/-- Table 5.12: RW, reset 0x28. -/
abbrev TSK_HCTL.CRK_IMIN : Fld := ⟨0x4C8, 8, 7⟩
/-- Table 5.12: RW, reset 0b0. -/
abbrev TSK_HCTL.CRK_RET : Fld := ⟨0x4C8, 4, 1⟩
/-- Table 5.12: RW, reset 0x3. -/
abbrev TSK_HCTL.RETRY_MAX : Fld := ⟨0x4C8, 0, 4⟩
/-- Table 5.13: RO, reset 0b0. -/
abbrev TSK_HSTAT.MIF_LOSS : Fld := ⟨0x4CC, 9, 1⟩
/-- Table 5.13: RO, reset 0b0. -/
abbrev TSK_HSTAT.LINK_LOSS : Fld := ⟨0x4CC, 8, 1⟩
/-- Table 5.13: RO, reset 0b0. -/
abbrev TSK_HSTAT.ADOPTED : Fld := ⟨0x4CC, 7, 1⟩
/-- Table 5.13: RO, reset 0b0. -/
abbrev TSK_HSTAT.ARR_LOSS : Fld := ⟨0x4CC, 6, 1⟩
/-- Table 5.13: RO, reset 0b0. -/
abbrev TSK_HSTAT.OT_SD_LATCH : Fld := ⟨0x4CC, 5, 1⟩
/-- Table 5.13: RO, reset 0b0. -/
abbrev TSK_HSTAT.OT_WARN : Fld := ⟨0x4CC, 4, 1⟩
/-- Table 5.13: W1C, reset 0b0. -/
abbrev TSK_HSTAT.SENS_FLT : Fld := ⟨0x4CC, 3, 1⟩
/-- Table 5.13: W1C, reset 0b0. -/
abbrev TSK_HSTAT.OT_CLAMP : Fld := ⟨0x4CC, 2, 1⟩
/-- Table 5.13: W1C, reset 0b0. -/
abbrev TSK_HSTAT.EN_REJ : Fld := ⟨0x4CC, 1, 1⟩
/-- Table 5.13: W1C, reset 0b0. -/
abbrev TSK_HSTAT.HCTL_CLAMP : Fld := ⟨0x4CC, 0, 1⟩
/-- Table 5.14: RO, reset 0x00. -/
abbrev TSK_TIEI.TIEI (n : Nat) : Fld := ⟨0x4D0, 8 * n, 8⟩
/-- Table 7.14: RW, reset 0b1. -/
abbrev TSK_CANARY.EN : Fld := ⟨0x500, 31, 1⟩
/-- Table 7.14: RO, reset 0b0. -/
abbrev TSK_CANARY.WARN : Fld := ⟨0x500, 30, 1⟩
/-- Table 7.14: W1C, reset 0b0. -/
abbrev TSK_CANARY.WARN_L : Fld := ⟨0x500, 29, 1⟩
/-- Table 7.14: RW, reset 0b0. -/
abbrev TSK_CANARY.STR_EN : Fld := ⟨0x500, 28, 1⟩
/-- Table 7.14: W1C, reset 0b0. -/
abbrev TSK_CANARY.STR_L : Fld := ⟨0x500, 27, 1⟩
/-- Table 7.14: W1C, reset 0b0. -/
abbrev TSK_CANARY.CCLAMP : Fld := ⟨0x500, 26, 1⟩
/-- Table 7.14: RO, reset 0x00. -/
abbrev TSK_CANARY.LAST : Fld := ⟨0x500, 16, 8⟩
/-- Table 7.14: RW, reset 0x3. -/
abbrev TSK_CANARY.MARGIN : Fld := ⟨0x500, 8, 3⟩
/-- Table 7.14: RW, reset 0x04. -/
abbrev TSK_CANARY.THRESH : Fld := ⟨0x500, 0, 8⟩
/-- Table 7.15: RO, reset 0x000. -/
abbrev TSK_PACE.STR_LAST : Fld := ⟨0x504, 16, 11⟩
/-- Table 7.15: RW, reset 0x02. -/
abbrev TSK_PACE.STR_LIM : Fld := ⟨0x504, 0, 8⟩
/-- Table 11.1: WO, reset 0b0. -/
abbrev TSK_TCFG.MARK_STALE : Fld := ⟨0x600, 31, 1⟩
/-- Table 11.1: RW, reset 0x0A. -/
abbrev TSK_TCFG.WIN_N : Fld := ⟨0x600, 0, 5⟩
/-- Table 11.1: RO, reset 0b1. -/
abbrev TSK_TSTAT.STALE : Fld := ⟨0x604, 31, 1⟩
/-- Table 11.1: W1C, reset 0b0. -/
abbrev TSK_TSTAT.WCLAMP : Fld := ⟨0x604, 30, 1⟩
/-- Table 11.1: RO, reset 0x0A. -/
abbrev TSK_TSTAT.WIN_N : Fld := ⟨0x604, 16, 5⟩
/-- Table 11.1: RO, reset 0x0000. -/
abbrev TSK_TSTAT.WSEQ : Fld := ⟨0x604, 0, 16⟩
/-- Table 11.1: RO, reset 0x00000000. -/
abbrev TSK_TAV_V.V (q : Nat) : Fld := ⟨0x620 + 0x20 * q, 0, 32⟩
/-- Table 11.1: RO, reset 0x00000000. -/
abbrev TSK_TAV_I.I (q : Nat) : Fld := ⟨0x624 + 0x20 * q, 0, 32⟩
/-- Table 11.1: RO, reset 0x00000000. -/
abbrev TSK_TAV_P.P (q : Nat) : Fld := ⟨0x628 + 0x20 * q, 0, 32⟩
/-- Table 11.1: RO, reset 0x7FFFFFFF. -/
abbrev TSK_TPK_V.VMIN (q : Nat) : Fld := ⟨0x62C + 0x20 * q, 0, 32⟩
/-- Table 11.1: RO, reset 0x80000000. -/
abbrev TSK_TPK_I.IMAX (q : Nat) : Fld := ⟨0x630 + 0x20 * q, 0, 32⟩
/-- Table 11.1: RO, reset 0x00000000. -/
abbrev TSK_TAV_PI.I (s : Nat) : Fld := ⟨0x680 + 0x10 * s, 0, 32⟩
/-- Table 11.1: RO, reset 0x80000000. -/
abbrev TSK_TPK_PI.IMAX (s : Nat) : Fld := ⟨0x684 + 0x10 * s, 0, 32⟩
/-- Table 11.1: RO, reset 0x00000000. -/
abbrev TSK_TAV_T.T : Fld := ⟨0x6C0, 0, 32⟩
/-- Table 11.1: RO, reset 0x80000000. -/
abbrev TSK_TPK_T.TMAX : Fld := ⟨0x6C4, 0, 32⟩
/-- Table 11.1: RO, reset 0x0. -/
abbrev TSK_ILOGIDX.NEXT : Fld := ⟨0x6E0, 0, 3⟩
/-- Table 11.1: RO, reset 0x0000. -/
abbrev TSK_ILOG.TIME (i : Nat) : Fld := ⟨0x700 + 4 * i, 16, 16⟩
/-- Table 11.1: RO, reset 0x0. -/
abbrev TSK_ILOG.OUT (i : Nat) : Fld := ⟨0x700 + 4 * i, 12, 3⟩
/-- Table 11.1: RO, reset 0x0. -/
abbrev TSK_ILOG.TYPE (i : Nat) : Fld := ⟨0x700 + 4 * i, 8, 4⟩
/-- Table 11.1: RO, reset 0x00. -/
abbrev TSK_ILOG.TAG (i : Nat) : Fld := ⟨0x700 + 4 * i, 0, 8⟩

end Sys2Proof.Machine
end

