-- ==== Sys2Proof/Machine/RegTable.lean ====
section
/-! DEFINITION.  The register map: for every register of Table 14.1 its place in
its block, which of its bits are RW, W1C, RWS and RWP (Table 0.6), and its reset
value; and the decoding of a register address (Table 1.15). -/

namespace Sys2Proof.Machine

/-- What the reset value of a register may depend on: the variant fuse code, and
the number of the Sward, Tussock (G) or Verge (8e + v) that holds it. -/
structure RegCtx where
  fuse : Nat
  index : Nat
  verge : Bool
  deriving DecidableEq, Repr

/-- One register (or array of registers) of a block.  An array element i, j lies
at `base + i * stride0 + j * stride1`.  `roFrom` is the first index i from which
the register is read-only. (DESIGN CHOICE: log 2.) -/
structure RegDesc where
  base : Nat
  stride0 : Nat
  count0 : Nat
  stride1 : Nat
  count1 : Nat
  rw : Nat
  w1c : Nat
  rws : Nat
  rwp : Nat
  roFrom : Nat
  tussockOnly : Bool
  reset : RegCtx → Nat → Nat → Nat

/-- A register with a constant reset value. -/
def plainReg (base rw w1c rws rwp reset : Nat) : RegDesc :=
  ⟨base, 4, 1, 4, 1, rw, w1c, rws, rwp, 5000, false, fun _ _ _ => reset⟩

/-- An array of registers with a constant reset value. -/
def arrayReg (base stride0 count0 rw w1c rws rwp reset : Nat) : RegDesc :=
  ⟨base, stride0, count0, 4, 1, rw, w1c, rws, rwp, 5000, false, fun _ _ _ => reset⟩

/-- A register of the Tussock only (R27 and the tables of chapter 04). -/
def tussockReg (base rw w1c rws rwp reset : Nat) : RegDesc :=
  { plainReg base rw w1c rws rwp reset with tussockOnly := true }

/-- The variant whose limits a fuse code selects (Table 0.1, R8). -/
def fuseValid (fuse : Nat) : Bool := fuse == 1 || fuse == 2 || fuse == 3

/-- Input cap of the variant in W (Table 0.1, R8). -/
def variantCapW (fuse : Nat) : Nat := if fuse = 1 then 30000 else if fuse = 2 then 24000 else 18000

/-- Top rung of the variant (Table 0.1, R8). -/
def variantTopRung (fuse : Nat) : Nat := if fuse = 1 then 31 else if fuse = 2 then 27 else 21

/-- Fixed-pace rung of the variant (Table 0.1, R8). -/
def variantPaceRung (fuse : Nat) : Nat := if fuse = 1 then 23 else if fuse = 2 then 19 else 15

/-- HTH_IDENT but for the mask revision's minor number and the active Heath
(Table 0.2, R8, R9). -/
def identReset (fuse : Nat) : Nat :=
  0xD5100000 + fuse % 16 * 2 ^ 12 + bit (!fuseValid fuse) * 2 ^ 11 + variantPaceRung fuse * 2 ^ 5 + variantTopRung fuse

/-- The partition of entry i in the reset switch-on order (R312). -/
def seqPart (i : Nat) : Nat :=
  let z := i % 16
  let k := i / 16
  8 * (2 * (z / 4) + k / 2) + 2 * (z % 4) + k % 2

/-- SEV, ESC and MIN of each fault source (Table 12.1), as (SEV, ESC, MIN). -/
def severityTable : List (Nat × Nat × Nat) :=
  [(1, 1, 0), (2, 2, 1), (2, 3, 2), (2, 2, 1), (1, 1, 0), (3, 4, 2), (2, 2, 1), (3, 4, 2), (1, 1, 0),
   (2, 3, 1), (4, 5, 4), (2, 3, 1), (1, 1, 0), (2, 2, 1), (4, 4, 2), (2, 2, 2), (2, 2, 1), (2, 2, 1),
   (2, 2, 1), (1, 1, 0), (1, 1, 0), (0, 0, 0), (0, 0, 0), (1, 1, 0), (1, 1, 0), (1, 1, 0), (3, 4, 2),
   (2, 2, 1), (1, 1, 0), (3, 4, 2), (1, 1, 0), (2, 2, 1), (2, 2, 1), (2, 2, 1), (2, 3, 2), (3, 3, 2),
   (2, 2, 0), (2, 2, 2), (2, 2, 1), (1, 1, 0), (2, 2, 2), (2, 2, 1), (3, 3, 2), (2, 2, 1), (2, 2, 1),
   (2, 2, 1), (2, 3, 1), (2, 2, 1), (2, 2, 1), (1, 1, 0), (0, 0, 0), (2, 2, 1), (2, 2, 1), (2, 2, 0),
   (2, 2, 1), (1, 1, 0), (2, 2, 1), (2, 2, 1), (5, 5, 4), (2, 2, 2), (2, 2, 1), (1, 1, 0), (2, 2, 1),
   (2, 2, 0)]

/-- Reset value of HTH_FSEV[c]: IRQ_EN, ALERT_EN, GRACE 0xC and Table 12.1. -/
def fsevReset (c : Nat) : Nat :=
  match severityTable.getD c (0, 0, 0) with
  | (sev, esc, min) => 0xC00C0000 + min * 2 ^ 24 + esc * 2 ^ 8 + sev

/-- The channel of entry e of converter c's reset sequence table (Table 10.3). -/
def seqChannel (c e : Nat) : Nat :=
  if e < 8 then e + (if c = 0 then 0 else if c = 1 then 16 else if c = 2 then 8 else 24)
  else if e = 8 then (if c = 0 then 32 else if c = 1 then 33 else if c = 2 then 36 else 37)
  else if e = 9 then (if c = 0 then 34 else if c = 1 then 35 else if c = 2 then 38 else 39)
  else 40 + c

/-- Reset value of MTR_SEQ[c][e] (Table 10.3). -/
def meterSeqReset (c e : Nat) : Nat := if e < 11 then 0x100 + seqChannel c e else 0

/-- The CRC-32 of R246 over a ladder bank that holds the default curve of R235. -/
def defaultCurveCrc : Nat := 0x0AACD4A9

/-- The default curve of R235 as the word of rungs 2m and 2m + 1. -/
def curveWord (m : Nat) : Nat := (259 + 6 * m) * 2 ^ 16 + (256 + 6 * m)

/-- The unit reference of a whole Tussock or Verge (Table 1.3). -/
def unitRef (c : RegCtx) : Nat := (if c.verge then 0x40000000 else 0) + c.index % 4096 * 2 ^ 16

/-- Reset set-points (Table 3.2 and the table of TSK_VSET), in µV. -/
def vsetReset (c : RegCtx) (q : Nat) : Nat :=
  if c.verge then (if q = 0 then 750000 else 1150000) else (if q = 0 then 720000 else 800000)

/-- Reset IPK codes (Table 5.1). -/
def ilimReset (c : RegCtx) (s : Nat) : Nat :=
  if c.verge then (if s < 2 then 0x8C else 0x6E) else (if s < 2 then 0xB4 else if s = 2 then 0x6E else 0)

/-- Reset thresholds of TSK_OT by position (R182). -/
def otReset (c : RegCtx) : Nat :=
  if c.verge || isEdgeTussock c.index then 0x805F7300 else 0x80647800

/-- TSK_TIESTAT at reset: TIED_OFF of each port with no neighbour (R26). -/
def tiestatReset (c : RegCtx) : Nat :=
  ((List.range 4).map fun n => if (neighbour c.index n).isNone then 2 ^ (8 * n + 7) else 0).sum

/-- Zero in Tussock slot 3 (R27), the given value elsewhere. -/
def slotReset (v : Nat) (c : RegCtx) (s : Nat) : Nat := if !c.verge && s = 3 then 0 else v

/-- The registers of the Heath, part 1: HTH_IDENT to HTH_WSUM. -/
def heathRegs1 : List RegDesc :=
  [ ⟨0, 4, 1, 4, 1, 0, 0, 0, 0, 5000, false, fun c _ _ => identReset c.fuse⟩ /- HTH_IDENT -/,
    plainReg 8 0 0x40 0 0 0 /- HTH_PINSTAT -/,
    plainReg 0x20 0 0 0 1 0 /- HTH_HLTHCTL -/,
    plainReg 0x40 0 0x10018000 0 0 0 /- HTH_BUSTAT -/,
    plainReg 0x44 0 0 0 0 0 /- HTH_RSTCTL -/,
    plainReg 0x48 0 0x40000000 0 0 0 /- HTH_HBSTAT -/,
    plainReg 0x50 0 0 0 0 0 /- HTH_LIVE_LO -/,
    plainReg 0x54 0 0 0 0 0 /- HTH_LIVE_HI -/,
    plainReg 0x58 0 0 0 0 0 /- HTH_UNREACH_LO -/,
    plainReg 0x5C 0 0 0 0 0 /- HTH_UNREACH_HI -/,
    ⟨0x100, 4, 64, 4, 1, 0, 0, 0, 0x8000FF3F, 5000, false, fun _ i _ => 0x100 + seqPart i⟩ /- HTH_SEQ -/,
    plainReg 0x60000 0 0 0 0 0 /- HTH_WTIME_LO -/,
    plainReg 0x60004 0 0 0 0 0 /- HTH_WTIME_HI -/,
    plainReg 0x60008 0 0xC 0 0 0 /- HTH_TBSTAT -/,
    plainReg 0x100000 1 0x1C 0 0 0 /- HTH_MAPCTL -/,
    plainReg 0x100004 0xFFF 0 0 0 0 /- HTH_LSEL -/,
    ⟨0x101000, 4, 4096, 4, 1, 0, 0, 0, 0x80000FFF, 5000, false, fun _ i _ => 0x80000000 + i⟩ /- HTH_LMAP -/,
    ⟨0x10000, 4, 1, 4, 1, 0, 0, 0, 0xFFFF, 5000, false, fun c _ _ => variantCapW c.fuse⟩ /- HTH_CAPREQ -/,
    ⟨0x10004, 4, 1, 4, 1, 0, 0x800000, 0, 0, 5000, false, fun c _ _ => variantCapW c.fuse⟩ /- HTH_CAPEFF -/,
    plainReg 0x10008 0 0 0 0xFFFF007F 0xA000032 /- HTH_CAPCFG -/,
    plainReg 0x1000C 0x80003FFF 0 0 0x7FF0000 0x4922A6 /- HTH_EFF -/,
    plainReg 0x10010 0 0 0 0xFFF0FFFF 0x4010100A /- HTH_FASTCFG -/,
    plainReg 0x10014 0 0xF 0 0 0 /- HTH_FASTSTAT -/,
    plainReg 0x10018 0 0 0 0 0 /- HTH_WSUM -/ ]

/-- The registers of the Heath, part 2: HTH_WEST to HTH_FESC_LO. -/
def heathRegs2 : List RegDesc :=
  [ plainReg 0x1001C 0 0 0 0 0 /- HTH_WEST -/,
    plainReg 0x10020 0 0 0 0 0 /- HTH_EPOCH -/,
    plainReg 0x10024 0 0 0 0 0 /- HTH_FASTCNT -/,
    ⟨0x10040, 4, 8, 4, 1, 0, 0, 0, 0xFFFFFF, 5000, false, fun _ i _ => 0x0014FFFF + i * 0x00050000⟩ /- HTH_DERATE -/,
    plainReg 0x10060 0 0x20000 0 0 0x1FFFF /- HTH_DERSTAT -/,
    plainReg 0x10064 0 0 0 0 0 /- HTH_INLET -/,
    plainReg 0x10070 0 0 0 0xFFFFFF 0x90503 /- HTH_LNKBUD -/,
    arrayReg 0x10100 4 64 0 0 0 0 0 /- HTH_PLEASE -/,
    plainReg 0x10800 0 0 0 0xFF3FFFFF 0x1000000 /- HTH_CMNCFG -/,
    ⟨0x10804, 4, 1, 4, 1, 0, 0, 0, 0xFFFFFFFF, 5000, false, fun c _ _ => variantCapW c.fuse⟩ /- HTH_CMNCAP -/,
    plainReg 0x10808 0 0 0 0xFFFFFFFF 0x505F0014 /- HTH_CMNGAIN -/,
    plainReg 0x1080C 0 0x30000000 0 0 0 /- HTH_CMNSTAT -/,
    plainReg 0x10810 0 0 0 0 0 /- HTH_CMNGRANT -/,
    plainReg 0x10814 0 0 0 0 0 /- HTH_CMNBAR -/,
    plainReg 0x10818 0 0 0 0 0 /- HTH_CMNCNT -/,
    plainReg 0x10F00 0 0 0 0x8000000F 2 /- HTH_PACECTL -/,
    plainReg 0x10F04 0 0x40000000 0 0 0 /- HTH_PACESTAT -/,
    plainReg 0x20000 0 0xE0000000 0 0 0 /- HTH_FSTAT -/,
    plainReg 0x20004 0 0 0 0 0 /- HTH_FACK -/,
    plainReg 0x20008 0 0 0 0 0 /- HTH_FPEND_LO -/,
    plainReg 0x2000C 0 0 0 0 0 /- HTH_FPEND_HI -/,
    plainReg 0x20010 0 0 0 0 0 /- HTH_FGRACE_LO -/,
    plainReg 0x20014 0 0 0 0 0 /- HTH_FGRACE_HI -/,
    plainReg 0x20018 0 0xFFFFFFFF 0 0 0 /- HTH_FESC_LO -/ ]

/-- The registers of the Heath, part 3: HTH_FESC_HI to HTH_FSUB. -/
def heathRegs3 : List RegDesc :=
  [ plainReg 0x2001C 0 0xFFFFFFFF 0 0 0 /- HTH_FESC_HI -/,
    plainReg 0x20020 0 0 0 0 0 /- HTH_FCONT_LO -/,
    plainReg 0x20024 0 0 0 0 0 /- HTH_FCONT_HI -/,
    plainReg 0x20030 0 0x80000000 0 0 0 /- HTH_FEC_INFO -/,
    plainReg 0x20034 0 0 0 0 0 /- HTH_FEC_UNIT -/,
    plainReg 0x20038 0 0 0 0 0 /- HTH_FEC_ADDR -/,
    plainReg 0x2003C 0 0 0 0 0 /- HTH_FEC_TLO -/,
    plainReg 0x20040 0 0 0 0 0 /- HTH_FEC_THI -/,
    plainReg 0x20048 0 0 0 0 0 /- HTH_FRING_WP -/,
    plainReg 0x2004C 0xFFFFFFFF 0 0 0 0 /- HTH_FRING_RP -/,
    plainReg 0x20050 0 0 0 0 0 /- HTH_FRING_STAT -/,
    plainReg 0x20058 0 0 0 0 0x3F000000 /- HTH_FBUF -/,
    plainReg 0x2005C 0 0 0 0 0 /- HTH_FBUFCNT -/,
    plainReg 0x20060 0 0 0 0x81F00000 0 /- HTH_FTRC -/,
    plainReg 0x20064 0 0 0 0xFFFFFFFF 0 /- HTH_FTRC_BASE_LO -/,
    plainReg 0x20068 0 0 0 0xFFFFFFFF 0 /- HTH_FTRC_BASE_HI -/,
    plainReg 0x20070 0 0 0 0 0 /- HTH_LFCTL -/,
    plainReg 0x20080 0 0 0 0 0 /- HTH_FINJ_CTL -/,
    plainReg 0x20084 0xFFFFFFFF 0 0 0 0 /- HTH_FINJ_UNIT -/,
    plainReg 0x20088 0xFFFFFFFF 0 0 0 0 /- HTH_FINJ_DA -/,
    plainReg 0x2008C 0xFFFFFFFF 0 0 0 0 /- HTH_FINJ_DB -/,
    ⟨0x20100, 4, 64, 4, 1, 0, 0, 0, 0xC00F0707, 5000, false, fun _ i _ => fsevReset i⟩ /- HTH_FSEV -/,
    arrayReg 0x20200 4 64 0 0 0 0 0 /- HTH_FCNT -/,
    arrayReg 0x20300 4 64 0 0 0 0 0 /- HTH_FSUB -/ ]

/-- The registers of the Heath, part 4: HTH_LFREC to MTR_WLO. -/
def heathRegs4 : List RegDesc :=
  [ ⟨0x21000, 0x40, 16, 4, 16, 0, 0, 0, 0, 5000, false, fun _ _ _ => 0⟩ /- HTH_LFREC -/,
    ⟨0x800000, 0x20, 1024, 4, 8, 0, 0, 0, 0, 5000, false, fun _ _ _ => 0⟩ /- HTH_FREC -/,
    plainReg 0x30000 0 0 0 0xA0FF00FF 0x80320014 /- MTR_CFG -/,
    plainReg 0x30004 0 0xFF 0 0 0 /- MTR_STAT -/,
    plainReg 0x30008 0 0 0 0 0 /- MTR_PERIOD -/,
    plainReg 0x3000C 0 0x40000000 0 0 0 /- MTR_URG -/,
    plainReg 0x30010 0x33F 0x1C000000 0 0 0 /- MTR_CALCMD -/,
    plainReg 0x30014 0xFFFFFFFF 0 0 0 0 /- MTR_CALREF -/,
    plainReg 0x30018 0 0 0 0 0 /- MTR_PIN -/,
    plainReg 0x3001C 0 0 0 0 0 /- MTR_RNDSTAT -/,
    plainReg 0x30020 0 0 0 0 0 /- MTR_ENERGY_LO -/,
    plainReg 0x30024 0 0 0 0 0 /- MTR_ENERGY_HI -/,
    plainReg 0x30028 0 0xFFFFFFFF 0 0 0 /- MTR_OW0 -/,
    plainReg 0x3002C 0 0xFF 0 0 0 /- MTR_OW1 -/,
    plainReg 0x30030 0 0 0 0xFFFF 0xFFFF /- MTR_FEEDCFG -/,
    arrayReg 0x30040 8 4 0 0 0 0 0 /- MTR_DATA -/,
    arrayReg 0x30044 8 4 0 0 0 0 0 /- MTR_DSTAT -/,
    arrayReg 0x30080 4 16 0 0 0 0 0 /- MTR_FPWR -/,
    arrayReg 0x30100 4 44 0 0 0 0 0 /- MTR_VAL -/,
    ⟨0x30200, 4, 44, 4, 1, 0, 0, 0, 0xFFFFFFFF, 40, false, fun _ _ _ => 0x001312D0⟩ /- MTR_CALG -/,
    ⟨0x30300, 4, 44, 4, 1, 0, 0, 0, 0x80FFFFFF, 40, false, fun _ i _ => if 40 ≤ i then 0x80000000 else 0⟩ /- MTR_CALZ -/,
    ⟨0x30400, 4, 44, 4, 1, 0, 0, 0, 0xFFFFFFFF, 40, false, fun _ _ _ => 0⟩ /- MTR_CALRZ -/,
    ⟨0x31000, 0x80, 4, 4, 32, 0, 0, 0, 0x3FFFF3F, 5000, false, fun _ i j => meterSeqReset i j⟩ /- MTR_SEQ -/,
    ⟨0x32000, 0x100, 4, 8, 32, 0, 0, 0, 0xFFFFFFFF, 5000, false, fun _ _ _ => 0x80000000⟩ /- MTR_WLO -/ ]

/-- The registers of the Heath, part 5: MTR_WHI to HTH_SWSTAT. -/
def heathRegs5 : List RegDesc :=
  [ ⟨0x32004, 0x100, 4, 8, 32, 0, 0, 0, 0xFFFFFFFF, 5000, false, fun _ _ _ => 0x7FFFFFFF⟩ /- MTR_WHI -/,
    arrayReg 0x33000 4 4 0 0xFFFFFFFF 0 0 0 /- MTR_WSTAT -/,
    plainReg 0x40000 0 0 0 0 0 /- HTH_NVMCMD -/,
    plainReg 0x40004 0 0xE03F00 0 0 0 /- HTH_NVMSTAT -/,
    arrayReg 0x40010 8 6 0 0 0 0 0 /- HTH_NVMREG -/,
    arrayReg 0x40014 8 6 0 0 0 0 0 /- HTH_NVMSEQ -/,
    plainReg 0x40040 0 0x7000000 0 0 0 /- HTH_IMGSTAT -/,
    plainReg 0x40044 0 0 0 0 0 /- HTH_IMGSEQ_A -/,
    plainReg 0x40048 0 0 0 0 0 /- HTH_IMGSEQ_B -/,
    plainReg 0x4004C 0x40000000 0 0 0x80000000 0 /- HTH_IMGCFG -/,
    plainReg 0x40050 0 0 0 0 0 /- HTH_FLSTAT -/,
    arrayReg 0x40060 4 8 0 0 0 0xFFFFFFFF 0 /- HTH_IMGDIG -/,
    plainReg 0x50000 0 0 0 0x80000000 0 /- HTH_SMBCFG -/,
    plainReg 0x50004 0 0xF8000000 0 0 0 /- HTH_SMBSTAT -/,
    plainReg 0x50008 0 0 0 0 0 /- HTH_SMBCNT -/,
    plainReg 0x50010 0 0 0 0 0 /- HTH_SWSTAT -/ ]

/-- The registers of the Heath. -/
def heathRegs : List RegDesc :=
  heathRegs1 ++ heathRegs2 ++ heathRegs3 ++ heathRegs4 ++ heathRegs5

/-- The registers of a Sward, part 1: SWD_BSTAT to SWD_DOMSTAT. -/
def swardRegs1 : List RegDesc :=
  [ plainReg 8 0 0xFC 0 0 0 /- SWD_BSTAT -/,
    plainReg 0x40 0 0 0xC0FFFFFF 0 0xC0648060 /- SWD_LDCTL -/,
    plainReg 0x44 0 0 0x7F00FF 0 0x400040 /- SWD_LDCFG -/,
    plainReg 0x48 0 0x3FE0000 0 0 0 /- SWD_LDSTAT -/,
    plainReg 0x4C 0 0 0 0 0 /- SWD_LDCMD -/,
    ⟨0x50, 4, 1, 4, 1, 0, 0, 0, 0, 5000, false, fun _ _ _ => defaultCurveCrc⟩ /- SWD_LDCRC -/,
    ⟨0x54, 4, 1, 4, 1, 0xFFFFFFFF, 0, 0, 0, 5000, false, fun _ _ _ => defaultCurveCrc⟩ /- SWD_LDSHCRC -/,
    plainReg 0x58 0 0 0 0 0 /- SWD_LDWALK -/,
    plainReg 0x5C 0 0 0 0 0 /- SWD_LDRES -/,
    plainReg 0x60 0 0 0 0 0 /- SWD_LDCNT -/,
    ⟨0x64, 4, 1, 4, 1, 0, 0, 0, 0, 5000, false, fun c _ _ => variantPaceRung c.fuse * 2 ^ 16⟩ /- SWD_RUNGSTAT -/,
    arrayReg 0x80 4 8 0 0 0xFFFFFFFF 0 0 /- SWD_LDBUMP -/,
    plainReg 0x100 0 6 0 0 8 /- SWD_LEASE -/,
    plainReg 0x104 0 0 0 0 0 /- SWD_LBUD -/,
    plainReg 0x108 0 0 0 0 0 /- SWD_LFLR -/,
    ⟨0x10C, 4, 1, 4, 1, 0, 0, 0, 0, 5000, false, fun c _ _ => 0x1F00 + variantTopRung c.fuse⟩ /- SWD_BRAKE -/,
    ⟨0x140, 8, 8, 4, 1, 0, 0, 0x80FF1FFF, 0, 5000, false, fun _ i _ => 0x00101F00 + (if i = 0 then 2 ^ 31 else 0)⟩ /- SWD_CTX -/,
    arrayReg 0x144 8 8 0 0 0 0 0 /- SWD_CTXPTR -/,
    plainReg 0x180 0 0x30 0 0 0 /- SWD_CTXSTAT -/,
    plainReg 0x184 0x800007FF 0 0 0 0x80000000 /- SWD_SWIDX -/,
    plainReg 0x188 0 0 0xFFFFFFFF 0 0 /- SWD_SWDATA -/,
    plainReg 0x18C 0 0 0 0 0x200 /- SWD_SWSTAT -/,
    ⟨0x1000, 4, 1, 4, 1, 0, 0, 0xFE, 0, 5000, false, fun c _ _ => if isEdge c.index then 0xCA else 0x0A⟩ /- SWD_DOMCTL -/,
    plainReg 0x1004 0 0x38000000 0 0 0 /- SWD_DOMSTAT -/ ]

/-- The registers of a Sward, part 2: SWD_DOMCFG to SWD_ESTAT.  Word 9 of a slot's descriptor,
which Table 6.6 reserves without a name, stands here as a register that reads zero.
(DESIGN CHOICE: log 68.) -/
def swardRegs2 : List RegDesc :=
  [ plainReg 0x1008 0 0 0xFF 0 0x64 /- SWD_DOMCFG -/,
    plainReg 0x1010 0 0 0 0 0 /- SWD_RSTCMD -/,
    plainReg 0x1014 0 0x300 0 0 0 /- SWD_RSTSTAT -/,
    arrayReg 0x1100 4 72 0 0 0 0 0 /- SWD_UEPOCH -/,
    ⟨0x2000, 0x40, 64, 4, 16, 0, 0, 0, 0, 5000, false, fun _ _ j => curveWord j⟩ /- SWD_LDA -/,
    ⟨0x3000, 0x40, 64, 4, 16, 0x81FF81FF, 0, 0, 0, 5000, false, fun _ _ j => curveWord j⟩ /- SWD_LDS -/,
    arrayReg 0x4000 0x40 256 0 0 0xBFFFF000 0 0 /- SWD_SCTL -/,
    arrayReg 0x4004 0x40 256 0 0 0xFF0FFFFF 0 0 /- SWD_SSEL -/,
    arrayReg 0x4008 0x40 256 0 0 0xFFFFFFFF 0 0 /- SWD_SKP -/,
    arrayReg 0x400C 0x40 256 0 0 0xFFFFFFFF 0 0 /- SWD_SKI -/,
    arrayReg 0x4010 0x40 256 0 0 0xFFFFFFFF 0 0 /- SWD_SKFF -/,
    arrayReg 0x4014 0x40 256 0 0 0xFFFFFFFF 0 0 /- SWD_SOMIN -/,
    arrayReg 0x4018 0x40 256 0 0 0xFFFFFFFF 0 0 /- SWD_SOMAX -/,
    arrayReg 0x401C 0x40 256 0 0 0x7FFFFFFF 0 0 /- SWD_SSLEW -/,
    arrayReg 0x4020 0x40 256 0 0 0xF87F000F 0 0 /- SWD_SDEST -/,
    arrayReg 0x4024 0x40 256 0 0 0 0 0 /- SWD_SRSV -/,
    arrayReg 0x4028 0x40 256 0xFFFFFFFF 0 0 0 0 /- SWD_SINTLO -/,
    arrayReg 0x402C 0x40 256 0xFFFFFFFF 0 0 0 0 /- SWD_SINTHI -/,
    arrayReg 0x4030 0x40 256 0xFFFFFFFF 0 0 0 0 /- SWD_SNS1 -/,
    arrayReg 0x4034 0x40 256 0xFFFFFFFF 0 0 0 0 /- SWD_SNS2 -/,
    arrayReg 0x4038 0x40 256 0xFFFFFFFF 0 0 0 0 /- SWD_SOUT -/,
    arrayReg 0x403C 0x40 256 0 8 0 0 0 /- SWD_SSTAT -/,
    plainReg 0x8000 0xC0000000 0 0 0 0 /- SWD_SCHED -/,
    plainReg 0x8004 0 0x3D 0 0 0 /- SWD_ESTAT -/ ]

/-- The registers of a Sward, part 3: SWD_LOAD to SWD_CPRE_LO. -/
def swardRegs3 : List RegDesc :=
  [ plainReg 0x8008 0 0 0 0 0 /- SWD_LOAD -/,
    plainReg 0x800C 0 0 0 0 0 /- SWD_FNUM -/,
    arrayReg 0x8010 4 8 0 0xFFFFFFFF 0 0 0 /- SWD_MISSMAP -/,
    ⟨0x8030, 4, 1, 4, 1, 0, 0, 0x1F1F, 0, 5000, false, fun c _ _ => variantPaceRung c.fuse * 257⟩ /- SWD_RUNGCTL -/,
    plainReg 0x8034 0 0x800000 0 0 0 /- SWD_KAT -/,
    plainReg 0x8038 0 0xFFFF 0 0 0 /- SWD_SWERR -/,
    arrayReg 0x8040 4 8 0 0 0x8000007F 0 0 /- SWD_CTAP -/,
    plainReg 0x8060 0x3FF 0 0 0 0 /- SWD_SIGIDX -/,
    plainReg 0x8064 0 0 0 0 0 /- SWD_SIGVAL -/,
    arrayReg 0x8100 0x20 16 0 0 0xFFFFFFFF 0 0x40000000 /- SWD_NCOEF_B0 -/,
    arrayReg 0x8104 0x20 16 0 0 0xFFFFFFFF 0 0 /- SWD_NCOEF_B1 -/,
    arrayReg 0x8108 0x20 16 0 0 0xFFFFFFFF 0 0 /- SWD_NCOEF_B2 -/,
    arrayReg 0x810C 0x20 16 0 0 0xFFFFFFFF 0 0 /- SWD_NCOEF_A1 -/,
    arrayReg 0x8110 0x20 16 0 0 0xFFFFFFFF 0 0 /- SWD_NCOEF_A2 -/,
    arrayReg 0x8400 4 256 0 0 0xFFFFFFFF 0 0 /- SWD_PARAM -/,
    arrayReg 0x9000 0x100 16 0 0 0xBFFF03FF 0 0 /- SWD_PRCTL -/,
    arrayReg 0x9004 0x100 16 0 0 0 0 0 /- SWD_PROUT -/,
    ⟨0x9040, 0x100, 16, 4, 16, 0, 0, 0xFFFFFFFF, 0, 5000, false, fun _ _ _ => 0⟩ /- SWD_PRTAP -/,
    arrayReg 0xA000 8 96 0 0 0 0 0 /- SWD_CNT_LO -/,
    arrayReg 0xA004 8 96 0 0 0 0 0 /- SWD_CNT_HI -/,
    arrayReg 0xA300 8 96 0 0 0 0 0 /- SWD_CSNAP_LO -/,
    arrayReg 0xA304 8 96 0 0 0 0 0 /- SWD_CSNAP_HI -/,
    arrayReg 0xA600 4 96 0 0 0x307 0 0 /- SWD_CCFG -/,
    arrayReg 0xA800 8 96 0 0 0xFFFFFFFF 0 0 /- SWD_CPRE_LO -/ ]

/-- The registers of a Sward, part 4: SWD_CPRE_HI to SWD_TDEST_HI. -/
def swardRegs4 : List RegDesc :=
  [ arrayReg 0xA804 8 96 0 0 0xFFFF 0 0 /- SWD_CPRE_HI -/,
    plainReg 0xAB00 0 0 0 0 0 /- SWD_CCMD -/,
    plainReg 0xAB04 0 0xC0000000 0 0 0 /- SWD_CSTAT -/,
    arrayReg 0xAB08 4 3 0 0xFFFFFFFF 0 0 0 /- SWD_COVF -/,
    plainReg 0xAB20 0 0xC0000000 0 0 0 /- SWD_CSAMP -/,
    plainReg 0xAB24 0 0 0 0 0 /- SWD_CSAMPT -/,
    arrayReg 0xAB40 0x10 4 0 0 0x873FFF00 0 0x73FFF00 /- SWD_CFCTL -/,
    arrayReg 0xAB44 0x10 4 0 0 0xFFF0FFF 0 0xFFF0000 /- SWD_CFMID -/,
    arrayReg 0xAB48 0x10 4 0 0 0x3FFFFFFF 0 0 /- SWD_CFALO -/,
    arrayReg 0xAB4C 0x10 4 0 0 0x3FFFFFFF 0 0x3FFFFFFF /- SWD_CFAHI -/,
    plainReg 0xAB80 0 0 0x80000000 0 0 /- SWD_UAPCTL -/,
    plainReg 0xB000 0 0 0x8000001F 0 0xA /- SWD_TACFG -/,
    plainReg 0xB004 0 0x40000000 0 0 0x80000000 /- SWD_TASTAT -/,
    arrayReg 0xB010 4 5 0 0 0 0 0 /- SWD_TAPWR -/,
    plainReg 0xB024 0 0 0 0 0 /- SWD_TAVMIN -/,
    plainReg 0xB028 0 0 0 0 0 /- SWD_TAVMIN_U -/,
    plainReg 0xB02C 0 0 0 0 0 /- SWD_TAIMAX -/,
    plainReg 0xB030 0 0 0 0 0 /- SWD_TAIMAX_U -/,
    plainReg 0xB034 0 0 0 0 0 /- SWD_TATMAX -/,
    plainReg 0xB038 0 0 0 0 0 /- SWD_TATMAX_U -/,
    plainReg 0xB040 0 0 0 0 0 /- SWD_TAENERGY_LO -/,
    plainReg 0xB044 0 0 0 0 0 /- SWD_TAENERGY_HI -/,
    plainReg 0xB048 0 0 0xFFFFFFFF 0 0 /- SWD_TDEST_LO -/,
    plainReg 0xB04C 0 0 0xFFFFFFFF 0 0 /- SWD_TDEST_HI -/ ]

/-- The registers of a Sward, part 5: SWD_TRCFG to SWD_FSTAT. -/
def swardRegs5 : List RegDesc :=
  [ plainReg 0xB080 0 0 0x81FF000F 0 1 /- SWD_TRCFG -/,
    plainReg 0xB084 0 0 0 0 0 /- SWD_TRSTAT -/,
    plainReg 0xB088 0 0 0xFFFFFFFF 0 0 /- SWD_TRBASE_LO -/,
    plainReg 0xB08C 0 0 0xFFFFFFFF 0 0 /- SWD_TRBASE_HI -/,
    arrayReg 0xB090 4 14 0 0 0x3FF 0 0 /- SWD_TRSEL -/,
    plainReg 0xC000 0 0xC0000000 0 0 0 /- SWD_FSTAT -/ ]

/-- The registers of a Sward. -/
def swardRegs : List RegDesc :=
  swardRegs1 ++ swardRegs2 ++ swardRegs3 ++ swardRegs4 ++ swardRegs5

/-- The registers of a Tussock or Verge, part 1: TSK_UNIT to TSK_PHPULSE. -/
def unitRegs1 : List RegDesc :=
  [ ⟨0, 4, 1, 4, 1, 0, 0, 0, 0, 5000, false, fun c _ _ => unitRef c⟩ /- TSK_UNIT -/,
    plainReg 4 0x77 0 0 0 0 /- TSK_CTL -/,
    plainReg 8 0 7 0 0 0 /- TSK_STAT -/,
    plainReg 0xC 0 0 0 0 0 /- TSK_CFGEP -/,
    plainReg 0x10 0 0 0 0 0 /- TSK_VIB -/,
    plainReg 0x14 0 4 0 0 0 /- TSK_SYNC -/,
    plainReg 0x18 0 0 0 0 0 /- TSK_SWATH -/,
    plainReg 0x1C 0 0 0 0 0x80000000 /- TSK_RST -/,
    ⟨0x100, 0x40, 2, 4, 1, 0xFFFFFFFF, 0, 0, 0, 5000, false, fun c i _ => vsetReset c i⟩ /- TSK_VSET -/,
    arrayReg 0x104 0x40 2 0xFFFFFFFF 0 0 0 0 /- TSK_VTRIM -/,
    arrayReg 0x108 0x40 2 0 0 0 0 0 /- TSK_VNOW -/,
    arrayReg 0x10C 0x40 2 0x3F 0 0 0 0x10 /- TSK_HYST -/,
    arrayReg 0x110 0x40 2 0xFF 0 0 0 0x32 /- TSK_SLEW -/,
    arrayReg 0x114 0x40 2 0xFFFF 0 0 0 0 /- TSK_ONDLY -/,
    arrayReg 0x118 0x40 2 0xFFFFFFFF 0 0 0 0x6403E8 /- TSK_RAMP -/,
    ⟨0x11C, 0x40, 2, 4, 1, 0x7F, 0, 0, 0, 5000, false, fun c i _ => if !c.verge && i = 1 then 0 else 0x28⟩ /- TSK_SHED -/,
    arrayReg 0x120 0x40 2 0xF7F 0 0 0 0x81E /- TSK_OVS -/,
    arrayReg 0x124 0x40 2 0 0 0 0 0x8000 /- TSK_KTON -/,
    arrayReg 0x128 0x40 2 0 0x70 0 0 0 /- TSK_RSTAT -/,
    ⟨0x16C, 4, 1, 4, 1, 0xFFFFFFFF, 0, 0, 0, 5000, false, fun c _ _ => if c.verge then 0 else 450000⟩ /- TSK_VRET -/,
    ⟨0x200, 0x20, 4, 4, 1, 0x1F1FFF, 0x3000000, 0, 0, 5000, false, fun c s _ => slotReset 0x80840 c s⟩ /- TSK_PHCTL -/,
    ⟨0x204, 0x20, 4, 4, 1, 0x3F, 0x100, 0, 0, 5000, false, fun c s _ => slotReset 0 c s⟩ /- TSK_PHTRIM -/,
    ⟨0x208, 0x20, 4, 4, 1, 0, 0, 0, 0, 5000, false, fun c s _ => slotReset 0 c s⟩ /- TSK_PHSTAT -/,
    ⟨0x20C, 0x20, 4, 4, 1, 0, 0, 0, 0, 5000, false, fun c s _ => slotReset 0 c s⟩ /- TSK_PHPULSE -/ ]

/-- The registers of a Tussock or Verge, part 2: TSK_GORSE to TSK_RFLT. -/
def unitRegs2 : List RegDesc :=
  [ tussockReg 0x300 0xBF3F7F7F 0 0 0 0x980C1E3C /- TSK_GORSE -/,
    tussockReg 0x304 0 2 0 0 0 /- TSK_GSTAT -/,
    tussockReg 0x308 0 0 0 0 0 /- TSK_GBURST -/,
    tussockReg 0x30C 0 0 0 0 0 /- TSK_TIEPULSE -/,
    tussockReg 0x310 0x1FF 0 0 0 0x114 /- TSK_TIE -/,
    ⟨0x314, 4, 1, 4, 1, 0, 0x18181818, 0, 0, 5000, true, fun c _ _ => tiestatReset c⟩ /- TSK_TIESTAT -/,
    tussockReg 0x318 0 0 0 0 0 /- TSK_TIECNT -/,
    tussockReg 0x31C 0 0 0 0 0 /- TSK_NBR -/,
    tussockReg 0x320 0x80FF007F 0 0 0 0x80100050 /- TSK_STR -/,
    tussockReg 0x324 0 0 0 0 0 /- TSK_STRCNT -/,
    tussockReg 0x328 0x7FFFFFFF 0 0 0 0x28326420 /- TSK_ICFG -/,
    tussockReg 0x32C 0 7 0 0 0 /- TSK_ISTAT -/,
    tussockReg 0x330 0 0 0 0 0 /- TSK_IHIT -/,
    tussockReg 0x334 0 0 0 0 0 /- TSK_IMISS -/,
    tussockReg 0x338 0 0 0 0 0 /- TSK_IREJ -/,
    tussockReg 0x33C 0 0 0 0 0 /- TSK_IMRK -/,
    tussockReg 0x340 0x7F 0x40000000 0 0 4 /- TSK_OVL -/,
    ⟨0x400, 0x20, 4, 4, 1, 0xFF, 0x1000000, 0, 0, 5000, false, fun c i _ => ilimReset c i⟩ /- TSK_ILIM -/,
    ⟨0x404, 0x20, 4, 4, 1, 0, 0x4000000, 0x80000000, 0, 5000, false, fun c s _ => slotReset 0 c s⟩ /- TSK_PHHLTH -/,
    ⟨0x408, 0x20, 4, 4, 1, 0, 0x7F, 0, 0, 5000, false, fun c s _ => slotReset 0 c s⟩ /- TSK_PHFLT -/,
    ⟨0x40C, 0x20, 4, 4, 1, 0, 0x30000, 0, 0, 5000, false, fun c s _ => slotReset 0 c s⟩ /- TSK_CRK -/,
    ⟨0x410, 0x20, 4, 4, 1, 0, 0, 0, 0xFFFF, 5000, false, fun c s _ => slotReset 0 c s⟩ /- TSK_CRKBASE -/,
    arrayReg 0x480 0x20 2 0x7F007F 0x8000 0 0 0x50003C /- TSK_RLIM -/,
    arrayReg 0x484 0x20 2 0 3 0 0 0 /- TSK_RFLT -/ ]

/-- The registers of a Tussock or Verge, part 3: TSK_OT to TSK_ILOG. -/
def unitRegs3 : List RegDesc :=
  [ ⟨0x4C0, 4, 1, 4, 1, 0x80FFFF00, 0, 0, 0, 5000, false, fun c _ _ => otReset c⟩ /- TSK_OT -/,
    plainReg 0x4C4 0 0 0 0 0 /- TSK_TEMP -/,
    plainReg 0x4C8 0x7F1F 0 0 0 0x2803 /- TSK_HCTL -/,
    plainReg 0x4CC 0 0xF 0 0 0 /- TSK_HSTAT -/,
    plainReg 0x4D0 0 0 0 0 0 /- TSK_TIEI -/,
    tussockReg 0x500 0x900007FF 0x2C000000 0 0 0x80000304 /- TSK_CANARY -/,
    tussockReg 0x504 0xFF 0 0 0 2 /- TSK_PACE -/,
    plainReg 0x600 0x1F 0 0 0 0xA /- TSK_TCFG -/,
    plainReg 0x604 0 0x40000000 0 0 0x800A0000 /- TSK_TSTAT -/,
    arrayReg 0x620 0x20 2 0 0 0 0 0 /- TSK_TAV_V -/,
    arrayReg 0x624 0x20 2 0 0 0 0 0 /- TSK_TAV_I -/,
    arrayReg 0x628 0x20 2 0 0 0 0 0 /- TSK_TAV_P -/,
    arrayReg 0x62C 0x20 2 0 0 0 0 0x7FFFFFFF /- TSK_TPK_V -/,
    arrayReg 0x630 0x20 2 0 0 0 0 0x80000000 /- TSK_TPK_I -/,
    ⟨0x680, 0x10, 4, 4, 1, 0, 0, 0, 0, 5000, false, fun c s _ => slotReset 0 c s⟩ /- TSK_TAV_PI -/,
    ⟨0x684, 0x10, 4, 4, 1, 0, 0, 0, 0, 5000, false, fun c s _ => slotReset 0x80000000 c s⟩ /- TSK_TPK_PI -/,
    plainReg 0x6C0 0 0 0 0 0 /- TSK_TAV_T -/,
    plainReg 0x6C4 0 0 0 0 0x80000000 /- TSK_TPK_T -/,
    tussockReg 0x6E0 0 0 0 0 0 /- TSK_ILOGIDX -/,
    ⟨0x700, 4, 8, 4, 1, 0, 0, 0, 0, 5000, true, fun _ _ _ => 0⟩ /- TSK_ILOG -/ ]

/-- The registers of a Tussock or Verge. -/
def unitRegs : List RegDesc :=
  unitRegs1 ++ unitRegs2 ++ unitRegs3

/-- The indices (i, j) of the element of `d` at offset `o`, when there is one. -/
def RegDesc.find (d : RegDesc) (o : Nat) : Option (Nat × Nat) :=
  let r := o - d.base
  let i := if d.count0 = 1 then 0 else r / d.stride0
  let j := (r - i * d.stride0) / d.stride1
  if d.base ≤ o ∧ i < d.count0 ∧ j < d.count1 ∧ r = i * d.stride0 + j * d.stride1 then some (i, j) else none

/-- A register of a list, with its indices. -/
def findReg : List RegDesc → Nat → Option (RegDesc × Nat × Nat)
  | [], _ => none
  | d :: ds, o =>
    match d.find o with
    | some (i, j) => some (d, i, j)
    | none => findReg ds o

/-- The block an address lies in, with the offset inside it (Table 1.15). -/
inductive Place where
  | heath (off : Nat)
  | sward (p off : Nat)
  | tussock (g off : Nat)
  | verge (n off : Nat)
  | nowhere
  deriving DecidableEq, Repr

/-- R55: the block of an address. -/
def place (a : Nat) : Place :=
  if a < 0x1000000 then .heath a
  else if a < 0x5000000 then
    let p := (a - 0x1000000) / 0x100000
    let o := (a - 0x1000000) % 0x100000
    if o < 0x40000 then .sward p o
    else if o < 0x80000 then .tussock (64 * p + (o - 0x40000) / 0x1000) (o % 0x1000)
    else if o < 0x88000 ∧ isEdge p then .verge (8 * edgeOrd p + (o - 0x80000) / 0x1000) (o % 0x1000)
    else .nowhere
  else .nowhere

/-- Base address of Sward p (R55). -/
def swd (p : Nat) : Nat := 0x1000000 + p * 0x100000

/-- Base address of Tussock G (Table 1.15). -/
def tus (g : Nat) : Nat := swd (g / 64) + 0x40000 + g % 64 * 0x1000

/-- Base address of Verge n = 8e + v (Table 1.15). -/
def vrg (n : Nat) : Nat := swd (edgePart (n / 8)) + 0x80000 + n % 8 * 0x1000

/-- A register of the Tussock as a Verge's block shows it: it reads zero and ignores writes
(Table 14.10). -/
def RegDesc.inVerge (d : RegDesc) : RegDesc :=
  if d.tussockOnly then { d with rw := 0, w1c := 0, rws := 0, rwp := 0, reset := fun _ _ _ => 0 } else d

/-- The register at a place, with its context and indices; none where no register
is (R19, R55). -/
def lookupReg (fuse : Nat) : Place → Option (RegDesc × RegCtx × Nat × Nat)
  | .heath o => (findReg heathRegs o).map fun (d, i, j) => (d, ⟨fuse, 0, false⟩, i, j)
  | .sward p o => (findReg swardRegs o).map fun (d, i, j) => (d, ⟨fuse, p, false⟩, i, j)
  | .tussock g o => (findReg unitRegs o).map fun (d, i, j) => (d, ⟨fuse, g, false⟩, i, j)
  | .verge n o => (findReg unitRegs o).map fun (d, i, j) => (d.inVerge, ⟨fuse, n, true⟩, i, j)
  | .nowhere => none

/-- The reset value of the register at an address (R18), zero where none is.
(DESIGN CHOICE: logs 2, 58.) -/
def resetWord (fuse a : Nat) : Word :=
  match lookupReg fuse (place a) with
  | some (d, c, i, j) => BitVec.ofNat 32 (d.reset c i j)
  | none => 0

/-- Whether a register occupies an address (R19). (DESIGN CHOICE: log 56.) -/
def mapped (a : Nat) : Bool := (lookupReg 1 (place a)).isSome

end Sys2Proof.Machine
end

