-- ==== Sys2Proof/Machine/Unit.lean ====
section
/-! DEFINITION.  The state of one Tussock or Verge that none of its registers
shows: the modulator of each rail, the bridge of each phase, the tie ports, the
intent table, the event and read-data queues, and what its rules remember. -/

namespace Sys2Proof.Machine

/-- Why a phase's high side is on (R96, R138, R145, R199). -/
inductive Pulse where
  | none
  | normal
  | burst
  | tie
  | test
  deriving DecidableEq, Repr

/-- The bridge of a phase (Table 2.3). -/
inductive Bridge where
  | off
  | high
  | low
  deriving DecidableEq, Repr

/-- One phase slot. -/
structure PhaseSt where
  /-- the pulse the phase is giving, from its issue to the end of its on-time -/
  pulse : Pulse := .none
  /-- which transistor conducts -/
  bridge : Bridge := .off
  /-- the pulse's length in timing steps (R98), from its own high-side-on moment -/
  steps : Nat := 0
  /-- TON_MIN of the phase when the pulse was issued (R101, R102) -/
  tonMin : Nat := 0
  /-- steps from the burst start to the end of a burst pulse that began with it (R139) -/
  fromStart : Nat := 0
  /-- the minimum off-time of R104 still runs -/
  offWait : Bool := false
  /-- a burst waits for this phase's off-time to run out (R139) -/
  joinBurst : Bool := false
  /-- the burst pulse began late, from the phase's own moment (R139) -/
  lateBurst : Bool := false
  /-- the phase's latest pulse was a tie pulse (R146) -/
  lastTie : Bool := false
  /-- in sink mode the high side returns the phase's current to VIB (R120 step 3) -/
  returning : Bool := false
  /-- WTIMEs at which a pulse of the phase last ended at I_eff, and last ended otherwise
  (R165, R172) -/
  limitAt : Option Nat := none
  freeAt : Option Nat := none
  /-- WTIME at which the phase last came back into service (R187) -/
  servedFrom : Nat := 0
  /-- pulses issued in the present frequency-lock window (R109) -/
  winPulses : Nat := 0
  /-- the phase has been in service for the whole window so far (R109) -/
  winServed : Bool := false
  /-- sensed mean current in mA (R117) -/
  current : Int := 0
  /-- WTIMEs of the suspensions behind TSK_PHFLT.RECENT (R174) -/
  suspendedAt : List Nat := []
  /-- the previous estimate reached the warning ratio (R188) -/
  warnPrev : Bool := false
  /-- the previous estimate reached the suspect ratio (R188) -/
  suspPrev : Bool := false
  /-- a column estimate is being taken (R187) -/
  estimating : Bool := false
  /-- test pulses that the running phase test has still to fire, and whether one is due
  (R199) -/
  testLeft : Nat := 0
  testDue : Bool := false
  /-- the running phase test has seen a fault (R199) -/
  testFault : Bool := false
  /-- number of the remap window in which the last test completed, 0 for none (R199) -/
  testWindow : Nat := 0
  deriving DecidableEq, Repr

/-- One rail. -/
structure RailSt where
  /-- the comparator's state (R95) -/
  demanding : Bool := false
  /-- a request waits for a phase (R96) -/
  waiting : Bool := false
  /-- place in the rotation of Table 3.1 -/
  rot : Nat := 0
  /-- the carry in timing steps (R106) -/
  carry : Nat := 0
  /-- latest reading of the sensed voltage in µV (R60) -/
  sense : Int := 0
  /-- latest 1 µs mean of the sensed voltage in µV (R122) -/
  mean : Int := 0
  /-- values that V_set has left within the last 10 µs: when, and the highest and lowest
  that it left then (R177, R180) -/
  past : List (Nat × Int × Int) := []
  /-- WTIME of the entry into REG (R187) -/
  regFrom : Nat := 0
  /-- the rail has been in REG since the last boundary, and left it (R370) -/
  regSeen : Bool := false
  /-- the under-voltage condition holds (R180) -/
  uvHeld : Bool := false
  /-- WTIME since which both conditions of R165 have held, on LOGIC -/
  ovlFrom : Option Nat := none
  /-- pre-lift in force in µV (R156) -/
  lift : Int := 0
  /-- a ramp is in progress (R122) -/
  ramping : Bool := false
  /-- value at which the present slope began, µV -/
  rampFrom : Int := 0
  /-- value the ramp is going to, µV -/
  rampTo : Int := 0
  /-- SYNC edges since the slope began -/
  rampEdge : Nat := 0
  /-- SYNC edges the slope takes; 0 where the rate is SLEW (R123) -/
  rampEdges : Nat := 0
  /-- something in the window holds K_TON (R110) -/
  fllHold : Bool := false
  /-- the 64 µs after a restore still run (R119) -/
  shedHold : Bool := false
  /-- STOPPED was entered for under-voltage of VIB, not over-voltage (Table 3.5) -/
  stopUv : Bool := false
  /-- TRIPPED waits out the 100 µs of a retried trip (R179) -/
  retrying : Bool := false
  /-- WTIMEs of the trips behind TSK_RFLT.RECENT (R179) -/
  trippedAt : List Nat := []
  deriving DecidableEq, Repr

/-- One tie port of a Tussock (R64 to R66, R144 to R152). -/
structure PortSt where
  /-- TIE_REQ code driven on the port -/
  reqOut : Nat := 0
  /-- TIE_ACK driven toward the requester -/
  ackOut : Bool := false
  /-- own side is closing or closed -/
  side : Bool := false
  /-- own side is closing gradually (R196) -/
  gradual : Bool := false
  /-- the standing 0b01 has been served or has lost its turn (R144) -/
  used01 : Bool := false
  /-- the side was closed at a 0b01 request (R148) -/
  for01 : Bool := false
  /-- the hold of R147 still runs, from the WTIME at which the side closed -/
  holding : Bool := false
  closedAt : Nat := 0
  /-- levels on the port's incoming TIE_REQ and TIE_ACK wires, as synchronised -/
  reqWire : Nat := 0
  ackWire : Bool := false
  /-- the guard has opened the side and the code has not returned to 0b00 (R149) -/
  guarded : Bool := false
  /-- a late TIE_ACK is being ignored until it falls (R150) -/
  ignoreAck : Bool := false
  /-- the standing 0b10 has been counted in HOLD_CNT (R152) -/
  counted : Bool := false
  deriving DecidableEq, Repr

/-- An entry of the intent table (R154). -/
structure IntentEntry where
  stepUp : Bool
  rail : Nat
  mag : Nat
  tag : Nat
  capture : Nat
  effective : Nat
  /-- LIFT, where it is not WAIT -/
  lifted : Bool := false
  /-- 40 ns mean rail current at the lift time, mA (R158) -/
  liftCurrent : Int := 0
  deriving DecidableEq, Repr

/-- A context switch waiting for the next Swath reply (R161). -/
structure CtxIntent where
  ctx : Nat
  tag : Nat
  effective : Nat
  deriving DecidableEq, Repr

/-- An event in the unit's queue (R210, EVT of Table 6.4). -/
structure UnitEvent where
  code : Nat
  slot : Nat
  data : Nat
  deriving DecidableEq, Repr

/-- The stop record of a downlink frame (Table 6.3); an absent field has its
valid bit at 0. -/
structure StopRecord where
  vset0 : Option Nat := none
  vtrim0 : Option Int := none
  vtrim1 : Option Int := none
  /-- BAL codes of slots 0 to 3 -/
  bal : Option (List Int) := none
  nbr : Option Nat := none
  /-- access: word offset, write data, read -/
  acc : Option (Nat × Word × Bool) := none
  deriving DecidableEq, Repr

/-- A downlink frame as one stop takes it (Tables 6.2 and 6.3). -/
structure DownFrame where
  fnum : Nat
  rung : Nat
  pgCore : Bool
  pgSpine : Bool
  arrRet : Bool
  ret : Bool
  lnk : Nat
  record : StopRecord
  deriving DecidableEq, Repr

/-- Where a unit stands in its reset (R54, R323, R324). -/
inductive UnitReset where
  | run
  | powerOn
  | clear
  | restore
  deriving DecidableEq, Repr

/-- Who issues a register access (Table 11.5): the controller itself, the service window
as the management processor marks the access, the SMBus block bridge, or a core's user
aperture. -/
inductive Issuer where
  | own
  | window (super : Bool)
  | smbus
  | aperture (g : Fin 4096) (super : Bool)
  deriving DecidableEq, Repr

/-- Which peak a read names (R370, Table 11.1). -/
inductive PeakReg where
  | voltage (q : Fin 2)
  | current (q : Fin 2)
  | temperature
  | phase (s : Fin 4)
  deriving DecidableEq, Repr

/-- Offset of a peak register (Table 11.2). -/
def PeakReg.off : PeakReg → Nat
  | .voltage q => 0x62C + 0x20 * q.val
  | .current q => 0x630 + 0x20 * q.val
  | .temperature => 0x6C4
  | .phase s => 0x684 + 0x10 * s.val

/-- Which set-point a write names (R124). -/
inductive SetPoint where
  | vset (q : Fin 2)
  | vtrim (q : Fin 2)
  | vret
  deriving DecidableEq, Repr

/-- A temperature sample in m°C, and whether it completed within its 1 µs interval (R181,
R186). (DESIGN CHOICE: log 5.) -/
structure TempReading where
  value : Int
  inTime : Bool
  deriving DecidableEq, Repr

/-- What the detectors of Table 5.2 see of one phase in one clock (R172).  (DESIGN CHOICE:
log 5.) -/
structure PhaseReading where
  /-- rise in mA above the least current since both transistors were last commanded off,
  where that is more than 10 ns ago -/
  offRise : Option Int := none
  /-- SW in µV 1.0 ns after the high side was commanded on, in that clock -/
  sw : Option Int := none
  /-- sensed current in mA -/
  current : Int := 0
  /-- rise in mA and on-time in steps of the phase's consecutive pulses, newest first -/
  rises : List (Int × Nat) := []
  /-- a gate-driver supply lies below its threshold as a pulse starts -/
  driverLow : Bool := false
  /-- 2 µs have passed in which the phase gave pulses -/
  over2us : Bool := false
  deriving DecidableEq, Repr

/-- What a unit samples at a frame boundary (Tables 6.1 and 6.4): rail voltages in
µV and currents in mA as 1 µs means with the pre-lift still in, the currents of the
four phases and of the four ties in mA, and the failing canary cycles of the frame
that ends there (R238). (DESIGN CHOICE: log 5.) -/
structure Sample where
  v0 : Int
  v1 : Int
  i0 : Int
  i1 : Int
  ph0 : Int
  ph1 : Int
  ph2 : Int
  ph3 : Int
  tie0 : Int
  tie1 : Int
  tie2 : Int
  tie3 : Int
  canary : Nat
  /-- lowest 10 ns voltage of each rail, and highest 40 ns mean current of each rail and
  phase, in the frame that ends there while the rail was in REG, where it was (R370) -/
  low0 : Option Int
  low1 : Option Int
  top0 : Option Int
  top1 : Option Int
  topPh0 : Option Int
  topPh1 : Option Int
  topPh2 : Option Int
  topPh3 : Option Int
  deriving DecidableEq, Repr

/-- An uplink record (Table 6.4), in the codes that it carries. -/
structure UpRecord where
  v0 : Nat := 0
  v1 : Nat := 0
  i0 : Int := 0
  i1 : Int := 0
  idif0 : Int := 0
  idif1 : Int := 0
  temp : Int := 0
  atTgt0 : Bool := false
  atTgt1 : Bool := false
  state0 : Nat := 0
  state1 : Nat := 0
  otw : Bool := false
  otsd : Bool := false
  actL : Nat := 0
  canary : Bool := false
  intUp : Nat := 0
  intDn : Nat := 0
  swStep : Nat := 0
  ctx : Nat := 0
  ctxTag : Nat := 0
  event : Option UnitEvent := none
  readData : Option Word := none
  slow : Option Nat := none
  deriving DecidableEq, Repr

/-- Hidden state of a Tussock or Verge. -/
structure UnitSt where
  rail0 : RailSt := {}
  rail1 : RailSt := {}
  ph0 : PhaseSt := {}
  ph1 : PhaseSt := {}
  ph2 : PhaseSt := {}
  ph3 : PhaseSt := {}
  port0 : PortSt := {}
  port1 : PortSt := {}
  port2 : PortSt := {}
  port3 : PortSt := {}
  /-- reset phase -/
  rst : UnitReset := .restore
  /-- WTIME until which a tie pulse waits for a phase (R145) -/
  tieWait : Option Nat := none
  /-- predicted SYNC edges in a row with no accepted edge (R113), saturating at 3 -/
  missRun : Nat := 0
  /-- correction of the SYNC prediction, in eighths of a picosecond (R111) -/
  syncCorr : Int := 0
  /-- the intent table (R154), at most 8 entries -/
  intents : List IntentEntry := []
  /-- levels of IPORT_VLD and IPORT_TKN (R67) and the record on IPORT_D -/
  iportVld : Bool := false
  iportTkn : Bool := false
  iportD : Word := 0
  /-- swath-step sum and context switch of the next reply (R161) -/
  swStep : Nat := 0
  ctxPend : Option CtxIntent := none
  /-- event queue of 8 and the overflow flag held apart from it (R210) -/
  events : List UnitEvent := []
  evOverflow : Bool := false
  evOverflowArmed : Bool := true
  /-- read data waiting for uplink records, oldest first (R210) -/
  readData : List Word := []
  /-- the accepted downlink frame that waits for its boundary (R206) -/
  frame : Option DownFrame := none
  /-- the uplink record made at the last boundary -/
  uplink : Option UpRecord := none
  /-- header levels last sent by the Sward (R73) -/
  sentCore : Bool := false
  sentArrRet : Bool := true
  /-- PG_EN_CORE, PG_EN_SPINE and ARR_RET as driven (Table 2.8) -/
  pgCore : Bool := false
  pgSpine : Bool := false
  arrRet : Bool := true
  /-- temperature samples behind TSK_TEMP, newest first (R181) -/
  temps : List Int := []
  /-- the sensor counts as failed, and consecutive valid samples toward the 64
  (R186) -/
  tempFailed : Bool := false
  goodTemps : Nat := 0
  /-- the mean is over valid samples alone, a failure having been left (R186) -/
  validOnly : Bool := false
  /-- the frame reached the canary threshold, and stretched clocks of the window (R239) -/
  canaryFrame : Bool := false
  strTicks : Nat := 0
  strSince : Nat := 0
  /-- number of the last stretch window that has ended (R239) -/
  strWindow : Nat := 0
  /-- WTIME at which STRETCH rose (R162) -/
  strRise : Nat := 0
  /-- taken link width of a Verge, LNK of the header (R129) -/
  lnk : Nat := 0
  /-- RUNG of the last accepted header -/
  rung : Nat := 0
  /-- telemetry of the window in progress (R364 to R368) -/
  telN : Nat := 0
  telSums : List Int := []
  telBad : Bool := true
  /-- frame of the window's first sample -/
  telFrom : Nat := 0
  telWait : Bool := false
  deriving DecidableEq, Repr

def UnitSt.rail (u : UnitSt) (q : Nat) : RailSt := if q = 0 then u.rail0 else u.rail1

def UnitSt.setRail (u : UnitSt) (q : Nat) (r : RailSt) : UnitSt :=
  if q = 0 then { u with rail0 := r } else { u with rail1 := r }

def UnitSt.phase (u : UnitSt) (s : Nat) : PhaseSt :=
  match s with
  | 0 => u.ph0
  | 1 => u.ph1
  | 2 => u.ph2
  | _ => u.ph3

def UnitSt.setPhase (u : UnitSt) (s : Nat) (x : PhaseSt) : UnitSt :=
  match s with
  | 0 => { u with ph0 := x }
  | 1 => { u with ph1 := x }
  | 2 => { u with ph2 := x }
  | _ => { u with ph3 := x }

def UnitSt.port (u : UnitSt) (n : Nat) : PortSt :=
  match n with
  | 0 => u.port0
  | 1 => u.port1
  | 2 => u.port2
  | _ => u.port3

def UnitSt.setPort (u : UnitSt) (n : Nat) (x : PortSt) : UnitSt :=
  match n with
  | 0 => { u with port0 := x }
  | 1 => { u with port1 := x }
  | 2 => { u with port2 := x }
  | _ => { u with port3 := x }

/-- Names of a Tussock (physical number G) or a Verge (8e + v). -/
inductive UnitId where
  | tussock (g : Fin 4096)
  | verge (n : Fin 224)
  deriving DecidableEq, Repr

/-- What has a TVDD supply of its own: a Tussock or Verge, or a Sward (R54). -/
inductive TvddId where
  | unit (u : UnitId)
  | sward (p : Fin 64)
  deriving DecidableEq, Repr

/-- Base address of the unit's block (R55). -/
def UnitId.base : UnitId → Nat
  | .tussock g => tus g.val
  | .verge n => vrg n.val

/-- Key of the unit in the store of hidden unit states. -/
def UnitId.key : UnitId → Nat
  | .tussock g => g.val
  | .verge n => 4096 + n.val

def UnitId.isVerge : UnitId → Bool
  | .tussock _ => false
  | .verge _ => true

/-- The partition the unit lies in. -/
def UnitId.part : UnitId → Nat
  | .tussock g => g.val / 64
  | .verge n => edgePart (n.val / 8)

/-- The unit's number within its Sward: t, or 64 + v (R29). -/
def UnitId.loc : UnitId → Nat
  | .tussock g => g.val % 64
  | .verge n => 64 + n.val % 8

/-- The unit reference word of the unit as a whole (Table 1.3). -/
def UnitId.ref : UnitId → Nat
  | .tussock g => g.val * 2 ^ 16
  | .verge n => 0x40000000 + n.val * 2 ^ 16

/-- The unit of partition p with local number u (R29). -/
def unitOf (p u : Nat) : UnitId :=
  if u < 64 then .tussock (Fin.ofNat 4096 (64 * p + u)) else .verge (Fin.ofNat 224 (8 * edgeOrd p + (u - 64)))

/-- The phase slots of a rail in rotation order (Table 3.1). -/
def railSlots (verge : Bool) (q : Nat) : List Nat :=
  if q = 0 then [0, 1] else if verge then [2, 3] else [2]

/-- The rail a phase slot belongs to (Table 1.2). -/
def slotRail (s : Nat) : Nat := s / 2

end Sys2Proof.Machine
end

