-- ==== Sys2Proof/Machine/Sward.lean ====
section
/-! DEFINITION.  The state of one Sward that none of its registers shows: pending
configuration, the signal bus, the results of a frame, the walk and the rung
sequencer's memory, the domain step in progress, queues to the spokes, the mesh and
the Heath, and the records of its units. -/

namespace Sys2Proof.Machine

/-- One access carried by the access channel (R207): byte offset in the unit's
block, write data, whether it is a read, and who issued it. -/
structure UnitAccess where
  off : Nat
  data : Word
  read : Bool
  issuer : Issuer
  deriving DecidableEq, Repr

/-- What one completed slot execution will commit (R219). -/
structure SlotResult where
  out : Int
  integ : Int
  notch : Option (Int × Int)
  satHi : Bool
  satLo : Bool
  slewing : Bool
  cfgErr : Bool
  deriving DecidableEq, Repr

/-- A walk in progress (R241), in ladder codes. -/
structure Walk where
  t : Nat
  rung : Nat
  /-- VCODE + bump at the start -/
  base : Nat
  /-- step k and its voltage, base - k -/
  k : Nat
  /-- lowest passing code so far -/
  ok : Nat
  /-- frame at whose boundary the step's voltage applies -/
  applied : Nat
  /-- dwell snapshots seen since settle, none before it -/
  dwelt : Option Nat
  deriving DecidableEq, Repr

/-- The domain step in progress (Table 9.1, R306), with the frame at whose commit
point it began; `resume` waits for the first snapshot after a Sward reset (R326). -/
inductive DomStep where
  | idle
  | resume
  | on1 (arr mif : Bool)
  | on2 (logic link : Bool)
  | on3
  | on4
  | off4
  | off3
  | off2 (logic link : Bool)
  | off1 (arr mif : Bool)
  | sleep
  | wake
  | awake
  deriving DecidableEq, Repr

/-- A fault event on its way to the Heath (R388). -/
structure FaultEvent where
  code : Nat
  unit : Nat
  dataA : Nat
  dataB : Nat
  time : Nat
  /-- injected under R414 -/
  injected : Bool := false
  deriving DecidableEq, Repr

/-- A report in a Sward's queue (R389): later events of its source that found the
queue full ride along as a count. -/
structure Report where
  seq : Nat
  event : FaultEvent
  subsequent : Nat
  sent : Bool
  deriving DecidableEq, Repr

/-- A source-12 or source-13 event whose estimate and baseline the Sward reads before it
reports it (R388): local unit, slot, code, time of the snapshot, and the estimate once read. -/
structure ColReport where
  unit : Nat
  slot : Nat
  code : Nat
  time : Nat
  est : Option Nat
  deriving DecidableEq, Repr

/-- Class of an outgoing mesh packet, in order of priority (R80). -/
inductive MeshClass where
  | power
  | telemetry
  | trace
  deriving DecidableEq, Repr

/-- A packet in a mesh buffer (R80, R377, R410): its class, its sample epoch, the
mesh address where it is a write, and its payload words. -/
structure MeshPacket where
  cls : MeshClass
  epoch : Nat
  addr : Nat
  payload : List Nat
  deriving DecidableEq, Repr

/-- An accepted lease (R273): sequence, duration in ms, extended issue time, budget
and floor in mW. -/
structure LeaseRec where
  seq : Nat
  dur : Nat
  issue : Nat
  budget : Nat
  floor : Nat
  deriving DecidableEq, Repr

/-- One counted sample of the partition aggregate's window (R374). -/
structure AggWindow where
  start : Nat := 0
  n : Nat := 0
  sums : List Int := [0, 0, 0, 0, 0]
  vmin : Option (Int × Nat) := none
  imax : Option (Int × Nat) := none
  tmax : Option (Int × Nat) := none
  stale : Bool := false
  /-- a window is in progress; otherwise the next aligned frame starts one (R367) -/
  running : Bool := true
  /-- window length in force -/
  winN : Nat := 10
  deriving DecidableEq, Repr

/-- Hidden state of a Sward. -/
structure SwardSt where
  /-- present frame number (R202) -/
  frame : Nat := 0
  /-- in reset (R325), and waiting for enumeration (R334) -/
  rst : Bool := false
  waitEnum : Bool := true
  /-- the Hedgerow stop's bypass is closed (R48), and the Sward's TVDD is below its
  threshold (R54) -/
  bypass : Bool := false
  por : Bool := false
  /-- pending configuration writes, oldest first: Sward offset and data (R215) -/
  pendWrites : List (Nat × Word) := []
  /-- writes to Swath entries that wait for the boundary: key 256c + e (R215, R302) -/
  pendSwath : List (Nat × Word) := []
  /-- Swath tables: key 256c + e (R290) -/
  swath : Store Word := []
  /-- signals 0 to 767 of the present snapshot (R211, R212); 464 to 479 and the slot outputs
  as they stood at the end of the previous frame -/
  sig : Store Int := []
  /-- completed executions of this frame, not yet committed (R219) -/
  results : List (Nat × SlotResult) := []
  /-- predictors that have run in this frame -/
  predRan : List Nat := []
  /-- the frame's commit point has passed -/
  committed : Bool := true
  /-- histories of the predictors, newest first (R224) -/
  hist : Store (List Int) := []
  /-- slots whose INT_CLR is pending (R220) -/
  intClr : List Nat := []
  /-- last good record of each stop as the present snapshot holds it (R209), by local
  unit number; the records that have arrived since its boundary, and from which stops -/
  recs : Store UpRecord := []
  inbox : Store UpRecord := []
  got : List Nat := []
  /-- consecutive frames without a good copy, by unit (R209), and the last such frame -/
  lostRun : Store Nat := []
  lastLost : Store (Option Nat) := []
  /-- stops whose first record after a return is to come (R329 step 6) -/
  freshRec : List Nat := []
  /-- VIB values reported in SLOW in each of the last 4 frames (signal 498) -/
  vib : List (List Int) := []
  /-- tie currents reported in SLOW, 4 per unit: key 4t + n (R197) -/
  tieCur : Store Int := []
  /-- tie power of an adopted patch over the last 1,000 frames, newest first, by local
  number, and since which frame its mean has exceeded the budget (R197) -/
  tiePow : Store (List Nat) := []
  tieOver : Store (Option Nat) := []
  /-- access queues of the stops (R207), and the Sward's own writes, which go first -/
  accQ : Store (List UnitAccess) := []
  ownQ : Store (List UnitAccess) := []
  /-- configuration image (R328): key 4096u + offset; a missing entry was never
  forwarded -/
  image : Store (Option Word) := []
  /-- the downlink frames started at the last boundary (R203), by local unit -/
  down : Store (Option DownFrame) := []
  /-- the access that each of them carries (R207) -/
  accSent : Store (Option UnitAccess) := []
  /-- the accesses that the frames before those carried, whose answers the next snapshot
  holds, and the column reports that wait for such answers (R207, R388) -/
  accPrev : Store (Option UnitAccess) := []
  colReports : List ColReport := []
  /-- NBR_PH as computed for each Tussock (R135) -/
  nbr : Store Nat := []
  /-- VSET0 last sent to each Tussock, as a code (signals 192 to 255) -/
  vsetSent : Store Nat := []
  /-- header levels as decided (R73, R304): kept through a Sward reset -/
  hdrCore : Bool := false
  hdrSpine : Bool := false
  hdrArrRet : Bool := true
  hdrRet : Bool := false
  /-- RUNG of the frame being sent and of the next one (R205, R254) -/
  rungSent : Nat := 0
  rungNext : Nat := 0
  /-- rung whose foreground values are sent (R254, R255) -/
  rungVolt : Nat := 0
  /-- frame of the commit point at which RUNG was last put into a frame (R252) -/
  rungDecided : Option Nat := none
  /-- frame whose boundary last applied a rung change, and of the last brake -/
  rungChanged : Option Nat := none
  brakeFrame : Option Nat := none
  /-- boundary A of the raise in progress (R254) -/
  raiseA : Nat := 0
  /-- raises are blocked until this frame (R254) -/
  raiseBlock : Option Nat := none
  walk : Option Walk := none
  /-- priority queue of R240 and the Tussock walked last -/
  walkPrio : List Nat := []
  lastWalked : Nat := 63
  /-- KA_FAIL Tussocks for the next snapshot (R244) -/
  kaFail : List Nat := []
  /-- Tussocks whose CANARY is 1 in the present snapshot, KA_FAIL among them -/
  canaryNow : List Nat := []
  /-- frame of each Tussock's last bump (R245) -/
  lastBump : Store (Option Nat) := []
  /-- walks completed since the last swap -/
  walksSince : Nat := 0
  /-- the shadow bank under CHECK came from BUILD; swap may be made (R247) -/
  fromBuild : Bool := false
  swapReady : Bool := false
  /-- FULL walk: rung, Tussocks walked at it, frame since which it is not reached -/
  fullRung : Nat := 0
  fullDone : List Nat := []
  fullSince : Option Nat := none
  /-- the FULL walk has ended and waits for its swap (R250) -/
  fullEnd : Bool := false
  /-- pace mode to apply at the next boundary; the last frame was a break (R257) -/
  paceNext : Option Bool := none
  inBreak : Bool := false
  /-- brakes received since the last commit point (R283) -/
  brakes : Nat := 0
  /-- lease accepted and in force from the next boundary (R273), and in force -/
  leasePend : Option LeaseRec := none
  lease : Option LeaseRec := none
  /-- frame since which the present Swath entry has been current (R290) -/
  swathSince : Nat := 0
  /-- power packet sum: total of signal 480 and snapshots of the epoch (R277) -/
  powSum : Int := 0
  powN : Nat := 0
  /-- LNK_STAT as driven and as the count of 1 µs runs, by link (R78) -/
  lnkRaw : Store Nat := []
  lnkSince : Store (Option Nat) := []
  /-- a link's taken width is passed on (R308) -/
  lnkPassed : List Nat := []
  /-- domain step, the frame it began in, and a trip after which the next switch-on
  is a return (R329) -/
  dom : DomStep := .idle
  domSince : Nat := 0
  afterTrip : Bool := false
  /-- frame at whose boundary the training window began (R308) -/
  trainAt : Nat := 0
  /-- a return is under way for these units (R329) -/
  returning : List Nat := []
  /-- the Heath has still to rewrite SWD_SCHED after a Sward reset (R326) -/
  schedDue : Bool := false
  /-- SWD_SCHED.RUN asked for before the known-answer test passed (R316) -/
  runPend : Bool := false
  /-- aggregate window, energy remainder in nJ and in µJ toward a mJ (R374, R375) -/
  agg : AggWindow := {}
  nanojoules : Int := 0
  microjoules : Int := 0
  /-- trace SEQ (R378), and the mesh buffer, oldest first (R377) -/
  traceSeq : Nat := 0
  mesh : List MeshPacket := []
  /-- counters as they stood at the last boundary, for the taps (R225) -/
  tapBase : Store Nat := []
  /-- execution dispatched last: predictor or slot; an overflow's snapshot is due (R384) -/
  lastExec : Bool × Nat := (false, 0)
  ovfSnap : Bool := false
  /-- reports to the Heath (R389), sequence, and events counted onto later reports -/
  reports : List Report := []
  reportSeq : Nat := 0
  uncounted : Store Nat := []
  /-- WTIME of the FL_TRIP edge last forwarded (R398) -/
  flAt : Option Nat := none
  deriving DecidableEq, Repr

def noRec (_ : Nat) : UpRecord := {}
def zeroNat (_ : Nat) : Nat := 0
def zeroInt (_ : Nat) : Int := 0
def zeroWord (_ : Nat) : Word := 0
def noAccess (_ : Nat) : List UnitAccess := []
def noWord (_ : Nat) : Option Word := none
def noNat (_ : Nat) : Option Nat := none
def noFrame (_ : Nat) : Option DownFrame := none
def noSent (_ : Nat) : Option UnitAccess := none
def noHist (_ : Nat) : List Int := []
def noPow (_ : Nat) : List Nat := []

/-- Read an entry of one of a Sward's tables. -/
def SwardSt.record (x : SwardSt) (u : Nat) : UpRecord := Store.get noRec x.recs u
def SwardSt.lost (x : SwardSt) (u : Nat) : Nat := Store.get zeroNat x.lostRun u
def SwardSt.access (x : SwardSt) (u : Nat) : List UnitAccess := Store.get noAccess x.accQ u
def SwardSt.own (x : SwardSt) (u : Nat) : List UnitAccess := Store.get noAccess x.ownQ u
def SwardSt.imageAt (x : SwardSt) (u off : Nat) : Option Word := Store.get noWord x.image (4096 * u + off)
def SwardSt.signal (x : SwardSt) (i : Nat) : Int := Store.get zeroInt x.sig i

/-- The ring passes the stop by: its bypass is closed, or it has no supply (R48, R54). -/
def SwardSt.passedBy (x : SwardSt) : Bool := x.bypass || x.por

/-- A unit whose records have been lost for 8 frames or more (R209). -/
def SwardSt.isLost (x : SwardSt) (u : Nat) : Bool := decide (8 ≤ x.lost u)

end Sys2Proof.Machine
end

