-- ==== Sys2Proof/Machine/Heath.lean ====
section
/-! DEFINITION.  The state of the Heaths that no register shows: which is active and
where bring-up stands, the remap window's pending copy, leases and epochs, the
Commons, switch-on grants and Hedgerow messages that wait for an answer. -/

namespace Sys2Proof.Machine

/-- What a write carries after its data (R417): no PEC, one that matches, or one that does
not. -/
inductive Pec where
  | none
  | good
  | bad
  deriving DecidableEq, Repr

/-- What the flash's SFDP table gives (R430): log2 of the density in bits, 1-1-4 Fast Read
listed, and the 4-byte address instruction table held. -/
structure Sfdp where
  densLog2 : Fin 256
  quad : Bool
  fourByte : Bool
  deriving DecidableEq, Repr

/-- What a Heath sends to one Sward and waits to have answered (R327). -/
inductive UnicastKind where
  | lease
  | access
  | grant
  | trip
  | config
  deriving DecidableEq, Repr

/-- A Hedgerow unicast that awaits its answer (R327): the Sward, the kind, when it
was first sent, the address it concerns, how often it has gone out, and its words. -/
structure Unicast where
  part : Nat
  kind : UnicastKind
  first : Nat
  addr : Nat
  sends : Nat
  data : List Nat
  deriving DecidableEq, Repr

/-- A Commons member as its REPORTs show it (Table 8.2, R297). -/
structure Member where
  /-- WTIME of the last accepted REPORT, and the SEQ accepted of each TYPE -/
  heard : Option Nat := none
  seqReport : Option Nat := none
  seqGrant : Option Nat := none
  ceil : Nat := 0
  power : Nat := 0
  grantIn : Nat := 0
  wait : Nat := 0
  noBar : Bool := true
  /-- grant last sent to it (R299) -/
  grant : Nat := 0
  deriving DecidableEq, Repr

/-- Hidden state of the Commons participation (R293 to R301). -/
structure Commons where
  members : Store Member := []
  /-- grant in force and its expiry (R300) -/
  grant : Option (Nat × Nat) := none
  seq : Nat := 0
  /-- waits written in the present millisecond (R296) -/
  waitSum : Nat := 0
  waitN : Nat := 0
  /-- input estimates of the present millisecond, mW -/
  powSum : Nat := 0
  powN : Nat := 0
  /-- frames that hold a shared report buffer since WTIME `bufAt` (R411), and frames that
  wait for one, with their destinations (R412) -/
  bufAt : Nat := 0
  bufHeld : Nat := 0
  frames : List (Nat × List Nat) := []
  deriving DecidableEq, Repr

/-! ### Fault collector (chapter 12) -/

/-- An entry of the capture FIFO (R407): the event, the severity whose action was
taken, and whether it stands for an escalation (R403). -/
structure FifoEntry where
  event : FaultEvent
  act : Nat
  escalated : Bool
  deriving DecidableEq, Repr

/-- An episode of a source (R402): its first event, the partitions it has named, the
expiry WTIME of its running grace timer, and the ESC that its first event took
(R392). -/
structure Episode where
  first : FaultEvent
  parts : List Nat
  expiry : Option Nat
  esc : Nat
  deriving DecidableEq, Repr

/-- What the collector keeps of one source: its episode, and the partitions that its
containment episodes name (R395). -/
structure SourceSt where
  episode : Option Episode := none
  cont : List Nat := []
  deriving DecidableEq, Repr

/-- Hidden state of the fault collector. -/
structure FaultSt where
  sources : Store SourceSt := []
  /-- capture FIFO, oldest first (R407) -/
  fifo : List FifoEntry := []
  /-- reports acted on and not yet acknowledged: Sward and sequence (R389) -/
  seen : List (Nat × Nat) := []
  /-- mesh send buffer of 4 packets (R410) -/
  sendBuf : List MeshPacket := []
  /-- sources whose SMBALERT# cause has been answered (R420), and whether the pin has
  been released since it was last driven low -/
  answered : List Nat := []
  released : Bool := false
  /-- the active Heath drives FL_TRIP (R398) -/
  flTrip : Bool := false
  deriving DecidableEq, Repr

/-! ### Non-volatile storage (chapter 13) -/

/-- A valid slot of a region: its SEQ and its contents, as pairs of place and value. -/
structure NvmSlot where
  seq : Nat
  data : List (Nat × Nat)
  deriving DecidableEq, Repr

/-- A region write in progress (R437): next page, whether the page has failed once,
and the staging copy (R439). -/
structure NvmJob where
  region : Nat
  slot : Nat
  seq : Nat
  page : Nat
  retried : Bool
  data : List (Nat × Nat)
  deriving DecidableEq, Repr

/-- The MRAM of both Heaths and its writers. -/
structure NvmSt where
  /-- slots, by 12 x Heath + 2 x region + slot; none where not valid -/
  mram : Store (Option NvmSlot) := []
  /-- writes in progress, by 2 x Heath + bank -/
  jobs : Store (Option NvmJob) := []
  /-- bank-0 writes stopped for region 1 (R439), by Heath -/
  stopped : Store (List NvmJob) := []
  /-- regions whose standby copy is still to complete (R440) -/
  lag : List Nat := []
  deriving DecidableEq, Repr

/-! ### Input meter (chapter 10) -/

/-- Why a conversion runs (R347, R350, R353, R356). -/
inductive ConvKind where
  | entry
  | urgent
  | pullUp
  | pullDown
  | cal
  deriving DecidableEq, Repr

/-- A conversion: channel, entry, repeat number, kind, whether its entry compares with
a window, the number of the start event it started on, whether that was a free-run
start event, whether another converter pulls its pin (R348), and whether a lower-numbered
converter converted the same channel from the same start event (R359). -/
structure Conv where
  ch : Nat
  entry : Nat
  rep : Nat
  kind : ConvKind
  win : Bool
  start : Nat
  free : Bool
  pulled : Bool
  second : Bool := false
  deriving DecidableEq, Repr

/-- One converter (R350): the entry it is at, whether it has begun it and with which
values (R352), how many start events it has had for the entry, the conversion in
progress, the one that ended at the last start event, a pending urgent channel, the
first diagnostic code (R347), and the entries whose last compared result lay outside
its band (R355). -/
structure Converter where
  entry : Nat := 0
  begun : Bool := false
  cfg : Word := 0
  done : Nat := 0
  running : Option Conv := none
  ended : Option Conv := none
  urgent : Option Nat := none
  upCode : Option Nat := none
  outside : List Nat := []
  deriving DecidableEq, Repr

/-- A calibration command under way (R356): ZERO or FS, channel, converter, reference,
conversions started and completed, sum of codes, and whether one was out of range. -/
structure CalRun where
  zero : Bool
  ch : Nat
  conv : Nat
  ref : Int
  started : Nat
  done : Nat
  sum : Nat
  bad : Bool
  deriving DecidableEq, Repr

/-- A result that updated a value: channel, start event, converter, free run. -/
structure MeterResult where
  ch : Nat
  start : Nat
  conv : Nat
  value : Int
  free : Bool
  deriving DecidableEq, Repr

/-- Hidden state of the meter. -/
structure MeterSt where
  /-- WTIME of the last accepted edge, none since tracking started afresh (R340), and
  of that start -/
  lastEdge : Option Nat := none
  since : Nat := 0
  /-- start events so far, and WTIME of the last -/
  starts : Nat := 0
  lastStart : Nat := 0
  /-- no selected edge since MSYNC_LOST was set (R87) -/
  waitEdge : Bool := false
  conv0 : Converter := {}
  conv1 : Converter := {}
  conv2 : Converter := {}
  conv3 : Converter := {}
  /-- results of the last two start events (R359) -/
  results : List MeterResult := []
  /-- the round (R360): WTIME and number of its first start event, feeds with a
  product since it began, and whether one came from free run -/
  roundFrom : Option (Nat × Nat) := none
  roundFeeds : List Nat := []
  roundFree : Bool := false
  cal : Option CalRun := none
  /-- the pending zero: channel, code, reference (R356) -/
  calZero : Option (Nat × Nat × Int) := none
  /-- channels whose last open-wire test failed (R347) -/
  openCh : List Nat := []
  /-- MTR_DSTAT words latched by a read of MTR_DATA (R354) -/
  dstat : Store (Option Word) := []
  deriving DecidableEq, Repr

def MeterSt.conv (x : MeterSt) (c : Nat) : Converter :=
  match c with
  | 0 => x.conv0
  | 1 => x.conv1
  | 2 => x.conv2
  | _ => x.conv3

def MeterSt.setConv (x : MeterSt) (c : Nat) (v : Converter) : MeterSt :=
  match c with
  | 0 => { x with conv0 := v }
  | 1 => { x with conv1 := v }
  | 2 => { x with conv2 := v }
  | _ => { x with conv3 := v }

/-- The SPI pins of the active Heath as they stand between image reads (Table 2.12, R86):
the level driven on each, none where the pin is at high impedance. -/
structure SpiPins where
  cs : Option Bool := some true
  sck : Option Bool := some false
  io2 : Option Bool := none
  io3 : Option Bool := none
  deriving DecidableEq, Repr

/-- What the standby Heath mirrors (R333): the Heath's registers but HTH_SMBCFG.PAGE, the
sequence numbers of the leases, the live retire map, the pending copy of the logical map, the
bridge's HTH_LSEL, the fault collector and the Commons.  The meter's calibration and results
are registers. -/
structure Mirrored where
  regs : Store Word := []
  leaseSeq : Store Nat := []
  retireMap : Store Nat := []
  mapPend : List (Fin 4096 × Word) := []
  lselSmb : Word := 0
  fault : FaultSt := {}
  commons : Commons := {}
  deriving DecidableEq, Repr

/-- Hidden state of the Heaths. -/
structure HeathSt where
  /-- number of the active Heath (R43); 0 until one is chosen -/
  activeId : Nat := 0
  /-- a Heath is active now: not before the choice of R314, and not between the loss
  of the active Heath and the takeover -/
  active : Bool := false
  /-- the last bring-up step completed and POWER_READY, as the whole wafer knows them: a
  Heath that comes back alone does not undo them (R313, R336) -/
  bringUp : Nat := 0
  ready : Bool := false
  /-- VIB has held for 10 ms (R315) -/
  vibHeld : Bool := false
  /-- units that have tested their phases at step 9, by `UnitId.key` (R317) -/
  tested : List Nat := []
  /-- what a Heath that came back alone has still to do (R336): 3 read the flash, 2 load
  the NVM, 1 resend configuration -/
  lone : Nat := 0
  /-- Heaths that have halted for their die temperature (R444), the one that is about
  to, and Heaths whose self-test is awaited after a reset of their own (R336) -/
  halted : List Nat := []
  halting : Option Nat := none
  booting : List Nat := []
  /-- the other Heath is standby (R314, R331) -/
  standby : Bool := false
  /-- self-test results of H_A and H_B (R314) -/
  testA : Option Bool := none
  testB : Option Bool := none
  /-- wafer reset is held, by which of AUX_OK, SYS_RST# and a command, and whether
  VSTBY was lost in it (R82, R319) -/
  auxLow : Bool := false
  sysLow : Bool := false
  cmdRst : Bool := false
  vstbyLost : Bool := false
  /-- the test fuse is intact (R89) -/
  testFuse : Bool := false
  /-- number of remap windows opened (R199) and the pending map entries (R31) -/
  windows : Nat := 0
  mapPend : List (Fin 4096 × Word) := []
  /-- sequence number of the last lease to each partition (R271) -/
  leaseSeq : Store Nat := []
  /-- budget of the last lease that each partition received (R272) -/
  leaseGot : Store Nat := []
  /-- weight of each partition's context in force, as reported (R288) -/
  weight : Store Nat := []
  /-- taken width of each link once passed (R291), and links lost (R292) -/
  width : Store (Option Nat) := []
  linkLost : List Nat := []
  /-- first epoch that is closed (R279), last closed epoch, partial run (R280) -/
  epochFrom : Option Nat := none
  epochLast : Option Nat := none
  partialRun : Nat := 0
  /-- last epoch that caused a BRAKE (R282), and consecutive low epochs (R284) -/
  brakeEpoch : Option Nat := none
  lowRun : Nat := 0
  /-- partitions that report a held brake (R284) -/
  held : List Nat := []
  /-- the result that has come for an open epoch: epoch, sum, mask (R279, R280) -/
  epochGot : Option (Nat × Nat × Nat) := none
  /-- closed epochs since the start event that began the metered interval: number, rail
  power, partial or not; and whether the interval is unusable (R269) -/
  etaEpochs : List (Nat × Nat × Bool) := []
  etaBad : Bool := true
  /-- the last valid derating table: temperature and cap of each point (R267) -/
  derate : Option (List (Nat × Nat)) := none
  /-- HTH_INLET holds a reading (R266) -/
  inlet : Option Int := none
  commons : Commons := {}
  /-- switch-on requests in order, last grant, and the place in the bring-up order
  (R310, R311) -/
  sonQ : List Nat := []
  sonLast : Option Nat := none
  sonNext : Nat := 0
  sonOrder : Bool := true
  /-- partitions whose known-answer test failed (R316) -/
  katFailed : List Nat := []
  /-- unicasts that await an answer (R327) -/
  unicasts : List Unicast := []
  /-- last value written to each Sward's SWD_SCHED (R326) -/
  sched : Store Word := []
  /-- Hedgerow copies acted on: stop, sender and sequence (R47), and stops at which the copy
  at hand is one of them -/
  heard : List (Nat × Nat × Nat) := []
  dups : List Nat := []
  /-- partitions that answered the last enumeration (R315), as the wafer knows them: a Heath
  that comes back alone does not undo them -/
  live : List Nat := []
  /-- consecutive alignment marks that reached every live Sward (R52) -/
  marks : Nat := 0
  /-- partitions the present mark has reached, none before the first mark, and whether it has
  been counted as one that reached every live Sward -/
  markAt : Option (List Nat) := none
  markDone : Bool := false
  /-- PRST levels as reported (R31) -/
  prst : List Nat := []
  /-- mirror records sent, and acknowledged and applied (R333); the records on their way,
  each with what it brings the standby to, and the mirror that the standby holds -/
  mirrorSent : Nat := 0
  mirrorSeen : Nat := 0
  mirrorQ : List (Nat × Mirrored) := []
  mirror : Mirrored := {}
  /-- the live retire map (R193): by nibble, the slots of a unit that are retired -/
  retireMap : Store Nat := []
  /-- partitions whose Sward has pace mode in force -/
  paceOn : List Nat := []
  fault : FaultSt := {}
  nvm : NvmSt := {}
  meter : MeterSt := {}
  /-- latched high words of R13 and held low halves, by interface: 0 service window,
  1 SMBus block bridge, 2 + 4096p + MID user aperture; each with its register address -/
  latches : Store (Option (Nat × Word)) := []
  lowHeld : Store (Option (Nat × Word)) := []
  /-- HTH_LSEL of the SMBus block bridge (R57) -/
  lselSmb : Word := 0
  /-- records of the image in force: words 0 and 1 (R434) -/
  image : List (Nat × Nat) := []
  /-- the SPI pins (R86, R436) -/
  spi : SpiPins := {}
  /-- the Heath that drives MTR_VREF (R88, Table 2.12) -/
  vref : Option Nat := some 0
  /-- the three passes of R316 have been sent -/
  configSent : Bool := false
  /-- the service-window access that is outstanding (R427): its address, and the mirror
  record its response waits for (R333) -/
  swOut : Option (Nat × Option Nat) := none
  /-- an SMBus transaction waits for a block-bridge access (R418, R419) -/
  smbBusy : Bool := false
  deriving DecidableEq, Repr

def sixteen (_ : Nat) : Nat := 16
def noMember (_ : Nat) : Member := {}
def noSource (_ : Nat) : SourceSt := {}
def noSlot (_ : Nat) : Option NvmSlot := none
def noJob (_ : Nat) : Option NvmJob := none
def noJobs (_ : Nat) : List NvmJob := []
def noLatch (_ : Nat) : Option (Nat × Word) := none

end Sys2Proof.Machine
end

