-- ==== Sys2Proof/Syntax.lean ====
section
/-! DEFINITION.  The commands that the controller takes: one constructor for each row of
the opcode table, with the row's operands.  An operand `w` is the WTIME of an event; an
operand that a sensor or a wire gives stands in the units of Table 0.5. -/

namespace Sys2Proof

open Sys2Proof.Machine

/-- A command: an event, an operation or an access of the opcode table. (DESIGN CHOICE: log 5.) -/
inductive Instr where
  /-- LOW_WORD_READ (R13) -/
  | lowWordRead (i : Issuer) (a : BitVec 30)
  /-- HIGH_WORD_READ (R13) -/
  | highWordRead (i : Issuer) (a : BitVec 30)
  /-- LOW_WORD_WRITE (R13) -/
  | lowWordWrite (i : Issuer) (a : BitVec 30) (data : Word)
  /-- HIGH_WORD_WRITE (R13) -/
  | highWordWrite (i : Issuer) (a : BitVec 30) (data : Word)
  /-- REGISTER_WRITE (R17) -/
  | registerWrite (i : Issuer) (be : BitVec 4) (a : BitVec 30) (data : Word)
  /-- VSTBY_LOSS (R50) -/
  | vstbyLoss
  /-- AUX_OK_LOW (R82) -/
  | auxOkLow
  /-- SYS_RST_ASSERT (R82) -/
  | sysRstAssert
  /-- HEATH_RESET_RELEASE (R313) -/
  | heathResetRelease (straps : Fin 4) (test : Bool)
  /-- HEATH_SELF_TEST_DONE (R314) -/
  | heathSelfTestDone (h : Fin 2) (pass : Bool)
  /-- FLASH_IMAGE_READ (R432) -/
  | flashImageRead (sfdp : Option Sfdp) (a : List (BitVec 8)) (b : List (BitVec 8))
  /-- NVM_OVERLAY_LOAD (R441) -/
  | nvmOverlayLoad
  /-- VIB_PRESENCE_HELD (R315) -/
  | vibPresenceHeld
  /-- HEDGEROW_ENUMERATE (R315) -/
  | hedgerowEnumerate
  /-- CONFIG_BROADCAST (R316) -/
  | configBroadcast
  /-- UNIT_SELF_TEST (R317) -/
  | unitSelfTest (u : UnitId) (c0 : BitVec 6) (c1 : BitVec 6) (c2 : BitVec 6) (c3 : BitVec 6)
  /-- POWER_READY (R313) -/
  | powerReady
  /-- TVDD_POR_ASSERT (R54) -/
  | tvddPorAssert (t : TvddId)
  /-- TVDD_POR_RELEASE (R54) -/
  | tvddPorRelease (t : TvddId)
  /-- MAP_OPEN (R31) -/
  | mapOpen
  /-- MAP_COMMIT (R32) -/
  | mapCommit (opens : Bool)
  /-- MAP_DISCARD (R32) -/
  | mapDiscard
  /-- LMAP_WRITE (R31) -/
  | lmapWrite (n : Fin 4096) (data : Word)
  /-- LOGICAL_WINDOW_ACCESS (R57) -/
  | logicalWindowAccess (i : Issuer) (be : BitVec 4) (o : Fin 1024) (write : Option Word)
  /-- PRST_CHANGE (R76) -/
  | prstChange (p : Fin 64) (level : Bool)
  /-- FENCE_CHANGE (R77) -/
  | fenceChange (p : Fin 64) (level : Bool)
  /-- HEDGEROW_MESSAGE_RECEIVE (R47) -/
  | hedgerowMessageReceive (stop : Fin 66) (sender : Fin 66) (seq : BitVec 16)
  /-- STOP_BYPASS_CLOSE (R48) -/
  | stopBypassClose (i : Fin 66)
  /-- ALIGNMENT_MARK (R51) -/
  | alignmentMark (w : Nat)
  /-- ALIGNMENT_MARK_RECEIVE (R52) -/
  | alignmentMarkReceive (p : Fin 64) (w : Nat)
  /-- MESH_REF_LOSS (R52) -/
  | meshRefLoss
  /-- SENSE_OPEN_DETECT (R62) -/
  | senseOpenDetect (u : UnitId) (q : Fin 2) (v : Int)
  /-- VIB_UNDER_VOLTAGE (R63) -/
  | vibUnderVoltage (u : UnitId) (vib : Nat)
  /-- VIB_RECOVER (R63) -/
  | vibRecover (u : UnitId) (vib : Nat) (v0 : Int) (v1 : Int)
  /-- VIB_OUT_OF_RANGE (R63) -/
  | vibOutOfRange (u : UnitId) (vib : Nat)
  /-- VIB_SINK_INHIBIT (R63) -/
  | vibSinkInhibit (u : UnitId) (vib : Nat)
  /-- VIB_OVER_VOLTAGE (R63) -/
  | vibOverVoltage (u : UnitId) (vib : Nat)
  /-- DEMAND_BEGIN (R95) -/
  | demandBegin (u : UnitId) (q : Fin 2) (v : Int)
  /-- DEMAND_END (R95) -/
  | demandEnd (u : UnitId) (q : Fin 2) (v : Int)
  /-- MODULATOR_REQUEST (R96) -/
  | modulatorRequest (u : UnitId) (q : Fin 2) (vib : Nat)
  /-- PULSE_END (R105) -/
  | pulseEnd (u : UnitId) (slot : Fin 4)
  /-- OFF_TIME_EXPIRE (R104) -/
  | offTimeExpire (u : UnitId) (slot : Fin 4) (w : Nat)
  /-- PHASE_CURRENT_ZERO (R117) -/
  | phaseCurrentZero (u : UnitId) (slot : Fin 4)
  /-- FLL_WINDOW_END (R109) -/
  | fllWindowEnd (u : UnitId)
  /-- SYNC_EDGE (R111) -/
  | syncEdge (u : UnitId) (err : Int)
  /-- SYNC_EDGE_MISSING (R111) -/
  | syncEdgeMissing (u : UnitId)
  /-- SYNC_LOSS (R113) -/
  | syncLoss (u : UnitId)
  /-- SYNC_RETURN (R114) -/
  | syncReturn (u : UnitId)
  /-- REF_MOVE_COMPLETE (R113) -/
  | refMoveComplete (u : UnitId)
  /-- OWN_OSC_WRITE (R116) -/
  | ownOscWrite (u : UnitId) (on : Bool)
  /-- SHED_ENTER (R119) -/
  | shedEnter (u : UnitId) (q : Fin 2) (i8 : Int)
  /-- SHED_EXIT (R119) -/
  | shedExit (u : UnitId) (q : Fin 2) (i1 : Int)
  /-- SHED_HOLD_EXPIRE (R119) -/
  | shedHoldExpire (u : UnitId) (q : Fin 2)
  /-- SINK_ENTER (R120) -/
  | sinkEnter (u : UnitId) (q : Fin 2) (v : Int)
  /-- SINK_EXIT (R120) -/
  | sinkExit (u : UnitId) (q : Fin 2) (v : Int)
  /-- RAIL_ENABLE (R122) -/
  | railEnable (u : UnitId) (q : Fin 2)
  /-- RAIL_DISABLE (R122) -/
  | railDisable (u : UnitId) (q : Fin 2)
  /-- ON_DELAY_EXPIRE (R122) -/
  | onDelayExpire (u : UnitId) (q : Fin 2) (v : Int)
  /-- RAMP_STEP (R122) -/
  | rampStep (u : UnitId) (q : Fin 2) (v : Int)
  /-- SETPOINT_WRITE (R124) -/
  | setpointWrite (u : UnitId) (sp : SetPoint) (data : Word) (v : Int)
  /-- RETENTION_SELECT (R126) -/
  | retentionSelect (u : UnitId) (ret : Bool) (v : Int)
  /-- PHCTL_WRITE (R101) -/
  | phctlWrite (u : UnitId) (slot : Fin 4) (data : Word)
  /-- INTENT_RECORD (R153) -/
  | intentRecord (g : Fin 4096) (d : Word) (w : Nat) (i0 : Int) (i1 : Int)
  /-- IPORT_ISOLATION_END (R68) -/
  | iportIsolationEnd (g : Fin 4096) (w : Nat) (i0 : Int) (i1 : Int)
  /-- INTENT_LIFT (R154) -/
  | intentLift (g : Fin 4096) (w : Nat) (i0 : Int) (i1 : Int)
  /-- INTENT_STEP_OBSERVED (R158) -/
  | intentStepObserved (g : Fin 4096) (q : Fin 2) (i40 : Int)
  /-- INTENT_EXPIRE (R154) -/
  | intentExpire (g : Fin 4096) (w : Nat)
  /-- PRELIFT_DECAY_STEP (R156) -/
  | preliftDecayStep (g : Fin 4096) (q : Fin 2)
  /-- GORSE_TRIGGER (R138) -/
  | gorseTrigger (g : Fin 4096) (v : Int) (fall : Int)
  /-- GORSE_BURST_END (R139) -/
  | gorseBurstEnd (g : Fin 4096)
  /-- GORSE_BURST_EARLY_END (R140) -/
  | gorseBurstEarlyEnd (g : Fin 4096) (v : Int) (e0 : Nat) (e1 : Nat)
  /-- GORSE_REARM (R142) -/
  | gorseRearm (g : Fin 4096) (before : Int) (v : Int)
  /-- NBR_COUNT_CHANGE (R135) -/
  | nbrCountChange (g : Fin 4096)
  /-- TIE_REQUEST_RECEIVE (R144) -/
  | tieRequestReceive (g : Fin 4096) (n : Fin 4) (code : Fin 4) (w : Nat)
  /-- TIE_SIDE_CLOSED (R64) -/
  | tieSideClosed (g : Fin 4096) (n : Fin 4)
  /-- TIE_ACK_RECEIVE (R151) -/
  | tieAckReceive (g : Fin 4096) (n : Fin 4) (level : Bool)
  /-- TIE_REQUEST_RELEASE (R147) -/
  | tieRequestRelease (g : Fin 4096) (n : Fin 4)
  /-- TIE_HOLD_EXPIRE (R147) -/
  | tieHoldExpire (g : Fin 4096) (n : Fin 4)
  /-- TIE_GUARD_OPEN (R149) -/
  | tieGuardOpen (g : Fin 4096) (n : Fin 4) (v : Int)
  /-- TIE_GUARD_RECLOSE (R149) -/
  | tieGuardReclose (g : Fin 4096) (n : Fin 4) (v : Int)
  /-- TIE_ACK_TIMEOUT (R150) -/
  | tieAckTimeout (g : Fin 4096) (n : Fin 4)
  /-- STRETCH_ASSERT (R162) -/
  | stretchAssert (g : Fin 4096) (v : Int) (w : Nat)
  /-- STRETCH_RELEASE (R162) -/
  | stretchRelease (g : Fin 4096) (v : Int) (w : Nat)
  /-- PATCH_OVERLOAD_CLASSIFY (R166) -/
  | patchOverloadClassify (g : Fin 4096) (v : Int)
  /-- CURRENT_LIMIT_HIT (R171) -/
  | currentLimitHit (u : UnitId) (slot : Fin 4) (i : Int)
  /-- PHASE_FAULT_DETECT (R173) -/
  | phaseFaultDetect (u : UnitId) (slot : Fin 4) (reading : PhaseReading)
  /-- SUSPENSION_END (R174) -/
  | suspensionEnd (u : UnitId) (slot : Fin 4)
  /-- RAIL_OV_TRIP (R178) -/
  | railOvTrip (u : UnitId) (q : Fin 2) (v : Int)
  /-- TRIP_RETRY_EXPIRE (R179) -/
  | tripRetryExpire (u : UnitId) (q : Fin 2) (v : Int)
  /-- RAIL_UNDER_VOLTAGE (R180) -/
  | railUnderVoltage (u : UnitId) (q : Fin 2) (v : Int)
  /-- TEMP_SAMPLE (R181) -/
  | tempSample (u : UnitId) (t : TempReading)
  /-- TEMP_SENSOR_FAIL (R186) -/
  | tempSensorFail (u : UnitId) (noSample : Bool)
  /-- COLUMN_ESTIMATE (R187) -/
  | columnEstimate (u : UnitId) (slot : Fin 4) (i : Int) (steady : Bool) (quiet : Bool)
  /-- COLUMN_ESTIMATE_DONE (R188) -/
  | columnEstimateDone (u : UnitId) (slot : Fin 4) (drop : Int) (i : Int) (interrupted : Bool)
  /-- BASELINE_CAPTURE (R189) -/
  | baselineCapture (u : UnitId) (slot : Fin 4)
  /-- RETIRE_WRITE (R192) -/
  | retireWrite (u : UnitId) (slot : Fin 4)
  /-- UNRETIRE_WRITE (R199) -/
  | unretireWrite (u : UnitId) (slot : Fin 4)
  /-- PHASE_TEST_START (R199) -/
  | phaseTestStart (u : UnitId) (slot : Fin 4)
  /-- PHASE_TEST_DONE (R199) -/
  | phaseTestDone (u : UnitId) (slot : Fin 4)
  /-- ADOPTION_END (R200) -/
  | adoptionEnd (g : Fin 4096) (v : Int)
  /-- ADOPTION_OVER_CAP (R197) -/
  | adoptionOverCap (g : Fin 4096) (w : Nat)
  /-- FRAME_BOUNDARY (R203) -/
  | frameBoundary (p : Fin 64) (f : Nat)
  /-- DOWNLINK_FRAME_RECEIVE (R205): the bits flipped in the copy from each end of the spoke,
  none where no copy comes -/
  | downlinkFrameReceive (u : UnitId) (copies : Option (BitVec 1064) × Option (BitVec 1064))
  /-- DOWNLINK_APPLY (R206) -/
  | downlinkApply (u : UnitId) (f : Nat) (sample : Sample)
  /-- UPLINK_RECORD_RECEIVE (R208): the bits flipped in the copy at each end of the spoke, none
  where no copy comes -/
  | uplinkRecordReceive (u : UnitId) (a : Option (BitVec 200)) (b : Option (BitVec 200))
  /-- ACCESS_CHANNEL_ENQUEUE (R207) -/
  | accessChannelEnqueue (u : UnitId) (off : Fin 1024) (data : Word) (read : Bool) (issuer : Issuer)
  /-- COMMIT_POINT (R203) -/
  | commitPoint (p : Fin 64)
  /-- SETTLE_TIMEOUT (R254) -/
  | settleTimeout (p : Fin 64)
  /-- RAISE_BLOCK_EXPIRE (R254) -/
  | raiseBlockExpire (p : Fin 64)
  /-- WALK_STEP_PASS (R241) -/
  | walkStepPass (p : Fin 64)
  /-- WALK_SETTLE_FAIL (R241) -/
  | walkSettleFail (p : Fin 64)
  /-- FULL_RUNG_TIMEOUT (R250) -/
  | fullRungTimeout (p : Fin 64)
  /-- SLOT_EXECUTE (R219) -/
  | slotExecute (p : Fin 64) (n : Fin 256)
  /-- PREDICTOR_EXECUTE (R224) -/
  | predictorExecute (p : Fin 64) (k : Fin 16)
  /-- SWARD_CONFIG_WRITE (R215) -/
  | swardConfigWrite (p : Fin 64) (off : Nat) (data : Word)
  /-- SLOT_STATE_WRITE (R216) -/
  | slotStateWrite (p : Fin 64) (n : Fin 256) (word : Fin 6) (data : Word)
  /-- SLOT_INT_CLEAR (R220) -/
  | slotIntClear (p : Fin 64) (n : Fin 256)
  /-- PREDICTOR_CLEAR (R225) -/
  | predictorClear (p : Fin 64) (k : Fin 16)
  /-- LOAD_PEAK_CLEAR (R226) -/
  | loadPeakClear (p : Fin 64)
  /-- KAT_START (R231) -/
  | katStart (p : Fin 64)
  /-- KAT_DONE (R231) -/
  | katDone (p : Fin 64) (lanes : BitVec 4)
  /-- LADDER_SHADOW_WRITE (R234) -/
  | ladderShadowWrite (p : Fin 64) (t : Fin 64) (i : Fin 16) (data : Word)
  /-- LADDER_CHECK_DONE (R246) -/
  | ladderCheckDone (p : Fin 64)
  /-- LADDER_COPY_DONE (R245) -/
  | ladderCopyDone (p : Fin 64)
  /-- SWAP (R263) -/
  | swap (p : Fin 64)
  /-- RESYNC (R263) -/
  | resync (p : Fin 64)
  /-- FW_OPEN (R249) -/
  | fwOpen (p : Fin 64)
  /-- FULL (R250) -/
  | full (p : Fin 64)
  /-- WALK_REQ (R263) -/
  | walkReq (p : Fin 64) (t : Fin 64)
  /-- KA_FAIL (R244) -/
  | kaFail (p : Fin 64) (t : Fin 64)
  /-- CANARY_STRETCH_WINDOW_END (R239) -/
  | canaryStretchWindowEnd (g : Fin 4096) (w : Nat)
  /-- PACE_MODE_WRITE (R256) -/
  | paceModeWrite (mode : Bool)
  /-- PACE_MODE_APPLY (R257) -/
  | paceModeApply (p : Fin 64)
  /-- CAP_REQUEST_WRITE (R265) -/
  | capRequestWrite (cap : BitVec 16)
  /-- DERATE_TABLE_WRITE (R267) -/
  | derateTableWrite (k : Fin 8) (data : Word)
  /-- INLET_READING_TIMEOUT (R267) -/
  | inletReadingTimeout
  /-- LEASE_PERIOD (R272) -/
  | leasePeriod (w : Nat)
  /-- LEASE_RECEIVE (R273) -/
  | leaseReceive (p : Fin 64) (seq : BitVec 16) (issue : Word) (dur : BitVec 8) (budget : Word) (floor : Word) (w : Nat)
  /-- LEASE_EXPIRE (R274) -/
  | leaseExpire (p : Fin 64) (w : Nat)
  /-- REDUCTION_RESULT_RECEIVE (R279) -/
  | reductionResultReceive (e : Nat) (power : Word) (mask : BitVec 64) (w : Nat)
  /-- EPOCH_DEADLINE (R280) -/
  | epochDeadline (e : Nat) (w : Nat)
  /-- BRAKE_RECEIVE (R283) -/
  | brakeReceive (p : Fin 64)
  /-- RELEASE_RECEIVE (R284) -/
  | releaseReceive (p : Fin 64)
  /-- BRAKE_HELD_REPORT (R284) -/
  | brakeHeldReport (p : Fin 64) (held : Bool)
  /-- CONTEXT_RESTART (R287) -/
  | contextRestart (p : Fin 64) (c : Fin 8)
  /-- SWATH_ENTRY_TIMEOUT (R290) -/
  | swathEntryTimeout (p : Fin 64)
  /-- SWATH_DATA_ACCESS (R290) -/
  | swathDataAccess (p : Fin 64) (write : Option Word)
  /-- LNK_STAT_TAKE (R78) -/
  | lnkStatTake (p : Fin 64) (k : Fin 4) (w : Nat)
  /-- TRAIN_WINDOW_END (R308) -/
  | trainWindowEnd (p : Fin 64)
  /-- COMMONS_ENABLE (R301) -/
  | commonsEnable (on : Bool)
  /-- COMMONS_REPORT_SEND (R296) -/
  | commonsReportSend
  /-- BARRIER_WAIT_WRITE (R296) -/
  | barrierWaitWrite (wait : BitVec 16)
  /-- COMMONS_FRAME_RECEIVE (R295) -/
  | commonsFrameReceive (bytes : List (BitVec 8)) (w : Nat)
  /-- MEMBER_LIVENESS_EXPIRE (R297) -/
  | memberLivenessExpire (i : Fin 64) (w : Nat)
  /-- GRANT_STEP (R299) -/
  | grantStep (w : Nat)
  /-- GRANT_RECEIVE (R300) -/
  | grantReceive (src : Fin 64) (seq : BitVec 16) (grant : Word) (cap : Word) (n : BitVec 8) (w : Nat)
  /-- GRANT_EXPIRE (R301) -/
  | grantExpire (w : Nat)
  /-- DOMCTL_WRITE (R303) -/
  | domctlWrite (p : Fin 64) (data : Word)
  /-- CORE_HOLD_CLEAR (R309) -/
  | coreHoldClear (p : Fin 64)
  /-- SWITCH_ON_REQUEST (R310) -/
  | switchOnRequest (p : Fin 64)
  /-- SWITCH_ON_GRANT (R311) -/
  | switchOnGrant (w : Nat)
  /-- SEQ_TABLE_WRITE (R312) -/
  | seqTableWrite (i : Fin 64) (data : Word)
  /-- WAFER_RST (R319) -/
  | waferRst
  /-- HEATH_RST (R319) -/
  | heathRst
  /-- SWD_RST (R325) -/
  | swdRst (p : Fin 64)
  /-- WAFER_RESET_MESSAGE (R334) -/
  | waferResetMessage (p : Fin 64)
  /-- SWARD_HEARTBEAT_TIMEOUT (R334) -/
  | swardHeartbeatTimeout (p : Fin 64)
  /-- URST (R320) -/
  | urst (p : Fin 64) (u : Fin 128)
  /-- UNIT_CLEAR_END (R324) -/
  | unitClearEnd (u : UnitId)
  /-- RELEASE_WRITE (R324) -/
  | releaseWrite (u : UnitId)
  /-- SWARD_WATCHDOG (R325) -/
  | swardWatchdog (p : Fin 64)
  /-- SWARD_RESET_END (R326) -/
  | swardResetEnd (p : Fin 64)
  /-- HEDGEROW_RETRY (R327) -/
  | hedgerowRetry (p : Fin 64) (k : UnicastKind) (addr : Nat) (w : Nat)
  /-- HEDGEROW_ABANDON (R327) -/
  | hedgerowAbandon (p : Fin 64) (k : UnicastKind) (addr : Nat) (w : Nat)
  /-- RETURN_EPOCH_CHECK (R329) -/
  | returnEpochCheck (p : Fin 64) (u : Fin 72) (epoch : BitVec 16)
  /-- HEARTBEAT_SEND (R331) -/
  | heartbeatSend (w : Nat)
  /-- HEATH_TAKEOVER (R331) -/
  | heathTakeover (w : Nat)
  /-- HEARTBEAT_RECEIVE (R332) -/
  | heartbeatReceive (gen : BitVec 8)
  /-- MIRROR_RECORD_RECEIVE (R333) -/
  | mirrorRecordReceive (seq : BitVec 16)
  /-- STANDBY_LOST (R333) -/
  | standbyLost
  /-- MIRROR_COPY_DONE (R336) -/
  | mirrorCopyDone
  /-- MAINS_SYNC_EDGE (R339) -/
  | mainsSyncEdge (rising : Bool) (w : Nat)
  /-- MAINS_SYNC_LOST (R341) -/
  | mainsSyncLost (w : Nat)
  /-- FREE_RUN_START_EVENT (R341) -/
  | freeRunStartEvent (w : Nat)
  /-- CONVERSION_RESULT (R345): v nV stand at the converted input -/
  | conversionResult (c : Fin 4) (v : Int)
  /-- METER_ROUND_TIMEOUT (R360) -/
  | meterRoundTimeout
  /-- METER_RUN_WRITE (R343) -/
  | meterRunWrite (run : Bool) (w : Nat)
  /-- METER_RESTART (R352) -/
  | meterRestart
  /-- METER_URGENT_REQUEST (R353) -/
  | meterUrgentRequest (c : Fin 4) (ch : Fin 64)
  /-- METER_DATA_READ (R354) -/
  | meterDataRead (c : Fin 4)
  /-- ZERO (R356) -/
  | zero (ch : Fin 64) (c : Fin 4)
  /-- FS (R356) -/
  | fs (ch : Fin 64) (c : Fin 4)
  /-- METER_CAL_COMPLETE (R357) -/
  | meterCalComplete
  /-- TELEMETRY_WINDOW_LATCH (R366) -/
  | telemetryWindowLatch (u : UnitId) (f : Nat)
  /-- TELEMETRY_WINDOW_WRITE (R367) -/
  | telemetryWindowWrite (u : UnitId) (n : Fin 32)
  /-- MARK_STALE (R368) -/
  | markStale (u : UnitId)
  /-- PEAK_READ (R371) -/
  | peakRead (i : Issuer) (u : UnitId) (k : PeakReg)
  /-- AGGREGATE_WINDOW_LATCH (R374) -/
  | aggregateWindowLatch (p : Fin 64) (f : Nat)
  /-- SNAP (R382) -/
  | snap (p : Fin 64)
  /-- CLR (R382) -/
  | clr (p : Fin 64) (all : Bool) (k : Fin 128)
  /-- COUNTER_OVERFLOW (R383) -/
  | counterOverflow (p : Fin 64) (k : Fin 96) (n : Nat)
  /-- OVERFLOW_SNAPSHOT (R384) -/
  | overflowSnapshot (p : Fin 64) (pred : Bool) (slot : Fin 256)
  /-- APERTURE_READ (R385) -/
  | apertureRead (p : Fin 64) (g : Fin 4096) (super : Bool) (write : Bool) (o : Fin 1024)
  /-- FAULT_REPORT_RECEIVE (R393) -/
  | faultReportReceive (sender : Fin 65) (seq : BitVec 16) (code : Fin 64) (unit : Word) (dataA : Word) (dataB : Word) (time : BitVec 64) (sub : BitVec 16) (injected : Bool) (w : Nat)
  /-- PARTITION_TRIP_RECEIVE (R396) -/
  | partitionTripReceive (p : Fin 64)
  /-- FL_TRIP_EDGE (R398) -/
  | flTripEdge (p : Fin 64) (w : Nat)
  /-- WTRIP_RECEIVE (R397) -/
  | wtripReceive (p : Fin 64)
  /-- FAULT_REPORT_ACK (R389) -/
  | faultReportAck (p : Fin 64) (seq : BitVec 16)
  /-- FAULT_REPORT_RESEND (R389) -/
  | faultReportResend (p : Fin 64) (seq : BitVec 16)
  /-- ACK (R400) -/
  | ack (c : Fin 64)
  /-- ALL (R400) -/
  | all
  /-- GRACE_TIMER_EXPIRE (R403) -/
  | graceTimerExpire (c : Fin 64) (w : Nat)
  /-- FEC_CLEAR (R405) -/
  | fecClear
  /-- FAULT_RECORD_WRITE (R408) -/
  | faultRecordWrite
  /-- RING_RP_WRITE (R409) -/
  | ringRpWrite (data : Word)
  /-- LAST_FAULT_CLEAR (R413) -/
  | lastFaultClear
  /-- FAULT_INJECT (R414) -/
  | faultInject (origin : Bool) (part : Fin 64) (src : Fin 64)
  /-- PAGE (R421) -/
  | page (write : Option (BitVec 8)) (pec : Pec)
  /-- CLEAR_FAULTS (R424) -/
  | clearFaults (pec : Pec)
  /-- CAPABILITY (R416) -/
  | capability (write : Bool)
  /-- STATUS_BYTE (R423) -/
  | statusByte (write : Bool)
  /-- STATUS_WORD (R423) -/
  | statusWord (write : Bool)
  /-- STATUS_INPUT (R423) -/
  | statusInput (write : Bool)
  /-- STATUS_TEMPERATURE (R423) -/
  | statusTemperature (write : Bool)
  /-- STATUS_CML (R423) -/
  | statusCml (write : Bool)
  /-- STATUS_MFR_SPECIFIC (R423) -/
  | statusMfrSpecific (write : Bool)
  /-- READ_VIN (R422) -/
  | readVin (write : Bool)
  /-- READ_IIN (R422) -/
  | readIin (write : Bool)
  /-- READ_PIN (R422) -/
  | readPin (write : Bool)
  /-- READ_TEMPERATURE_1 (R422) -/
  | readTemperature1 (write : Bool)
  /-- READ_TEMPERATURE_2 (R422) -/
  | readTemperature2 (write : Bool)
  /-- READ_TEMPERATURE_3 (R422) -/
  | readTemperature3 (write : Bool)
  /-- PMBUS_REVISION (R416) -/
  | pmbusRevision (write : Bool)
  /-- MFR_ID (R416) -/
  | mfrId (write : Bool)
  /-- MFR_MODEL (R416) -/
  | mfrModel (write : Bool)
  /-- MFR_REVISION (R416) -/
  | mfrRevision (write : Bool)
  /-- MFR_WAFER_CAP (R425) -/
  | mfrWaferCap (write : Option (BitVec 16)) (pec : Pec)
  /-- MFR_CAP_EFF (R416) -/
  | mfrCapEff (write : Bool)
  /-- MFR_REG_WRITE (R426) -/
  | mfrRegWrite (bytes : List (BitVec 8)) (pec : Pec)
  /-- MFR_REG_READ (R426) -/
  | mfrRegRead (bytes : List (BitVec 8))
  /-- SMBUS_INVALID_COMMAND (R417) -/
  | smbusInvalidCommand (code : BitVec 8)
  /-- ALERT_RESPONSE (R420) -/
  | alertResponse (win : Bool)
  /-- SMBUS_ABANDON (R418) -/
  | smbusAbandon (write : Bool)
  /-- SMBUS_STRETCH_TIMEOUT (R419) -/
  | smbusStretchTimeout (remaining : Fin 256)
  /-- SPI_RELEASE_WRITE (R436) -/
  | spiReleaseWrite (release : Bool)
  /-- STORE (R438) -/
  | store (regions : BitVec 6)
  /-- NVM_PAGE_WRITE_DONE (R437) -/
  | nvmPageWriteDone (h : Fin 2) (bank : Fin 2) (good : Bool)
  /-- NVM_STANDBY_LAG (R440) -/
  | nvmStandbyLag (r : Fin 6)
  /-- HEATH_DIE_OVER_TEMP (R444) -/
  | heathDieOverTemp (h : Fin 2) (t : Int)
  /-- HEATH_HALT (R444) -/
  | heathHalt (h : Fin 2)
  /-- MESH_REF_RETURN (R52) -/
  | meshRefReturn
  /-- SELF_TEST_REPORT_TIMEOUT (R314) -/
  | selfTestReportTimeout
  /-- FL_TRIP_RELEASE (R398) -/
  | flTripRelease
  /-- MESH_PACKET_SENT (R377) -/
  | meshPacketSent (sender : Fin 65)
  /-- LNK_STAT_CHANGE (R78) -/
  | lnkStatChange (p : Fin 64) (k : Fin 4) (v : Fin 4) (w : Nat)
  deriving DecidableEq, Repr

end Sys2Proof
end

