-- ==== Sys2Proof/Decode.lean ====
section
/-! DEFINITION.  The words of the opcode table.  No row of the table gives bits: the
controller takes its commands as events, operations and accesses, not as words. -/

namespace Sys2Proof

/-- The command that a word of the opcode table spells: none, for no row has bits.
(DEDUCED: log 59.) -/
def decodeTableWord (_nbits _w : Nat) : Option Instr := none

end Sys2Proof
end

