-- ==== Sys2Proof/Config.lean ====
section
/-! DEFINITION.  What an implementation fixes and what the spec leaves open.  A
free value is an opaque constant with no body: nothing can be proved of it. -/

namespace Sys2Proof

/-- Whether a quotient that the spec does not say how to round is held at the
upper of the two integers beside it (log 9). -/
opaque Config.roundsUp : Int → Int → Bool

/-- On-time code that the modulator computes when the latest VIB sample is zero:
R98 divides by VIB and states no result there (log 10). -/
opaque Config.onTimeZeroVib : Nat → Nat

/-- Code that TSK_ISTAT reads for a pre-lift that lies between two steps of
0.625 mV; Table 4.14 states no rounding (log 11). -/
opaque Config.preLiftCode : Int → Nat

/-- EST for a column estimate that its 16 bits cannot hold; no rule states it (log
12). (DESIGN CHOICE.) -/
opaque Config.estimateBeyond : Int → Nat

/-- The mean, least or greatest that the spec asks for over no values at all; no rule
states it (log 13). -/
opaque Config.meanOfNone : Nat → Int

/-- ETA_m of R269 for an interval whose metered power equals the controller's draw,
which would divide by zero (log 14). -/
opaque Config.etaOfZero : Int → Int

/-- The bits of a record field of a given width that a value outside the field's range
is sent as (log 15). -/
opaque Config.codeBeyond : Nat → Int → Nat

/-- The error code shown for an access that is refused in a halted wafer or at a
takeover, for which R428 gives no code (log 16). -/
opaque Config.errOfRefusal : Nat → Nat

end Sys2Proof
end

