-- ==== Sys2Proof/Machine/Bits.lean ====
section
/-! DEFINITION.  Reading and writing a bit range of a register word. -/

namespace Sys2Proof.Machine

/-- Ones in bits lo to lo + wid - 1. -/
def bitMask (lo wid : Nat) : Word := BitVec.ofNat 32 ((2 ^ wid - 1) * 2 ^ lo)

/-- The `wid` bits of a word from bit `lo`, as a number. -/
def getBits (w : Word) (lo wid : Nat) : Nat := w.toNat / 2 ^ lo % 2 ^ wid

/-- The word with `wid` bits from bit `lo` replaced by the low bits of `v`. -/
def setBits (w : Word) (lo wid v : Nat) : Word :=
  (w &&& ~~~(bitMask lo wid)) ||| (BitVec.ofNat 32 (v % 2 ^ wid * 2 ^ lo) &&& bitMask lo wid)

end Sys2Proof.Machine
end

