-- ==== Sys2Proof/Machine/State.lean ====
section
/-! DEFINITION.  The state of the whole controller, its reset, and what a step can answer
with. -/

namespace Sys2Proof.Machine

/-- What a message that the controller puts on one of its carriers is. (DESIGN CHOICE: log 7.) -/
inductive OutKind where
  | mark | heartbeat | waferReset | mirror | mirrorAck
  | lease | brake | release | brakeHeld | weight | linkWidth | prst | fence
  | switchOnRequest | switchOnGrant | paceMode | paceBreak | config | nbrCount
  | report | reportAck | partitionTrip | waferTrip | faultLine | unitReset | schedRewrite | retireMap
  | power | telemetry | trace | faultRecord | faultCopy
  | commonsReport | commonsGrant
  | readData | windowData | windowOk | windowError | windowRetry | apertureData
  | smbus | sfdp
  deriving DecidableEq, Repr

/-- A message that has left an agent: its kind, whom it goes to, and its words. -/
structure Out where
  kind : OutKind
  dest : Nat
  data : List Nat
  deriving DecidableEq, Repr

/-- The controller, without the queue of commands that wait. -/
structure Wafer where
  /-- WTIME (R50) -/
  wtime : Nat
  /-- the variant fuse code (R3) -/
  fuse : Nat
  /-- every register, by address, against its reset value -/
  regs : Store Word
  /-- hidden state of the Tussocks and Verges, by `UnitId.key` -/
  units : Store UnitSt
  /-- hidden state of the Swards -/
  swards : Store SwardSt
  /-- hidden state of the Heaths -/
  heath : HeathSt
  /-- messages sent, newest first -/
  out : List Out
  /-- number of the next fresh free value (the model's own counter) -/
  fresh : Nat
  deriving DecidableEq, Repr

/-- Why the machine stops.  No command does: the spec gives each an effect, and one whose
occasion does not stand leaves the state as it is (log 1). -/
inductive Fault where
  deriving DecidableEq, Repr

/-- What the model declines to run. (DESIGN CHOICE: log 1.) -/
inductive Refusal where
  /-- a command that has no meaning yet; no arm of `exec` answers it (safe) -/
  | notModelled (mnemonic : String)
  deriving DecidableEq, Repr

/-- The controller with the commands that wait, first in, first out. -/
structure State where
  w : Wafer
  pending : List Instr
  deriving DecidableEq, Repr

/-- What a command answers. -/
abbrev Result := Host.Outcome State Fault Refusal

/-- The controller right after a wafer reset: every register at its reset value, every
unit in RESTORE, the Heaths about to leave reset (R18, R313, R334; log 2). -/
def Wafer.reset : Wafer :=
  { wtime := 0, fuse := 1, regs := [], units := [], swards := [], heath := {}, out := [], fresh := 0 }

/-- The state right after reset. (DESIGN CHOICE: log 2.) -/
def State.reset : State := { w := Wafer.reset, pending := [] }


end Sys2Proof.Machine
end

