-- ==== Sys2Proof/Machine/Ops.lean ====
section
/-! DEFINITION.  The named operations over registers and hidden state that every
meaning is written with. -/

namespace Sys2Proof.Machine

/-! ### Registers -/

/-- The word stored for a register address: the listed one, else the reset value. -/
def Wafer.word (m : Wafer) (a : Nat) : Word := Store.get (resetWord m.fuse) m.regs a

/-- Store a register word. -/
def Wafer.putWord (m : Wafer) (a : Nat) (w : Word) : Wafer :=
  { m with regs := Store.set (resetWord m.fuse) m.regs a w }

/-- A field of the block at base `b`, as a number. -/
def Wafer.get (m : Wafer) (b : Nat) (f : Fld) : Nat := getBits (m.word (b + f.off)) f.lo f.wid

/-- A field read as two's complement. -/
def Wafer.getI (m : Wafer) (b : Nat) (f : Fld) : Int := signed f.wid (m.get b f)

/-- Whether a field is not zero. -/
def Wafer.on (m : Wafer) (b : Nat) (f : Fld) : Bool := m.get b f != 0

/-- Set a field to the low bits of a number. -/
def Wafer.set (m : Wafer) (b : Nat) (f : Fld) (v : Nat) : Wafer :=
  m.putWord (b + f.off) (setBits (m.word (b + f.off)) f.lo f.wid v)

/-- A signed code of a field; where no rule says what a value that its bits cannot hold
becomes, it is a free value. (DESIGN CHOICE: log 15.) -/
def signedCode (wid : Nat) (v : Int) : Int :=
  if -(2 ^ (wid - 1)) ≤ v ∧ v < 2 ^ (wid - 1) then v else signed wid (Config.codeBeyond wid v)

/-- An unsigned code of a field. (DESIGN CHOICE: log 15.) -/
def unsignedCode (wid : Nat) (v : Int) : Nat :=
  if 0 ≤ v ∧ v < 2 ^ wid then v.toNat else Config.codeBeyond wid v % 2 ^ wid

/-- Set a field to an integer in two's complement. -/
def Wafer.setI (m : Wafer) (b : Nat) (f : Fld) (v : Int) : Wafer := m.set b f (unsigned f.wid (signedCode f.wid v))

/-- Set a one-bit field. -/
def Wafer.setB (m : Wafer) (b : Nat) (f : Fld) (v : Bool) : Wafer := m.set b f (bit v)

/-- Increment a field, wrapping at its width. -/
def Wafer.inc (m : Wafer) (b : Nat) (f : Fld) : Wafer := m.set b f (m.get b f + 1)

/-- Increment a field that saturates at all ones. -/
def Wafer.incSat (m : Wafer) (b : Nat) (f : Fld) : Wafer :=
  if m.get b f + 1 < 2 ^ f.wid then m.inc b f else m

/-- Add to a field that saturates at all ones. -/
def Wafer.addSat (m : Wafer) (b : Nat) (f : Fld) (n : Nat) : Wafer :=
  m.set b f (min (2 ^ f.wid - 1) (m.get b f + n))

/-- Clear, in the register at an address, the bits of a mask that `data` holds at
1 (W1C of Table 0.6). -/
def Wafer.w1c (m : Wafer) (a : Nat) (mask : Nat) (data : Word) : Wafer :=
  m.putWord a (m.word a &&& ~~~(data &&& BitVec.ofNat 32 mask))

/-! ### Tussocks and Verges -/

/-- A tie port of Tussock `g` while its unit is in reset with TVDD present: 0b10 where it
has a neighbour (R66). -/
def heldPort (g n : Nat) : PortSt := { reqOut := if (neighbour g n).isSome then 2 else 0 }

/-- Hidden state of a unit at its reset, by its key. -/
def unitReset (k : Nat) : UnitSt :=
  if k < 4096 then { port0 := heldPort k 0, port1 := heldPort k 1, port2 := heldPort k 2, port3 := heldPort k 3 }
  else {}

def Wafer.unit (m : Wafer) (u : UnitId) : UnitSt := Store.get unitReset m.units u.key

def Wafer.modUnit (m : Wafer) (u : UnitId) (f : UnitSt → UnitSt) : Wafer :=
  { m with units := Store.set unitReset m.units u.key (f (m.unit u)) }

def Wafer.modRail (m : Wafer) (u : UnitId) (q : Nat) (f : RailSt → RailSt) : Wafer :=
  m.modUnit u fun x => x.setRail q (f (x.rail q))

def Wafer.modPhase (m : Wafer) (u : UnitId) (s : Nat) (f : PhaseSt → PhaseSt) : Wafer :=
  m.modUnit u fun x => x.setPhase s (f (x.phase s))

def Wafer.modPort (m : Wafer) (u : UnitId) (n : Nat) (f : PortSt → PortSt) : Wafer :=
  m.modUnit u fun x => x.setPort n (f (x.port n))

/-! ### Swards, the Heath, messages and time -/

/-- Hidden state of a Sward at its wafer reset. -/
def swardReset (_ : Nat) : SwardSt := {}

def Wafer.sward (m : Wafer) (p : Nat) : SwardSt := Store.get swardReset m.swards p

def Wafer.modSward (m : Wafer) (p : Nat) (f : SwardSt → SwardSt) : Wafer :=
  { m with swards := Store.set swardReset m.swards p (f (m.sward p)) }

/-- A Hedgerow message at a stop takes effect (R47, R48): not where the stop is passed by,
and not where the copy at hand is one already acted on. (DESIGN CHOICE: log 69.) -/
def received (stop : Nat) (f : Wafer → Wafer) (m : Wafer) : Wafer :=
  if stop < 64 ∧ (m.sward stop).passedBy then m
  else if m.heath.dups.contains stop then
    { m with heath := { m.heath with dups := m.heath.dups.filter fun k => k != stop } }
  else f m

def Wafer.modHeath (m : Wafer) (f : HeathSt → HeathSt) : Wafer := { m with heath := f m.heath }

/-- A message leaves its sender. (DESIGN CHOICE: log 7.) -/
def Wafer.send (m : Wafer) (k : OutKind) (dest : Nat) (data : List Nat) : Wafer :=
  { m with out := ⟨k, dest, data⟩ :: m.out }

/-- WTIME moves on to the time of an event; it never steps backward (R50).
(DESIGN CHOICE: log 5.) -/
def Wafer.at (m : Wafer) (w : Nat) : Wafer := { m with wtime := max m.wtime w }

/-- A bring-up step is complete (R313). -/
def setStep (n : Nat) (m : Wafer) : Wafer := (m.modHeath fun h => { h with bringUp := n }).set 0 HTH_BUSTAT.STEP n

/-- The open remap window's number (R199). -/
def Wafer.windowNo (m : Wafer) : Nat := m.heath.windows

/-- The reference of phase s of a unit (Table 1.3). -/
def phaseRef (u : UnitId) (s : Nat) : Nat := u.ref + 4 + s

/-- Set a range of registers of an array in turn. -/
def Wafer.each (m : Wafer) (l : List Nat) (f : Nat → Wafer → Wafer) : Wafer := l.foldl (fun m i => f i m) m

/-- A 64-bit value held in two registers (R13). -/
def Wafer.get64 (m : Wafer) (b : Nat) (lo hi : Fld) : Nat := m.get b hi * 2 ^ 32 + m.get b lo

def Wafer.set64 (m : Wafer) (b : Nat) (lo hi : Fld) (v : Nat) : Wafer :=
  (m.set b lo (v % 2 ^ 32)).set b hi (v / 2 ^ 32)

end Sys2Proof.Machine
end

