-- ==== Sys2Proof/Machine/Flags.lean ====
section
/-! DEFINITION.  Values and flags a Tussock or Verge derives from its registers
and hidden state: rail states, phases in service and available, set-points and
thresholds in force, and whether Gorse is armed. -/

namespace Sys2Proof.Machine

/-- OFF (Table 3.5). -/
abbrev rOFF : Nat := 0
/-- DELAY (Table 3.5). -/
abbrev rDELAY : Nat := 1
/-- RAMP_UP (Table 3.5). -/
abbrev rRAMP_UP : Nat := 2
/-- REG (Table 3.5). -/
abbrev rREG : Nat := 3
/-- RAMP_DOWN (Table 3.5). -/
abbrev rRAMP_DOWN : Nat := 4
/-- STOPPED (Table 3.5). -/
abbrev rSTOPPED : Nat := 5
/-- SENSE_OPEN (Table 3.5). -/
abbrev rSENSE_OPEN : Nat := 6
/-- TRIPPED (R178). -/
abbrev rTRIPPED : Nat := 7

/-- State code of a rail (Table 3.24). -/
def railState (u : UnitId) (q : Nat) (m : Wafer) : Nat := m.get u.base (TSK_RSTAT.STATE q)

/-- The EN bit of a rail (Table 3.9). -/
def enField (q : Nat) : Fld := if q = 0 then TSK_CTL.EN0 else TSK_CTL.EN1

def railEnabled (u : UnitId) (q : Nat) (m : Wafer) : Bool := m.on u.base (enField q)

/-- Whether the rail's modulator fires: RAMP_UP, REG, and RAMP_DOWN down to 0.20 V
(Table 3.5, R125). -/
def regulating (u : UnitId) (q : Nat) (m : Wafer) : Bool :=
  let st := railState u q m
  st == rRAMP_UP || st == rREG || (st == rRAMP_DOWN && 200000 ≤ m.getI u.base (TSK_VNOW.VNOW q))

/-- Tussock slot 3, which has no power stage (R27). -/
def slotAbsent (u : UnitId) (s : Nat) : Bool := !u.isVerge && s == 3

/-- A rail counts as enabled for its phases (R92, R449): its EN bit is set, or it still
ramps down, in which Table 3.5 has it regulate. (DEDUCED: log 62.) -/
def railServes (u : UnitId) (q : Nat) (m : Wafer) : Bool :=
  railEnabled u q m || railState u q m == rRAMP_DOWN

/-- A phase in service (R449). -/
def inService (u : UnitId) (s : Nat) (m : Wafer) : Bool :=
  !slotAbsent u s && railServes u (slotRail s) m && !m.on u.base (TSK_PHSTAT.RETIRED s)
    && !m.on u.base (TSK_PHSTAT.SUSPENDED s) && !m.on u.base (TSK_PHSTAT.SHED s)
    && !m.on u.base (TSK_PHSTAT.FORCED_OFF s)

/-- A phase available to the rotation (R92). -/
def available (u : UnitId) (s : Nat) (m : Wafer) : Bool :=
  inService u s m && !((m.unit u).phase s).offWait

/-- Pre-lift in force on a rail, in µV (R156); a Verge has none. -/
def preLift (u : UnitId) (q : Nat) (m : Wafer) : Int :=
  if u.isVerge then 0 else ((m.unit u).rail q).lift

/-- Range of a rail's set-point in µV (Table 1.6); ARRAY in its run range. -/
def railRange (verge : Bool) (q : Nat) : Int × Int :=
  if verge then (if q = 0 then (700000, 850000) else (1050000, 1250000))
  else if q = 0 then (500000, 900000) else (600000, 950000)

/-- Range that bounds V_set of a rail: for ARRAY the run and retention ranges. -/
def setRange (verge : Bool) (q : Nat) : Int × Int :=
  if verge = false ∧ q = 1 then (420000, 950000) else railRange verge q

/-- The set-point V_set: the ramp value plus the pre-lift, held in the rail's
range while a pre-lift is in force (R93, R156). -/
def vSet (u : UnitId) (q : Nat) (m : Wafer) : Int :=
  let now := m.getI u.base (TSK_VNOW.VNOW q)
  let p := preLift u q m
  if p = 0 then now else clampI (setRange u.isVerge q).1 (setRange u.isVerge q).2 (now + p)

/-- Ticks of 10 µs (R177, R180). -/
def ticks10us : Nat := 8000

/-- Values that V_set left within the 10 µs before a moment: when, highest and lowest. -/
def pastValues (now : Nat) (l : List (Nat × Int × Int)) : List (Nat × Int × Int) :=
  l.filter fun e => now < e.1 + ticks10us

/-- V_ref_hi, the highest V_set in force during the preceding 10 µs (R177). -/
def vRefHi (u : UnitId) (q : Nat) (m : Wafer) : Int :=
  ((pastValues m.wtime ((m.unit u).rail q).past).map fun e => e.2.1).foldl max (vSet u q m)

/-- V_ref_lo, the lowest V_set in force during the preceding 10 µs (R180). -/
def vRefLo (u : UnitId) (q : Nat) (m : Wafer) : Int :=
  ((pastValues m.wtime ((m.unit u).rail q).past).map fun e => e.2.2).foldl min (vSet u q m)

/-- The under-voltage condition on the rail's latest reading (R180). -/
def underVoltage (u : UnitId) (q : Nat) (m : Wafer) : Bool :=
  railState u q m == rREG && decide (((m.unit u).rail q).sense < vRefLo u q m - 1000 * (m.get u.base (TSK_RLIM.UV q) : Int))

/-- H/2 in µV (R95, Table 3.17: steps of 0.5 mV). -/
def halfBand (u : UnitId) (q : Nat) (m : Wafer) : Int := 250 * (m.get u.base (TSK_HYST.H q) : Int)

/-- OV_SOFT_eff in µV (R120). -/
def ovSoftEff (u : UnitId) (q : Nat) (m : Wafer) : Int :=
  max (1000 * (m.get u.base (TSK_OVS.OV_SOFT q) : Int)) (halfBand u q m + 1000)

/-- A set-point rounded to the 0.625 mV grid, ties upward (R38, R94). -/
def onGrid (v : Int) : Int := 625 * roundDiv v 625

/-- VSET + VTRIM of a rail (R93). -/
def targetSum (u : UnitId) (q : Nat) (m : Wafer) : Int :=
  m.getI u.base (TSK_VSET.VSET q) + m.getI u.base (TSK_VTRIM.VTRIM q)

/-- Whether the sum of R94 lies outside the rail's range. -/
def sumClamped (u : UnitId) (q : Nat) (m : Wafer) : Bool :=
  targetSum u q m < (railRange u.isVerge q).1 || (railRange u.isVerge q).2 < targetSum u q m

/-- The ramp's target (R93, R94). -/
def railTarget (u : UnitId) (q : Nat) (m : Wafer) : Int :=
  if !u.isVerge ∧ q = 1 ∧ m.on u.base TSK_CTL.RET then m.getI u.base TSK_VRET.VRET
  else clampI (railRange u.isVerge q).1 (railRange u.isVerge q).2 (targetSum u q m)

/-- A ramp time in µs: 0 means 1 (R123). -/
def rampUs (code : Nat) : Nat := max 1 code

/-- Whether a normal or burst pulse of the rail is under way (R96). -/
def pulseUnderWay (u : UnitId) (q : Nat) (m : Wafer) : Bool :=
  (railSlots u.isVerge q).any fun s =>
    ((m.unit u).phase s).pulse == .normal || ((m.unit u).phase s).pulse == .burst

/-- Whether the modulator may raise a request (R96, R97, R120, R140). -/
def mayRequest (u : UnitId) (q : Nat) (m : Wafer) : Bool :=
  regulating u q m && ((m.unit u).rail q).demanding && !pulseUnderWay u q m
    && !m.on u.base (TSK_RSTAT.SINK q) && !(q == 0 && !u.isVerge && m.on u.base TSK_GSTAT.BURST)

/-- The phase next in rotation: the rotation passes over a phase that is not in service
(R28, R119). -/
def nextInRotation (u : UnitId) (q : Nat) (m : Wafer) : Option Nat :=
  let slots := railSlots u.isVerge q
  let r := ((m.unit u).rail q).rot
  ((slots.drop r) ++ (slots.take r)).find? fun s => inService u s m

/-- The next available phase in the rotation (R96), none while a phase gives a
pulse of another kind. -/
def nextPhase (u : UnitId) (q : Nat) (m : Wafer) : Option Nat :=
  let slots := railSlots u.isVerge q
  let r := ((m.unit u).rail q).rot
  ((slots.drop r) ++ (slots.take r)).find? fun s =>
    available u s m && ((m.unit u).phase s).pulse == .none

/-- On-time in timing steps (R98): K_TON is Q1.15, so 1024 / 2^15 is 1 / 32. (DEDUCED: log 18.) -/
def onTime (u : UnitId) (q s : Nat) (m : Wafer) : Nat :=
  let k : Int := m.get u.base (TSK_KTON.K_TON q)
  let vib : Int := m.get u.base TSK_VIB.VIB
  let trim : Int := if m.on u.base TSK_CTL.BAL_EN then m.getI u.base (TSK_PHTRIM.BAL_TRIM s) else 0
  let num := k * vSet u q m * (200 + trim)
  if vib = 0 then Config.onTimeZeroVib num.toNat else (roundDiv num (32 * 200 * vib)).toNat

/-- t_G of a phase in timing steps: the larger of TG and TON_MIN (R139, R145).  TG is
counted in 0.5 ns, 12.8 steps each, and is rounded up to whole steps. (DESIGN CHOICE: log
63.) -/
def burstSteps (u : UnitId) (s : Nat) (m : Wafer) : Nat :=
  max ((128 * m.get u.base TSK_GORSE.TG + 9) / 10) (m.get u.base (TSK_PHCTL.TON_MIN s))

/-- The largest DT_LH among the LOGIC phases in service, in steps of 0.1 ns (R138). -/
def burstDead (u : UnitId) (m : Wafer) : Nat :=
  (([0, 1].filter fun s => inService u s m).map fun s => m.get u.base (TSK_PHCTL.DT_LH s)).foldl max 0

/-- Steps by which a phase's burst pulse is longer, its high side turning on before the
burst start: its DT_LH against the largest, 0.1 ns being 2.56 steps (R138).  Rounded up to
whole steps. (DESIGN CHOICE: log 63.) -/
def burstEarly (u : UnitId) (s : Nat) (m : Wafer) : Nat :=
  (256 * (burstDead u m - m.get u.base (TSK_PHCTL.DT_LH s)) + 99) / 100

/-- Both conditions of R165 hold: the latest reading lies below 0.85 × V_set, and every LOGIC
phase in service, of which there is one, has had a pulse ended by its limit within the
preceding 1 µs. -/
def overloaded (u : UnitId) (m : Wafer) : Bool :=
  let serving := [0, 1].filter fun s => inService u s m
  decide (100 * ((m.unit u).rail0).sense < 85 * vSet u 0 m) && !serving.isEmpty &&
    serving.all fun s => match ((m.unit u).phase s).limitAt with
      | some t => decide (m.wtime ≤ t + 800)
      | none => false

/-- The fold-back limit in force in steps of 50 mA (R170). -/
def foldBack (u : UnitId) (s : Nat) (m : Wafer) : Nat :=
  let q := slotRail s
  let ipk : Int := m.get u.base (TSK_ILIM.IPK s)
  let v := ((m.unit u).rail q).sense
  let vs := vSet u q m
  if 85 * vs ≤ 100 * v then ipk.toNat
  else if 100 * v ≤ 35 * vs then (35 * ipk / 100).toNat
  else (ipk * (1300 * v - 105 * vs) / (1000 * vs)).toNat

/-- Conditions under which PG_EN_CORE may be high (R305). -/
def coreConditions (u : UnitId) (m : Wafer) : Bool :=
  !u.isVerge && railState u 0 m == rREG && railState u 1 m == rREG && !m.on u.base TSK_CTL.RET
    && !(m.unit u).arrRet && (m.unit u).rst == .run

/-- A LOGIC phase is active (R134). -/
def activePhase (u : UnitId) (s : Nat) (m : Wafer) : Bool :=
  !u.isVerge && railState u 0 m == rREG && !m.on u.base (TSK_PHSTAT.RETIRED s)
    && !m.on u.base (TSK_PHSTAT.SUSPENDED s)

/-- Whether a unit's Swath logic runs: not in CLEAR, nor without TVDD (R54, R321).
(DESIGN CHOICE: log 57.) -/
def swathRuns (u : UnitId) (m : Wafer) : Bool := (m.unit u).rst == .run || (m.unit u).rst == .restore

/-- Own active LOGIC phases, 0 to 2 (R134). -/
def ownPhases (u : UnitId) (m : Wafer) : Nat := bit (activePhase u 0 m) + bit (activePhase u 1 m)

/-- The neighbourhood count (R134). -/
def neighbourhood (u : UnitId) (m : Wafer) : Nat := ownPhases u m + m.get u.base TSK_NBR.NBR_PH

/-- Own trigger suppressed: a side is held closed at a 0b01 request (R148). -/
def suppressed (u : UnitId) (m : Wafer) : Bool :=
  (List.range 4).any fun n => ((m.unit u).port n).for01

/-- Gorse armed (R133). -/
def gorseArmed (u : UnitId) (m : Wafer) : Bool :=
  !u.isVerge && m.on u.base TSK_GORSE.EN && railState u 0 m == rREG && 6 ≤ neighbourhood u m
    && !m.on u.base TSK_OVL.OVL_ACT && !m.on u.base TSK_GSTAT.REARM_WAIT && !m.on u.base TSK_GSTAT.BURST
    && !suppressed u m && !m.on u.base TSK_HSTAT.ADOPTED && (m.unit u).rst == .run

/-- A LOGIC step-up entry is in LIFT (R157). -/
def intentArmed (u : UnitId) (m : Wafer) : Bool :=
  (m.unit u).intents.any fun e => e.lifted && e.stepUp && e.rail == 0

/-- Δ_G_eff in µV (R137): codes of 0.5 mV. -/
def gorseLevel (u : UnitId) (m : Wafer) : Int :=
  let dg : Int := if intentArmed u m then m.get u.base TSK_GORSE.DG_ARM else m.get u.base TSK_GORSE.DG
  max (500 * dg) (halfBand u 0 m + 2000)

/-- Δ_STR_eff in µV (R162). -/
def stretchLevel (u : UnitId) (m : Wafer) : Int :=
  max (500 * (m.get u.base TSK_STR.DSTR : Int)) (halfBand u 0 m + 2000)

/-- LOGIC states in which STRETCH may act (R162). -/
def stretchState (u : UnitId) (m : Wafer) : Bool :=
  let st := railState u 0 m
  st == rRAMP_UP || st == rREG || st == rRAMP_DOWN

/-- The conditions under which a Tussock closes a side (R144, R166, R184). -/
def mayClose (u : UnitId) (m : Wafer) : Bool :=
  !u.isVerge && railState u 0 m == rREG && !m.on u.base TSK_OVL.OVL_ACT
    && !m.on u.base TSK_HSTAT.OT_SD_LATCH && (m.unit u).rst == .run

end Sys2Proof.Machine
end

