-- ==== Sys2Proof/Machine/Operands.lean ====
section
/-! DEFINITION.  Operations that several rules of a Tussock or Verge share:
queueing an event, a change of configuration, pre-lift and intents, STRETCH, and
the windows of the last 100 ms. -/

namespace Sys2Proof.Machine

/-- A unit queues an event of a fault source (R210): a queue of 8; an event that
finds it full is counted, and the first one since it last emptied sets the flag. -/
def unitEvent (u : UnitId) (code slot data : Nat) (m : Wafer) : Wafer :=
  let x := m.unit u
  if x.events.length < 8 then
    m.modUnit u fun x => { x with events := x.events ++ [⟨code, slot, data % 64⟩] }
  else
    let m := m.incSat u.base TSK_SWATH.EVQ_OVF
    if x.evOverflowArmed then
      m.modUnit u fun x => { x with evOverflow := true, evOverflowArmed := false }
    else m

/-- A unit event that a flag stands for: raised only when the flag rises (R390). -/
def flagEvent (u : UnitId) (f : Fld) (code slot data : Nat) (m : Wafer) : Wafer :=
  if m.on u.base f then m else unitEvent u code slot data (m.set u.base f 1)

/-- An entry of the intent log (R372): outcome, record TYPE and TAG. -/
def intentLog (u : UnitId) (outcome ty tag : Nat) (m : Wafer) : Wafer :=
  if u.isVerge then m
  else
    let i := m.get u.base TSK_ILOGIDX.NEXT
    let m := (m.set u.base (TSK_ILOG.TIME i) (m.wtime / 4)).set u.base (TSK_ILOG.OUT i) outcome
    ((m.set u.base (TSK_ILOG.TYPE i) ty).set u.base (TSK_ILOG.TAG i) tag).inc u.base TSK_ILOGIDX.NEXT

/-- Log entries for a list of intent entries that come to one outcome. -/
def logEntries (u : UnitId) (outcome : Nat) (l : List IntentEntry) (m : Wafer) : Wafer :=
  l.foldl (fun m e => intentLog u outcome (if e.stepUp then 0 else 1) e.tag m) m

/-- CFG_EPOCH advances (R131). -/
def cfgWritten (u : UnitId) (m : Wafer) : Wafer := m.inc u.base TSK_CFGEP.CFG_EPOCH

/-- A phase leaves service within the frequency-lock window (R109). -/
def dropWindow (u : UnitId) (s : Nat) (m : Wafer) : Wafer :=
  m.modPhase u s fun x => { x with winServed := false }

/-- STRETCH falls (R162, R184); the time it was high counts toward the canary
window (R239). -/
def strFall (u : UnitId) (m : Wafer) : Wafer :=
  if m.on u.base TSK_STR.ACT then
    (m.modUnit u fun x => { x with strTicks := x.strTicks + (m.wtime - x.strSince) }).set u.base TSK_STR.ACT 0
  else m

/-- `a / b` with `b` positive, where the spec states no rounding: the exact value,
or one of the two integers beside it, and which is a free value (log 9). -/
def freeDiv (a b : Int) : Int := a / b + (if a % b ≠ 0 ∧ Config.roundsUp a b then 1 else 0)

/-- A value of V_set leaves force: it joins the values of the last 10 µs (R177, R180). -/
def notePast (now : Nat) (v : Int) (l : List (Nat × Int × Int)) : List (Nat × Int × Int) :=
  match pastValues now l with
  | [] => [(now, v, v)]
  | (t, hi, lo) :: rest => if t = now then (now, max hi v, min lo v) :: rest else (now, v, v) :: (t, hi, lo) :: rest

/-- V_set of a rail is about to change (R177, R180). -/
def leaveVset (u : UnitId) (q : Nat) (m : Wafer) : Wafer :=
  m.modRail u q fun r => { r with past := notePast m.wtime (vSet u q m) r.past }

/-- VSET_CLAMP where the ramp value plus the pre-lift in force leaves the rail's range (R94,
R156). -/
def liftClampEval (u : UnitId) (q : Nat) (m : Wafer) : Wafer :=
  if vSet u q m ≠ m.getI u.base (TSK_VNOW.VNOW q) + preLift u q m then m.set u.base (TSK_RSTAT.VSET_CLAMP q) 1 else m

/-- TSK_STAT.VIB_STOP follows the two rails (Table 3.10). -/
def vibStopFlag (u : UnitId) (m : Wafer) : Wafer :=
  m.setB u.base TSK_STAT.VIB_STOP (railState u 0 m = rSTOPPED && railState u 1 m = rSTOPPED)

/-- Since when both conditions of R165 have held on LOGIC. -/
def ovlEval (u : UnitId) (m : Wafer) : Wafer :=
  m.modRail u 0 fun r =>
    { r with ovlFrom := if !u.isVerge && overloaded u m then some (r.ovlFrom.getD m.wtime) else none }

/-- Pre-lift contribution of an entry in µV (R156); an entry with LEAD = 0 has
none (R69, R154). -/
def liftMicrovolts (u : UnitId) (m : Wafer) (e : IntentEntry) : Int :=
  let c := 625 * roundDiv ((e.mag : Int) * (m.get u.base TSK_ICFG.PL_GAIN : Int)) 625
  if e.effective = e.capture then 0 else if e.stepUp then c else -c

/-- The pre-lift target of a rail in µV (R156). -/
def liftTarget (u : UnitId) (q : Nat) (m : Wafer) : Int :=
  let mx : Int := 625 * (m.get u.base TSK_ICFG.PL_MAX : Int)
  clampI (-mx) mx ((((m.unit u).intents.filter fun e => e.lifted && e.rail == q).map (liftMicrovolts u m)).sum)

/-- The pre-lift in force takes a value; TSK_ISTAT reads it in steps of 0.625 mV
(Table 4.14).  Between two steps the code read is a free value (log 11). -/
def setLift (u : UnitId) (q : Nat) (v : Int) (m : Wafer) : Wafer :=
  let m := (leaveVset u q m).modRail u q fun r => { r with lift := v }
  let code := if v % 625 = 0 then unsigned 8 (v / 625) else Config.preLiftCode v
  m.set u.base (if q = 0 then TSK_ISTAT.PL0 else TSK_ISTAT.PL1) code

/-- The pre-lift follows a target that moves away from zero at once (R156), and a
clamp of V_set is flagged as R94 lays down. -/
def liftEval (u : UnitId) (q : Nat) (m : Wafer) : Wafer :=
  let t := liftTarget u q m
  let p := preLift u q m
  if (0 < t ∧ p < t) ∨ (t < 0 ∧ t < p) then liftClampEval u q (setLift u q t m) else m

/-- Entries in LIFT that a test names are observed: each counts a hit and is freed
(R158, R160). -/
def observeIntents (u : UnitId) (seen : IntentEntry → Bool) (m : Wafer) : Wafer :=
  let found := (m.unit u).intents.filter fun e => e.lifted && seen e
  let hits := found.length
  let m := logEntries u 1 found m
  let m := m.set u.base TSK_IHIT.HITS (m.get u.base TSK_IHIT.HITS + hits)
  let m := m.modUnit u fun x => { x with intents := x.intents.filter fun e => !(e.lifted && seen e) }
  liftEval u 1 (liftEval u 0 m)

/-- ARR_RET as driven (R74, R126): it rises with the level sent, and falls once
ARRAY reads within 5 mV of its run set-point. -/
def retentionEval (u : UnitId) (m : Wafer) : Wafer :=
  if u.isVerge then m
  else
    let x := m.unit u
    let gap := x.rail1.sense - railTarget u 1 m
    if x.sentArrRet then m.modUnit u fun x => { x with arrRet := true }
    else if !m.on u.base TSK_CTL.RET ∧ railState u 1 m = rREG ∧ -5000 ≤ gap ∧ gap ≤ 5000 then
      m.modUnit u fun x => { x with arrRet := false }
    else m

/-- The minimum-voltage peak follows a reading of a rail in REG, at 0.125 mV
(R370). -/
def peakVoltage (u : UnitId) (q : Nat) (v : Int) (m : Wafer) : Wafer :=
  let r := 125 * roundDiv v 125
  if railState u q m = rREG ∧ r < m.getI u.base (TSK_TPK_V.VMIN q) then m.setI u.base (TSK_TPK_V.VMIN q) r else m

/-- A maximum peak follows a reading (R370). -/
def peakMax (u : UnitId) (f : Fld) (v : Int) (m : Wafer) : Wafer :=
  if m.getI u.base f < v then m.setI u.base f v else m

/-- Ticks of 100 ms (R174, R179). -/
def ticks100ms : Nat := 80000000

/-- Times of a list that lie within the preceding 100 ms. -/
def recentTimes (now : Nat) (l : List Nat) : List Nat := l.filter fun t => now < t + ticks100ms

end Sys2Proof.Machine
end

