-- ==== Sys2Proof/Machine/Rail.lean ====
section
/-! DEFINITION.  Chapter 03: the modulator, frequency lock, SYNC, light load,
sink mode, and the start, stop and movement of a rail's set-point. -/

namespace Sys2Proof.Machine

/-! ### Shared operations -/

/-- Both transistors of every phase of a rail off; no pulse, no join, no demand,
no request, no sink (Table 3.5, R62, R178).  The off-time of a phase whose on-time ends so
begins (R104). -/
def railOff (u : UnitId) (q : Nat) (m : Wafer) : Wafer :=
  let m := (railSlots u.isVerge q).foldl
    (fun m s => m.modPhase u s fun x =>
      { x with pulse := .none, bridge := .off, joinBurst := false, returning := false, testDue := false,
               offWait := x.offWait || x.pulse != .none }) m
  let m := m.modRail u q fun r => { r with demanding := false, waiting := false, ramping := false }
  m.set u.base (TSK_RSTAT.SINK q) 0

/-- Own side of a tie open and TIE_ACK low (R144, R147, R149). -/
def openSide (u : UnitId) (n : Nat) (m : Wafer) : Wafer :=
  let m := m.modPort u n fun p => { p with side := false, gradual := false, holding := false, ackOut := false, for01 := false }
  let m := m.set u.base (TSK_TIESTAT.CLOSED n) 0
  m.set u.base (TSK_TIEI.TIEI n) 0

/-- Every side open because the conditions of R144 failed: a standing 0b01 has
lost its turn. -/
def openAllSides (u : UnitId) (m : Wafer) : Wafer :=
  (List.range 4).foldl (fun m n =>
    let m := if m.get u.base (TSK_TIESTAT.REQ_IN n) = 1 then m.modPort u n fun p => { p with used01 := true } else m
    openSide u n m) m

/-- Intent entries that satisfy a test leave the table with neither hit nor miss
(R155). -/
def freeIntents (u : UnitId) (gone : IntentEntry → Bool) (m : Wafer) : Wafer :=
  let m := logEntries u 7 ((m.unit u).intents.filter gone) m
  m.modUnit u fun x => { x with intents := x.intents.filter fun e => !gone e }

/-- PG_EN_CORE falls when the conditions of R305 fail; its fall empties the
intent table (R155). -/
def coreEval (u : UnitId) (m : Wafer) : Wafer :=
  if (m.unit u).pgCore && !coreConditions u m then
    freeIntents u (fun _ => true) (m.modUnit u fun x => { x with pgCore := false })
  else m

/-- The difference of sensed LOGIC voltage across a tie exceeds 50 mV (R196). -/
def tieApart (u : UnitId) (n : Nat) (m : Wafer) : Bool :=
  match u with
  | .tussock g =>
    match neighbour g n with
    | some h =>
      let d := (m.unit u).rail0.sense - (m.unit (.tussock (Fin.ofNat 4096 h))).rail0.sense
      decide (50000 < d ∨ d < -50000)
    | none => false
  | .verge _ => false

/-- A side closes for a 0b10 request, gradually where R196 asks, and each request
is counted once (R152). -/
def closeForHold (u : UnitId) (n : Nat) (m : Wafer) : Wafer :=
  let p := (m.unit u).port n
  let m := if p.counted then m else m.incSat u.base TSK_TIECNT.HOLD_CNT
  let apart := tieApart u n m
  m.modPort u n fun p => { p with side := true, gradual := apart, counted := true, guarded := false }

/-- Standing 0b10 codes are served when the conditions of R144 hold again. -/
def serveStanding (u : UnitId) (m : Wafer) : Wafer :=
  (List.range 4).foldl (fun m n =>
    let p := (m.unit u).port n
    if mayClose u m ∧ 2 ≤ m.get u.base (TSK_TIESTAT.REQ_IN n) ∧ ¬ p.side ∧ ¬ p.guarded then closeForHold u n m else m) m

/-- What a rail's leaving REG brings: its intents are freed (R155), the under-voltage
condition ends (R180), and for LOGIC the tie sides open (R144), a tie pulse that waits for a
phase is dropped, and patch overload clears (R167). -/
def leaveReg (u : UnitId) (q : Nat) (m : Wafer) : Wafer :=
  let m := freeIntents u (fun e => e.rail = q) m
  let m := m.modRail u q fun r => { r with uvHeld := false, regSeen := true }
  if q = 0 ∧ !u.isVerge then
    openAllSides u ((m.modUnit u fun x => { x with tieWait := none }).set u.base TSK_OVL.OVL_ACT 0)
  else m

/-- The burst is over when no phase gives or waits to give a burst pulse: Gorse
then waits to re-arm (R142), and a port whose TIE_ACK is high returns 0b01 to 0b00
(R151). -/
def burstOver (u : UnitId) (m : Wafer) : Wafer :=
  let x := m.unit u
  let busy := [0, 1].any fun s => (x.phase s).pulse == .burst || (x.phase s).joinBurst
  if m.on u.base TSK_GSTAT.BURST && !busy then
    let m := (m.set u.base TSK_GSTAT.BURST 0).set u.base TSK_GSTAT.REARM_WAIT 1
    (List.range 4).foldl (fun m n =>
      if ((m.unit u).port n).reqOut = 1 ∧ m.on u.base (TSK_TIESTAT.ACK_IN n) then
        m.modPort u n fun p => { p with reqOut := if m.on u.base TSK_HSTAT.ADOPTED then 2 else 0 }
      else m) m
  else m

/-- A rail takes a state of Table 3.5 (or TRIPPED, R178), with all that follows
from leaving the old one. -/
def enterState (u : UnitId) (q st : Nat) (m : Wafer) : Wafer :=
  let m := if railState u q m = rREG ∧ st ≠ rREG then leaveReg u q m else m
  let m := if st = rOFF ∨ st = rSTOPPED ∨ st = rTRIPPED then m.modRail u q fun r => { r with carry := 0 } else m
  let m := if st = rOFF then (railSlots u.isVerge q).foldl (fun m s => dropWindow u s m) (m.set u.base (TSK_RFLT.OV_LATCH q) 0)
    else m
  let m := if st = rRAMP_UP ∨ st = rREG ∨ st = rRAMP_DOWN then m else
    let m := railOff u q m
    if q = 0 ∧ !u.isVerge then strFall u (burstOver u m) else m
  let m := m.modRail u q fun r => { r with retrying := r.retrying && st = rTRIPPED }
  let halted (k : Nat) : Bool := k == rOFF || k == rSTOPPED || k == rTRIPPED || k == rSENSE_OPEN
  let old := railState u q m
  let m := if old ≠ st ∧ (halted old ∨ halted st) then m.modUnit u fun x => { x with telBad := true } else m
  let m := if old ≠ rREG ∧ st = rREG then m.modRail u q fun r => { r with regFrom := m.wtime } else m
  let m := coreEval u (vibStopFlag u (m.set u.base (TSK_RSTAT.STATE q) st))
  if q = 0 ∧ st = rREG then serveStanding u m else m

/-- A ramp begins at a value toward a target (R122); `edges` is 0 where the rate
is SLEW. -/
def beginRamp (u : UnitId) (q : Nat) (fromV toV : Int) (edges : Nat) (m : Wafer) : Wafer :=
  let m := (leaveVset u q m).modRail u q fun r =>
    { r with ramping := true, rampFrom := fromV, rampTo := toV, rampEdge := 0, rampEdges := edges }
  let m := m.setI u.base (TSK_VNOW.VNOW q) fromV
  m.setB u.base (TSK_RSTAT.AT_TGT q) (fromV = toV)

/-- RAMP_UP from a measured value (R122, R123). -/
def startRampUp (u : UnitId) (q : Nat) (v : Int) (m : Wafer) : Wafer :=
  beginRamp u q v (railTarget u q m) (25 * rampUs (m.get u.base (TSK_RAMP.ON_RAMP q))) (enterState u q rRAMP_UP m)

/-- The rail's target changed (R124): in RAMP_UP the ramp keeps its end time; in
REG it slews from the present ramp value, or from the measured 1 µs mean when no
ramp is in progress.  (DEDUCED: log 26.) -/
def retarget (u : UnitId) (q : Nat) (m : Wafer) : Wafer :=
  let r := (m.unit u).rail q
  let tgt := railTarget u q m
  let now := m.getI u.base (TSK_VNOW.VNOW q)
  if railState u q m = rRAMP_UP then
    if tgt = r.rampTo then m else beginRamp u q now tgt (r.rampEdges - r.rampEdge) m
  else if railState u q m = rREG then
    if tgt = r.rampTo then m
    else if r.ramping then beginRamp u q now tgt 0 m else beginRamp u q r.mean tgt 0 m
  else m

/-- Setting a rail's EN bit (R122, R179, R185). -/
def railEnable (u : UnitId) (q : Nat) (m : Wafer) : Wafer :=
  if railEnabled u q m then m
  else if m.on u.base TSK_HSTAT.OT_SD_LATCH then m.set u.base TSK_HSTAT.EN_REJ 1
  else
    let m := m.set u.base (enField q) 1
    if (m.unit u).rst ≠ .run then m
    else if railState u q m = rOFF then enterState u q rDELAY m
    else if railState u q m = rRAMP_DOWN then
      let now := m.getI u.base (TSK_VNOW.VNOW q)
      startRampUp u q now m
    else m

/-- Clearing a rail's EN bit (Table 3.5, R179). -/
def railDisable (u : UnitId) (q : Nat) (m : Wafer) : Wafer :=
  let m := m.set u.base (enField q) 0
  let st := railState u q m
  let r := (m.unit u).rail q
  let edges := 25 * rampUs (m.get u.base (TSK_RAMP.OFF_RAMP q))
  if st = rRAMP_UP ∨ st = rREG then
    let v := if r.ramping then m.getI u.base (TSK_VNOW.VNOW q) else r.mean
    beginRamp u q v 0 edges (enterState u q rRAMP_DOWN m)
  else if st = rDELAY ∨ st = rSTOPPED ∨ st = rSENSE_OPEN ∨ st = rTRIPPED then enterState u q rOFF m
  else m

/-- A phase leaves shed, and the 64 µs of R119 begin. -/
def restoreShed (u : UnitId) (q : Nat) (m : Wafer) : Wafer :=
  if m.on u.base (TSK_RSTAT.SHED q) then
    let m := (railSlots u.isVerge q).foldl (fun m s =>
      if m.on u.base (TSK_PHSTAT.SHED s) then
        (m.set u.base (TSK_PHSTAT.SHED s) 0).modPhase u s fun x => { x with servedFrom := m.wtime }
      else m) m
    let m := m.modRail u q fun r => { r with shedHold := true }
    m.set u.base (TSK_RSTAT.SHED q) 0
  else m

/-- The high side of a phase turns on for a pulse of `n` steps; the pulse counts as issued,
of whatever kind it is (R102, R103, R109, Table 3.29; log 64). -/
def startPulse (u : UnitId) (s : Nat) (kind : Pulse) (n : Nat) (m : Wafer) : Wafer :=
  let tmin := m.get u.base (TSK_PHCTL.TON_MIN s)
  let m := m.modPhase u s fun x =>
    { x with pulse := kind, bridge := .high, steps := n, tonMin := tmin, fromStart := 0, lateBurst := false,
             returning := false, winPulses := x.winPulses + 1 }
  m.inc u.base (TSK_PHPULSE.PULSES s)

/-- A pulse of `n` steps is issued to slot s and the rotation advances past it
(R96, R98). -/
def issuePulse (u : UnitId) (q s n : Nat) (m : Wafer) : Wafer :=
  let slots := railSlots u.isVerge q
  let m := m.modRail u q fun r => { r with rot := (slots.idxOf s + 1) % slots.length, waiting := false }
  startPulse u s .normal n m

/-- One request of the modulator (R96, R98, R106). (DEDUCED: log 18.) -/
def modulate (u : UnitId) (q : Nat) (m : Wafer) : Wafer :=
  let r := (m.unit u).rail q
  match nextPhase u q m with
  | none => m.modRail u q fun r => { r with waiting := true }
  | some s =>
    let n := onTime u q s m
    let tmin := m.get u.base (TSK_PHCTL.TON_MIN s)
    if n < tmin then
      let c := r.carry + n
      let m := m.modRail u q fun r => { r with waiting := false, fllHold := r.fllHold || tmin ≤ c }
      if tmin ≤ c then
        let m := m.modRail u q fun r => { r with carry := c - tmin }
        issuePulse u q s tmin (m.set u.base (TSK_RSTAT.CARRY_FIRE q) 1)
      else m.modRail u q fun r => { r with carry := c }
    else issuePulse u q s n (m.modRail u q fun r => { r with carry := 0 })

/-- A waiting request of a rail is taken when a phase has become available (R96). -/
def retryRequest (u : UnitId) (q : Nat) (m : Wafer) : Wafer :=
  if ((m.unit u).rail q).waiting && mayRequest u q m then modulate u q m else m

/-- The latest VIB sample, a multiple of 5 mV (R63, Table 3.12). -/
def senseVib (u : UnitId) (code : Nat) (m : Wafer) : Wafer :=
  m.set u.base TSK_VIB.VIB (5000 * code)

/-- A tie pulse is fired on a phase, outside rotation and carry (R145). -/
def fireTie (u : UnitId) (s : Nat) (m : Wafer) : Wafer :=
  let m := startPulse u s .tie (burstSteps u s m) m
  (m.modUnit u fun x => { x with tieWait := none }).inc u.base TSK_TIEPULSE.TIE_PULSES

/-- A test pulse of the rail's N_ON is fired on a phase (R199), never shorter than TON_MIN
(R102). -/
def fireTest (u : UnitId) (s : Nat) (m : Wafer) : Wafer :=
  let n := max (m.get u.base (TSK_PHCTL.TON_MIN s)) (onTime u (slotRail s) s m)
  (startPulse u s .test n m).modPhase u s fun x => { x with testDue := false, testLeft := x.testLeft - 1 }

/-- A test pulse that is due is fired once the phase is free for it (R199). -/
def testEval (u : UnitId) (s : Nat) (m : Wafer) : Wafer :=
  let x := (m.unit u).phase s
  if x.testDue && x.pulse == .none && !x.offWait && m.on u.base (TSK_PHHLTH.TEST_BUSY s) && regulating u (slotRail s) m then
    fireTest u s m
  else m

/-- A phase may have become available (R92): it fires a test pulse that is due (R199), sinks
while its rail does (R120), takes a tie pulse that waits (R145), or takes a waiting request
(R96). -/
def offerPhase (u : UnitId) (s : Nat) (m : Wafer) : Wafer :=
  let m := testEval u s m
  let q := slotRail s
  if !available u s m || ((m.unit u).phase s).pulse != .none then m
  else if m.on u.base (TSK_RSTAT.SINK q) then
    m.modPhase u s fun x => { x with bridge := if x.returning then x.bridge else .low }
  else
    match (m.unit u).tieWait with
    | some t =>
      if s < 2 ∧ m.wtime ≤ t then fireTie u s m
      else retryRequest u q (m.modUnit u fun x => { x with tieWait := if m.wtime ≤ t then x.tieWait else none })
    | none => retryRequest u q m

/-- A phase has come back into service (R174, R199, R119, R129). -/
def backInService (u : UnitId) (s : Nat) (m : Wafer) : Wafer :=
  offerPhase u s (m.modPhase u s fun x => { x with servedFrom := m.wtime })

/-- Every phase of a rail may have become available. -/
def offerRail (u : UnitId) (q : Nat) (m : Wafer) : Wafer :=
  (railSlots u.isVerge q).foldl (fun m s => offerPhase u s m) m

/-- The latest reading of a rail's sensed voltage, which the under-voltage and overload
conditions and the peak follow too (R165, R180, R370). -/
def senseRail (u : UnitId) (q : Nat) (v : Int) (m : Wafer) : Wafer :=
  let m := m.modRail u q fun r => { r with sense := v }
  let m := m.modRail u q fun r => { r with uvHeld := r.uvHeld && underVoltage u q m }
  peakVoltage u q v (if q = 0 then ovlEval u m else m)

/-- The sensed voltage averaged over the last 1 µs (R122). -/
def senseMean (u : UnitId) (q : Nat) (v : Int) (m : Wafer) : Wafer :=
  senseRail u q v (m.modRail u q fun r => { r with mean := v })

/-! ### Commands of the sense inputs (R62, R63) -/

/-- SENSE_OPEN_DETECT (R62): a reading above 1.45 V in any state but OFF and
SENSE_OPEN, or below 0.10 V while the rail's phases fire, has lasted 2 µs. -/
def doSenseOpenDetect (u : UnitId) (q : Fin 2) (v : Int) (m : Wafer) : Wafer :=
  let st := railState u q m
  let highLead := 1450000 < v ∧ st ≠ rOFF ∧ st ≠ rSENSE_OPEN
  let shorted := v < 100000 ∧ regulating u q m ∧ ¬ (st = rRAMP_UP ∧ ((m.unit u).rail q).rampFrom < 100000)
  let m := senseRail u q v m
  if highLead ∨ shorted then
    unitEvent u 2 0 q (enterState u q rSENSE_OPEN m)
  else m

/-- Both rails held by VIB (Table 2.4): every rail in DELAY, RAMP_UP, REG or
RAMP_DOWN goes to STOPPED, and one already there waits for the present stop's end. -/
def vibStop (u : UnitId) (uv : Bool) (m : Wafer) : Wafer :=
  (List.range 2).foldl (fun m q =>
    let st := railState u q m
    if st = rDELAY ∨ st = rRAMP_UP ∨ st = rREG ∨ st = rRAMP_DOWN then
      (enterState u q rSTOPPED m).modRail u q fun r => { r with stopUv := uv }
    else if st = rSTOPPED then m.modRail u q fun r => { r with stopUv := uv }
    else m) m

/-- VIB_UNDER_VOLTAGE (R63, Table 2.4): VIB below 3.3 V. -/
def doVibUnderVoltage (u : UnitId) (vib : Nat) (m : Wafer) : Wafer :=
  if 5000 * vib < 3300000 then
    let m := (senseVib u vib m).set u.base TSK_STAT.SINK_INH 0
    let m := if m.on u.base TSK_STAT.VIB_UV then m else unitEvent u 3 0 0 m
    vibStop u true (m.set u.base TSK_STAT.VIB_UV 1)
  else m

/-- VIB_RECOVER (R63, Table 3.5): above 3.4 V after an under-voltage stop, below
4.6 V after an over-voltage stop, each STOPPED rail ramps from its measured value.  A rail
stopped out of RAMP_DOWN does so too, though its EN bit is 0: Table 3.5 gives the state that
one exit on VIB and tests no EN. (DEDUCED: log 65.) -/
def doVibRecover (u : UnitId) (vib : Nat) (v0 v1 : Int) (m : Wafer) : Wafer :=
  let m := senseVib u vib m
  let m := if 5000 * vib ≤ 4600000 then (m.set u.base TSK_STAT.SINK_INH 0) else m
  let back (q : Nat) (v : Int) (m : Wafer) : Wafer :=
    let r := (m.unit u).rail q
    if railState u q m = rSTOPPED ∧ ((r.stopUv ∧ 3400000 < 5000 * vib) ∨ (¬ r.stopUv ∧ 5000 * vib < 4600000)) then
      startRampUp u q v (senseMean u q v m)
    else m
  back 1 v1 (back 0 v0 m)

/-- VIB_OUT_OF_RANGE (R63): VIB within 3.3 V to 3.6 V or 4.4 V to 4.6 V. -/
def doVibOutOfRange (u : UnitId) (vib : Nat) (m : Wafer) : Wafer :=
  let v := 5000 * vib
  if (3300000 ≤ v ∧ v ≤ 3600000) ∨ (4400000 ≤ v ∧ v ≤ 4600000) then
    let m := senseVib u vib m
    let m := if m.on u.base TSK_STAT.VIB_OOR then m else unitEvent u 4 0 0 m
    (m.set u.base TSK_STAT.VIB_OOR 1).set u.base TSK_STAT.SINK_INH 0
  else m

/-- Sink mode may no longer act on a rail (R121): it ends, and no phase goes on returning
energy to VIB. -/
def stopSink (u : UnitId) (q : Nat) (m : Wafer) : Wafer :=
  ((railSlots u.isVerge q).foldl (fun m s => m.modPhase u s fun x =>
    { x with bridge := if x.returning then .off else x.bridge, returning := false }) m).set u.base (TSK_RSTAT.SINK q) 0

/-- VIB_SINK_INHIBIT (R63, R121): above 4.6 V no phase returns energy to VIB. -/
def doVibSinkInhibit (u : UnitId) (vib : Nat) (m : Wafer) : Wafer :=
  if 4600000 < 5000 * vib then
    stopSink u 1 (stopSink u 0 ((senseVib u vib m).set u.base TSK_STAT.SINK_INH 1))
  else m

/-- VIB_OVER_VOLTAGE (R63): above 4.8 V. -/
def doVibOverVoltage (u : UnitId) (vib : Nat) (m : Wafer) : Wafer :=
  if 4800000 < 5000 * vib then
    let m := doVibSinkInhibit u vib m
    let m := if m.on u.base TSK_STAT.VIB_OV then m else unitEvent u 5 0 0 m
    vibStop u false (m.set u.base TSK_STAT.VIB_OV 1)
  else m

/-! ### Commands of the modulator (R95 to R117) -/

/-- DEMAND_BEGIN (R95). -/
def doDemandBegin (u : UnitId) (q : Fin 2) (v : Int) (m : Wafer) : Wafer :=
  let m := senseRail u q v m
  if regulating u q m ∧ v < vSet u q m - halfBand u q m then
    m.modRail u q fun r => { r with demanding := true }
  else m

/-- DEMAND_END (R95). -/
def doDemandEnd (u : UnitId) (q : Fin 2) (v : Int) (m : Wafer) : Wafer :=
  let m := senseRail u q v m
  if vSet u q m + halfBand u q m < v then
    m.modRail u q fun r => { r with demanding := false, waiting := false }
  else m

/-- MODULATOR_REQUEST (R96, R97), with the latest VIB sample. -/
def doModulatorRequest (u : UnitId) (q : Fin 2) (vib : Nat) (m : Wafer) : Wafer :=
  let m := senseVib u vib m
  if mayRequest u q m then modulate u q m else m

/-- The on-time of a slot ends, at its current limit or otherwise; DT_HL, the low side and
the minimum off-time of R104 follow. -/
def endPulse (u : UnitId) (s : Nat) (limited : Bool) (m : Wafer) : Wafer :=
  if ((m.unit u).phase s).pulse = .none then m
  else
    let m := m.modPhase u s fun x =>
      { x with pulse := .none, bridge := .low, offWait := true, lateBurst := false, lastTie := x.pulse == .tie,
               limitAt := if limited then some m.wtime else x.limitAt,
               freeAt := if limited then x.freeAt else some m.wtime }
    if u.isVerge then m else burstOver u m

/-- PULSE_END (R105). -/
def doPulseEnd (u : UnitId) (s : Fin 4) (m : Wafer) : Wafer := endPulse u s false m

/-- OFF_TIME_EXPIRE (R104): the phase is available again; it joins a burst it
waits for (R139), or takes what else waits for it. -/
def doOffTimeExpire (u : UnitId) (s : Fin 4) (w : Nat) (m : Wafer) : Wafer :=
  let m := m.at w
  let x := (m.unit u).phase s
  if x.offWait then
    let m := m.modPhase u s fun x => { x with offWait := false, joinBurst := false, lastTie := false }
    if x.joinBurst && m.on u.base TSK_GSTAT.BURST && available u s m then
      (startPulse u s .burst (burstSteps u s m) m).modPhase u s fun x => { x with lateBurst := true }
    else offerPhase u s m
  else m

/-- PHASE_CURRENT_ZERO (R117, R120): the return of a sinking phase's current to VIB is over,
and the low side turns on again while the rail sinks; outside sink mode the low side turns
off, and the pulse ended in discontinuous conduction, which holds K_TON (R110). -/
def doPhaseCurrentZero (u : UnitId) (s : Fin 4) (m : Wafer) : Wafer :=
  let q := slotRail s
  if ((m.unit u).phase s).returning then
    let again := m.on u.base (TSK_RSTAT.SINK q) && available u s m
    m.modPhase u s fun x => { x with bridge := if again then .low else .off, returning := false, current := 0 }
  else if ((m.unit u).phase s).bridge = .low ∧ m.get u.base (TSK_RSTAT.SINK q) = 0 then
    let m := m.modPhase u s fun x => { x with bridge := .off, current := 0 }
    m.modRail u q fun r => { r with fllHold := true }
  else m

/-- One rail at the end of a frequency-lock window (R108 to R110). -/
def fllRail (u : UnitId) (q : Nat) (m : Wafer) : Wafer :=
  let slots := railSlots u.isVerge q
  let served := slots.filter fun s => ((m.unit u).phase s).winServed && inService u s m
  let n : Int := served.length
  let sum : Int := (served.map fun s => (((m.unit u).phase s).winPulses : Int)).sum
  let hold := m.on u.base TSK_CTL.FLL_HOLD || ((m.unit u).rail q).fllHold || served.isEmpty
  let m :=
    if hold then m.set u.base (TSK_KTON.FLL_HELD q) 1
    else
      let k : Int := m.get u.base (TSK_KTON.K_TON q)
      let k' := roundDiv (k * (256 * n + clampI (-n) n (sum - 64 * n))) (256 * n)
      let m := m.set u.base (TSK_KTON.FLL_HELD q) 0
      let m := m.setB u.base (TSK_KTON.FLL_SAT q) (k' < 0x6000 ∨ 0xA000 < k')
      m.setI u.base (TSK_KTON.K_TON q) (clampI 0x6000 0xA000 k')
  let m := slots.foldl (fun m s =>
    m.modPhase u s fun x => { x with winPulses := 0, winServed := inService u s m }) m
  m.modRail u q fun r => { r with fllHold := m.on u.base (TSK_RSTAT.SINK q) || m.on u.base TSK_CTL.FLL_HOLD ||
    (q == 0 && m.on u.base TSK_GSTAT.BURST) }

/-- FLL_WINDOW_END (R109, R110): the 64-period window ends on both rails. -/
def doFllWindowEnd (u : UnitId) (m : Wafer) : Wafer := fllRail u 1 (fllRail u 0 m)

/-! ### Commands of SYNC (R111 to R116) -/

/-- Whether the unit is on its own oscillator or moving to it (R114). -/
def onOwnOsc (u : UnitId) (m : Wafer) : Bool :=
  m.get u.base TSK_SYNC.SRC == 1 || m.get u.base TSK_SYNC.SRC == 2

/-- SYNC_EDGE (R111, R114), with the edge's distance from its predicted time in
picoseconds: accepted within 6 % of the 40 ns period. -/
def doSyncEdge (u : UnitId) (err : Int) (m : Wafer) : Wafer :=
  if -2400 ≤ err ∧ err ≤ 2400 then
    let m := m.modUnit u fun x => { x with syncCorr := x.syncCorr + err, missRun := 0 }
    if onOwnOsc u m ∧ m.get u.base TSK_SYNC.GOOD_CNT < 64 then m.inc u.base TSK_SYNC.GOOD_CNT else m
  else
    let m := m.incSat u.base TSK_SYNC.REJ_CNT
    if onOwnOsc u m then m.set u.base TSK_SYNC.GOOD_CNT 0 else m

/-- SYNC_EDGE_MISSING (R111, R113, R114). -/
def doSyncEdgeMissing (u : UnitId) (m : Wafer) : Wafer :=
  let m := m.modUnit u fun x => { x with missRun := min 3 (x.missRun + 1) }
  if onOwnOsc u m then m.set u.base TSK_SYNC.GOOD_CNT 0 else m

/-- SYNC_LOSS (R113): the third missing edge in a row.  A unit that is already on its own
oscillator or moving to it has no SYNC in use to lose, and keeps SYNC_LOST as it is.
(DEDUCED: log 65.) -/
def doSyncLoss (u : UnitId) (m : Wafer) : Wafer :=
  if (m.unit u).missRun = 3 ∧ ¬ onOwnOsc u m then
    flagEvent u TSK_SYNC.SYNC_LOST 24 0 0 ((m.set u.base TSK_SYNC.SRC 2).set u.base TSK_SYNC.GOOD_CNT 0)
  else m

/-- SYNC_RETURN (R114, R116): 64 consecutive accepted edges. -/
def doSyncReturn (u : UnitId) (m : Wafer) : Wafer :=
  if onOwnOsc u m ∧ m.get u.base TSK_SYNC.GOOD_CNT = 64 ∧ m.get u.base TSK_CTL.OWN_OSC = 0 then
    m.set u.base TSK_SYNC.SRC 3
  else m

/-- REF_MOVE_COMPLETE (R113, R114).  GOOD_CNT keeps its count until the next loss or move.
(DEDUCED: log 65.) -/
def doRefMoveComplete (u : UnitId) (m : Wafer) : Wafer :=
  if m.get u.base TSK_SYNC.SRC = 2 then m.set u.base TSK_SYNC.SRC 1
  else if m.get u.base TSK_SYNC.SRC = 3 then m.set u.base TSK_SYNC.SRC 0
  else m

/-- OWN_OSC_WRITE (R116): the bit moves the reference to the own oscillator, or
lets it return under R114. -/
def doOwnOscWrite (u : UnitId) (on : Bool) (m : Wafer) : Wafer :=
  let m := m.setB u.base TSK_CTL.OWN_OSC on
  if on ∧ ¬ onOwnOsc u m then
    (m.set u.base TSK_SYNC.SRC 2).set u.base TSK_SYNC.GOOD_CNT 0
  else m

/-! ### Commands of light load and sink mode (R118 to R121) -/

/-- SHED_ENTER (R119), with the 8 µs mean rail current in mA.  A rail whose phases do not
fire has no phase that keeps firing, and does not shed. (DEDUCED: log 65.) -/
def doShedEnter (u : UnitId) (q : Fin 2) (i8 : Int) (m : Wafer) : Wafer :=
  let code := m.get u.base (TSK_SHED.SHED_I q)
  match railSlots u.isVerge q with
  | [s1, s2] =>
    if code ≠ 0 ∧ i8 < 50 * code ∧ m.get u.base (TSK_RSTAT.SHED q) = 0 ∧ ¬ ((m.unit u).rail q).shedHold
        ∧ regulating u q m then
      let s := if inService u s2 m && !inService u s1 m then s1 else s2
      (m.set u.base (TSK_PHSTAT.SHED s) 1).set u.base (TSK_RSTAT.SHED q) 1 |> dropWindow u s
    else m
  | _ => m

/-- SHED_EXIT (R119), with the 1 µs mean rail current in mA. -/
def doShedExit (u : UnitId) (q : Fin 2) (i1 : Int) (m : Wafer) : Wafer :=
  if 125 * 50 * (m.get u.base (TSK_SHED.SHED_I q) : Int) < 100 * i1 then offerRail u q (restoreShed u q m) else m

/-- SHED_HOLD_EXPIRE (R119). -/
def doShedHoldExpire (u : UnitId) (q : Fin 2) (m : Wafer) : Wafer :=
  m.modRail u q fun r => { r with shedHold := false }

/-- SINK_ENTER (R120, R121, R125): above the sink threshold the rail stops
issuing pulses, and sinks unless sink mode is inhibited: the low side of each available
phase turns on. -/
def doSinkEnter (u : UnitId) (q : Fin 2) (v : Int) (m : Wafer) : Wafer :=
  let m := senseRail u q v m
  let threshold := if railState u q m = rRAMP_DOWN then vSet u q m + halfBand u q m
    else vSet u q m + ovSoftEff u q m
  if regulating u q m ∧ threshold < v then
    let m := m.modRail u q fun r => { r with demanding := false, waiting := false }
    if m.get u.base (TSK_OVS.SINK_LIM q) ≠ 0 ∧ m.get u.base TSK_STAT.SINK_INH = 0 then
      let m := m.modRail u q fun r => { r with fllHold := true }
      let m := observeIntents u (fun e => e.rail = q ∧ ¬ e.stepUp) (m.set u.base (TSK_RSTAT.SINK q) 1)
      offerRail u q m
    else m
  else m

/-- SINK_EXIT (R120). -/
def doSinkExit (u : UnitId) (q : Fin 2) (v : Int) (m : Wafer) : Wafer :=
  let m := senseRail u q v m
  if v < vSet u q m + halfBand u q m then m.set u.base (TSK_RSTAT.SINK q) 0 else m

/-! ### Commands of start, stop and set-point movement (R122 to R126) -/

/-- RAIL_ENABLE (R122). -/
def doRailEnable (u : UnitId) (q : Fin 2) (m : Wafer) : Wafer := railEnable u q m

/-- RAIL_DISABLE (R122). -/
def doRailDisable (u : UnitId) (q : Fin 2) (m : Wafer) : Wafer := railDisable u q m

/-- ON_DELAY_EXPIRE (R122), with the measured value. -/
def doOnDelayExpire (u : UnitId) (q : Fin 2) (v : Int) (m : Wafer) : Wafer :=
  if railState u q m = rDELAY then startRampUp u q v (senseMean u q v m) else m

/-- The ramp value one SYNC edge on (R122, R123). -/
def nextRampValue (u : UnitId) (q : Nat) (m : Wafer) : Int :=
  let r := (m.unit u).rail q
  let now := m.getI u.base (TSK_VNOW.VNOW q)
  if r.rampEdges = 0 then
    let d : Int := 4 * (max 1 (m.get u.base (TSK_SLEW.SLEW q)) : Nat)
    if now < r.rampTo then min r.rampTo (now + d) else max r.rampTo (now - d)
  else if r.rampEdges ≤ r.rampEdge + 1 then r.rampTo
  else
    r.rampFrom + freeDiv ((r.rampTo - r.rampFrom) * (r.rampEdge + 1)) r.rampEdges

/-- RAMP_STEP (R122, R125, R126), with the sensed voltage at the edge. -/
def doRampStep (u : UnitId) (q : Fin 2) (v : Int) (m : Wafer) : Wafer :=
  let m := senseRail u q v m
  let r := (m.unit u).rail q
  let st := railState u q m
  if r.ramping ∧ (st = rRAMP_UP ∨ st = rREG ∨ st = rRAMP_DOWN) then
    let now := nextRampValue u q m
    let m := (leaveVset u q m).modRail u q fun r => { r with rampEdge := r.rampEdge + 1 }
    let m := liftClampEval u q (m.setI u.base (TSK_VNOW.VNOW q) now)
    let m := m.setB u.base (TSK_RSTAT.AT_TGT q) (now = r.rampTo)
    let m :=
      if now = r.rampTo then
        let m := m.modRail u q fun r => { r with ramping := false }
        if st = rRAMP_UP then enterState u q rREG m
        else if st = rRAMP_DOWN then enterState u q rOFF m
        else m
      else if st = rRAMP_DOWN ∧ now < 200000 then
        let m := railOff u q m
        let m := if q = 0 ∧ !u.isVerge then burstOver u m else m
        m.modRail u q fun r => { r with ramping := true }
      else m
    retentionEval u m
  else retentionEval u m

/-- A write to a set-point register (R38, R94, R124, R131). -/
def setpointWrite (u : UnitId) (sp : SetPoint) (data : Word) (m : Wafer) : Wafer :=
  match sp with
  | .vset q =>
    let lo := (railRange u.isVerge q).1
    let hi := (railRange u.isVerge q).2
    let v := data.toInt
    let m := m.setI u.base (TSK_VSET.VSET q) (onGrid (clampI lo hi v))
    let m := if v < lo ∨ hi < v ∨ sumClamped u q m then m.set u.base (TSK_RSTAT.VSET_CLAMP q) 1 else m
    retarget u q (cfgWritten u m)
  | .vtrim q =>
    let v := data.toInt
    let m := m.setI u.base (TSK_VTRIM.VTRIM q) (onGrid (clampI (-40000) 40000 v))
    let m := if v < -40000 ∨ 40000 < v ∨ sumClamped u q m then m.set u.base (TSK_RSTAT.VSET_CLAMP q) 1 else m
    retarget u q m
  | .vret =>
    if u.isVerge then m
    else
      let v := data.toInt
      let m := m.setI u.base TSK_VRET.VRET (onGrid (clampI 420000 550000 v))
      let m := if v < 420000 ∨ 550000 < v then m.set u.base (TSK_RSTAT.VSET_CLAMP 1) 1 else m
      retarget u 1 (cfgWritten u m)

/-- SETPOINT_WRITE (R124), with the measured value of the last 1 µs. -/
def doSetpointWrite (u : UnitId) (sp : SetPoint) (data : Word) (v : Int) (m : Wafer) : Wafer :=
  let q : Nat := match sp with | .vset q => q | .vtrim q => q | .vret => 1
  setpointWrite u sp data (senseMean u q v m)

/-- A write of TSK_CTL.RET (R126): ARR_RET rises before the ramp toward
retention; its fall waits for the run set-point (R74). -/
def writeRet (u : UnitId) (ret : Bool) (m : Wafer) : Wafer :=
  if u.isVerge then m
  else
    let m := m.setB u.base TSK_CTL.RET ret
    let m := if ret then m.modUnit u fun x => { x with arrRet := true } else m
    coreEval u (retarget u 1 m)

/-- RETENTION_SELECT (R126), with the measured ARRAY voltage. -/
def doRetentionSelect (u : UnitId) (ret : Bool) (v : Int) (m : Wafer) : Wafer :=
  writeRet u ret (senseMean u 1 v m)

/-- Steps in DT_LH + DT_HL + 0.5 ns, rounded up, at least 64 (R101): 0.1 ns is
2.56 steps. -/
def tonFloor (dtLh dtHl : Nat) : Nat := max 64 ((256 * (dtLh + dtHl + 5) + 99) / 100)

/-- A write to TSK_PHCTL[s] (R100, R101, R131). -/
def phctlWrite (u : UnitId) (s : Nat) (data : Word) (m : Wafer) : Wafer :=
  if slotAbsent u s then m
  else
    let lh := getBits data 16 5
    let hl := getBits data 8 5
    let ton := getBits data 0 8
    let lh' := clampN 4 20 lh
    let hl' := clampN 4 20 hl
    let floor := tonFloor lh' hl'
    let m := m.w1c (u.base + (TSK_PHCTL.TON_MIN s).off) 0x3000000 data
    let m := (m.set u.base (TSK_PHCTL.DT_LH s) lh').set u.base (TSK_PHCTL.DT_HL s) hl'
    let m := m.set u.base (TSK_PHCTL.TON_MIN s) (max ton floor)
    let m := if lh ≠ lh' ∨ hl ≠ hl' then m.set u.base (TSK_PHCTL.DT_CLAMP s) 1 else m
    let m := if ton < floor then m.set u.base (TSK_PHCTL.TON_CLAMP s) 1 else m
    cfgWritten u m

/-- PHCTL_WRITE (R100, R101). -/
def doPhctlWrite (u : UnitId) (s : Fin 4) (data : Word) (m : Wafer) : Wafer := phctlWrite u s data m

end Sys2Proof.Machine
end

