-- ==== Sys2Proof/Machine/LoadStep.lean ====
section
/-! DEFINITION.  Chapter 04: intents and pre-lift, Gorse, ties, clock stretch and
patch overload. -/

namespace Sys2Proof.Machine

/-! ### Intents (R67 to R71, R153 to R161) -/

/-- IPORT inputs are isolated (R68). -/
def iportIsolated (u : UnitId) (m : Wafer) : Bool := !(m.unit u).pgCore || (m.unit u).rst != .run

/-- Lift time of an entry (R154): the later of capture and effective - t_PRE; a
TPRE code is 5 ns, 4 ticks. -/
def liftTime (u : UnitId) (m : Wafer) (e : IntentEntry) : Nat :=
  max e.capture (e.effective - 4 * m.get u.base TSK_ICFG.TPRE)

/-- Entries in WAIT whose lift time has come move to LIFT (R154, R156, R157, R160),
with the 40 ns mean currents of the rails.  A step-up entry, and the start of any pre-lift,
restores a shed phase of its rail (R119, R157). -/
def liftDue (u : UnitId) (now : Nat) (i0 i1 : Int) (m : Wafer) : Wafer :=
  let due (e : IntentEntry) : Bool := !e.lifted && liftTime u m e ≤ now
  let lifts (e : IntentEntry) : Bool := e.stepUp || (liftMicrovolts u m e != 0 && m.on u.base TSK_ICFG.PL_MAX)
  let ups (q : Nat) : Bool := (m.unit u).intents.any fun e => due e && lifts e && e.rail == q
  let up0 := ups 0
  let up1 := ups 1
  let lift (e : IntentEntry) : IntentEntry :=
    if due e then { e with lifted := true, liftCurrent := if e.rail = 0 then i0 else i1 } else e
  let m := m.modUnit u fun x => { x with intents := x.intents.map lift }
  let m := if up0 then restoreShed u 0 m else m
  let m := if up1 then restoreShed u 1 m else m
  let m := liftEval u 1 (liftEval u 0 m)
  let m := if up0 then offerRail u 0 m else m
  if up1 then offerRail u 1 m else m

/-- A record of IPORT is taken and handled in the order of R153. -/
def takeRecord (u : UnitId) (d : Word) (now : Nat) (i0 i1 : Int) (m : Wafer) : Wafer :=
  let ty := getBits d 28 4
  let lead := getBits d 20 8
  let mag := getBits d 12 8
  let rail := getBits d 10 2
  let tag := getBits d 0 8
  let m := m.modUnit u fun x => { x with iportTkn := !x.iportTkn }
  if 3 < ty ∨ (ty < 2 ∧ 1 < rail) ∨ (ty = 3 ∧ 8 < mag) then
    flagEvent u TSK_ISTAT.MALF 22 0 0 (intentLog u 5 ty tag (m.incSat u.base TSK_IREJ.MALF_CNT))
  else if mag = 0 then intentLog u 3 ty tag (m.incSat u.base TSK_IMRK.MARK_CNT)
  else if ty = 2 then m.modUnit u fun x => { x with swStep := min 255 (x.swStep + mag) }
  else if ty = 3 then
    let c : CtxIntent := ⟨mag - 1, tag, now + 4 * lead⟩
    m.modUnit u fun x => { x with ctxPend :=
      match x.ctxPend with
      | some old => if old.effective ≤ c.effective then some c else some old
      | none => some c }
  else if railState u rail m ≠ rREG then intentLog u 6 ty tag (m.incSat u.base TSK_IMRK.IDLE_CNT)
  else if 8 ≤ (m.unit u).intents.length then
    flagEvent u TSK_ISTAT.FULL 21 0 0 (intentLog u 4 ty tag (m.incSat u.base TSK_IREJ.FULL_CNT))
  else
    let e : IntentEntry :=
      { stepUp := ty == 0, rail := rail, mag := mag, tag := tag, capture := now, effective := now + 4 * lead }
    liftDue u now i0 i1 (m.modUnit u fun x => { x with intents := x.intents ++ [e] })

/-- INTENT_RECORD (R67, R68, R153): the engine presents a record and toggles
IPORT_VLD; while IPORT is isolated it waits. -/
def doIntentRecord (g : Fin 4096) (d : Word) (w : Nat) (i0 i1 : Int) (m : Wafer) : Wafer :=
  let m := m.at w
  let u := UnitId.tussock g
  let m := m.modUnit u fun x => { x with iportVld := !x.iportVld, iportD := d }
  if iportIsolated u m then m else takeRecord u d w i0 i1 m

/-- IPORT_ISOLATION_END (R68). -/
def doIportIsolationEnd (g : Fin 4096) (w : Nat) (i0 i1 : Int) (m : Wafer) : Wafer :=
  let m := m.at w
  let u := UnitId.tussock g
  let x := m.unit u
  if !iportIsolated u m && x.iportVld != x.iportTkn then takeRecord u x.iportD w i0 i1 m else m

/-- INTENT_LIFT (R154, R157). -/
def doIntentLift (g : Fin 4096) (w : Nat) (i0 i1 : Int) (m : Wafer) : Wafer :=
  let m := m.at w
  liftDue (.tussock g) w i0 i1 m

/-- INTENT_STEP_OBSERVED (R158), with the 40 ns mean current of the rail. -/
def doIntentStepObserved (g : Fin 4096) (q : Fin 2) (i40 : Int) (m : Wafer) : Wafer :=
  observeIntents (.tussock g) (fun e => e.rail = q.val ∧
    (if e.stepUp then e.liftCurrent + 25 * (e.mag : Int) ≤ i40 else i40 ≤ e.liftCurrent - 25 * (e.mag : Int))) m

/-- INTENT_EXPIRE (R154, R158): entries in LIFT whose expiry has come count a miss
and are freed; an EXP code is 10 ns, 8 ticks. -/
def doIntentExpire (g : Fin 4096) (w : Nat) (m : Wafer) : Wafer :=
  let m := m.at w
  let u := UnitId.tussock g
  let expired (e : IntentEntry) : Bool := e.lifted && e.effective + 8 * m.get u.base TSK_ICFG.EXP ≤ w
  let gone := (m.unit u).intents.filter expired
  let m := logEntries u 2 gone m
  let m := m.set u.base TSK_IMISS.MISSES (m.get u.base TSK_IMISS.MISSES + gone.length)
  let m := m.modUnit u fun x => { x with intents := x.intents.filter fun e => !expired e }
  liftEval u 1 (liftEval u 0 m)

/-- PRELIFT_DECAY_STEP (R156): a pre-lift beyond its target moves toward it by one
SYNC edge of the rail's SLEW. -/
def doPreliftDecayStep (g : Fin 4096) (q : Fin 2) (m : Wafer) : Wafer :=
  let u := UnitId.tussock g
  let t := liftTarget u q m
  let p := preLift u q m
  let d : Int := 4 * (max 1 (m.get u.base (TSK_SLEW.SLEW q)) : Nat)
  if t < p then liftClampEval u q (setLift u q (max t (p - d)) m)
  else if p < t then liftClampEval u q (setLift u q (min t (p + d)) m)
  else m

/-! ### Gorse (R133 to R143) -/

/-- A burst takes a LOGIC phase in service (R138, R139): one within its off-time joins later,
one in its on-time keeps its high side on, and any other fires, its pulse the longer the
earlier its own dead time ends. -/
def joinBurst (u : UnitId) (s : Nat) (m : Wafer) : Wafer :=
  let x := (m.unit u).phase s
  let tg := burstSteps u s m
  if !inService u s m then m
  else if x.pulse ≠ .none then m.modPhase u s fun x => { x with pulse := .burst, fromStart := tg, lateBurst := false }
  else if x.offWait then m.modPhase u s fun x => { x with joinBurst := true }
  else (startPulse u s .burst (tg + burstEarly u s m) m).modPhase u s fun x => { x with fromStart := tg }

/-- GORSE_TRIGGER (R136, R138, R139), with the sensed voltage and its fall over
2.5 ns in µV; an SG code is 0.25 mV/ns. -/
def doGorseTrigger (g : Fin 4096) (v fall : Int) (m : Wafer) : Wafer :=
  let u := UnitId.tussock g
  if gorseArmed u m ∧ v < vSet u 0 m - gorseLevel u m ∧ 625 * (m.get u.base TSK_GORSE.SG : Int) < fall then
    let m := senseRail u 0 v m
    let m := (m.set u.base TSK_GSTAT.BURST 1).inc u.base TSK_GBURST.BURSTS
    let m := (List.range 4).foldl (fun m n =>
      if !m.on u.base (TSK_TIESTAT.TIED_OFF n) && !m.on u.base (TSK_TIESTAT.ACK_IN n)
          && ((m.unit u).port n).reqOut == 0 then
        m.modPort u n fun p => { p with reqOut := 1, ignoreAck := false }
      else m) m
    let m := joinBurst u 1 (joinBurst u 0 (restoreShed u 0 m))
    let m := m.modRail u 0 fun r => { r with carry := 0, rot := 0, waiting := false, fllHold := true }
    observeIntents u (fun e => e.rail = 0 ∧ e.stepUp) m
  else m

/-- The LOGIC phases whose burst pulse began with the burst, and of which none ends sooner
after the burst start (R139). -/
def burstDue (u : UnitId) (m : Wafer) : List Nat :=
  let x := m.unit u
  let began := [0, 1].filter fun s => (x.phase s).pulse == .burst && !(x.phase s).lateBurst
  began.filter fun s => began.all fun t => (x.phase s).fromStart ≤ (x.phase t).fromStart

/-- GORSE_BURST_END (R139): at burst start + t_G of its phase a burst pulse ends; one whose
TON_MIN gives it a later end runs on to its own. -/
def doGorseBurstEnd (g : Fin 4096) (m : Wafer) : Wafer :=
  let u := UnitId.tussock g
  if m.on u.base TSK_GSTAT.BURST then
    burstOver u ((burstDue u m).foldl (fun m s => endPulse u s false m) m)
  else m

/-- GORSE_BURST_EARLY_END (R140, R145): the sensed voltage rose above V_set + H/2;
a burst or tie pulse that has been on for the TON_MIN it was issued under ends, another runs
on to it.  `e0` and `e1` are the steps each LOGIC phase has been on. -/
def doGorseBurstEarlyEnd (g : Fin 4096) (v : Int) (e0 e1 : Nat) (m : Wafer) : Wafer :=
  let u := UnitId.tussock g
  let m := senseRail u 0 v m
  if vSet u 0 m + halfBand u 0 m < v then
    let m := [0, 1].foldl (fun m s => m.modPhase u s fun x => { x with joinBurst := false }) m
    burstOver u ([0, 1].foldl (fun m s =>
      let x := (m.unit u).phase s
      if x.pulse = .burst ∨ x.pulse = .tie then
        if x.tonMin ≤ (if s = 0 then e0 else e1) then endPulse u s false m
        else m.modPhase u s fun x => { x with steps := x.tonMin, lateBurst := true }
      else m) m)
  else m

/-- GORSE_REARM (R142), with the sensed voltage at this clock and the clock before. -/
def doGorseRearm (g : Fin 4096) (before v : Int) (m : Wafer) : Wafer :=
  let u := UnitId.tussock g
  let lo := vSet u 0 m - halfBand u 0 m
  let hi := vSet u 0 m + halfBand u 0 m
  if m.on u.base TSK_GSTAT.REARM_WAIT ∧ ((lo ≤ v ∧ v ≤ hi) ∨ (before < lo ∧ hi < v)) then
    (senseRail u 0 v m).set u.base TSK_GSTAT.REARM_WAIT 0
  else m

/-! ### Ties (R144 to R152) -/

/-- The tie pulse of a 0b01 request (R145, R146): the phase next in rotation, else
the other, else the first available within 5 ns. -/
def tiePulse (u : UnitId) (w : Nat) (m : Wafer) : Wafer :=
  let x := m.unit u
  let waits := match x.tieWait with
    | some t => decide (w ≤ t)
    | none => false
  let busy := waits || m.on u.base TSK_GSTAT.BURST || [0, 1].any fun s =>
    (x.phase s).pulse == .tie || ((x.phase s).lastTie && (x.phase s).offWait)
  if busy then m
  else
    match [x.rail0.rot % 2, (x.rail0.rot + 1) % 2].find? fun s => available u s m && (x.phase s).pulse == .none with
    | some s => fireTie u s m
    | none => m.modUnit u fun x => { x with tieWait := some (w + 4) }

/-- TIE_REQUEST_RECEIVE (R144 to R146, R152): a non-zero code is synchronised on a
port. -/
def doTieRequestReceive (g : Fin 4096) (n : Fin 4) (code : Fin 4) (w : Nat) (m : Wafer) : Wafer :=
  let m := m.at w
  let u := UnitId.tussock g
  if m.on u.base (TSK_TIESTAT.TIED_OFF n) ∨ code.val = 0 then m
  else
    let m := m.modPort u n fun p => { p with reqWire := code }
    let m := if swathRuns u m then m.set u.base (TSK_TIESTAT.REQ_IN n) code else m
    let p := (m.unit u).port n
    if ¬ mayClose u m then
      if code.val = 1 then m.modPort u n fun p => { p with used01 := true } else m
    else if p.side then m
    else if code.val = 1 then
      if p.used01 ∨ p.guarded then m
      else
        tiePulse u w (m.modPort u n fun p => { p with side := true, used01 := true, for01 := true })
    else if p.guarded then m
    else closeForHold u n m

/-- TIE_SIDE_CLOSED (R64, R147, R196): the side conducts, TIE_ACK rises and the
hold begins. -/
def doTieSideClosed (g : Fin 4096) (n : Fin 4) (m : Wafer) : Wafer :=
  let u := UnitId.tussock g
  let p := (m.unit u).port n
  if p.side ∧ ¬ m.on u.base (TSK_TIESTAT.CLOSED n) then
    let hold := m.on u.base TSK_TIE.HOLD
    let m := m.set u.base (TSK_TIESTAT.CLOSED n) 1
    let m := m.modPort u n fun p => { p with gradual := false, ackOut := true, holding := hold, closedAt := m.wtime }
    if ¬ hold ∧ m.get u.base (TSK_TIESTAT.REQ_IN n) = 0 then openSide u n m else m
  else m

/-- 0b10 of an adopted patch follows on each port that carries no code, once TIE_ACK is low
(R150, R195). -/
def adoptHold (u : UnitId) (m : Wafer) : Wafer :=
  if m.on u.base TSK_HSTAT.ADOPTED && (m.unit u).rst == .run then
    (List.range 4).foldl (fun m n =>
      if !m.on u.base (TSK_TIESTAT.TIED_OFF n) && !m.on u.base (TSK_TIESTAT.ACK_IN n) then
        m.modPort u n fun p => { p with reqOut := if p.reqOut = 0 then 2 else p.reqOut }
      else m) m
  else m

/-- TIE_ACK_RECEIVE (R64, R66, R150, R151, R195): the level of TIE_ACK on a port
changes. -/
def doTieAckReceive (g : Fin 4096) (n : Fin 4) (level : Bool) (m : Wafer) : Wafer :=
  let u := UnitId.tussock g
  if m.on u.base (TSK_TIESTAT.TIED_OFF n) then m
  else
    let m := m.modPort u n fun p => { p with ackWire := level }
    let m := if swathRuns u m then m.setB u.base (TSK_TIESTAT.ACK_IN n) level else m
    let p := (m.unit u).port n
    let adopted := m.on u.base TSK_HSTAT.ADOPTED
    if (m.unit u).rst ≠ .run then m
    else if level then
      if p.reqOut = 1 ∧ ¬ p.ignoreAck then
        if adopted then m.modPort u n fun p => { p with reqOut := 2 }
        else if m.on u.base TSK_GSTAT.BURST then m
        else m.modPort u n fun p => { p with reqOut := 0 }
      else m
    else
      m.modPort u n fun p =>
        { p with ignoreAck := false, reqOut := if adopted ∧ p.reqOut = 0 then 2 else p.reqOut }

/-- WTIME at which the hold of a side ends: TSK_TIE.HOLD, in steps of 10 ns or 8 ticks, after
the side closed (R147, Table 4.8). -/
def holdEnd (u : UnitId) (n : Nat) (m : Wafer) : Nat := ((m.unit u).port n).closedAt + 8 * m.get u.base TSK_TIE.HOLD

/-- TIE_REQUEST_RELEASE (R147): the received code returns to 0b00; a side whose hold is over
opens. -/
def doTieRequestRelease (g : Fin 4096) (n : Fin 4) (m : Wafer) : Wafer :=
  let u := UnitId.tussock g
  let m := m.set u.base (TSK_TIESTAT.REQ_IN n) 0
  let m := m.modPort u n fun p => { p with used01 := false, guarded := false, counted := false, reqWire := 0 }
  let p := (m.unit u).port n
  if p.side ∧ m.on u.base (TSK_TIESTAT.CLOSED n) ∧ (¬ p.holding ∨ holdEnd u n m ≤ m.wtime) then openSide u n m else m

/-- TIE_HOLD_EXPIRE (R147): WTIME has reached the end of the hold. (DESIGN CHOICE: log 5.) -/
def doTieHoldExpire (g : Fin 4096) (n : Fin 4) (m : Wafer) : Wafer :=
  let u := UnitId.tussock g
  let p := (m.unit u).port n
  if p.holding then
    let m := (m.at (holdEnd u n m)).modPort u n fun p => { p with holding := false }
    if m.get u.base (TSK_TIESTAT.REQ_IN n) = 0 then openSide u n m else m
  else m

/-- TIE_GUARD_OPEN (R149): 500 ns below 0.85 × V_set with the side closed. -/
def doTieGuardOpen (g : Fin 4096) (n : Fin 4) (v : Int) (m : Wafer) : Wafer :=
  let u := UnitId.tussock g
  let m := senseRail u 0 v m
  if m.on u.base TSK_TIE.GUARD_EN ∧ m.on u.base (TSK_TIESTAT.CLOSED n) ∧ 100 * v < 85 * vSet u 0 m then
    let m := openSide u n m
    let m := m.modPort u n fun p => { p with guarded := true }
    flagEvent u (TSK_TIESTAT.GUARD n) 20 0 n m
  else m

/-- TIE_GUARD_RECLOSE (R149 step 4): 10 µs in the hysteresis band. -/
def doTieGuardReclose (g : Fin 4096) (n : Fin 4) (v : Int) (m : Wafer) : Wafer :=
  let u := UnitId.tussock g
  let m := senseRail u 0 v m
  if ((m.unit u).port n).guarded ∧ 2 ≤ m.get u.base (TSK_TIESTAT.REQ_IN n) ∧ mayClose u m
      ∧ vSet u 0 m - halfBand u 0 m ≤ v ∧ v ≤ vSet u 0 m + halfBand u 0 m then
    closeForHold u n m
  else m

/-- TIE_ACK_TIMEOUT (R150): no TIE_ACK within 20 ns of driving a code, which returns to 0b00;
the 0b10 of an adopted patch follows from there (R64, R195). -/
def doTieAckTimeout (g : Fin 4096) (n : Fin 4) (m : Wafer) : Wafer :=
  let u := UnitId.tussock g
  let p := (m.unit u).port n
  if p.reqOut = 1 ∧ ¬ m.on u.base (TSK_TIESTAT.ACK_IN n) then
    let m := m.modPort u n fun p => { p with reqOut := 0, ignoreAck := true }
    flagEvent u (TSK_TIESTAT.NOACK n) 19 0 n (m.incSat u.base TSK_TIECNT.NOACK_CNT)
  else m

/-! ### Clock stretch and patch overload (R162 to R167) -/

/-- STRETCH_ASSERT (R162). -/
def doStretchAssert (g : Fin 4096) (v : Int) (w : Nat) (m : Wafer) : Wafer :=
  let m := m.at w
  let u := UnitId.tussock g
  let m := senseRail u 0 v m
  if m.on u.base TSK_STR.EN ∧ ¬ m.on u.base TSK_STR.ACT ∧ stretchState u m
      ∧ v < m.getI u.base (TSK_VNOW.VNOW 0) - stretchLevel u m then
    let m := (m.set u.base TSK_STR.ACT 1).inc u.base TSK_STRCNT.RISES
    m.modUnit u fun x => { x with strSince := w, strRise := w }
  else m

/-- STRETCH_RELEASE (R162): recovered and HOLD clocks (1.25 ns, one tick) since the
rise. -/
def doStretchRelease (g : Fin 4096) (v : Int) (w : Nat) (m : Wafer) : Wafer :=
  let m := m.at w
  let u := UnitId.tussock g
  let m := senseRail u 0 v m
  if m.getI u.base (TSK_VNOW.VNOW 0) - halfBand u 0 m < v ∧ (m.unit u).strRise + m.get u.base TSK_STR.HOLD ≤ w then
    strFall u m
  else m

/-- Ticks of OVL_T: 1 µs to 64 µs, 0 meaning 1 µs (R165). -/
def ovlTicks (u : UnitId) (m : Wafer) : Nat := 800 * min 64 (max 1 (m.get u.base TSK_OVL.OVL_T))

/-- PATCH_OVERLOAD_CLASSIFY (R165, R166): both conditions hold, and have held for OVL_T, the
moment that WTIME has then reached. (DESIGN CHOICE: log 5.) -/
def doPatchOverloadClassify (g : Fin 4096) (v : Int) (m : Wafer) : Wafer :=
  let u := UnitId.tussock g
  let m := senseRail u 0 v m
  if overloaded u m ∧ ¬ m.on u.base TSK_OVL.OVL_ACT then
    let m := m.at ((m.unit u).rail0.ovlFrom.getD m.wtime + ovlTicks u m)
    let m := (m.set u.base TSK_OVL.OVL 1).set u.base TSK_OVL.OVL_ACT 1
    let m := (List.range 4).foldl (fun m n =>
      m.modPort u n fun p => { p with reqOut := if p.reqOut = 1 then 0 else p.reqOut }) m
    unitEvent u 14 0 0 (openAllSides u m)
  else m

end Sys2Proof.Machine
end

