-- ==== Sys2Proof/Machine/Nvm.lean ====
section
/-! DEFINITION.  Non-volatile storage, the part that other chapters start: capturing
a region, queueing it for writing and beginning the write (R193, R413, R437 to R439). -/

namespace Sys2Proof.Machine

/-- Pages of a region's slot (Table 13.7, R437). -/
def regionPages (r : Nat) : Nat := match r with | 0 => 64 | 2 => 72 | 4 => 64 | _ => 8

/-- Bank of a region (Table 13.7). -/
def regionBank (r : Nat) : Nat := if r = 5 then 1 else 0

/-- Key of a slot in the MRAM store. -/
def slotKey (h r s : Nat) : Nat := 12 * h + 2 * r + s

def Wafer.modNvm (m : Wafer) (f : NvmSt → NvmSt) : Wafer := m.modHeath fun h => { h with nvm := f h.nvm }

def NvmSt.slotAt (x : NvmSt) (h r s : Nat) : Option NvmSlot := Store.get noSlot x.mram (slotKey h r s)

def NvmSt.job (x : NvmSt) (h b : Nat) : Option NvmJob := Store.get noJob x.jobs (2 * h + b)

def NvmSt.setSlot (x : NvmSt) (h r s : Nat) (v : Option NvmSlot) : NvmSt :=
  { x with mram := Store.set noSlot x.mram (slotKey h r s) v }

def NvmSt.setJob (x : NvmSt) (h b : Nat) (v : Option NvmJob) : NvmSt :=
  { x with jobs := Store.set noJob x.jobs (2 * h + b) v }

/-- Whether a Heath address is a meter calibration register of region 3. -/
def isMeterCal (a : Nat) : Bool := decide (0x30200 ≤ a ∧ a < 0x304A0)

/-- RWP bits of the register at a Heath address (Table 0.6). -/
def rwpMask (fuse a : Nat) : Nat :=
  match lookupReg fuse (.heath a) with
  | some (d, _, i, _) => if i < d.roFrom then d.rwp else 0
  | none => 0

/-- RWP values of the listed Heath registers, of region 3 or of region 4 (R358, R442). -/
def overlayOf (cal : Bool) (m : Wafer) : List (Nat × Nat) :=
  (m.regs.filter fun e => decide (e.1 < 0x1000000) && isMeterCal e.1 == cal && rwpMask m.fuse e.1 != 0).map fun e =>
    (e.1, (e.2 &&& BitVec.ofNat 32 (rwpMask m.fuse e.1)).toNat)

/-- The newest valid slot of a region in one Heath (R437, R441). -/
def NvmSt.newest (x : NvmSt) (h r : Nat) : Option (Nat × NvmSlot) :=
  match x.slotAt h r 0, x.slotAt h r 1 with
  | none, none => none
  | some a, none => some (0, a)
  | none, some b => some (1, b)
  | some a, some b => if a.seq < b.seq then some (1, b) else some (0, a)

/-- Whether a partition is live on Hedgerow: it answered the enumeration, and its stop has
not been passed by since (R48, R271, R315). (DEDUCED: log 52.) -/
def partLive (p : Nat) (m : Wafer) : Bool := m.heath.live.contains p && !(m.sward p).passedBy

def liveParts (m : Wafer) : List Nat := (List.range 64).filter fun p => partLive p m

/-- Units of a partition and their phase slots. -/
def unitSlots (p : Nat) : List (Nat × Nat) :=
  (List.range 64).flatMap (fun t => [(t, 0), (t, 1), (t, 2)])
    ++ (if isEdge p then (List.range 8).flatMap fun v => [(64 + v, 0), (64 + v, 1), (64 + v, 2), (64 + v, 3)] else [])

/-- Baselines of region 2 (R439): of every live Sward's image, and for a partition
that is not live those of the newest valid copy. -/
def baselines (m : Wafer) : List (Nat × Nat) :=
  let old := match m.heath.nvm.newest m.heath.activeId 2 with | some (_, s) => s.data | none => []
  (List.range 64).flatMap fun p =>
    (unitSlots p).filterMap fun e =>
      let a := (unitOf p e.1).base + 0x410 + 0x20 * e.2
      if partLive p m then
        match (m.sward p).imageAt e.1 (0x410 + 0x20 * e.2) with
        | some w => some (a, w.toNat % 2 ^ 31)
        | none => none
      else (old.find? fun x => x.1 == a)

/-- The last-fault region's contents (R413): LFREC, NEXT and TOTAL. -/
def lastFaults (m : Wafer) : List (Nat × Nat) :=
  ((m.regs.filter fun e => decide (0x21000 ≤ e.1 ∧ e.1 < 0x21400)).map fun e => (e.1, e.2.toNat))
    ++ [(HTH_LFCTL.NEXT.off, (m.word HTH_LFCTL.NEXT.off).toNat % 2 ^ 20)]

/-- The contents of a region as a write captures them (R439). -/
def captureRegion (r : Nat) (m : Wafer) : List (Nat × Nat) :=
  match r with
  | 0 => match m.heath.nvm.newest m.heath.activeId 0 with | some (_, s) => s.data | none => []
  | 1 => m.heath.retireMap
  | 2 => baselines m
  | 3 => overlayOf true m
  | 4 => overlayOf false m
  | _ => lastFaults m

/-- A region write begins in one Heath: the slot under it is no longer valid (R437).  A
bank-0 write in progress there stops at the end of its page (R439). -/
def beginJob (h : Nat) (j : NvmJob) (x : NvmSt) : NvmSt :=
  let b := regionBank j.region
  let x :=
    match b, x.job h 0 with
    | 0, some k => { x with stopped := Store.set noJobs x.stopped h (k :: Store.get noJobs x.stopped h) }
    | _, _ => x
  (x.setSlot h j.region j.slot none).setJob h b (some j)

/-- The write of a region begins in the active Heath and, where there is one, in the
standby (R437, R439, R440). -/
def beginRegion (r : Nat) (m : Wafer) : Wafer :=
  let a := m.heath.activeId
  let seq := (m.get 0 (HTH_NVMSEQ.SEQ r) + 1) % 2 ^ 32
  let slot := if m.get 0 (HTH_NVMSEQ.SEQ r) = 0 then 0 else 1 - m.get 0 (HTH_NVMREG.SLOT r)
  let j : NvmJob := ⟨r, slot, seq, 0, false, captureRegion r m⟩
  let m := m.modNvm fun x => beginJob a j x
  let m := if m.on 0 HTH_HBSTAT.STBY_OK then m.modNvm fun x => beginJob (1 - a) j x else m
  let m := m.set 0 (HTH_NVMREG.STBY_OK r) 0
  if r = 5 then (m.set 0 HTH_NVMSTAT.BUSY1 1).set 0 HTH_LFCTL.WR_BUSY 1 else m.set 0 HTH_NVMSTAT.BUSY0 1

/-- Whether a region waits or is in progress (R438). -/
def regionPending (r : Nat) (m : Wafer) : Bool := (m.get 0 HTH_NVMSTAT.PEND).testBit r

/-- A bank of the active Heath that is idle takes its next region (R439). -/
def nvmNext (m : Wafer) : Wafer :=
  let a := m.heath.activeId
  let m :=
    if (m.heath.nvm.job a 1).isNone && regionPending 5 m then beginRegion 5 m else m
  if (m.heath.nvm.job a 0).isSome then m
  else
    match ([1, 0, 2, 3, 4].filter fun r =>
      regionPending r m && !(Store.get noJobs m.heath.nvm.stopped a).any fun j => j.region == r).head? with
    | some r => if r ≠ 1 ∧ (Store.get noJobs m.heath.nvm.stopped a) ≠ [] then m else beginRegion r m
    | none => m

/-- BUSY0, BUSY1 and WR_BUSY show the active Heath's writes. -/
def nvmBusy (m : Wafer) : Wafer :=
  let x := m.heath.nvm
  let a := m.heath.activeId
  let m := m.setB 0 HTH_NVMSTAT.BUSY0 (x.job a 0).isSome
  (m.setB 0 HTH_NVMSTAT.BUSY1 (x.job a 1).isSome).setB 0 HTH_LFCTL.WR_BUSY (x.job a 1).isSome

/-- A region joins those that wait, unless it is pending already (R438). -/
def nvmQueue (r : Nat) (m : Wafer) : Wafer :=
  if regionPending r m then (if r = 5 then m.set 0 HTH_LFCTL.WR_PEND 1 else m)
  else nvmNext (m.set 0 HTH_NVMSTAT.PEND (m.get 0 HTH_NVMSTAT.PEND + 2 ^ r))

/-- Nibble of the retire map that holds a unit: G, or 4,096 + 8e + v (R193). -/
def retireNibble (u : UnitId) : Nat := match u with | .tussock g => g.val | .verge n => 4096 + n.val

/-- Slots of a nibble whose phases are retired. -/
def nibbleSlots (v : Nat) : List Nat := (List.range 4).filter fun s => v.testBit s

/-- HTH_HLTHCTL.STORE_PEND: the live retire map differs from NVM (R193); RET_CNT counts
its phases. -/
def retireDiffers (m : Wafer) : Wafer :=
  let nvm := match m.heath.nvm.newest m.heath.activeId 1 with | some (_, s) => s.data | none => []
  (m.set 0 HTH_HLTHCTL.RET_CNT (List.map (fun e => (nibbleSlots e.2).length) m.heath.retireMap).sum).setB 0 HTH_HLTHCTL.STORE_PEND (decide (m.heath.retireMap ≠ nvm))

/-- The Heath's live retire map follows a phase; with AUTO_STORE_RETIRE its STORE
begins (R192, R193). -/
def Wafer.liveRetire (m : Wafer) (u : UnitId) (s : Nat) (on : Bool) : Wafer :=
  let was := m.heath.retireMap
  let k := retireNibble u
  let v := (setBits (BitVec.ofNat 32 (Store.get zeroNat was k)) s 1 (bit on)).toNat
  let m := retireDiffers (m.modHeath fun h => { h with retireMap := Store.set zeroNat h.retireMap k v })
  if m.heath.retireMap ≠ was ∧ m.on 0 HTH_HLTHCTL.AUTO_STORE_RETIRE then nvmQueue 1 m else m

end Sys2Proof.Machine
end

