-- ==== Sys2Proof/Machine/Health.lean ====
section
/-! DEFINITION.  Chapter 05: current limit, phase faults, rail trips, temperature,
bump columns, retirement, adoption and the return to service. -/

namespace Sys2Proof.Machine

/-- CURRENT_LIMIT_HIT (R171, R103, R110), with the phase current in mA: I_eff ends a pulse;
in sink mode -SINK_LIM turns the low side off, and after DT_LH the high side returns the
current to VIB (R120 steps 2 and 3). -/
def doCurrentLimitHit (u : UnitId) (s : Fin 4) (i : Int) (m : Wafer) : Wafer :=
  let q := slotRail s
  let x := (m.unit u).phase s
  if x.pulse ≠ .none ∧ 50 * (foldBack u s m : Int) ≤ i then
    let m := m.modPhase u s fun x => { x with current := i }
    let m := if railState u q m = rREG then peakMax u (TSK_TPK_PI.IMAX s) i m else m
    let m := m.modRail u q fun r => { r with fllHold := true }
    ovlEval u (endPulse u s true m)
  else if m.on u.base (TSK_RSTAT.SINK q) ∧ x.pulse = .none ∧ x.bridge = .low ∧ available u s m
      ∧ i ≤ -250 * (m.get u.base (TSK_OVS.SINK_LIM q) : Int) then
    m.modPhase u s fun x => { x with bridge := .high, returning := true, current := i }
  else m

/-- Cause bits 6:0 of TSK_PHFLT (Table 5.7). -/
def causeField (s : Nat) : Fld := ⟨(TSK_PHFLT.HSHORT s).off, 0, 7⟩

/-- A phase off: both transistors off, and out of any burst (R173, R191). -/
def phaseOff (u : UnitId) (s : Nat) (m : Wafer) : Wafer :=
  let m := endPulse u s false m
  let m := m.modPhase u s fun x =>
    { x with bridge := .off, joinBurst := false, winServed := false, returning := false }
  if u.isVerge then m else burstOver u m

/-- A phase off for a fault: the rail's carry is cleared too when the phase was next in
rotation (R173). -/
def faultOff (u : UnitId) (s : Nat) (m : Wafer) : Wafer :=
  let q := slotRail s
  phaseOff u s (if nextInRotation u q m = some s then m.modRail u q fun r => { r with carry := 0 } else m)

/-- What the loss of a whole rail brings (R195, R198). -/
def railLoss (u : UnitId) (s : Nat) (m : Wafer) : Wafer :=
  let gone (t : Nat) : Bool := m.on u.base (TSK_PHSTAT.RETIRED t)
  match u with
  | .tussock _ =>
    if s < 2 then
      if gone 0 && gone 1 then
        let m := (List.range 4).foldl (fun m n =>
          if !m.on u.base (TSK_TIESTAT.TIED_OFF n) && ((m.unit u).port n).reqOut == 0 then
            m.modPort u n fun p => { p with reqOut := 2 }
          else m) m
        unitEvent u 15 0 0 (m.set u.base TSK_HSTAT.ADOPTED 1)
      else m
    else unitEvent u 16 0 0 (m.set u.base TSK_HSTAT.ARR_LOSS 1)
  | .verge n =>
    if s < 2 then
      if gone 0 && gone 1 then unitEvent u 17 0 (n.val % 8 / 2) (m.set u.base TSK_HSTAT.LINK_LOSS 1) else m
    else if gone 2 && gone 3 then unitEvent u 18 0 0 (m.set u.base TSK_HSTAT.MIF_LOSS 1)
    else m

/-- Retirement of a phase (R191). -/
def retirePhase (u : UnitId) (s : Nat) (m : Wafer) : Wafer :=
  if slotAbsent u s ∨ m.on u.base (TSK_PHHLTH.RETIRE s) then m
  else
    let m := phaseOff u s m
    let m := (m.set u.base (TSK_PHHLTH.RETIRE s) 1).set u.base (TSK_PHSTAT.RETIRED s) 1
    let m := m.set u.base (TSK_PHSTAT.SUSPENDED s) 0
    railLoss u s (unitEvent u 1 s (m.get u.base (causeField s)) m)

/-- The loss flags as the retired phases leave them (R195, R198). -/
def lossFlags (u : UnitId) (m : Wafer) : Wafer :=
  let gone (t : Nat) : Bool := m.on u.base (TSK_PHSTAT.RETIRED t)
  if u.isVerge then (m.setB u.base TSK_HSTAT.LINK_LOSS (gone 0 && gone 1)).setB u.base TSK_HSTAT.MIF_LOSS (gone 2 && gone 3)
  else (m.setB u.base TSK_HSTAT.ADOPTED (gone 0 && gone 1)).setB u.base TSK_HSTAT.ARR_LOSS (gone 2)

/-- The pulse raised its phase's current by less than 25 % of (VIB - V) × t_ON / 25 nH
(Table 5.2): with the rise in mA, voltages in µV and steps of 39.0625 ps. -/
def weakPulse (u : UnitId) (s : Nat) (e : Int × Nat) (m : Wafer) : Bool :=
  2560000 * e.1 < ((m.get u.base TSK_VIB.VIB : Int) - ((m.unit u).rail (slotRail s)).sense) * e.2

/-- A phase gave a pulse that ended at I_eff, or otherwise, within the preceding 2 µs. -/
def within2us (now : Nat) (t : Option Nat) : Bool :=
  match t with
  | some t => decide (now ≤ t + 1600)
  | none => false

/-- Limit imbalance (Table 5.2): on a rail with two phases in service, every pulse of this
phase over 2 µs ended at I_eff, and none of the other's did. -/
def limitImbalance (u : UnitId) (s : Nat) (r : PhaseReading) (m : Wafer) : Bool :=
  let slots := railSlots u.isVerge (slotRail s)
  let x := m.unit u
  r.over2us && slots.length == 2 && (slots.all fun t => inService u t m)
    && within2us m.wtime (x.phase s).limitAt && !within2us m.wtime (x.phase s).freeAt
    && slots.all fun t => t == s || !within2us m.wtime (x.phase t).limitAt

/-- The faults of Table 5.2 that a reading shows, as cause bits 0 to 5 of Table 5.7. -/
def faultBits (u : UnitId) (s : Nat) (r : PhaseReading) (m : Wafer) : BitVec 6 :=
  let x := (m.unit u).phase s
  let hshort : Bool := x.bridge == .off && match r.offRise with | some i => decide (2000 < i) | none => false
  let lshort : Bool := x.bridge == .high && match r.sw with
    | some v => decide (2 * v < (m.get u.base TSK_VIB.VIB : Int))
    | none => false
  let hoc : Bool := decide (3 * (50 * (m.get u.base (TSK_ILIM.IPK s) : Int)) < 2 * r.current)
  let weak : Bool := decide (16 ≤ r.rises.length) && (r.rises.take 16).all fun e => weakPulse u s e m
  BitVec.ofNat 6 (bit hshort + 2 * bit lshort + 4 * bit hoc + 8 * bit weak + 16 * bit r.driverLow
    + 32 * bit (limitImbalance u s r m))

/-- The faults that count: a retired phase runs the high-side-short test alone (R191), but
all of Table 5.2 while it is under test (R199). -/
def seenFaults (u : UnitId) (s : Nat) (r : PhaseReading) (m : Wafer) : BitVec 6 :=
  let bits := faultBits u s r m
  if m.on u.base (TSK_PHSTAT.RETIRED s) && !m.on u.base (TSK_PHHLTH.TEST_BUSY s) then bits &&& 1 else bits

/-- PHASE_FAULT_DETECT (R172 to R176): the faults of one phase detected in one
clock, from what its detectors see. -/
def doPhaseFaultDetect (u : UnitId) (s : Fin 4) (r : PhaseReading) (m : Wafer) : Wafer :=
  let retired := m.on u.base (TSK_PHSTAT.RETIRED s)
  let seen := seenFaults u s r m
  if slotAbsent u s ∨ seen = 0 then m
  else
    let bits := m.get u.base (causeField s)
    let m := m.set u.base (causeField s) (bits ||| seen.toNat)
    let m := faultOff u s m
    if m.on u.base (TSK_PHHLTH.TEST_BUSY s) then m.modPhase u s fun x => { x with testFault := true }
    else if retired then m
    else if seen &&& 3 ≠ 0 then retirePhase u s m
    else
      let recent := recentTimes m.wtime ((m.unit u).phase s).suspendedAt
      if recent.length < m.get u.base TSK_HCTL.RETRY_MAX then
        let m := m.modPhase u s fun x => { x with suspendedAt := m.wtime :: recent }
        let m := (m.set u.base (TSK_PHSTAT.SUSPENDED s) 1).incSat u.base (TSK_PHFLT.RETRIES s)
        unitEvent u 0 s (m.get u.base (causeField s)) m
      else retirePhase u s m

/-- SUSPENSION_END (R174). (DESIGN CHOICE: log 6.) -/
def doSuspensionEnd (u : UnitId) (s : Fin 4) (m : Wafer) : Wafer :=
  if m.on u.base (TSK_PHSTAT.SUSPENDED s) then backInService u s (m.set u.base (TSK_PHSTAT.SUSPENDED s) 0) else m

/-- Hard over-voltage offset in force in µV, and its flag (R177). -/
def ovOffset (u : UnitId) (q : Nat) (m : Wafer) : Int :=
  max (1000 * (m.get u.base (TSK_RLIM.OV_HARD q) : Int)) (ovSoftEff u q m + 10000)

/-- RLIM_CLAMP where OV_SOFT_eff raises the offset (R177). -/
def ovClampEval (u : UnitId) (q : Nat) (m : Wafer) : Wafer :=
  if 1000 * (m.get u.base (TSK_RLIM.OV_HARD q) : Int) < ovSoftEff u q m + 10000 then
    m.set u.base (TSK_RLIM.RLIM_CLAMP q) 1
  else m

/-- RAIL_OV_TRIP (R177 to R179): the sensed voltage has stayed above V_ref_hi and
the offset for 20 ns. -/
def doRailOvTrip (u : UnitId) (q : Fin 2) (v : Int) (m : Wafer) : Wafer :=
  let m := ovClampEval u q (senseRail u q v m)
  let st := railState u q m
  if st ≠ rOFF ∧ st ≠ rSENSE_OPEN ∧ st ≠ rTRIPPED ∧ vRefHi u q m + ovOffset u q m < v then
    let recent := recentTimes m.wtime ((m.unit u).rail q).trippedAt
    let m := enterState u q rTRIPPED m
    let m := (m.set u.base (TSK_RFLT.OV q) 1).incSat u.base (TSK_RFLT.TRIPS q)
    if recent.length < m.get u.base TSK_HCTL.RETRY_MAX then
      let m := m.modRail u q fun r => { r with trippedAt := m.wtime :: recent, retrying := true }
      unitEvent u 6 0 q m
    else unitEvent u 7 0 q (m.set u.base (TSK_RFLT.OV_LATCH q) 1)
  else m

/-- TRIP_RETRY_EXPIRE (R179). -/
def doTripRetryExpire (u : UnitId) (q : Fin 2) (v : Int) (m : Wafer) : Wafer :=
  if railState u q m = rTRIPPED ∧ ((m.unit u).rail q).retrying then startRampUp u q v (senseMean u q v m) else m

/-- RAIL_UNDER_VOLTAGE (R180): below V_ref_lo - UV for 10 µs in REG. -/
def doRailUnderVoltage (u : UnitId) (q : Fin 2) (v : Int) (m : Wafer) : Wafer :=
  let m := senseRail u q v m
  if underVoltage u q m then
    let held := ((m.unit u).rail q).uvHeld
    let m := (m.set u.base (TSK_RFLT.UV q) 1).modRail u q fun r => { r with uvHeld := true }
    if held then m else unitEvent u 8 0 q m
  else m

/-! ### Temperature (R181 to R186) -/

/-- Over-temperature shutdown (R184). -/
def otShutdown (u : UnitId) (m : Wafer) : Wafer :=
  let m := m.set u.base TSK_HSTAT.OT_SD_LATCH 1
  let m := (List.range 2).foldl (fun m q =>
    let st := railState u q m
    if st = rOFF ∨ st = rSENSE_OPEN then m
    else (enterState u q rTRIPPED m).modRail u q fun r => { r with retrying := false }) m
  let m := (List.range 4).foldl (fun m n =>
    m.modPort u n fun p => { p with reqOut := if p.reqOut = 1 then 0 else p.reqOut }) m
  let m := if u.isVerge then m else strFall u (openAllSides u m)
  unitEvent u 10 0 0 m

/-- The sensor counts as failed (R186). -/
def sensorFailed (u : UnitId) (m : Wafer) : Wafer :=
  if (m.unit u).tempFailed then m
  else
    let m := m.modUnit u fun x => { x with tempFailed := true, goodTemps := 0, validOnly := false }
    let m := unitEvent u 11 0 0 (m.set u.base TSK_HSTAT.SENS_FLT 1)
    unitEvent u 9 0 0 (m.set u.base TSK_HSTAT.OT_WARN 1)

/-- The warning and shutdown tests on a mean temperature (R183 to R185). -/
def tempTests (u : UnitId) (mean : Int) (m : Wafer) : Wafer :=
  let warn := 1000 * (m.get u.base TSK_OT.OT_WARN : Int)
  let sd := 1000 * (m.get u.base TSK_OT.OT_SD : Int)
  let m :=
    if warn ≤ mean then
      if m.on u.base TSK_HSTAT.OT_WARN then m else unitEvent u 9 0 0 (m.set u.base TSK_HSTAT.OT_WARN 1)
    else if mean < warn - 5000 then m.set u.base TSK_HSTAT.OT_WARN 0
    else m
  if sd ≤ mean then
    if m.on u.base TSK_HSTAT.OT_SD_LATCH then m else otShutdown u m
  else if mean < warn - 5000 ∧ m.on u.base TSK_HSTAT.OT_SD_LATCH then
    let m := m.set u.base TSK_HSTAT.OT_SD_LATCH 0
    if u.isVerge then m else serveStanding u m
  else m

/-- TEMP_SAMPLE (R181, R186).  A failed sensor recovers at its 64th valid sample in a row,
the last 8 samples being valid ones then; from there the mean takes valid samples alone. -/
def doTempSample (u : UnitId) (t : TempReading) (m : Wafer) : Wafer :=
  let m := peakMax u TSK_TPK_T.TMAX t.value m
  let x := m.unit u
  let valid : Bool := t.inTime && decide (-20000 ≤ t.value ∧ t.value ≤ 150000)
  let temps := if x.validOnly && !valid then x.temps else (t.value :: x.temps).take 8
  let mean := freeDiv temps.sum temps.length
  let good := if valid then x.goodTemps + 1 else 0
  let m := (m.modUnit u fun x => { x with temps := temps }).setI u.base TSK_TEMP.TEMP mean
  if x.tempFailed then
    if good < 64 then m.modUnit u fun x => { x with goodTemps := good }
    else tempTests u mean (m.modUnit u fun x => { x with tempFailed := false, goodTemps := 0, validOnly := true })
  else if mean < -20000 ∨ 150000 < mean then sensorFailed u m
  else tempTests u mean m

/-- TEMP_SENSOR_FAIL (R186): the mean is out of range, or no sample has completed
for 10 µs. -/
def doTempSensorFail (u : UnitId) (noSample : Bool) (m : Wafer) : Wafer :=
  let mean := m.getI u.base TSK_TEMP.TEMP
  if noSample ∨ mean < -20000 ∨ 150000 < mean then
    sensorFailed u (m.modUnit u fun x => { x with goodTemps := 0 })
  else m

/-! ### Bump columns (R187 to R190) -/

/-- COLUMN_ESTIMATE (R187): the 64 ms mark, with the phase's 1 ms mean current in
mA, whether its 1 µs means were steady, and whether the rail was quiet.  The rail was in REG
and the phase in service throughout the 1 ms before it: off-times, which every pulse brings,
do not count against the phase. (DEDUCED: log 66.) -/
def doColumnEstimate (u : UnitId) (s : Fin 4) (i : Int) (steady quiet : Bool) (m : Wafer) : Wafer :=
  let q := slotRail s
  let since := max ((m.unit u).rail q).regFrom ((m.unit u).phase s).servedFrom
  if slotAbsent u s ∨ m.wtime % 51200000 ≠ 0 then m
  else if railState u q m = rREG ∧ inService u s m ∧ since + 800000 ≤ m.wtime ∧ 50 * (m.get u.base TSK_HCTL.CRK_IMIN : Int) ≤ i
      ∧ steady ∧ quiet then
    m.modPhase u s fun x => { x with estimating := true }
  else m.incSat u.base (TSK_CRK.SKIP_CNT s)

/-- Comparison of an estimate with the baseline (R188, R190). -/
def compareEstimate (u : UnitId) (s est : Nat) (m : Wafer) : Wafer :=
  let base := m.get u.base (TSK_CRKBASE.BASE s)
  if base = 0 then m.modPhase u s fun x => { x with warnPrev := false, suspPrev := false }
  else
    let x := (m.unit u).phase s
    let warn : Bool := decide (130 * base ≤ 100 * est)
    let susp : Bool := decide (180 * base ≤ 100 * est)
    let m := m.modPhase u s fun x => { x with warnPrev := warn, suspPrev := susp }
    let m :=
      if x.warnPrev && warn && !m.on u.base (TSK_CRK.CRK_WARN s) then
        unitEvent u 12 s 0 (m.set u.base (TSK_CRK.CRK_WARN s) 1)
      else m
    if x.suspPrev && susp then
      let m := if m.on u.base (TSK_CRK.CRK_SUSP s) then m
        else unitEvent u 13 s 0 (m.set u.base (TSK_CRK.CRK_SUSP s) 1)
      if m.on u.base TSK_HCTL.CRK_RET && !m.on u.base (TSK_PHSTAT.RETIRED s) then
        retirePhase u s (faultOff u s (m.set u.base (TSK_PHFLT.CRACK s) 1))
      else m
    else m

/-- COLUMN_ESTIMATE_DONE (R187 to R189): the mean drop in µV and current in mA over
256 µs; an interrupted estimate counts as skipped. -/
def doColumnEstimateDone (u : UnitId) (s : Fin 4) (drop i : Int) (interrupted : Bool) (m : Wafer) : Wafer :=
  if ((m.unit u).phase s).estimating then
    let m := m.modPhase u s fun x => { x with estimating := false }
    if interrupted ∨ i ≤ 0 then m.incSat u.base (TSK_CRK.SKIP_CNT s)
    else
      let e := roundDiv (1000 * drop) i
      let est := if 0 ≤ e ∧ e < 65536 then e.toNat else Config.estimateBeyond e % 65536
      let m := (m.set u.base (TSK_CRK.EST s) est).set u.base (TSK_CRK.VALID s) 1
      let m := if m.on u.base (TSK_CRKBASE.CAPT_PEND s) then
          (m.set u.base (TSK_CRKBASE.BASE s) est).set u.base (TSK_CRKBASE.CAPT_PEND s) 0
        else m
      compareEstimate u s est m
  else m

/-- BASELINE_CAPTURE (R189). -/
def doBaselineCapture (u : UnitId) (s : Fin 4) (m : Wafer) : Wafer :=
  if slotAbsent u s then m else m.set u.base (TSK_CRKBASE.CAPT_PEND s) 1

/-! ### Retirement and return to service (R191 to R200) -/

/-- RETIRE_WRITE (R192). -/
def doRetireWrite (u : UnitId) (s : Fin 4) (m : Wafer) : Wafer := retirePhase u s m

/-- A write of RETIRE = 0 (R192, R199): a retired phase returns to service in an
open remap window after a test passed in that window; otherwise it is rejected. -/
def unretire (u : UnitId) (s : Nat) (m : Wafer) : Wafer :=
  if slotAbsent u s ∨ ¬ m.on u.base (TSK_PHHLTH.RETIRE s) then m
  else if m.on 0 HTH_MAPCTL.OPEN ∧ m.on u.base (TSK_PHHLTH.TEST_PASS s)
      ∧ ((m.unit u).phase s).testWindow = m.windowNo then
    let m := (m.set u.base (TSK_PHHLTH.RETIRE s) 0).set u.base (TSK_PHSTAT.RETIRED s) 0
    let m := m.set u.base (causeField s) 0
    let m := m.modPhase u s fun x => { x with suspendedAt := [] }
    let m :=
      if u.isVerge then (if s < 2 then m.set u.base TSK_HSTAT.LINK_LOSS 0 else m.set u.base TSK_HSTAT.MIF_LOSS 0)
      else if s = 2 then m.set u.base TSK_HSTAT.ARR_LOSS 0 else m
    backInService u s (m.liveRetire u s false)
  else m.set u.base (TSK_PHHLTH.UNRET_REJ s) 1

/-- UNRETIRE_WRITE (R199). -/
def doUnretireWrite (u : UnitId) (s : Fin 4) (m : Wafer) : Wafer := unretire u s m

/-- A write of TEST = 1 (R199): ignored unless the rail is in REG and no test runs
in the unit.  The first of the 64 test pulses is due at once. -/
def startTest (u : UnitId) (s : Nat) (m : Wafer) : Wafer :=
  let running := (List.range 4).any fun t => m.on u.base (TSK_PHHLTH.TEST_BUSY t)
  if slotAbsent u s ∨ railState u (slotRail s) m ≠ rREG ∨ running then m
  else
    let m := m.modPhase u s fun x => { x with testFault := false, testLeft := 64, testDue := true }
    testEval u s (m.set u.base (TSK_PHHLTH.TEST_BUSY s) 1)

/-- 1 µs after the last one, the next test pulse of a running test is due (R199).  A unit
counts these 1 µs by its frame boundaries. (DESIGN CHOICE: log 67.) -/
def testTick (u : UnitId) (m : Wafer) : Wafer :=
  (List.range 4).foldl (fun m s =>
    if m.on u.base (TSK_PHHLTH.TEST_BUSY s) && ((m.unit u).phase s).testLeft != 0 then
      testEval u s (m.modPhase u s fun x => { x with testDue := true })
    else m) m

/-- PHASE_TEST_START (R199). -/
def doPhaseTestStart (u : UnitId) (s : Fin 4) (m : Wafer) : Wafer := startTest u s m

/-- PHASE_TEST_DONE (R199): it passes when no fault was detected and the last
estimate, if any, lies below 1.80 × BASE. -/
def doPhaseTestDone (u : UnitId) (s : Fin 4) (m : Wafer) : Wafer :=
  if m.on u.base (TSK_PHHLTH.TEST_BUSY s) then
    let base := m.get u.base (TSK_CRKBASE.BASE s)
    let high : Bool := m.on u.base (TSK_CRK.VALID s) && base != 0
      && decide (180 * base ≤ 100 * m.get u.base (TSK_CRK.EST s))
    let pass := !((m.unit u).phase s).testFault && !high
    let m := m.set u.base (TSK_PHHLTH.TEST_BUSY s) 0
    let m := (m.setB u.base (TSK_PHHLTH.TEST_PASS s) pass).setB u.base (TSK_PHHLTH.TEST_FAIL s) (!pass)
    m.modPhase u s fun x =>
      { x with testWindow := if m.on 0 HTH_MAPCTL.OPEN then m.windowNo else 0, testLeft := 0, testDue := false }
  else m

/-- ADOPTION_END (R200): 1 µs in the band with a restored LOGIC phase. -/
def doAdoptionEnd (g : Fin 4096) (v : Int) (m : Wafer) : Wafer :=
  let u := UnitId.tussock g
  let m := senseRail u 0 v m
  let restored := !m.on u.base (TSK_PHSTAT.RETIRED 0) || !m.on u.base (TSK_PHSTAT.RETIRED 1)
  if m.on u.base TSK_HSTAT.ADOPTED ∧ restored ∧ vSet u 0 m - halfBand u 0 m ≤ v ∧ v ≤ vSet u 0 m + halfBand u 0 m then
    (List.range 4).foldl (fun m n => m.modPort u n fun p => { p with reqOut := 0 }) (m.set u.base TSK_HSTAT.ADOPTED 0)
  else m

end Sys2Proof.Machine
end

