-- ==== Sys2Proof/Machine/UnitWrite.lean ====
section
/-! DEFINITION.  Register writes that reach a Tussock or Verge, with the clamps and
effects of each field, and the reset of a unit (R320 to R324). -/

namespace Sys2Proof.Machine

/-- A write as Table 0.6 lays down: RW, RWS and RWP bits take the data, W1C bits
written 1 clear, everything else keeps its value (R17, R19). -/
def plainWrite (a : Nat) (data : Word) (m : Wafer) : Wafer :=
  match lookupReg m.fuse (place a) with
  | none => m
  | some (d, _, i, _) =>
    let mask := if i < d.roFrom then BitVec.ofNat 32 (d.rw ||| d.rws ||| d.rwp) else 0
    m.putWord a (((m.word a &&& ~~~mask) ||| (data &&& mask)) &&& ~~~(data &&& BitVec.ofNat 32 d.w1c))

/-- A field taken as the nearer end of its range; a clamp sets a flag. (DEDUCED: log 19.) -/
def clampField (b : Nat) (f : Fld) (lo hi : Nat) (flag : Option Fld) (m : Wafer) : Wafer :=
  let v := m.get b f
  if v < lo ∨ hi < v then
    let m := m.set b f (clampN lo hi v)
    match flag with
    | some g => m.set b g 1
    | none => m
  else m

/-- Peak limit range of a phase in steps of 50 mA (Table 5.1). -/
def ilimRange (verge : Bool) (s : Nat) : Nat × Nat :=
  if s < 2 then (if verge then (20, 150) else (40, 200)) else (20, 120)

/-- A write of TSK_CTL (Table 3.9): the reference, Balance mode and hold, then
retention, then the rail enables. -/
def ctlWrite (u : UnitId) (data : Word) (m : Wafer) : Wafer :=
  let b := u.base
  let m := m.setB b TSK_CTL.BAL_EN (data.getLsbD 4)
  let m := m.setB b TSK_CTL.FLL_HOLD (data.getLsbD 5)
  let m := if data.getLsbD 5 then [0, 1].foldl (fun m q => m.modRail u q fun r => { r with fllHold := true }) m else m
  let m := if m.on b TSK_CTL.OWN_OSC = data.getLsbD 6 then m else doOwnOscWrite u (data.getLsbD 6) m
  let m := if m.on b TSK_CTL.RET = data.getLsbD 2 then m else writeRet u (data.getLsbD 2) m
  [0, 1].foldl (fun m q =>
    if railEnabled u q m = data.getLsbD q then m
    else if data.getLsbD q then railEnable u q m else railDisable u q m) m

/-- The ports of a unit that leaves reset: 0b00, but 0b10 when its LOGIC phases are
all retired (R66); a 0b01 that stands has lost its turn (R144). -/
def portsAtRelease (u : UnitId) (m : Wafer) : Wafer :=
  (List.range 4).foldl (fun m n =>
    let code := if m.on u.base TSK_HSTAT.ADOPTED && !m.on u.base (TSK_TIESTAT.TIED_OFF n) then 2 else 0
    m.modPort u n fun p => { p with reqOut := code, used01 := p.reqWire == 1 }) m

/-- Release from reset (R324): ports to 0b00, and each enabled rail enters DELAY. -/
def releaseUnit (u : UnitId) (m : Wafer) : Wafer :=
  if (m.unit u).rst = .restore then
    let m := (m.modUnit u fun x => { x with rst := .run }).set u.base TSK_RST.RESTORE 0
    let m := if u.isVerge then m else portsAtRelease u m
    [0, 1].foldl (fun m q => if railEnabled u q m then enterState u q rDELAY m else m) m
  else m

/-- A write of TSK_PHHLTH[s] (Table 5.6): RETIRE under R192 and R199, TEST under R199. -/
def phhlthWrite (u : UnitId) (s : Nat) (data : Word) (m : Wafer) : Wafer :=
  let m := m.w1c (u.base + (TSK_PHHLTH.UNRET_REJ s).off) 0x4000000 data
  let m :=
    if data.getLsbD 31 then
      retirePhase u s m
    else unretire u s m
  if data.getLsbD 30 then startTest u s m else m

/-- A write of TSK_TCFG (R366 to R368); the window length is in force from the next
boundary. -/
def tcfgWrite (u : UnitId) (data : Word) (m : Wafer) : Wafer :=
  let m := clampField u.base TSK_TCFG.WIN_N 0 20 (some TSK_TSTAT.WCLAMP) (plainWrite (u.base + 0x600) data m)
  if data.getLsbD 31 then m.modUnit u fun x => { x with telBad := true } else m

/-- A register write that reaches a unit at a byte offset of its block. (DEDUCED: log 19.)
CFG_EPOCH does not advance at a write that its register ignores: TSK_SHED[1], TSK_PHCTL[3]
and TSK_ILIM[3] of a Tussock, TSK_VRET of a Verge. (DEDUCED: log 65.)  A shed current of 0
ends shed, and a sink limit of 0 sink mode, in force. (DEDUCED: log 65.) -/
def unitWrite (u : UnitId) (off : Nat) (data : Word) (m : Wafer) : Wafer :=
  let b := u.base
  let p (m : Wafer) : Wafer := plainWrite (b + off) data m
  let q := off / 0x40 % 4
  let s := off / 0x20 % 8
  if off = 4 then ctlWrite u data m
  else if off = 0x1C then (if data.getLsbD 30 then releaseUnit u m else m)
  else if off = 0x16C then setpointWrite u .vret data m
  else if 0x100 ≤ off ∧ off < 0x180 then
    let q := q % 2
    match off % 0x40 with
    | 0 => setpointWrite u (.vset (Fin.ofNat 2 q)) data m
    | 4 => setpointWrite u (.vtrim (Fin.ofNat 2 q)) data m
    | 0xC => ovClampEval u q (cfgWritten u (clampField b (TSK_HYST.H q) 4 60 (some (TSK_RSTAT.PARAM_CLAMP q)) (p m)))
    | 0x10 => clampField b (TSK_SLEW.SLEW q) 0 200 (some (TSK_RSTAT.PARAM_CLAMP q)) (p m)
    | 0x18 =>
      clampField b (TSK_RAMP.OFF_RAMP q) 0 10000 (some (TSK_RSTAT.PARAM_CLAMP q))
        (clampField b (TSK_RAMP.ON_RAMP q) 0 10000 (some (TSK_RSTAT.PARAM_CLAMP q)) (p m))
    | 0x1C =>
      if !u.isVerge && q = 1 then m
      else
        let m := cfgWritten u (p m)
        if m.on b (TSK_SHED.SHED_I q) then m else offerRail u q (restoreShed u q m)
    | 0x20 =>
      let m := ovClampEval u q (cfgWritten u
        (clampField b (TSK_OVS.SINK_LIM q) 0 8 (some (TSK_RSTAT.PARAM_CLAMP q))
          (clampField b (TSK_OVS.OV_SOFT q) 10 100 (some (TSK_RSTAT.PARAM_CLAMP q)) (p m))))
      if m.on b (TSK_OVS.SINK_LIM q) then m else stopSink u q m
    | _ => p m
  else if 0x200 ≤ off ∧ off < 0x280 then
    let s := s % 4
    if slotAbsent u s then m
    else
      match off % 0x20 with
      | 0 => phctlWrite u s data m
      | 4 =>
        let m := p m
        let v := m.getI b (TSK_PHTRIM.BAL_TRIM s)
        if v < -25 ∨ 25 < v then
          (m.setI b (TSK_PHTRIM.BAL_TRIM s) (clampI (-25) 25 v)).set b (TSK_PHTRIM.TRIM_CLAMP s) 1
        else m
      | _ => p m
  else if 0x400 ≤ off ∧ off < 0x480 then
    let s := s % 4
    if slotAbsent u s then m
    else
      match off % 0x20 with
      | 0 =>
        let r := ilimRange u.isVerge s
        cfgWritten u (clampField b (TSK_ILIM.IPK s) r.1 r.2 (some (TSK_ILIM.ILIM_CLAMP s)) (p m))
      | 4 => phhlthWrite u s data m
      | 0x10 => if data.getLsbD 31 then doBaselineCapture u (Fin.ofNat 4 s) (p m) else p m
      | _ => p m
  else if off = 0x480 ∨ off = 0x4A0 then
    let q := if off = 0x480 then 0 else 1
    ovClampEval u q (cfgWritten u
      (clampField b (TSK_RLIM.UV q) 20 120 (some (TSK_RLIM.RLIM_CLAMP q))
        (clampField b (TSK_RLIM.OV_HARD q) 20 120 (some (TSK_RLIM.RLIM_CLAMP q)) (p m))))
  else if off = 0x4C0 then
    let m := clampField b TSK_OT.OT_WARN 70 115 (some TSK_HSTAT.OT_CLAMP)
      (clampField b TSK_OT.OT_SD 105 125 (some TSK_HSTAT.OT_CLAMP) (p m))
    cfgWritten u (clampField b TSK_OT.OT_WARN 0 (m.get b TSK_OT.OT_SD - 5) (some TSK_HSTAT.OT_CLAMP) m)
  else if off = 0x4C8 then clampField b TSK_HCTL.CRK_IMIN 20 127 (some TSK_HSTAT.HCTL_CLAMP) (p m)
  else if off = 0x600 then tcfgWrite u data m
  else if u.isVerge then p m
  else if off = 0x300 then
    clampField b TSK_GORSE.TG 4 48 (some TSK_GSTAT.GCLAMP)
      (clampField b TSK_GORSE.SG 4 32 (some TSK_GSTAT.GCLAMP)
        (clampField b TSK_GORSE.DG_ARM 20 120 (some TSK_GSTAT.GCLAMP)
          (clampField b TSK_GORSE.DG 20 120 (some TSK_GSTAT.GCLAMP) (p m))))
  else if off = 0x320 then
    let m := clampField b TSK_STR.DSTR 20 120 (some TSK_GSTAT.GCLAMP) (p m)
    if m.on b TSK_STR.EN then m else strFall u m
  else if off = 0x328 then
    liftEval u 1 (liftEval u 0 (clampField b TSK_ICFG.TPRE 4 80 (some TSK_ISTAT.ICLAMP)
      (clampField b TSK_ICFG.PL_MAX 0 64 (some TSK_ISTAT.ICLAMP) (p m))))
  else if off = 0x340 then clampField b TSK_OVL.OVL_T 0 64 none (p m)
  else if off = 0x500 then clampField b TSK_CANARY.THRESH 1 255 (some TSK_CANARY.CCLAMP) (p m)
  else p m

/-! ### Unit reset (R54, R66, R320 to R324) -/

/-- A word of a block at its reset value but for its RWS and RWP bits (Table 0.6);
RWP bits too where `all` is set, which is what a wafer reset does. -/
def resetRegister (fuse : Nat) (all : Bool) (a : Nat) (w : Word) : Word :=
  match lookupReg fuse (place a) with
  | none => w
  | some (d, _, _, _) =>
    let keep : Word := if all then 0 else BitVec.ofNat 32 (d.rws ||| d.rwp)
    (w &&& keep) ||| (resetWord fuse a &&& ~~~keep)

/-- The registers of an address range at their reset values, RWS and RWP kept. -/
def resetBlock (lo len : Nat) (m : Wafer) : Wafer :=
  let back (a : Nat) (w : Word) : Word := if lo ≤ a ∧ a < lo + len then resetRegister m.fuse false a w else w
  { m with regs := Store.map (resetWord m.fuse) back m.regs }

/-- What a unit reset leaves of a tie port: the levels on its incoming wires (R144). -/
def keptPort (p : PortSt) : PortSt := { reqWire := p.reqWire, ackWire := p.ackWire }

/-- The CLEAR part of a unit reset (R321, R322); `por` while TVDD is in its
power-on reset (R54). -/
def clearUnit (u : UnitId) (por : Bool) (m : Wafer) : Wafer :=
  let old := m.unit u
  let m := resetBlock u.base 0x1000 m
  let m := m.set u.base TSK_RST.RESTORE 0
  let m := (List.range 4).foldl (fun m s =>
    m.setB u.base (TSK_PHSTAT.RETIRED s) (m.on u.base (TSK_PHHLTH.RETIRE s))) m
  let m := lossFlags u m
  let m := m.modUnit u fun _ =>
    { rst := if por then .powerOn else .clear, arrRet := old.arrRet, pgSpine := old.pgSpine,
      sentArrRet := old.sentArrRet, sentCore := old.sentCore,
      port0 := keptPort old.port0, port1 := keptPort old.port1, port2 := keptPort old.port2, port3 := keptPort old.port3,
      iportVld := old.iportVld, iportTkn := old.iportTkn,
      iportD := old.iportD, lnk := old.lnk, rung := old.rung }
  if u.isVerge then m
  else (List.range 4).foldl (fun m n =>
    let code := if por || m.on u.base (TSK_TIESTAT.TIED_OFF n) then 0 else 2
    m.modPort u n fun p => { p with reqOut := code }) m

/-- The unit goes from CLEAR to RESTORE (R324); TSK_TIESTAT shows the wires again. -/
def restoreUnit (u : UnitId) (m : Wafer) : Wafer :=
  let m := (m.modUnit u fun x => { x with rst := .restore }).set u.base TSK_RST.RESTORE 1
  if u.isVerge then m
  else (List.range 4).foldl (fun m n =>
    let p := (m.unit u).port n
    (m.set u.base (TSK_TIESTAT.REQ_IN n) p.reqWire).setB u.base (TSK_TIESTAT.ACK_IN n) p.ackWire) m

/-- RELEASE_WRITE (R324). -/
def doReleaseWrite (u : UnitId) (m : Wafer) : Wafer := releaseUnit u m

/-- TELEMETRY_WINDOW_WRITE (R367). -/
def doTelemetryWindowWrite (u : UnitId) (n : Fin 32) (m : Wafer) : Wafer :=
  tcfgWrite u (BitVec.ofNat 32 n) m

/-- MARK_STALE (R368). -/
def doMarkStale (u : UnitId) (m : Wafer) : Wafer := m.modUnit u fun x => { x with telBad := true }

end Sys2Proof.Machine
end

