-- ==== Sys2Proof/Machine/Counters.lean ====
section
/-! DEFINITION.  Chapter 11, event counters: counting under attributes and filters
(R379 to R381), snapshot, clear and overflow (R382 to R384); and the reports of a
Sward to the Heath (R388, R389), which counting and every other rule of a Sward may
raise. -/

namespace Sys2Proof.Machine

/-- Attributes of an event (R380, Table 11.5): master kind, master ID, privilege
(0 USER, 1 SUPER, 2 NONE) and address. -/
structure EventAttr where
  mkind : Nat
  mid : Nat
  priv : Nat
  addr : Nat
  deriving DecidableEq, Repr

/-- Class of counter k: bit number in CLS_M (Tables 11.4 and 11.7). -/
def counterClass (k : Nat) : Nat :=
  if k < 6 then 0 else if k < 10 then 1 else if k < 19 then 2 else if k < 36 then 3
  else if k < 52 then 4 else if k < 60 then 5 else 6

/-- Hardware event of a Sward (Table 11.5). -/
def hwEvent (p : Nat) : EventAttr := ⟨0, 0xFFF, 2, swd p⟩

/-- Hardware event of a unit. -/
def unitAttr (u : UnitId) : EventAttr := ⟨0, 0xFFF, 2, u.base⟩

/-- Events 6 to 9: a core cluster's, by the patch that reports it. -/
def patchAttr (u : UnitId) : EventAttr := ⟨1, u.ref / 2 ^ 16 % 4096, 2, u.base⟩

/-- Whether filter set f passes an event of counter k (R381). -/
def filterPasses (p f k : Nat) (e : EventAttr) (m : Wafer) : Bool :=
  let b := swd p
  !m.on b (SWD_CFCTL.EN f) ||
    ((m.get b (SWD_CFCTL.PRIV_M f)).testBit e.priv && (m.get b (SWD_CFCTL.MK_M f)).testBit e.mkind
      && (m.get b (SWD_CFCTL.CLS_M f)).testBit (counterClass k)
      && decide (m.get b (SWD_CFALO.ALO f) ≤ e.addr ∧ e.addr ≤ m.get b (SWD_CFAHI.AHI f))
      && ((e.mkind != 1 && e.mkind != 4) ||
          decide (m.get b (SWD_CFMID.MID_LO f) ≤ e.mid ∧ e.mid ≤ m.get b (SWD_CFMID.MID_HI f)))
      && decide (m.get b (SWD_CFMID.MID_LO f) ≤ m.get b (SWD_CFMID.MID_HI f)))

/-- Whether counter k takes an event (R379, R381). -/
def counterTakes (p k : Nat) (e : EventAttr) (m : Wafer) : Bool :=
  let f := m.get (swd p) (SWD_CCFG.FSEL k)
  decide (k < 70) && !(m.sward p).rst && (f == 0 || decide (4 < f) || filterPasses p (f - 1) k e m)

def counterValue (p k : Nat) (m : Wafer) : Nat := m.get64 (swd p) (SWD_CNT_LO.CNT_LO k) (SWD_CNT_HI.CNT_HI k)

def counterPreload (p k : Nat) (m : Wafer) : Nat := m.get64 (swd p) (SWD_CPRE_LO.PRE k) (SWD_CPRE_HI.PRE k)

def setCounter (p k v : Nat) (m : Wafer) : Wafer := m.set64 (swd p) (SWD_CNT_LO.CNT_LO k) (SWD_CNT_HI.CNT_HI k) v

/-- A value past 2^48 - 1 goes on from PRE plus the excess, again where that also
passes (R383). -/
def wrapCounter (pre v : Nat) : Nat :=
  if v < 2 ^ 48 then v
  else
    let span := 2 ^ 48 - pre
    pre + (v - 2 ^ 48) % span

/-- An event goes to the Sward's report queue of 32 (R388, R389): one that finds it
full is a subsequent event of its source. -/
def queueReport (p : Nat) (e : FaultEvent) (m : Wafer) : Wafer :=
  let x := m.sward p
  if x.reports.length < 32 then
    let r : Report := ⟨x.reportSeq, e, Store.get zeroNat x.uncounted e.code, true⟩
    let m := m.modSward p fun x =>
      { x with reports := x.reports ++ [r], reportSeq := (x.reportSeq + 1) % 2 ^ 16,
               uncounted := Store.set zeroNat x.uncounted e.code 0 }
    m.send .report p [r.seq, e.code, e.unit, e.dataA, e.dataB, e.time, r.subsequent]
  else
    m.modSward p fun x =>
      { x with uncounted := Store.set zeroNat x.uncounted e.code (Store.get zeroNat x.uncounted e.code + 1) }

/-- A source's event goes to the Sward's report queue (R388, R389). -/
def reportEvent (p code unit dataA dataB : Nat) (m : Wafer) : Wafer :=
  queueReport p { code := code, unit := unit, dataA := dataA % 2 ^ 32, dataB := dataB % 2 ^ 32, time := m.wtime } m

/-- Reference of a Sward (Table 1.3). -/
def swardRef (p : Nat) : Nat := 0x80000000 + p * 2 ^ 16

/-- A Sward raises one of its own sources. -/
def swardFault (p code dataA dataB : Nat) (m : Wafer) : Wafer := reportEvent p code (swardRef p) dataA dataB m

/-- All 96 counters are copied at once (R382, R384). -/
def snapCounters (p : Nat) (m : Wafer) : Wafer :=
  let m := (List.range 96).foldl (fun m k =>
    m.set64 (swd p) (SWD_CSNAP_LO.SNAP k) (SWD_CSNAP_HI.SNAP k) (counterValue p k m)) m
  m.inc (swd p) SWD_CSTAT.SNAPS

/-- What an overflow of counter k does beside its count in event 69 (R383), and the sample
record of R384; the snapshot follows after the skid. -/
def overflowMark (p k : Nat) (m : Wafer) : Wafer :=
  let b := swd p
  let m := m.putWord (b + (SWD_COVF.OVF (k / 32)).off) (m.word (b + (SWD_COVF.OVF (k / 32)).off) ||| bitMask (k % 32) 1)
  let m := if m.on b (SWD_CCFG.OVF_IE k) then swardFault p 36 k 0 m else m
  if m.on b (SWD_CCFG.SNAP_OVF k) then
    let m := if m.on b SWD_CSAMP.VALID then m.set b SWD_CSAMP.SAMP_OVR 1 else m
    let m := (m.set b SWD_CSAMP.VALID 1).set b SWD_CSAMP.CNT k
    let m := m.set b SWD_CSAMP.FNUM (m.sward p).frame
    let m := (m.setB b SWD_CSAMP.PRED (m.sward p).lastExec.1).set b SWD_CSAMP.SLOT (m.sward p).lastExec.2
    (m.set b SWD_CSAMPT.WTIME m.wtime).modSward p fun x => { x with ovfSnap := true }
  else m

/-- The value of counter 69 with one overflow more, and whether that carries it past its end
(R383). -/
def bumpOverflows (p : Nat) (m : Wafer) : Bool × Wafer :=
  let v := counterValue p 69 m + 1
  (decide (2 ^ 48 ≤ v), setCounter p 69 (wrapCounter (counterPreload p 69 m) v) m)

/-- An overflow counts once in event 69, whose own overflow counts there once too (R383).
(DESIGN CHOICE: log 74.) -/
def countOverflow (p : Nat) (m : Wafer) : Wafer :=
  if counterTakes p 69 (hwEvent p) m then
    let r := bumpOverflows p m
    if r.1 then overflowMark p 69 (bumpOverflows p r.2).2 else r.2
  else m

/-- The actions of R383 at an overflow of counter k. -/
def overflowActions (p k : Nat) (m : Wafer) : Wafer := countOverflow p (overflowMark p k m)

/-- Counter k adds n events that carry the attributes e (R379 to R383). -/
def count (p k n : Nat) (e : EventAttr) (m : Wafer) : Wafer :=
  if n = 0 ∨ !counterTakes p k e m then m
  else
    let v := counterValue p k m + n
    let m := setCounter p k (wrapCounter (counterPreload p k m) v) m
    if v < 2 ^ 48 then m else overflowActions p k m

/-- One hardware event of a Sward. -/
def tally (p k : Nat) (m : Wafer) : Wafer := count p k 1 (hwEvent p) m

/-! ### Commands -/

/-- A write of SWD_CCMD (R382): the snapshot, then the clear, and after both the events of
the same clock, which the command itself counts among (Table 11.4). -/
def counterCommand (p : Nat) (data : Word) (m : Wafer) : Wafer :=
  let load (k : Nat) (m : Wafer) : Wafer := setCounter p k (counterPreload p k m) m
  let m := if data.getLsbD 31 then snapCounters p m else m
  let m :=
    if data.getLsbD 30 then
      if data.getLsbD 29 then (List.range 70).foldl (fun m k => load k m) m
      else if getBits data 0 7 < 70 then load (getBits data 0 7) m
      else m
    else m
  let m := if data.getLsbD 31 then tally p 67 m else m
  if data.getLsbD 30 then tally p 68 m else m

/-- SNAP (R382). -/
def doSnap (p : Fin 64) (m : Wafer) : Wafer := counterCommand p 0x80000000 m

/-- CLR (R382): one counter, or with ALL every counter. -/
def doClr (p : Fin 64) (all : Bool) (k : Fin 128) (m : Wafer) : Wafer :=
  counterCommand p (BitVec.ofNat 32 (0x40000000 + bit all * 0x20000000 + k)) m

/-- COUNTER_OVERFLOW (R383): counter k takes n events that carry it past 2^48 - 1. -/
def doCounterOverflow (p : Fin 64) (k : Fin 96) (n : Nat) (m : Wafer) : Wafer :=
  if 2 ^ 48 ≤ counterValue p k m + n then count p k n (hwEvent p) m else m

/-- OVERFLOW_SNAPSHOT (R384): the skid has ended; the execution dispatched last is a
predictor or a slot. -/
def doOverflowSnapshot (p : Fin 64) (pred : Bool) (slot : Fin 256) (m : Wafer) : Wafer :=
  let b := swd p
  if (m.sward p).ovfSnap then
    let m := m.modSward p fun x => { x with ovfSnap := false }
    tally p 67 (snapCounters p ((m.setB b SWD_CSAMP.PRED pred).set b SWD_CSAMP.SLOT slot))
  else m

/-- A write of SWD_CCFG[k] or of a filter set (R381). -/
def counterConfig (p off : Nat) (data : Word) (m : Wafer) : Wafer :=
  let b := swd p
  let f := (off - 0xAB40) / 0x10
  let noAddr (m : Wafer) : Bool := decide (m.get b (SWD_CFAHI.AHI f) < m.get b (SWD_CFALO.ALO f))
  let noMid (m : Wafer) : Bool := decide (m.get b (SWD_CFMID.MID_HI f) < m.get b (SWD_CFMID.MID_LO f))
  let n := plainWrite (b + off) data m
  let bad : Bool :=
    if off < 0xAB00 then decide (4 < n.get b (SWD_CCFG.FSEL ((off - 0xA600) / 4)))
    else (noAddr n && !noAddr m) || (noMid n && !noMid m)
  if bad then n.set b SWD_CSTAT.CFG_CLAMP 1 else n

end Sys2Proof.Machine
end

