-- ==== Sys2Proof/Machine/Engine.lean ====
section
/-! DEFINITION.  Chapter 06, the control engine: the signal bus, pending
configuration, the slot law, predictors, lanes and misses, the rung request and the
known-answer test. -/

namespace Sys2Proof.Machine

/-! ### Arithmetic (R218) -/

/-- `(x + 2^29) >> 30`, arithmetic: to nearest, ties toward +∞. -/
def round30 (x : Int) : Int := (x + 2 ^ 29) / 2 ^ 30

/-- A value limited to int32. -/
def sat32 (x : Int) : Int := clampI (-(2 ^ 31)) (2 ^ 31 - 1) x

/-! ### The signal bus (R211, R212) -/

/-- Rung limit in force, signal 488 (R285). -/
def rungLimit (p : Nat) (m : Wafer) : Nat :=
  let b := swd p
  min (variantTopRung m.fuse) (min (m.get b SWD_BRAKE.BRK_LIM) (m.get b (SWD_CTX.RUNG_LIM (m.get b SWD_CTXSTAT.CUR))))

/-- The value of a signal that a slot reads (R212): the snapshot, which holds the slot outputs
committed by the end of the previous frame too, live predictor outputs, and parameters in
force. -/
def signalValue (p i : Nat) (m : Wafer) : Int :=
  let b := swd p
  if 464 ≤ i ∧ i < 480 then m.getI b (SWD_PROUT.Y (i - 464))
  else if i < 768 then (m.sward p).signal i
  else m.getI b ⟨0x8400 + 4 * (i - 768), 0, 32⟩

/-- The value a predictor reads: another predictor's output as it stood at the end
of the previous frame (R224). -/
def predictorInput (p i : Nat) (m : Wafer) : Int :=
  if 464 ≤ i ∧ i < 480 then (m.sward p).signal i else signalValue p i m

/-! ### Pending configuration (R214 to R216) -/

/-- Configuration registers of the engine, whose writes wait for a boundary
(R214, R215, R287). -/
def isPendingConfig (off : Nat) : Bool :=
  (decide (0x4000 ≤ off ∧ off < 0x8000) && decide (off % 0x40 < 0x28))
    || off == 0x8030 || decide (0x8040 ≤ off ∧ off < 0x8060) || decide (0x8100 ≤ off ∧ off < 0x8300)
    || decide (0x8400 ≤ off ∧ off < 0x8800)
    || (decide (0x9000 ≤ off ∧ off < 0xA000) && (off % 0x100 != 4))
    || (decide (0x140 ≤ off ∧ off < 0x180) && (off % 8 == 0))

/-- The bit of a configuration register that asks for an action: INT_CLR, CLR or RESTART
(Tables 6.6, 6.10, 8.17). -/
def actionBit (off : Nat) : Word :=
  if (0x4000 ≤ off ∧ off < 0x8000 ∧ off % 0x40 = 0) ∨ (0x9000 ≤ off ∧ off < 0xA000 ∧ off % 0x100 = 0)
      ∨ (0x140 ≤ off ∧ off < 0x180) then 0x40000000 else 0

/-- The pending copy of a register, where one waits (R215). -/
def SwardSt.pendingCopy (x : SwardSt) (off : Nat) : Option Word := (x.pendWrites.find? fun e => e.1 == off).map (·.2)

/-- Whether a write waits for a boundary (R215). -/
def SwardSt.writesWait (x : SwardSt) : Bool := !x.pendWrites.isEmpty || !x.pendSwath.isEmpty

/-- A write goes to the one pending copy of its register (R215); an action asked for since
the last boundary stays asked for. (DEDUCED: log 25.) -/
def pendConfig (p off : Nat) (data : Word) (m : Wafer) : Wafer :=
  if (lookupReg m.fuse (place (swd p + off))).isNone then m
  else
    let asked := ((m.sward p).pendingCopy off).getD 0 &&& actionBit off
    let m := m.modSward p fun x =>
      { x with pendWrites := (x.pendWrites.filter fun e => e.1 != off) ++ [(off, data ||| asked)] }
    m.setB (swd p) SWD_SCHED.HOLD_PEND (m.on (swd p) SWD_SCHED.HOLD)

/-- What a read of a configuration register returns: the pending copy (R215). -/
def pendingRead (p off : Nat) (m : Wafer) : Word :=
  match (m.sward p).pendWrites.find? fun e => e.1 == off with
  | none => m.word (swd p + off)
  | some (_, data) =>
    match lookupReg m.fuse (place (swd p + off)) with
    | none => 0
    | some (d, _, _, _) =>
      let mask := BitVec.ofNat 32 (d.rw ||| d.rws ||| d.rwp)
      (m.word (swd p + off) &&& ~~~mask) ||| (data &&& mask)

/-- The integrator as an int64 (Table 6.6). -/
def integrator (p n : Nat) (m : Wafer) : Int :=
  signed 64 (m.get64 (swd p) (SWD_SINTLO.INTEG_LO n) (SWD_SINTHI.INTEG_HI n))

def setIntegrator (p n : Nat) (v : Int) (m : Wafer) : Wafer :=
  m.set64 (swd p) (SWD_SINTLO.INTEG_LO n) (SWD_SINTHI.INTEG_HI n) (unsigned 64 v)

/-- Notch state back to zero (R216, R221). -/
def clearNotch (p n : Nat) (m : Wafer) : Wafer :=
  (m.set (swd p) ⟨0x4030 + 0x40 * n, 0, 32⟩ 0).set (swd p) ⟨0x4034 + 0x40 * n, 0, 32⟩ 0

def notchS1 (p n : Nat) (m : Wafer) : Int := m.getI (swd p) ⟨0x4030 + 0x40 * n, 0, 32⟩
def notchS2 (p n : Nat) (m : Wafer) : Int := m.getI (swd p) ⟨0x4034 + 0x40 * n, 0, 32⟩

/-- History and output of a predictor back to zero (R225). -/
def clearPredictor (p k : Nat) (m : Wafer) : Wafer :=
  (m.modSward p fun x => { x with hist := Store.set noHist x.hist k [] }).set (swd p) (SWD_PROUT.Y k) 0

/-- The saved pointer of a context goes to BASE (R287); for the context in force it
is the live pointer. -/
def restartContext (p c : Nat) (m : Wafer) : Wafer :=
  let b := swd p
  let m := m.set b (SWD_CTXPTR.PTR c) (m.get b (SWD_CTX.BASE c))
  if m.get b SWD_CTXSTAT.CUR = c then
    (m.modSward p fun x => { x with swathSince := x.frame }).set b SWD_SWSTAT.PTR (m.get b (SWD_CTX.BASE c))
  else m

/-- A weight reported to the Heath (R288). -/
def reportWeight (p w : Nat) (m : Wafer) : Wafer :=
  (m.send .weight p [w]).modHeath fun h => { h with weight := Store.set sixteen h.weight p w }

/-- The pending copy of a register applies at a boundary, with what its change of an enable
brings (R213, R215, R216, R220, R221, R225, R287, R288). (DEDUCED: log 61.) -/
def applyConfig (p : Nat) (e : Nat × Word) (m : Wafer) : Wafer :=
  let b := swd p
  let off := e.1
  let data := e.2
  let old := m.word (b + off)
  let m := plainWrite (b + off) data m
  let now := m.word (b + off)
  if 0x4000 ≤ off ∧ off < 0x8000 ∧ off % 0x40 = 0 then
    let n := (off - 0x4000) / 0x40
    let m := if data.getLsbD 30 then m.modSward p fun x => { x with intClr := n :: x.intClr.filter fun k => k != n } else m
    let m := if 10 < m.get b (SWD_SCTL.RATE_SHIFT n) then m.set b SWD_ESTAT.SCHED_CLAMP 1 else m
    let m :=
      if !old.getLsbD 31 && now.getLsbD 31 then
        ((clearNotch p n (setIntegrator p n 0 m)).set b (SWD_SSTAT.SAT_HI n) 0).set b (SWD_SSTAT.SAT_LO n) 0
          |>.set b (SWD_SSTAT.SLEWING n) 0
      else m
    if !old.getLsbD 13 && now.getLsbD 13 then clearNotch p n m else m
  else if 0x9000 ≤ off ∧ off < 0xA000 ∧ off % 0x100 = 0 then
    let k := (off - 0x9000) / 0x100
    let m := if 10 < m.get b (SWD_PRCTL.RATE_SHIFT k) then m.set b SWD_ESTAT.SCHED_CLAMP 1 else m
    if data.getLsbD 30 || (!old.getLsbD 31 && now.getLsbD 31) then clearPredictor p k m else m
  else if 0x140 ≤ off ∧ off < 0x180 then
    let c := (off - 0x140) / 8
    let m := if data.getLsbD 30 || (!old.getLsbD 31 && now.getLsbD 31) then restartContext p c m else m
    let w := m.get b (SWD_CTX.WEIGHT c)
    if m.get b SWD_CTXSTAT.CUR = c ∧ getBits old 16 8 ≠ w then reportWeight p w m else m
  else m

/-- Every waiting write applies at a boundary, unless HOLD is set (R215). -/
def applyPending (p : Nat) (m : Wafer) : Wafer :=
  if m.on (swd p) SWD_SCHED.HOLD then m
  else
    let l := (m.sward p).pendWrites
    let sw := (m.sward p).pendSwath
    let m := m.modSward p fun x => { x with pendWrites := [], pendSwath := [] }
    let m := m.set (swd p) SWD_SCHED.HOLD_PEND 0
    let m := l.foldl (fun m e => applyConfig p e m) m
    sw.foldl (fun m e => m.modSward p fun x => { x with swath := Store.set zeroWord x.swath e.1 e.2 }) m

/-- SWARD_CONFIG_WRITE (R215). -/
def doSwardConfigWrite (p : Fin 64) (off : Nat) (data : Word) (m : Wafer) : Wafer :=
  if isPendingConfig off then pendConfig p off data m else m

/-- Whether slot n is enabled or its EN is pending to change (R216). -/
def slotBusy (p n : Nat) (m : Wafer) : Bool :=
  m.on (swd p) (SWD_SCTL.EN n) || (pendingRead p (0x4000 + 0x40 * n) m).getLsbD 31 != m.on (swd p) (SWD_SCTL.EN n)

/-- A write to a state word of slot n (R216); words 10 and 11 are one 64-bit value,
which the caller hands over as words of their own (R13). -/
def slotStateWrite (p n word : Nat) (data : Word) (m : Wafer) : Wafer :=
  if slotBusy p n m then m.set (swd p) SWD_ESTAT.STATE_WERR 1
  else plainWrite (swd p + 0x4000 + 0x40 * n + 4 * word) data m

/-- SLOT_INT_CLEAR (R220): a write of SWD_SCTL[n] that keeps its fields and sets
INT_CLR. -/
def doSlotIntClear (p : Fin 64) (n : Fin 256) (m : Wafer) : Wafer :=
  let off := 0x4000 + 0x40 * n.val
  pendConfig p off (pendingRead p off m ||| 0x40000000) m

/-- PREDICTOR_CLEAR (R225). -/
def doPredictorClear (p : Fin 64) (k : Fin 16) (m : Wafer) : Wafer :=
  let off := 0x9000 + 0x100 * k.val
  pendConfig p off (pendingRead p off m ||| 0x40000000) m

/-- CONTEXT_RESTART (R287). -/
def doContextRestart (p : Fin 64) (c : Fin 8) (m : Wafer) : Wafer :=
  let off := 0x140 + 8 * c.val
  pendConfig p off (pendingRead p off m ||| 0x40000000) m

/-! ### Schedule, lanes and deadlines (R217, R224, R226, R227) -/

/-- The rule of R217 for a rate code and an offset. -/
def dueIn (frame rate phase : Nat) : Bool :=
  let k := min rate 10
  frame % 2 ^ k == phase % 2 ^ k

/-- Whether a slot is due in the present frame (R217).  (DEDUCED: log 61.) -/
def slotDue (p n : Nat) (m : Wafer) : Bool :=
  let b := swd p
  m.on b (SWD_SCTL.EN n) && m.on b SWD_SCHED.RUN
    && dueIn (m.sward p).frame (m.get b (SWD_SCTL.RATE_SHIFT n)) (m.get b (SWD_SCTL.PHASE n))

def predictorDue (p k : Nat) (m : Wafer) : Bool :=
  let b := swd p
  m.on b (SWD_PRCTL.EN k) && m.on b SWD_SCHED.RUN
    && dueIn (m.sward p).frame (m.get b (SWD_PRCTL.RATE_SHIFT k)) (m.get b (SWD_PRCTL.PHASE k))

/-- Lane-cycles of one execution of a slot (Table 6.9). -/
def slotCost (p n : Nat) (m : Wafer) : Nat :=
  13 + (if m.on (swd p) (SWD_SCTL.NOTCH_EN n) then 6 else 0) + (if m.on (swd p) (SWD_SCTL.FF_EN n) then 1 else 0)

def duePredictors (p : Nat) (m : Wafer) : List Nat := (List.range 16).filter fun k => predictorDue p k m
def dueSlots (p : Nat) (m : Wafer) : List Nat := (List.range 256).filter fun n => slotDue p n m

/-- Lane-cycles due in the present frame (R226). -/
def workDue (p : Nat) (m : Wafer) : Nat :=
  18 * (duePredictors p m).length + ((dueSlots p m).map fun n => slotCost p n m).sum

/-- The lane that is free first takes the next piece of work: the lanes' times stay
in ascending order. -/
def takeLane (lanes : List Nat) (cost : Nat) : List Nat × Nat :=
  match lanes with
  | [] => ([], 0)
  | t :: rest => ((rest.takeWhile fun x => x < t + cost) ++ [t + cost] ++ (rest.dropWhile fun x => x < t + cost), t + cost)

/-- Time in ns, from the boundary, at which the due slot n completes (R226). -/
def finishTime (p n : Nat) (m : Wafer) : Option Nat :=
  let start := 18 * (((duePredictors p m).length + 3) / 4)
  let step (acc : List Nat × Option Nat) (k : Nat) : List Nat × Option Nat :=
    let r := takeLane acc.1 (slotCost p k m)
    (r.1, if k = n then some r.2 else acc.2)
  ((dueSlots p m).foldl step ([start, start, start, start], none)).2

/-- Whether the due slot n completes by the commit point (R227). -/
def completes (p n : Nat) (m : Wafer) : Bool :=
  match finishTime p n m with
  | some t => decide (t ≤ 960)
  | none => false

/-! ### The slot law (R219 to R222) -/

/-- One execution of slot n on the values in force. -/
def slotLaw (p n : Nat) (m : Wafer) : SlotResult :=
  let b := swd p
  let sp := signalValue p (m.get b (SWD_SSEL.SP_SIG n)) m
  let fb := signalValue p (m.get b (SWD_SSEL.FB_SIG n)) m
  let mode := m.get b (SWD_SCTL.ERR_MODE n)
  let e := sat32 (if mode = 1 then fb - sp else if mode = 2 then sp else sp - fb)
  let i0 := if (m.sward p).intClr.contains n then 0 else integrator p n m
  let d := m.getI b (SWD_SKI.KI n) * e
  let d := if (m.on b (SWD_SSTAT.SAT_HI n) ∧ 0 < d) ∨ (m.on b (SWD_SSTAT.SAT_LO n) ∧ d < 0) then 0 else d
  let i1 := clampI (-(2 ^ 62)) (2 ^ 62 - 1) (i0 + d)
  let u := sat32 (round30 (m.getI b (SWD_SKP.KP n) * e + i1))
  let set := m.get b (SWD_SSEL.NOTCH_SET n)
  let b0 := m.getI b (SWD_NCOEF_B0.COEF set)
  let b1 := m.getI b (SWD_NCOEF_B1.COEF set)
  let b2 := m.getI b (SWD_NCOEF_B2.COEF set)
  let a1 := m.getI b (SWD_NCOEF_A1.COEF set)
  let a2 := m.getI b (SWD_NCOEF_A2.COEF set)
  let notchEn := m.on b (SWD_SCTL.NOTCH_EN n)
  let y := sat32 (round30 (b0 * u) + notchS1 p n m)
  let s1 := sat32 (round30 (b1 * u - a1 * y) + notchS2 p n m)
  let s2 := sat32 (round30 (b2 * u - a2 * y))
  let u := if notchEn then y else u
  let ff := signalValue p (464 + m.get b (SWD_SSEL.FF_PRED n)) m
  let u := if m.on b (SWD_SCTL.FF_EN n) then sat32 (u + round30 (m.getI b (SWD_SKFF.KFF n) * ff)) else u
  let lo := m.getI b (SWD_SOMIN.OUT_MIN n)
  let hi := m.getI b (SWD_SOMAX.OUT_MAX n)
  let c := if hi < lo then lo else clampI lo hi u
  let slew : Int := m.get b (SWD_SSLEW.SLEW n)
  let out := m.getI b (SWD_SOUT.OUT n)
  let c' := if slew = 0 then c else out + clampI (-slew) slew (c - out)
  { out := c', integ := i1, notch := if notchEn then some (s1, s2) else none,
    satHi := decide (hi < u), satLo := decide (u < lo), slewing := decide (c' ≠ c),
    cfgErr := decide (hi < lo) || mode == 3 }

/-- The predictor phase of the frame has ended (R226). -/
def predictorsDone (p : Nat) (m : Wafer) : Bool := (duePredictors p m).all fun k => (m.sward p).predRan.contains k

/-- SLOT_EXECUTE (R219, R226): a lane completes the execution of a due slot within the
compute window, once every due predictor has run. -/
def doSlotExecute (p : Fin 64) (n : Fin 256) (m : Wafer) : Wafer :=
  let x := m.sward p
  let ready : Bool := slotDue p n m && completes p n m && predictorsDone p m
  if !x.rst && !x.committed && ready && !(x.results.any fun r => r.1 == n.val) then
    let r := slotLaw p n m
    tally p 20 (m.modSward p fun x => { x with results := x.results ++ [(n.val, r)], lastExec := (false, n.val) })
  else m

/-- PREDICTOR_EXECUTE (R224). -/
def doPredictorExecute (p : Fin 64) (k : Fin 16) (m : Wafer) : Wafer :=
  let x := m.sward p
  if !x.rst && !x.committed && predictorDue p k m && !x.predRan.contains k.val then
    let b := swd p
    let h := (predictorInput p (m.get b (SWD_PRCTL.IN_SIG k)) m :: Store.get noHist x.hist k).take 16
    let sum := (((List.range 16).zip h).map fun e => m.getI b (SWD_PRTAP.C k e.1) * e.2).sum
    let m := m.setI b (SWD_PROUT.Y k) (sat32 (round30 sum))
    tally p 22 (m.modSward p fun x =>
      { x with hist := Store.set noHist x.hist k h, predRan := x.predRan ++ [k.val], lastExec := (true, k.val) })
  else m

/-! ### Destinations (R223) -/

/-- The unit field a slot drives: local unit number and FIELD; none for KIND 0 and
2 and for a destination taken as KIND 0. -/
def slotDest (p n : Nat) (m : Wafer) : Option (Nat × Nat) :=
  let b := swd p
  let verge := m.on b (SWD_SDEST.VERGE n)
  let unit := m.get b (SWD_SDEST.UNIT n)
  let field := m.get b (SWD_SDEST.FIELD n)
  if m.get b (SWD_SDEST.KIND n) = 1 ∧ field < 4 ∧ (if verge then unit < 8 ∧ isEdge p else unit < 64 ∧ field ≠ 3) then
    some (if verge then 64 + unit else unit, field)
  else none

/-- A destination taken as KIND 0 (R223). -/
def badDest (p n : Nat) (m : Wafer) : Bool :=
  let kind := m.get (swd p) (SWD_SDEST.KIND n)
  decide (2 < kind) || (kind == 1 && (slotDest p n m).isNone)

def enabledSlots (p : Nat) (m : Wafer) : List Nat := (List.range 256).filter fun n => m.on (swd p) (SWD_SCTL.EN n)

/-- The committed value that goes to a field of a unit: the highest-numbered enabled
slot's (R223). -/
def fieldValue (dests : List (Nat × Nat × Int)) (unit field : Nat) : Option Int :=
  (dests.reverse.find? fun e => e.1 == unit && e.2.1 == field).map fun e => e.2.2

/-- Destinations of the enabled slots in ascending order, with their outputs. -/
def slotDests (p : Nat) (m : Wafer) : List (Nat × Nat × Int) :=
  (enabledSlots p m).filterMap fun n =>
    (slotDest p n m).map fun d => (d.1, d.2, m.getI (swd p) (SWD_SOUT.OUT n))

/-- Two enabled slots name one unit field (R223). -/
def destConflict (l : List (Nat × Nat × Int)) : Bool :=
  match l with
  | [] => false
  | e :: t => (t.any fun f => f.1 == e.1 && f.2.1 == e.2.1) || destConflict t

/-- Results and misses of the frame (R219, R220, R223, R227). (DEDUCED: log 61.) -/
def commitSlots (p : Nat) (m : Wafer) : Wafer :=
  let b := swd p
  let x := m.sward p
  let m := x.results.foldl (fun m e =>
    let n := e.1
    let r := e.2
    let m := setIntegrator p n r.integ (m.setI b (SWD_SOUT.OUT n) r.out)
    let m :=
      match r.notch with
      | some (s1, s2) => (m.setI b ⟨0x4030 + 0x40 * n, 0, 32⟩ s1).setI b ⟨0x4034 + 0x40 * n, 0, 32⟩ s2
      | none => m
    let m := ((m.setB b (SWD_SSTAT.SAT_HI n) r.satHi).setB b (SWD_SSTAT.SAT_LO n) r.satLo).setB b (SWD_SSTAT.SLEWING n) r.slewing
    let m := m.set b (SWD_SSTAT.EXEC_F n) x.frame
    let m := m.modSward p fun x => { x with intClr := x.intClr.filter fun k => k != n }
    if r.cfgErr || badDest p n m then (m.set b (SWD_SSTAT.CFG_ERR n) 1).set b SWD_ESTAT.CFG_ERR 1 else m) m
  let missed := (dueSlots p m).filter fun n => !(x.results.any fun r => r.1 == n)
  let m := missed.foldl (fun m n =>
    let m := m.incSat b (SWD_SSTAT.MISS_CNT n)
    let a := b + (SWD_MISSMAP.MISS (n / 32)).off
    let m := (m.putWord a (m.word a ||| bitMask (n % 32) 1)).set b SWD_ESTAT.SLOT_MISS 1
    swardFault p 31 n 0 (tally p 21 m)) m
  let m := if destConflict (slotDests p m) then m.set b SWD_ESTAT.DEST_CONF 1 else m
  m.modSward p fun x => { x with results := [] }

/-- The rung request of R229 after the limits of R7 and R285; in pace mode under
R257, in a FULL walk under R250. -/
def rungRequest (p : Nat) (m : Wafer) : Nat :=
  let b := swd p
  let x := m.sward p
  let pace := variantPaceRung m.fuse
  let terms := (enabledSlots p m).filterMap fun n =>
    if m.get b (SWD_SDEST.KIND n) = 2 then
      some (if m.on b SWD_RUNGSTAT.PACE then pace else (m.getI b (SWD_SOUT.OUT n)).toNat)
    else none
  let fw := if m.on b SWD_RUNGSTAT.PACE then pace else m.get b SWD_RUNGCTL.FW_RUNG
  let r := terms.foldl min fw
  let r := if 0 < x.signal 496 then min r (m.get b SWD_RUNGCTL.WARN_RUNG) else r
  let r := if m.on b SWD_LDSTAT.FULL_BUSY ∧ ¬ x.fullEnd then x.fullRung else r
  min r (rungLimit p m)

/-! ### Schedule register and known-answer test (R226, R231, R316) -/

/-- A write of SWD_SCHED: RUN is held at 0, and kept as pending, until the known-answer test
has passed: through bring-up step 8, and in a Sward that failed it (R316). -/
def schedWrite (p : Nat) (data : Word) (m : Wafer) : Wafer :=
  let b := swd p
  let early := (m.heath.bringUp < 8 || m.heath.katFailed.contains p) && !m.on b SWD_KAT.PASS
  let m := m.setB b SWD_SCHED.HOLD (data.getLsbD 30)
  let m := m.setB b SWD_SCHED.HOLD_PEND (data.getLsbD 30 && (m.sward p).writesWait)
  let m := if data.getLsbD 28 then m.set b SWD_LOAD.PEAK 0 else m
  let m := m.modHeath fun h => { h with sched := Store.set zeroWord h.sched p (data &&& 0xC0000000) }
  if early then m.modSward p fun x => { x with runPend := data.getLsbD 31 }
  else m.setB b SWD_SCHED.RUN (data.getLsbD 31)

/-- LOAD_PEAK_CLEAR (R226). -/
def doLoadPeakClear (p : Fin 64) (m : Wafer) : Wafer := m.set (swd p) SWD_LOAD.PEAK 0

/-- A write of SWD_KAT (R231). -/
def katWrite (p : Nat) (data : Word) (m : Wafer) : Wafer :=
  let b := swd p
  let m := m.w1c (b + SWD_KAT.KAT_REJ.off) 0x800000 data
  if data.getLsbD 31 then
    if m.on b SWD_SCHED.RUN ∨ m.on b SWD_KAT.BUSY then m.set b SWD_KAT.KAT_REJ 1
    else tally p 35 (m.set b SWD_KAT.BUSY 1)
  else m

/-- KAT_START (R231). -/
def doKatStart (p : Fin 64) (m : Wafer) : Wafer := katWrite p 0x80000000 m

end Sys2Proof.Machine
end

