-- ==== Sys2Proof/Machine/Image.lean ====
section
/-! DEFINITION.  A Sward's writes to its units: the configuration image (R328), the
access channel's queues (R207), and the returns that rest on them (R329). -/

namespace Sys2Proof.Machine

/-- Offsets of the registers that the configuration image of a unit holds (R328);
`drive` is SWD_LDCTL.DRIVE. -/
def imageOffsets (verge drive : Bool) : List Nat :=
  let rails := [0, 1].flatMap fun q =>
    (if !verge && drive && q == 0 then [] else [0x100 + 0x40 * q])
      ++ [0x104 + 0x40 * q, 0x10C + 0x40 * q, 0x110 + 0x40 * q, 0x114 + 0x40 * q, 0x118 + 0x40 * q]
      ++ (if !verge && q == 1 then [] else [0x11C + 0x40 * q]) ++ [0x120 + 0x40 * q]
  let slots := if verge then [0, 1, 2, 3] else [0, 1, 2]
  [4] ++ rails ++ (if verge then [] else [0x16C])
    ++ slots.flatMap (fun s => [0x200 + 0x20 * s, 0x204 + 0x20 * s])
    ++ (if verge then [] else [0x300, 0x310, 0x320, 0x328])
    ++ slots.flatMap (fun s => [0x400 + 0x20 * s, 0x410 + 0x20 * s])
    ++ [0x480, 0x4A0, 0x4C0, 0x4C8] ++ (if verge then [] else [0x500, 0x504])

/-- Value the image gives a register: the last forwarded one, else the reset value. -/
def imageValue (p u off : Nat) (m : Wafer) : Word :=
  match (m.sward p).imageAt u off with
  | some w => w
  | none => resetWord m.fuse ((unitOf p u).base + off)

/-- Bits of a unit's register that the image holds: its RW and RWP fields (R328). -/
def imageMask (fuse a : Nat) : Word :=
  match lookupReg fuse (place a) with
  | some (d, _, _, _) => BitVec.ofNat 32 (d.rw ||| d.rws ||| d.rwp)
  | none => 0

/-- A forwarded write enters the image (R328). -/
def recordImage (p u off : Nat) (data : Word) (m : Wafer) : Wafer :=
  if (imageOffsets (decide (64 ≤ u)) false).contains off then
    let w := data &&& imageMask m.fuse ((unitOf p u).base + off)
    m.modSward p fun x => { x with image := Store.set noWord x.image (4096 * u + off) (some w) }
  else m

/-- A write of the Sward's own to a unit joins its work list, from which one goes into each
frame ahead of the queue of 16. (DEDUCED: log 25.) -/
def queueOwn (p u off : Nat) (data : Word) (m : Wafer) : Wafer :=
  m.modSward p fun x => { x with ownQ := Store.set noAccess x.ownQ u (x.own u ++ [⟨off, data, false, .own⟩]) }

/-- Local numbers of the units of a partition (R29). -/
def unitsOf (p : Nat) : List Nat := if isEdge p then List.range 72 else List.range 64

/-- A unit counted in a domain step and in the settle test: live, out of reset and
not adopted (R304, R322). -/
def counted (p u : Nat) (m : Wafer) : Bool :=
  !(m.sward p).isLost u && (m.unit (unitOf p u)).rst == .run
    && !(decide (u < 64) && m.on (unitOf p u).base TSK_HSTAT.ADOPTED)

/-- The word of TSK_CTL that a unit will hold once the Sward's own writes have reached it. -/
def ctlOnWay (p u : Nat) (m : Wafer) : Word :=
  match ((m.sward p).own u).reverse.find? fun a => a.off == 4 && !a.read with
  | some a => a.data
  | none => imageValue p u 4 m

/-- That word with a rail's enable set or cleared. -/
def ctlWithEnable (p u q : Nat) (on : Bool) (m : Wafer) : Word := setBits (ctlOnWay p u m) q 1 (bit on)

/-- EN of a rail queued for a unit (R304). -/
def queueEnable (p u q : Nat) (on : Bool) (m : Wafer) : Wafer := queueOwn p u 4 (ctlWithEnable p u q on m) m

/-- The whole image of a unit is queued (R324, R329); each write counts in event 54. -/
def queueImage (p u : Nat) (m : Wafer) : Wafer :=
  let offs := imageOffsets (decide (64 ≤ u)) (m.on (swd p) SWD_LDCTL.DRIVE)
  let m := offs.foldl (fun m o => queueOwn p u o (imageValue p u o m) m) m
  count p 54 offs.length (unitAttr (unitOf p u)) m

/-- Signals of the bus that a unit's records feed, and the fields that name it
(Table 6.5): used to clear loops after its return (R329 step 3). -/
def unitSignal (p u i : Nat) : Bool :=
  let s := if u < 64 then u / 8 else u - 64
  if u < 64 then
    (decide (i < 384) && i % 64 == u) || (i == 448 + s) || (i == 456 + s)
  else (decide (384 ≤ i ∧ i < 440) && (i - 384) % 8 == u - 64) && isEdge p

/-- Steps 3 to 6 of R329 for one returning unit. -/
def clearAfterReturn (p u : Nat) (m : Wafer) : Wafer :=
  let b := swd p
  let slots := (enabledSlots p m).filter fun n =>
    unitSignal p u (m.get b (SWD_SSEL.SP_SIG n)) || unitSignal p u (m.get b (SWD_SSEL.FB_SIG n))
      || (match slotDest p n m with | some d => d.1 == u | none => false)
  let m := slots.foldl (fun m n =>
    clearNotch p n (m.modSward p fun x => { x with intClr := n :: x.intClr.filter fun k => k != n })) m
  let preds := (List.range 16).filter fun k => unitSignal p u (m.get b (SWD_PRCTL.IN_SIG k))
  let m := preds.foldl (fun m k => clearPredictor p k m) m
  let m := queueOwn p u 0x600 (BitVec.ofNat 32 (0x80000000 + m.get (unitOf p u).base TSK_TCFG.WIN_N)) m
  m.modSward p fun x =>
    { x with freshRec := u :: x.freshRec.filter (fun k => k != u), agg := { x.agg with stale := true } }

/-- A partition return clears every enabled slot (R329 step 3). -/
def clearAllSlots (p : Nat) (m : Wafer) : Wafer :=
  (enabledSlots p m).foldl (fun m n =>
    clearNotch p n (m.modSward p fun x => { x with intClr := n :: x.intClr.filter fun k => k != n })) m

/-- A return begins for units of the partition (R329): the record of each is frozen
until it has been checked. -/
def beginReturn (p : Nat) (us : List Nat) (m : Wafer) : Wafer :=
  m.modSward p fun x => { x with returning := us ++ x.returning.filter fun u => !us.contains u }

/-- RESTORE of a unit begins at its Sward (R324, R329): its return, and its image. -/
def beginRestore (p u : Nat) (m : Wafer) : Wafer :=
  if (m.unit (unitOf p u)).rst = .restore then queueImage p u (beginReturn p [u] m) else m

/-- Whether the domain state requires rail q of a unit to be enabled (R303, R324). -/
def railWanted (p u q : Nat) (m : Wafer) : Bool :=
  let st (f : Fld) : Bool := m.get (swd p) f != 0
  let tus : Bool := decide (u < 64)
  match (m.sward p).dom, q with
  | .on1 a f, 1 => if tus then a || st SWD_DOMSTAT.ARRAY_ST else f || st SWD_DOMSTAT.MIF_ST
  | .off1 a f, 1 => if tus then !a && st SWD_DOMSTAT.ARRAY_ST else !f && st SWD_DOMSTAT.MIF_ST
  | .on2 l k, 0 => if tus then l || st SWD_DOMSTAT.LOGIC_ST else k || st SWD_DOMSTAT.LINK_ST
  | .off2 l k, 0 => if tus then !l && st SWD_DOMSTAT.LOGIC_ST else !k && st SWD_DOMSTAT.LINK_ST
  | _, 0 => if tus then st SWD_DOMSTAT.LOGIC_ST else st SWD_DOMSTAT.LINK_ST
  | _, _ => if tus then st SWD_DOMSTAT.ARRAY_ST else st SWD_DOMSTAT.MIF_ST

/-- The rail enables that the domain state requires, and the release (R324). -/
def queueRelease (p u : Nat) (m : Wafer) : Wafer :=
  let w := setBits (setBits (ctlOnWay p u m) 0 1 (bit (railWanted p u 0 m))) 1 1 (bit (railWanted p u 1 m))
  queueOwn p u 0x1C 0x40000000 (queueOwn p u 4 w m)

/-- RETURN_EPOCH_CHECK (R324, R329), with the epoch of the first good SLOW report after the
return.  The image of a unit in RESTORE is on its way already. -/
def doReturnEpochCheck (p : Fin 64) (u : Fin 72) (epoch : BitVec 16) (m : Wafer) : Wafer :=
  let b := swd p
  let uid := unitOf p u
  if (m.sward p).returning.contains u.val then
    let valid := m.on b (SWD_UEPOCH.VALID u)
    let seen := m.on b (SWD_UEPOCH.RST_SEEN u)
    let was := m.get b (SWD_UEPOCH.EPOCH u)
    let mism : Bool := valid && !seen && was != epoch.toNat
    let m := if mism then
        let m := (m.set b SWD_RSTSTAT.EP_MISM 1).incSat b SWD_RSTSTAT.MISM_CNT
        reportEvent p 28 uid.ref was epoch.toNat (count p 53 1 (unitAttr uid) m)
      else m
    let restoring : Bool := (m.unit uid).rst == .restore
    let m := if (mism || (!valid && !seen)) && !restoring then queueImage p u m else m
    let m := clearAfterReturn p u m
    let m := if restoring then queueRelease p u m else m
    let m := ((m.set b (SWD_UEPOCH.VALID u) 1).set b (SWD_UEPOCH.RST_SEEN u) 0).set b (SWD_UEPOCH.EPOCH u) epoch.toNat
    m.modSward p fun x => { x with returning := x.returning.filter fun k => k != u.val }
  else m

/-! ### The end of configuration and of the known-answer test (R231, R313, R316) -/

/-- Step 7 is complete when the three passes have reached every live Sward and its units
(R313, R316). (DEDUCED: log 52.) -/
def configStep (m : Wafer) : Wafer :=
  let idle (p : Nat) : Bool := (unitsOf p).all fun u => ((m.sward p).own u).isEmpty && ((m.sward p).access u).isEmpty
  if m.heath.bringUp = 6 ∧ m.heath.configSent ∧ (m.heath.unicasts.any fun x => x.kind == .config) = false
      ∧ (liveParts m).all idle then setStep 7 m
  else m

/-- Step 8 is complete when every live Sward has passed or failed its test (R313); at step 9
the Swards begin to release their units (R317). -/
def katStep (m : Wafer) : Wafer :=
  if m.heath.bringUp = 7 ∧ ((liveParts m).all fun p => m.on (swd p) SWD_KAT.PASS || m.heath.katFailed.contains p) = true then
    (liveParts m).foldl (fun m p => (unitsOf p).foldl (fun m u => beginRestore p u m) m) (setStep 8 m)
  else m

/-- KAT_DONE (R231, R316), with the lanes whose CRC did not match: bring-up applies
the pending RUN on a pass, and counts a Sward that fails. -/
def doKatDone (p : Fin 64) (lanes : BitVec 4) (m : Wafer) : Wafer :=
  let b := swd p
  if m.on b SWD_KAT.BUSY then
    let pass : Bool := lanes == 0
    let m := (m.set b SWD_KAT.BUSY 0).setB b SWD_KAT.PASS pass
    let m := (m.setB b SWD_KAT.FAIL (!pass)).set b SWD_KAT.LANE_FAIL lanes.toNat
    let bringUp : Bool := decide (m.heath.bringUp < 8)
    let m :=
      if pass then
        if (m.sward p).runPend then (m.modSward p fun x => { x with runPend := false }).set b SWD_SCHED.RUN 1 else m
      else if bringUp ∧ ¬ m.heath.katFailed.contains p.val then
        let m := (m.inc 0 HTH_BUSTAT.KAT_FAIL).modHeath fun h => { h with katFailed := p.val :: h.katFailed }
        swardFault p 37 lanes.toNat 0 m
      else m
    katStep m
  else m

end Sys2Proof.Machine
end

