-- ==== Sys2Proof/Machine/Ladder.lean ====
section
/-! DEFINITION.  Chapter 07: ladder banks, walks and bumps, validation and swap, the
FULL walk, the rung sequencer and pace. -/

namespace Sys2Proof.Machine

/-- SYNCED (Table 7.2). -/
abbrev shSYNCED : Nat := 0
/-- BUILD (Table 7.2). -/
abbrev shBUILD : Nat := 1
/-- FW (Table 7.2). -/
abbrev shFW : Nat := 2
/-- CHECK (Table 7.2). -/
abbrev shCHECK : Nat := 3
/-- PEND (Table 7.2). -/
abbrev shPEND : Nat := 4
/-- FAIL (Table 7.2). -/
abbrev shFAIL : Nat := 5
/-- COPY (Table 7.2). -/
abbrev shCOPY : Nat := 6

/-! ### Banks (R233 to R236, R246) -/

/-- Place of the entry of Tussock t at rung n; bank 0x2000 is active, 0x3000 shadow
(R233, R234). -/
def ladderField (bank t n : Nat) : Fld := ⟨bank + 0x40 * t + 4 * (n / 2), 16 * (n % 2), 16⟩

def ladderEntry (p bank t n : Nat) (m : Wafer) : Nat := m.get (swd p) (ladderField bank t n)

/-- VCODE of an entry (Table 7.1). -/
def vcode (e : Nat) : Nat := e % 2 ^ 9

def bumpField (t : Nat) : Fld := SWD_LDBUMP.BUMP (t / 8) (t % 8)

/-- One bit of the reflected CRC-32 (R246). -/
def crcBit (c : Nat) : Nat := if c % 2 = 1 then (c / 2).xor 0xEDB88320 else c / 2

/-- One byte of the CRC-32. -/
def crcByte (c b : Nat) : Nat := (List.range 8).foldl (fun c _ => crcBit c) (c.xor b)

/-- The CRC-32 of R246 over bytes. -/
def crc32 (l : List Nat) : Nat := (l.foldl crcByte 0xFFFFFFFF).xor 0xFFFFFFFF

/-- A word least significant byte first. -/
def wordBytes (w : Nat) : List Nat := [w % 256, w / 256 % 256, w / 65536 % 256, w / 16777216 % 256]

/-- CRC-32 of a bank over ascending addresses. -/
def bankCrc (p bank : Nat) (m : Wafer) : Nat :=
  crc32 ((List.range 1024).flatMap fun i => wordBytes (m.word (swd p + bank + 4 * i)).toNat)

/-- Ladder code E of R236 for Tussock t at a rung. -/
def foreground (p t n : Nat) (m : Wafer) : Nat :=
  let extra := if m.on (swd p) SWD_RUNGSTAT.PACE then m.get 0 HTH_PACECTL.PACE_EXTRA else 0
  min 360 (vcode (ladderEntry p 0x2000 t n m) + m.get (swd p) (bumpField t) + extra)

/-- The VSET0 code sent to Tussock t: the walk voltage, else the foreground value
(R236, R241). (DEDUCED: log 28.) -/
def vsetCode (p t : Nat) (m : Wafer) : Nat :=
  match (m.sward p).walk with
  | some w => if w.t = t then 4 * (w.base - w.k) else 4 * foreground p t (m.sward p).rungVolt m
  | none => 4 * foreground p t (m.sward p).rungVolt m

/-- A shadow entry is written with MEAS = 1, fitted under R242; the expected CRC
follows (R246).  The result says whether fitting changed anything. -/
def writeShadow (p t n v : Nat) (m : Wafer) : Wafer × Nat × Bool :=
  let below := if n = 0 then 0 else vcode (ladderEntry p 0x3000 t (n - 1) m)
  let w := max v below
  let m := m.set (swd p) (ladderField 0x3000 t n) (2 ^ 15 + w)
  let higher := ((List.range 32).filter fun k => n < k && decide (vcode (ladderEntry p 0x3000 t k m) < w))
  let m := higher.foldl (fun m k => m.set (swd p) (ladderField 0x3000 t k) (2 ^ 15 + w)) m
  let m := m.set (swd p) SWD_LDSHCRC.SH_CRC (bankCrc p 0x3000 m)
  let m := if m.get (swd p) SWD_LDSTAT.SH_STATE = shSYNCED then m.set (swd p) SWD_LDSTAT.SH_STATE shBUILD else m
  (m, w, decide (v < below) || !higher.isEmpty)

/-- Shadow state (Table 7.2). -/
def shadow (p : Nat) (m : Wafer) : Nat := m.get (swd p) SWD_LDSTAT.SH_STATE

def setShadow (p st : Nat) (m : Wafer) : Wafer := m.set (swd p) SWD_LDSTAT.SH_STATE st

/-- The shadow bank goes to CHECK. -/
def beginCheck (p : Nat) (build : Bool) (m : Wafer) : Wafer :=
  setShadow p shCHECK (m.modSward p fun x => { x with fromBuild := build, swapReady := false })

/-- Walks between swaps (Table 7.7). -/
def swapN (p : Nat) (m : Wafer) : Nat :=
  let n := m.get (swd p) SWD_LDCFG.SWAP_N
  if n = 0 ∨ 64 < n then 64 else n

def settleMax (p : Nat) (m : Wafer) : Nat := max 1 (m.get (swd p) SWD_LDCFG.SETTLE_MAX)

/-! ### Walks (R240 to R245, R250) -/

/-- A Tussock that a walk may not take: lost, LOGIC not in REG, or adopted
(R240, R243). -/
def unwalkable (p t : Nat) (m : Wafer) : Bool :=
  let x := m.sward p
  x.isLost t || (x.record t).state0 != rREG || m.on (unitOf p t).base TSK_HSTAT.ADOPTED

/-- The frame of an event lies within the preceding n frames. -/
def within (x : SwardSt) (e : Option Nat) (n : Nat) : Bool :=
  match e with
  | some f => decide (x.frame < f + n)
  | none => false

/-- Conditions of R240 other than the choice of a Tussock. -/
def mayWalk (p : Nat) (m : Wafer) : Bool :=
  let b := swd p
  let x := m.sward p
  x.walk.isNone && m.on b SWD_LDCTL.WALK_EN && m.on b SWD_LDCTL.DRIVE && m.on b SWD_SCHED.RUN
    && (shadow p m == shSYNCED || shadow p m == shBUILD) && m.get b SWD_RUNGSTAT.SEQ == 0
    && !within x x.rungChanged 256 && !within x x.brakeFrame 256 && x.signal 496 == 0

/-- The next Tussock to walk (R240), in a FULL walk the next in ascending t. (DEDUCED: log 27.) -/
def nextWalk (p : Nat) (m : Wafer) : Option Nat :=
  let x := m.sward p
  let ok (t : Nat) : Bool := !unwalkable p t m && !x.canaryNow.contains t
  if m.on (swd p) SWD_LDSTAT.FULL_BUSY then
    if x.fullEnd ∨ m.get (swd p) SWD_RUNGSTAT.RUNG ≠ x.fullRung then none
    else (List.range 64).find? fun t => ok t && !x.fullDone.contains t
  else
    match x.walkPrio.find? ok with
    | some t => some t
    | none => ((List.range 64).map fun i => (x.lastWalked + 1 + i) % 64).find? ok

/-- The walk ends with a result (R241). -/
def endWalk (p : Nat) (w : Walk) (floor : Bool) (m : Wafer) : Wafer :=
  let b := swd p
  let want := w.ok + max 2 (m.get b SWD_LDCTL.GUARD)
  let r := writeShadow p w.t w.rung (min want 360) m
  let m := r.1
  let m := m.putWord (b + SWD_LDRES.NEW.off) 0
  let m := (m.setB b SWD_LDRES.FLOOR floor).setB b SWD_LDRES.FIT (r.2.2 || decide (360 < want))
  let m := ((m.set b SWD_LDRES.T w.t).set b SWD_LDRES.RUNG w.rung).set b SWD_LDRES.VMIN w.ok
  let m := (m.set b SWD_LDRES.NEW r.2.1).inc b SWD_LDCNT.WALKS
  let m := (m.set b SWD_LDSTAT.WALKING 0).set b SWD_LDWALK.ACTIVE 0
  let m := m.modSward p fun x =>
    { x with walk := none, walksSince := x.walksSince + 1, fullDone := if m.on b SWD_LDSTAT.FULL_BUSY then w.t :: x.fullDone else [] }
  let m := tally p 29 m
  if !m.on b SWD_LDSTAT.FULL_BUSY && shadow p m == shBUILD && decide (swapN p m ≤ (m.sward p).walksSince) then
    beginCheck p true m
  else m

/-- A walk is abandoned (R243). -/
def abandonWalk (p : Nat) (m : Wafer) : Wafer :=
  match (m.sward p).walk with
  | none => m
  | some w =>
    let b := swd p
    let m := (m.putWord (b + SWD_LDRES.NEW.off) 0).set b SWD_LDRES.ABORT 1
    let m := ((m.set b SWD_LDRES.T w.t).set b SWD_LDRES.RUNG w.rung).inc b SWD_LDCNT.ABORTS
    let m := (m.set b SWD_LDSTAT.WALKING 0).set b SWD_LDWALK.ACTIVE 0
    tally p 30 (m.modSward p fun x => { x with walk := none })

/-- Step k of a walk is decided at this commit point (R241). -/
def walkStep (p : Nat) (w : Walk) (m : Wafer) : Wafer :=
  let b := swd p
  let span := max 1 (m.get b SWD_LDCTL.SPAN)
  if !m.on b SWD_LDSTAT.FULL_BUSY && decide (span < w.k) then endWalk p w false m
  else if w.base < 200 + w.k then endWalk p w true m
  else
    let x := m.sward p
    let m := m.modSward p fun x => { x with walk := some { w with applied := x.frame + 2, dwelt := none } }
    let m := ((m.set b SWD_LDSTAT.WALKING 1).set b SWD_LDWALK.ACTIVE 1).set b SWD_LDWALK.T w.t
    ((m.set b SWD_LDWALK.RUNG w.rung).set b SWD_LDWALK.STEP w.k).modSward p fun y => { y with frame := x.frame }

/-- A walk starts (R240). (DEDUCED: log 27.) -/
def startWalk (p t : Nat) (m : Wafer) : Wafer :=
  let n := m.get (swd p) SWD_RUNGSTAT.RUNG
  let base := vcode (ladderEntry p 0x2000 t n m) + m.get (swd p) (bumpField t)
  let m := m.modSward p fun x => { x with walkPrio := x.walkPrio.filter (fun k => k != t), lastWalked := t }
  walkStep p { t := t, rung := n, base := base, k := 1, ok := base, applied := 0, dwelt := none } m

/-- The step's voltage stands within 5 mV in the present snapshot (R241). -/
def walkSettled (p : Nat) (w : Walk) (m : Wafer) : Bool :=
  let x := m.sward p
  let d := x.signal w.t - 2500 * ((w.base - w.k : Nat) : Int)
  (x.record w.t).atTgt0 && decide (-5000 ≤ d ∧ d ≤ 5000)

/-- The walk at a commit point: abandonment, settle and the dwell's snapshots
(R241, R243). -/
def walkCommit (p : Nat) (changed : Bool) (m : Wafer) : Wafer :=
  let b := swd p
  let x := m.sward p
  match x.walk with
  | none => m
  | some w =>
    let dwell := max 1 (m.get b SWD_LDCTL.DWELL)
    let canary := x.canaryNow.contains w.t
    if changed || within x x.brakeFrame 1 || unwalkable p w.t m || decide (0 < x.signal 496)
        || !m.on b SWD_LDCTL.WALK_EN || !m.on b SWD_LDCTL.DRIVE then abandonWalk p m
    else
      match w.dwelt with
      | none =>
        if w.applied + 2 ≤ x.frame ∧ x.frame ≤ w.applied + settleMax p m + 1 ∧ walkSettled p w m then
          if canary then endWalk p w false m
          else m.modSward p fun x => { x with walk := some { w with dwelt := some 1 } }
        else m
      | some d =>
        if dwell ≤ d then m
        else if canary then endWalk p w false m
        else m.modSward p fun x => { x with walk := some { w with dwelt := some (d + 1) } }

/-- WALK_STEP_PASS (R241): the dwell has passed without a warning. -/
def doWalkStepPass (p : Fin 64) (m : Wafer) : Wafer :=
  match (m.sward p).walk with
  | some w =>
    match w.dwelt with
    | some d =>
      if max 1 (m.get (swd p) SWD_LDCTL.DWELL) ≤ d then
        walkStep p { w with ok := w.base - w.k, k := w.k + 1 } m
      else m
    | none => m
  | none => m

/-- WALK_SETTLE_FAIL (R241): none of the SETTLE_MAX snapshots showed the voltage. -/
def doWalkSettleFail (p : Fin 64) (m : Wafer) : Wafer :=
  match (m.sward p).walk with
  | some w =>
    if w.dwelt.isNone ∧ w.applied + settleMax p m + 1 ≤ (m.sward p).frame then endWalk p w false m else m
  | none => m

/-- The FULL walk ends (R250): its bank goes to CHECK. -/
def endFull (p : Nat) (m : Wafer) : Wafer :=
  beginCheck p true ((abandonWalk p m).modSward p fun x => { x with fullEnd := true, fullSince := none })

/-- The FULL walk at a commit point: a rung with no Tussock left gives way to the
next (R250). -/
def fullCommit (p : Nat) (m : Wafer) : Wafer :=
  let b := swd p
  let x := m.sward p
  if m.on b SWD_LDSTAT.FULL_BUSY && !x.fullEnd && x.walk.isNone then
    if m.get b SWD_RUNGSTAT.RUNG ≠ x.fullRung then
      m.modSward p fun x => { x with fullSince := some (x.fullSince.getD x.frame) }
    else
      let m := m.modSward p fun x => { x with fullSince := none }
      if (List.range 64).all fun t => x.fullDone.contains t || unwalkable p t m then
        if variantTopRung m.fuse ≤ x.fullRung then endFull p m
        else m.modSward p fun x => { x with fullRung := x.fullRung + 1, fullDone := [], fullSince := some x.frame }
      else m
  else m

/-- FULL_RUNG_TIMEOUT (R250). -/
def doFullRungTimeout (p : Fin 64) (m : Wafer) : Wafer :=
  let x := m.sward p
  match x.fullSince with
  | some f =>
    if m.on (swd p) SWD_LDSTAT.FULL_BUSY ∧ ¬ x.fullEnd ∧ f + 1024 ≤ x.frame then endFull p m else m
  | none => m

/-- Canary warnings of the snapshot raise bumps (R245). -/
def bumpTussock (p t : Nat) (m : Wafer) : Wafer :=
  let b := swd p
  let x := m.sward p
  let walked := match x.walk with | some w => w.t == t | none => false
  if walked || within x (Store.get noNat x.lastBump t) 64 then m
  else
    let step := max 1 (m.get b SWD_LDCTL.BUMP_STEP)
    let bump := min 15 (m.get b (bumpField t) + step)
    let m := m.set b (bumpField t) bump
    let m := if bump = 15 then m.set b SWD_LDSTAT.BUMP_MAX 1 else m
    let n := m.get b SWD_RUNGSTAT.RUNG
    let m :=
      if shadow p m = shSYNCED ∨ shadow p m = shBUILD then
        let r := writeShadow p t n (vcode (ladderEntry p 0x2000 t n m) + bump) m
        let m := setShadow p shBUILD r.1
        if r.2.2 then m.set b SWD_LDRES.FIT 1 else m
      else m
    let m := m.modSward p fun x =>
      { x with lastBump := Store.set noNat x.lastBump t (some x.frame),
               walkPrio := if x.walkPrio.contains t then x.walkPrio else x.walkPrio ++ [t] }
    reportEvent p 30 (unitOf p t).ref bump n (tally p 33 m)

/-! ### Validation, swap and commands (R244 to R250, R263) -/

/-- LADDER_SHADOW_WRITE (R234): accepted in FW only. -/
def ladderShadowWrite (p off : Nat) (data : Word) (m : Wafer) : Wafer :=
  if shadow p m = shFW then plainWrite (swd p + off) data m else m.set (swd p) SWD_LDSTAT.WR_REJ 1

/-- LADDER_SHADOW_WRITE (R234). -/
def doLadderShadowWrite (p : Fin 64) (t : Fin 64) (i : Fin 16) (data : Word) (m : Wafer) : Wafer :=
  ladderShadowWrite p (0x3000 + 0x40 * t.val + 4 * i.val) data m

/-- LADDER_CHECK_DONE (R246). -/
def doLadderCheckDone (p : Fin 64) (m : Wafer) : Wafer :=
  let b := swd p
  if shadow p m = shCHECK then
    let entry (t n : Nat) : Nat := ladderEntry p 0x3000 t n m
    let crc : Bool := bankCrc p 0x3000 m != m.get b SWD_LDSHCRC.SH_CRC
    let range : Bool := (List.range 64).any fun t => (List.range 32).any fun n =>
      decide (vcode (entry t n) < 200 ∨ 360 < vcode (entry t n) ∨ entry t n / 2 ^ 9 % 2 ^ 6 ≠ 0)
    let mono : Bool := (List.range 64).any fun t => (List.range 31).any fun n =>
      decide (vcode (entry t (n + 1)) < vcode (entry t n))
    if !crc && !range && !mono then setShadow p shPEND m
    else
      let m := if crc then m.set b SWD_LDSTAT.CRC_ERR 1 else m
      let m := if range then m.set b SWD_LDSTAT.RANGE_ERR 1 else m
      let m := if mono then m.set b SWD_LDSTAT.MONO_ERR 1 else m
      let flags := 4 * bit crc + 2 * bit range + bit mono
      let m := swardFault p 32 flags 0 (tally p 32 m)
      let m := if (m.sward p).fullEnd then
          (m.modSward p fun x => { x with fullEnd := false }).set b SWD_LDSTAT.FULL_BUSY 0 else m
      setShadow p (if (m.sward p).fromBuild then shCOPY else shFAIL) m
  else m

/-- The words of one bank copied to the other (Table 7.2). -/
def copyBank (p src dst : Nat) (m : Wafer) : Wafer :=
  (List.range 1024).foldl (fun m i => m.putWord (swd p + dst + 4 * i) (m.word (swd p + src + 4 * i))) m

/-- LADDER_COPY_DONE (R245, Table 7.2). -/
def doLadderCopyDone (p : Fin 64) (m : Wafer) : Wafer :=
  if shadow p m = shCOPY then
    let m := copyBank p 0x2000 0x3000 m
    setShadow p shSYNCED (m.set (swd p) SWD_LDSHCRC.SH_CRC (m.get (swd p) SWD_LDCRC.CRC))
  else m

/-- The swap is made at a boundary (R247). -/
def makeSwap (p : Nat) (m : Wafer) : Wafer :=
  let b := swd p
  let old := (List.range 1024).map fun i => m.word (b + 0x2000 + 4 * i)
  let m := copyBank p 0x3000 0x2000 m
  let m := ((List.range 1024).zip old).foldl (fun m e => m.putWord (b + 0x3000 + 4 * e.1) e.2) m
  let m := m.set b SWD_LDCRC.CRC (m.get b SWD_LDSHCRC.SH_CRC)
  let m := (List.range 8).foldl (fun m i => m.putWord (b + 0x80 + 4 * i) 0) m
  let m := setShadow p shCOPY (m.inc b SWD_LDSTAT.SWAPS)
  let full := (m.sward p).fullEnd
  let m := m.modSward p fun x => { x with walksSince := 0, swapReady := false, fullEnd := false }
  let m := if full then (m.set b SWD_LDSTAT.FULL_BUSY 0).set b SWD_LDSTAT.FULL_DONE 1 else m
  tally p 31 m

/-- WALK_REQ and KA_FAIL of a write of SWD_LDCMD (R240, R244, R263). -/
def ladderRequests (p : Nat) (data : Word) (m : Wafer) : Wafer :=
  let t := getBits data 0 6
  let m :=
    if data.getLsbD 27 then
      m.modSward p fun x => { x with walkPrio := if x.walkPrio.contains t then x.walkPrio else x.walkPrio ++ [t] }
    else m
  if data.getLsbD 26 then m.modSward p fun x => { x with kaFail := t :: x.kaFail } else m

/-- SWAP, RESYNC, FW_OPEN or FULL of a write of SWD_LDCMD (R249, R250, R263, Table 7.2). -/
def ladderAction (p : Nat) (data : Word) (m : Wafer) : Wafer :=
  let b := swd p
  let st := shadow p m
  let busy := m.on b SWD_LDSTAT.FULL_BUSY
  match data.getLsbD 31, data.getLsbD 30, data.getLsbD 29, data.getLsbD 28 with
  | false, false, false, false => m
  | true, false, false, false =>
    if !busy && (st == shBUILD || st == shFW) then beginCheck p (st == shBUILD) m else m.set b SWD_LDSTAT.CMD_REJ 1
  | false, true, false, false =>
    if !busy && (st == shBUILD || st == shFW || st == shFAIL) then setShadow p shCOPY (abandonWalk p m)
    else m.set b SWD_LDSTAT.CMD_REJ 1
  | false, false, true, false =>
    if !busy && (st == shSYNCED || st == shBUILD) then setShadow p shFW (abandonWalk p m) else m.set b SWD_LDSTAT.CMD_REJ 1
  | false, false, false, true =>
    if !busy && st == shSYNCED && (m.sward p).walk.isNone then
      let m := m.modSward p fun x =>
        { x with fullRung := 0, fullDone := [], fullSince := some x.frame, fullEnd := false }
      m.set b SWD_LDSTAT.FULL_BUSY 1
    else m.set b SWD_LDSTAT.CMD_REJ 1
  | _, _, _, _ => m.set b SWD_LDSTAT.CMD_REJ 1

/-- A write of SWD_LDCMD (R263): one that names more than one action is ignored as a whole. -/
def ladderCommand (p : Nat) (data : Word) (m : Wafer) : Wafer :=
  let actions := bit (data.getLsbD 31) + bit (data.getLsbD 30) + bit (data.getLsbD 29) + bit (data.getLsbD 28)
  ladderAction p data (if 1 < actions then m else ladderRequests p data m)

/-- SWAP (R263). -/
def doSwap (p : Fin 64) (m : Wafer) : Wafer := ladderCommand p 0x80000000 m
/-- RESYNC (R263). -/
def doResync (p : Fin 64) (m : Wafer) : Wafer := ladderCommand p 0x40000000 m
/-- FW_OPEN (R249, R263). -/
def doFwOpen (p : Fin 64) (m : Wafer) : Wafer := ladderCommand p 0x20000000 m
/-- FULL (R250, R263). -/
def doFull (p : Fin 64) (m : Wafer) : Wafer := ladderCommand p 0x10000000 m
/-- WALK_REQ (R263). -/
def doWalkReq (p : Fin 64) (t : Fin 64) (m : Wafer) : Wafer := ladderCommand p (BitVec.ofNat 32 (0x08000000 + t)) m
/-- KA_FAIL (R244, R263). -/
def doKaFail (p : Fin 64) (t : Fin 64) (m : Wafer) : Wafer := ladderCommand p (BitVec.ofNat 32 (0x04000000 + t)) m

/-- A write of SWD_LDCTL, SWD_LDCFG or SWD_LDSHCRC, with the clamps of Tables 7.6
and 7.7 (R246, R262). -/
def ladderConfig (p off : Nat) (data : Word) (m : Wafer) : Wafer :=
  let b := swd p
  if off = SWD_LDSHCRC.SH_CRC.off then (if shadow p m = shFW then plainWrite (b + off) data m else m)
  else
    let m := plainWrite (b + off) data m
    let m := if m.on b SWD_LDCTL.WALK_EN && m.on b SWD_LDCTL.DRIVE then m else abandonWalk p m
    let bad : Bool :=
      if off = SWD_LDCTL.DRIVE.off then
        decide (m.get b SWD_LDCTL.GUARD < 2 ∨ m.get b SWD_LDCTL.BUMP_STEP = 0 ∨ m.get b SWD_LDCTL.SPAN = 0
          ∨ m.get b SWD_LDCTL.DWELL = 0)
      else decide (m.get b SWD_LDCFG.SWAP_N = 0 ∨ 64 < m.get b SWD_LDCFG.SWAP_N ∨ m.get b SWD_LDCFG.SETTLE_MAX = 0)
    if bad then m.set b SWD_LDSTAT.CFG_CLAMP 1 else m

/-! ### The rung sequencer (R230, R252 to R255) -/

/-- One snapshot shows settle (R254). -/
def raiseSettled (p : Nat) (m : Wafer) : Bool :=
  let x := m.sward p
  (List.range 64).all fun t =>
    let d := x.signal t - x.signal (192 + t)
    !counted p t m || (x.record t).state0 != rREG || ((x.record t).atTgt0 && decide (-5000 ≤ d ∧ d ≤ 5000))

/-- The sequencer enters RAISE_V toward rung n. -/
def beginRaise (p n : Nat) (m : Wafer) : Wafer :=
  let m := (m.set (swd p) SWD_RUNGSTAT.SEQ 1).set (swd p) SWD_RUNGSTAT.TGT n
  m.modSward p fun x => { x with rungVolt := n, raiseA := x.frame + 2 }

/-- A raise is cancelled: the voltages of the rung in force are sent again (R230). -/
def cancelRaise (p : Nat) (m : Wafer) : Wafer :=
  let n := (m.sward p).rungNext
  let m := (m.set (swd p) SWD_RUNGSTAT.SEQ 0).set (swd p) SWD_RUNGSTAT.TGT n
  m.modSward p fun x => { x with rungVolt := n }

/-- RUNG = n goes into the next downlink frame. -/
def putRung (p n : Nat) (m : Wafer) : Wafer :=
  m.modSward p fun x => { x with rungNext := n, rungDecided := some x.frame }

/-- The sequencer at a commit point; the result says whether it decided a change.
(DEDUCED: logs 22, 26.) -/
def sequencer (p : Nat) (m : Wafer) : Wafer × Bool :=
  let b := swd p
  let req := rungRequest p m
  let m := m.set b SWD_RUNGSTAT.REQ req
  let x := m.sward p
  let spaced : Bool := match x.rungDecided with | some f => decide (f + 2 ≤ x.frame) | none => true
  let seq := m.get b SWD_RUNGSTAT.SEQ
  let n := x.rungNext
  if seq = 1 then
    let tgt := m.get b SWD_RUNGSTAT.TGT
    if req < tgt then (tally p 27 (cancelRaise p m), true)
    else if x.raiseA + 2 ≤ x.frame ∧ x.frame ≤ x.raiseA + settleMax p m + 1 ∧ raiseSettled p m then
      (tally p 25 ((putRung p tgt m).set b SWD_RUNGSTAT.SEQ 0), true)
    else (m, false)
  else if seq = 2 then
    if n < req ∧ x.raiseBlock.isNone then (tally p 27 (beginRaise p (n + 1) m), true)
    else ((m.modSward p fun x => { x with rungVolt := n }).set b SWD_RUNGSTAT.SEQ 0, true)
  else if spaced ∧ n < req ∧ x.raiseBlock.isNone then (beginRaise p (n + 1) m, true)
  else if spaced ∧ req < n then
    let m := (putRung p (n - 1) m).set b SWD_RUNGSTAT.SEQ 2
    (tally p 26 (m.set b SWD_RUNGSTAT.TGT (n - 1)), true)
  else (m, false)

/-- SETTLE_TIMEOUT (R254). -/
def doSettleTimeout (p : Fin 64) (m : Wafer) : Wafer :=
  let b := swd p
  let x := m.sward p
  if m.get b SWD_RUNGSTAT.SEQ = 1 ∧ x.raiseA + settleMax p m + 1 ≤ x.frame then
    let tgt := m.get b SWD_RUNGSTAT.TGT
    let m := (cancelRaise p m).set b SWD_LDSTAT.SETTLE_TO 1
    let m := m.modSward p fun x => { x with raiseBlock := some (x.frame + 1024) }
    swardFault p 33 tgt 0 (tally p 28 m)
  else m

/-- RAISE_BLOCK_EXPIRE (R254). -/
def doRaiseBlockExpire (p : Fin 64) (m : Wafer) : Wafer :=
  match (m.sward p).raiseBlock with
  | some f => if f ≤ (m.sward p).frame then m.modSward p fun x => { x with raiseBlock := none } else m
  | none => m

/-! ### Pace (R256 to R258) and the stretch window (R239) -/

/-- The Heath broadcasts MODE (R256). -/
def paceSend (m : Wafer) : Wafer :=
  let on := m.on 0 HTH_PACECTL.MODE
  let m := m.send .paceMode 64 [bit on]
  (liveParts m).foldl (fun m p => m.modSward p fun x => { x with paceNext := if x.rst then x.paceNext else some on }) m

/-- A write of HTH_PACECTL (R256): a change of MODE is broadcast. -/
def paceWrite (data : Word) (m : Wafer) : Wafer :=
  let was := m.on 0 HTH_PACECTL.MODE
  let m := plainWrite HTH_PACECTL.MODE.off data m
  if m.on 0 HTH_PACECTL.MODE = was then m else paceSend m

/-- PACE_MODE_WRITE (R256). -/
def doPaceModeWrite (mode : Bool) (m : Wafer) : Wafer :=
  paceWrite (setBits (m.word HTH_PACECTL.MODE.off) 31 1 (bit mode)) m

/-- PACE_MODE_APPLY (R256, R257): at a boundary the mode is in force; STR_EN of every
Tussock follows through the access channel. -/
def doPaceModeApply (p : Fin 64) (m : Wafer) : Wafer :=
  match (m.sward p).paceNext with
  | none => m
  | some on =>
    let m := (m.modSward p fun x => { x with paceNext := none }).setB (swd p) SWD_RUNGSTAT.PACE on
    let m := (List.range 64).foldl (fun m t =>
      queueOwn p t 0x500 (setBits (imageValue p t 0x500 m) 28 1 (bit on)) m) m
    let m := m.modHeath fun h =>
      { h with paceOn := if on then p.val :: h.paceOn.filter (fun k => k != p.val) else h.paceOn.filter fun k => k != p.val }
    m.setB 0 HTH_PACESTAT.ON (!(liveParts m).isEmpty && (liveParts m).all fun k => m.heath.paceOn.contains k)

/-- Pace break of the present frame (R257). -/
def paceBreakEval (p : Nat) (m : Wafer) : Wafer :=
  let b := swd p
  let brk := m.on b SWD_RUNGSTAT.PACE && decide (m.get b SWD_RUNGSTAT.RUNG < variantPaceRung m.fuse)
  let first := brk && !(m.sward p).inBreak
  let m := (m.setB b SWD_RUNGSTAT.PBREAK brk).modSward p fun x => { x with inBreak := brk }
  let m := if brk then tally p 34 m else m
  if first then
    let m := swardFault p 39 (m.get b SWD_RUNGSTAT.RUNG) 0 (m.send .paceBreak p [])
    (m.set 0 HTH_PACESTAT.BREAK 1).incSat 0 HTH_PACESTAT.BREAK_CNT
  else m

/-- CANARY_STRETCH_WINDOW_END (R239), at WTIME w: a window ends at each multiple of 819,200
ticks. -/
def doCanaryStretchWindowEnd (g : Fin 4096) (w : Nat) (m : Wafer) : Wafer :=
  let m := m.at w
  let u := UnitId.tussock g
  let x := m.unit u
  if w % 819200 ≠ 0 ∨ w / 819200 ≤ x.strWindow then m
  else
  let act := m.on u.base TSK_STR.ACT
  let ticks := x.strTicks + (if act then w - x.strSince else 0)
  let m := m.set u.base TSK_PACE.STR_LAST (min 2047 (ticks / 800))
  let m := m.modUnit u fun x =>
    { x with strTicks := 0, strSince := if act then w else x.strSince, strWindow := w / 819200 }
  if m.on u.base TSK_CANARY.STR_EN ∧ 800 * m.get u.base TSK_PACE.STR_LIM < ticks then
    (m.modUnit u fun x => { x with canaryFrame := true }).set u.base TSK_CANARY.STR_L 1
  else m

end Sys2Proof.Machine
end

