-- ==== Sys2Proof/Machine/Mirror.lean ====
section
/-! DEFINITION.  The mirror that the standby Heath keeps (R333), and how a command's effect
becomes a step: what it changed of the mirrored state goes out as a record. -/

namespace Sys2Proof.Machine

/-- The mirrored state of the controller (R333). (DESIGN CHOICE: log 8.) -/
def mirrored (m : Wafer) : Mirrored :=
  let h := m.heath
  let l := m.regs.filter fun e => decide (e.1 < 0x1000000)
  let page := HTH_SMBCFG.PAGE
  { regs := Store.set (resetWord m.fuse) l page.off (setBits (Store.get (resetWord m.fuse) l page.off) page.lo page.wid 0),
    leaseSeq := h.leaseSeq, retireMap := h.retireMap, mapPend := h.mapPend, lselSmb := h.lselSmb, fault := h.fault,
    commons := h.commons }

/-- The Heath that takes over goes on from its mirror (R333, R335); the pins keep their
levels. -/
def takeMirrored (m : Wafer) : Wafer :=
  let x := m.heath.mirror
  let pins := m.word 8
  let m := { m with regs := m.regs.filter fun e => decide (0x1000000 ≤ e.1) }
  let m := (x.regs.foldl (fun m e => m.putWord e.1 e.2) m).putWord 8 pins
  m.modHeath fun h =>
    { h with leaseSeq := x.leaseSeq, retireMap := x.retireMap, mapPend := x.mapPend, lselSmb := x.lselSmb,
             fault := x.fault, commons := x.commons }

/-- Number of the next mirror record. -/
def nextRecord (m : Wafer) : Nat := (m.heath.mirrorSent + 1) % 2 ^ 16

/-- A service-window write waits for the record that is still to go out (R333). -/
def recordAwaited (m : Wafer) : Bool :=
  match m.heath.swOut with
  | some (_, some s) => s == nextRecord m
  | _ => false

/-- A standby is kept up to date. -/
def mirrors (m : Wafer) : Bool := m.heath.active && m.on 0 HTH_HBSTAT.STBY_OK

/-- What a command from `m` to `n` changed of the mirrored state goes to the standby as one
record; where the standby has just come up, `n` is the copy it starts from (R333, R336).
(DESIGN CHOICE: log 8.) -/
def mirrorStep (m n : Wafer) : Wafer :=
  if !mirrors n then n
  else if !mirrors m then n.modHeath fun h => { h with mirrorQ := [], mirror := mirrored n }
  else if mirrored n = mirrored m ∧ recordAwaited n = false then n
  else
    let k := nextRecord n
    (n.modHeath fun h => { h with mirrorSent := k, mirrorQ := h.mirrorQ ++ [(k, mirrored n)] }).send .mirror
      (1 - n.heath.activeId) [k]

/-- An effect on the controller with its mirror record, and the queue as it was.
(DESIGN CHOICE: log 1.) -/
def State.run (s : State) (f : Wafer → Wafer) : Result := .next { s with w := mirrorStep s.w (f s.w) }

end Sys2Proof.Machine
end

