-- ==== Sys2Proof/Machine/Fault.lean ====
section
/-! DEFINITION.  Chapter 12, fault collection and reaction at the active Heath:
severities, actions, alarms, episodes and grace timers, first-error capture, the
capture FIFO and the record ring, last-fault records and fault injection. -/

namespace Sys2Proof.Machine

def Wafer.modFault (m : Wafer) (f : FaultSt → FaultSt) : Wafer := m.modHeath fun h => { h with fault := f h.fault }

def Wafer.source (m : Wafer) (c : Nat) : SourceSt := Store.get noSource m.heath.fault.sources c

def Wafer.setSource (m : Wafer) (c : Nat) (x : SourceSt) : Wafer :=
  m.modFault fun f => { f with sources := Store.set noSource f.sources c x }

/-! ### Bitmaps over two registers (Table 12.8) -/

/-- Bit c of a pair of 32-bit registers. -/
def pairBit (lo hi : Fld) (c : Nat) (m : Wafer) : Bool :=
  if c < 32 then (m.get 0 lo).testBit c else (m.get 0 hi).testBit (c - 32)

/-- Set or clear bit c of a pair of 32-bit registers. -/
def setPairBit (lo hi : Fld) (c : Nat) (v : Bool) (m : Wafer) : Wafer :=
  let f := if c < 32 then lo else hi
  m.putWord f.off (setBits (m.word f.off) (c % 32) 1 (bit v))

/-- The 64-bit map of a list of numbers. -/
def bitmap (l : List Nat) : Nat := (((List.range 64).filter fun i => l.contains i).map fun i => 2 ^ i).sum

def pending (c : Nat) (m : Wafer) : Bool := pairBit HTH_FPEND_LO.PEND HTH_FPEND_HI.PEND c m

/-! ### Pins (R79, R85, R399, R420) -/

/-- PWR_IRQ (R79, R399); high while no Heath passed its self-test (R314). -/
def pwrIrq (m : Wafer) : Bool :=
  m.on 0 HTH_BUSTAT.HALT || (m.heath.active && (List.range 64).any fun c => pending c m && m.on 0 (HTH_FSEV.IRQ_EN c))

/-- SMB_ALERT# driven low (R85, R420). -/
def smbAlert (m : Wafer) : Bool :=
  m.heath.active && (List.range 64).any fun c =>
    pending c m && m.on 0 (HTH_FSEV.ALERT_EN c) && !m.heath.fault.answered.contains c

/-! ### Scopes (R391, R394) -/

/-- Sources of wafer scope (Table 12.1). -/
def waferScope (c : Nat) : Bool := c == 40 || decide (43 ≤ c)

/-- The partition a unit reference names; none for a Heath's, or for an index that
names no unit. -/
def refPart (r : Nat) : Option Nat :=
  let i := r / 2 ^ 16 % 4096
  match r / 2 ^ 30 with
  | 0 => some (i / 64)
  | 1 => if i < 224 then some (edgePart (i / 8)) else none
  | 2 => if i < 64 then some i else none
  | _ => none

/-- Partitions an action of source c reaches (R394). -/
def scopeParts (c unit : Nat) (m : Wafer) : List Nat :=
  if waferScope c || unit / 2 ^ 30 == 3 then liveParts m
  else match refPart unit with
    | some p => [p]
    | none => []

/-- Reference of the active Heath (Table 1.3). -/
def heathRef (m : Wafer) : Nat := 0xC0000000 + m.heath.activeId * 2 ^ 16

/-! ### Hedgerow unicasts (R327) -/

/-- A unicast to a Sward that awaits its answer; a newer one of its kind and address
replaces an older one. (DESIGN CHOICE: log 7.) -/
def unicast (p : Nat) (k : UnicastKind) (addr : Nat) (data : List Nat) (m : Wafer) : Wafer :=
  m.modHeath fun h =>
    { h with unicasts := (h.unicasts.filter fun x => !(x.part == p && x.kind == k && x.addr == addr)) ++ [⟨p, k, m.wtime, addr, 1, data⟩] }

/-- A Sward has answered: its unicast of a kind is done, and it is no longer marked
unreachable. -/
def answered (p : Nat) (k : UnicastKind) (m : Wafer) : Wafer :=
  setPairBit HTH_UNREACH_LO.UNREACH HTH_UNREACH_HI.UNREACH p false
    (m.modHeath fun h => { h with unicasts := h.unicasts.filter fun x => !(x.part == p && x.kind == k) })

/-! ### Records (R407 to R410, R413) -/

/-- Words 0 to 6 of a fault record (Table 12.4). -/
def recordWords (x : FifoEntry) (sub rseq : Nat) : List Nat :=
  let e := x.event
  [e.code * 2 ^ 26 + x.act * 2 ^ 23 + bit x.escalated * 2 ^ 22 + bit e.injected * 2 ^ 21 + sub % 2 ^ 16,
   e.unit % 2 ^ 32, e.dataA % 2 ^ 32, e.dataB % 2 ^ 32, e.time % 2 ^ 32, e.time / 2 ^ 32 % 2 ^ 32, rseq % 2 ^ 32]

/-- Words with their CRC-32 after them. -/
def withCrc (l : List Nat) : List Nat := l ++ [crc32 (l.flatMap wordBytes)]

/-- Store a list of words from an address on. -/
def putWords (a : Nat) (l : List Nat) (m : Wafer) : Wafer :=
  ((List.range l.length).zip l).foldl (fun m e => m.putWord (a + 4 * e.1) (BitVec.ofNat 32 e.2)) m

/-- A record enters the capture FIFO of 16, or counts as subsequent: the FIFO is full,
or its oldest entry, the one being written, is of the same source (R407). (DEDUCED: log 33.) -/
def capture (x : FifoEntry) (m : Wafer) : Wafer :=
  let f := m.heath.fault.fifo
  let writing : Bool := match f.head? with | some y => y.event.code == x.event.code | none => false
  if 16 ≤ f.length ∨ writing then
    m.incSat 0 (HTH_FSUB.SUBSEQ x.event.code)
  else
    let m := m.modFault fun z => { z with fifo := z.fifo ++ [x] }
    m.set 0 HTH_FSTAT.FIFO_HWM (max (m.get 0 HTH_FSTAT.FIFO_HWM) (f.length + 1))

/-- The last-fault record of a wafer trip (R413, Table 12.5). (DEDUCED: log 33.) -/
def lastFault (x : FifoEntry) (m : Wafer) : Wafer :=
  let next := m.get 0 HTH_LFCTL.NEXT
  let m := (m.set 0 HTH_LFCTL.NEXT (next + 1)).incSat 0 HTH_LFCTL.TOTAL
  let rec8 := withCrc (recordWords x (m.get 0 (HTH_FSUB.SUBSEQ x.event.code))
    (m.get 0 HTH_FRING_WP.WP + m.heath.fault.fifo.length))
  let l := rec8 ++
    [m.get 0 HTH_CAPEFF.CAP_EFF, m.get 0 HTH_WEST.EST, m.get 0 MTR_PIN.PIN, m.get 0 HTH_INLET.INLET,
     m.get 0 HTH_LIVE_LO.LIVE, m.get 0 HTH_LIVE_HI.LIVE,
     m.get 0 HTH_HBSTAT.TAKEOVERS * 2 ^ 24 + m.get 0 HTH_HBSTAT.GEN * 2 ^ 16 + m.get 0 HTH_LFCTL.TOTAL]
  nvmQueue 5 (putWords (0x21000 + 0x40 * next) (withCrc l) m)

/-! ### Severity actions (R393 to R398) -/

/-- HTH_FCONT shows the partitions that some containment episode names (R395). -/
def contEval (m : Wafer) : Wafer :=
  let b := bitmap (m.heath.fault.sources.flatMap fun e => e.2.cont)
  (m.set 0 HTH_FCONT_LO.CONT (b % 2 ^ 32)).set 0 HTH_FCONT_HI.CONT (b / 2 ^ 32)

/-- Whether a partition is contained (R395). -/
def contained (p : Nat) (m : Wafer) : Bool := pairBit HTH_FCONT_LO.CONT HTH_FCONT_HI.CONT p m

/-- Containment of partitions by an episode of source c (R395). -/
def contain (c : Nat) (parts : List Nat) (m : Wafer) : Wafer :=
  let x := m.source c
  contEval (m.setSource c { x with cont := x.cont ++ parts.filter fun p => !x.cont.contains p })

/-- Partition trips (R396). -/
def partitionTrip (parts : List Nat) (m : Wafer) : Wafer :=
  parts.foldl (fun m p => unicast p .trip 0 [] (m.send .partitionTrip p [])) (m.set 0 HTH_FSTAT.PTRIP 1)

/-- THERMTRIP# sources (R90, R397). -/
def isOverTemp (c : Nat) : Bool := c == 9 || c == 10 || c == 58

/-- A wafer trip at the Heath (R90, R397, R398, R413). -/
def waferTrip (x : FifoEntry) (m : Wafer) : Wafer :=
  let m := m.modFault fun f => { f with flTrip := true }
  let m := (m.send .waferTrip 64 []).set 0 HTH_FSTAT.WTRIP 1
  let m := if isOverTemp x.event.code then m.set 0 HTH_PINSTAT.THERMTRIP 1 else m
  lastFault x m

/-- The action of a severity (Table 12.2). -/
def severityAction (x : FifoEntry) (parts : List Nat) (m : Wafer) : Wafer :=
  match x.act with
  | 3 => contain x.event.code parts m
  | 4 => partitionTrip parts m
  | 5 => waferTrip x m
  | _ => m

/-! ### Alarms and episodes (R399 to R404) -/

/-- The alarm of a source (R399, R420). -/
def alarm (c : Nat) (m : Wafer) : Wafer :=
  if pending c m then m
  else
    let en := m.on 0 (HTH_FSEV.ALERT_EN c)
    let m := setPairBit HTH_FPEND_LO.PEND HTH_FPEND_HI.PEND c true m
    m.modFault fun f =>
      if en then { f with answered := f.answered.filter (fun k => k != c), released := false }
      else if f.released then { f with answered := c :: f.answered } else f

/-- Grace period in WTIME ticks (Table 12.3). -/
def gracePeriod (g : Nat) : Nat :=
  800 * [10, 20, 50, 100, 200, 500, 1000, 2000, 5000, 10000, 20000, 50000, 100000, 200000, 500000, 1000000].getD g 10

/-- Whether a source's grace timer runs shows in HTH_FGRACE (R402). -/
def graceBit (c : Nat) (v : Bool) (m : Wafer) : Wafer :=
  setPairBit HTH_FGRACE_LO.GRACE HTH_FGRACE_HI.GRACE c v m

/-- An event begins an episode of its source, or adds its partitions to the one under
way (R402); `was` is the pending bit before its alarm. -/
def episodeEvent (x : FifoEntry) (parts : List Nat) (was : Bool) (m : Wafer) : Wafer :=
  let c := x.event.code
  let s := m.source c
  match s.episode with
  | some ep =>
    m.setSource c { s with episode := some { ep with parts := ep.parts ++ parts.filter fun p => !ep.parts.contains p } }
  | none =>
    if !was ∧ (x.act = 2 ∨ x.act = 3) then
      let esc := m.get 0 (HTH_FSEV.ESC c)
      let timed : Bool := decide (x.act < esc)
      let ep : Episode :=
        ⟨x.event, parts, if timed then some (m.wtime + gracePeriod (m.get 0 (HTH_FSEV.GRACE c))) else none, esc⟩
      graceBit c timed (m.setSource c { s with episode := some ep })
    else m

/-- Acknowledgement of a source (R400). -/
def ackSource (c : Nat) (m : Wafer) : Wafer :=
  let m := setPairBit HTH_FPEND_LO.PEND HTH_FPEND_HI.PEND c false m
  let m := graceBit c false (m.setSource c {})
  contEval (m.modFault fun f => { f with answered := f.answered.filter fun k => k != c })

/-! ### First-error capture (R405, R406) -/

/-- An event fills the first-error capture, or counts in MORE (R405).  An access error
carries its HTH_FEC_INFO in DATA_A and its address in DATA_B (R406). (DEDUCED: log 44.) -/
def firstError (e : FaultEvent) (m : Wafer) : Wafer :=
  if m.on 0 HTH_FEC_INFO.VALID then m.incSat 0 HTH_FEC_INFO.MORE
  else
    let info := if e.code = 57 then getBits (BitVec.ofNat 32 e.dataA) 14 8 * 2 ^ 14 else 0
    putWords 0x20030
      [0x80000000 + e.code * 2 ^ 22 + info, e.unit % 2 ^ 32, if e.code = 57 then e.dataB % 2 ^ 30 else 0,
       e.time % 2 ^ 32, e.time / 2 ^ 32 % 2 ^ 32] m

/-! ### Events (R393) -/

/-- The live retire map takes a phase that a report names (R191). (DEDUCED: logs 32, 43.) -/
def retireReport (e : FaultEvent) (m : Wafer) : Wafer :=
  if e.code = 1 ∧ e.unit.testBit 2 ∧ ¬ e.injected then
    let i := e.unit / 2 ^ 16 % 4096
    match e.unit / 2 ^ 30 with
    | 0 => m.liveRetire (.tussock (Fin.ofNat 4096 i)) (e.unit % 4) true
    | 1 => if i < 224 then m.liveRetire (.verge (Fin.ofNat 224 i)) (e.unit % 4) true else m
    | _ => m
  else m

/-- The active Heath receives an event with its subsequent count (R393). (DEDUCED: log 32.) -/
def heathEvent (e : FaultEvent) (sub : Nat) (m : Wafer) : Wafer :=
  let c := e.code
  let m := retireReport e (m.addSat 0 (HTH_FCNT.COUNT c) (1 + sub))
  let sev := m.get 0 (HTH_FSEV.SEV c)
  if sev = 0 then (if c = 57 then firstError e m else m)
  else
    let x : FifoEntry := ⟨e, sev, false⟩
    let parts := scopeParts c e.unit m
    let was := pending c m
    let m := if 2 ≤ sev then alarm c m else m
    let m := episodeEvent x parts was m
    let m := if 2 ≤ sev ∨ c = 57 then firstError e m else m
    capture x (severityAction x parts m)

/-- The Heath raises a source of its own under a unit reference. -/
def heathFaultAt (c unit dataA dataB : Nat) (m : Wafer) : Wafer :=
  heathEvent { code := c, unit := unit, dataA := dataA % 2 ^ 32, dataB := dataB % 2 ^ 32, time := m.wtime } 0 m

/-- The Heath raises a source under its own reference. -/
def heathFault (c dataA dataB : Nat) (m : Wafer) : Wafer := heathFaultAt c (heathRef m) dataA dataB m

/-! ### Access errors and interfaces (R56, R406, R417, R418, R427, R428) -/

/-- An access error by a master (Table 11.5): TYPE is 1 for a read and 2 for a write, ERR
as Table 12.9 lists. (DEDUCED: log 44.) -/
def accessError (master ty err a : Nat) (m : Wafer) : Wafer :=
  heathFault 57 (0x80000000 + 57 * 2 ^ 22 + master * 2 ^ 19 + ty * 2 ^ 17 + err * 2 ^ 14) a m

/-- The service window answers ERROR (R428): counted, and with its code shown. -/
def windowError (err a : Nat) (m : Wafer) : Wafer :=
  ((m.incSat 0 HTH_SWSTAT.ERR_CNT).set 0 HTH_SWSTAT.LAST_ERR err).send .windowError 64 [err, a]

/-- An ERROR for which R428 gives no code: in a halted wafer and at a takeover.
(DESIGN CHOICE: log 16.) -/
def windowErrorUncoded (a : Nat) (m : Wafer) : Wafer :=
  windowError (Config.errOfRefusal m.fresh % 8) a { m with fresh := m.fresh + 1 }

/-- The service window refuses an access and records it (R406, R428). -/
def windowRefuse (ty err a : Nat) (m : Wafer) : Wafer := accessError 2 ty err a (windowError err a m)

/-- An SMBus protocol error of a kind (R417): its flag and source 61. -/
def smbusError (f : Fld) (kind : Nat) (m : Wafer) : Wafer := heathFault 61 kind 0 (m.set 0 f 1)

/-- An SMBus transaction is abandoned (R418); `write` where a partial write is
discarded. -/
def smbusAbandon (write : Bool) (m : Wafer) : Wafer :=
  let m := (m.modHeath fun h => { h with smbBusy := false }).incSat 0 HTH_SMBSTAT.ABANDON_CNT
  smbusError HTH_SMBSTAT.STALL 4 (if write then m.incSat 0 HTH_SMBCNT.DISCARD else m)

/-- An interface's access that its Hedgerow message gave up (R327, R406, R428). -/
def abandonAccess (x : Unicast) (m : Wafer) : Wafer :=
  let ty := x.data.getD 1 0
  let busy := m.heath.smbBusy
  match x.data.headD 0 with
  | 2 => windowRefuse ty 5 x.addr (m.modHeath fun h => { h with swOut := none })
  | 3 =>
    let m := m.modHeath fun h => { h with smbBusy := false }
    accessError 3 ty 5 x.addr (if ty = 1 ∧ busy then m.send .smbus 64 [5, 0, 0, 0, 0, 5] else m)
  | _ => m

/-- The outstanding service-window write has its response (R333, R427). -/
def windowWritten (m : Wafer) : Wafer :=
  match m.heath.swOut with
  | some (a, _) => (m.modHeath fun h => { h with swOut := none }).send .windowOk 64 [a]
  | none => m

/-- A record of the standby's acknowledgement, or its loss, releases the response that
waits for it (R333). -/
def mirrorAcked (seq : Option Nat) (m : Wafer) : Wafer :=
  match m.heath.swOut with
  | some (_, some s) => if seq.isNone || seq == some s then windowWritten m else m
  | _ => m

/-- FAULT_REPORT_RECEIVE (R389, R393), at WTIME w: a report of a Sward, or under
sender 64 one of the standby Heath (R387).  It is acted on once. (DESIGN CHOICE: log 57.) -/
def doFaultReportReceive (sender : Fin 65) (seq : BitVec 16) (code : Fin 64) (unit dataA dataB : Word)
    (time : BitVec 64) (sub : BitVec 16) (injected : Bool) (w : Nat) (m : Wafer) : Wafer :=
  let key := (sender.val, seq.toNat)
  received (64 + m.heath.activeId) (fun m =>
    if !m.heath.active || m.heath.fault.seen.contains key then m
    else
      let m := m.modFault fun f => { f with seen := key :: f.seen }
      heathEvent ⟨code, unit.toNat, dataA.toNat, dataB.toNat, time.toNat, injected⟩ sub.toNat m) (m.at w)

/-- The active Heath may acknowledge a report: it has acted on it, and the standby, where there
is one, has acknowledged the mirror record of it (R389). -/
def mayAck (key : Nat × Nat) (m : Wafer) : Bool :=
  m.heath.active && m.heath.fault.seen.contains key
    && (!mirrors m || m.heath.mirror.fault.seen.contains key)

/-- FAULT_REPORT_ACK (R389): a report that the Heath has acted on leaves its Sward's
queue. -/
def doFaultReportAck (p : Fin 64) (seq : BitVec 16) (m : Wafer) : Wafer :=
  let key := (p.val, seq.toNat)
  received p (fun m =>
    if mayAck key m then
      let m := (m.modFault fun f => { f with seen := f.seen.filter fun k => k != key }).send .reportAck p [seq.toNat]
      m.modSward p fun x => { x with reports := x.reports.filter fun r => r.seq != seq.toNat }
    else m) m

/-- FAULT_REPORT_RESEND (R389). -/
def doFaultReportResend (p : Fin 64) (seq : BitVec 16) (m : Wafer) : Wafer :=
  match (m.sward p).reports.find? fun r => r.seq == seq.toNat with
  | some r =>
    let e := r.event
    (m.incSat (swd p) SWD_FSTAT.RESENDS).send .report p [r.seq, e.code, e.unit, e.dataA, e.dataB, e.time, r.subsequent]
  | none => m

/-- ACK (R400). -/
def doAck (c : Fin 64) (m : Wafer) : Wafer := ackSource c m

/-- ALL (R400). -/
def doAll (m : Wafer) : Wafer := m.each (List.range 64) fun c m => ackSource c m

/-- A write of HTH_FACK. -/
def fackWrite (data : Word) (m : Wafer) : Wafer :=
  if data.getLsbD 30 then doAll m else if data.getLsbD 31 then ackSource (getBits data 0 6) m else m

/-- GRACE_TIMER_EXPIRE (R392, R403, R404), at WTIME w: the action is that of the ESC
which the episode's first event took. (DESIGN CHOICE: log 6.) -/
def doGraceTimerExpire (c : Fin 64) (w : Nat) (m : Wafer) : Wafer :=
  let m := m.at w
  let s := m.source c
  match s.episode with
  | some ep =>
    match ep.expiry with
    | some t =>
      if t ≤ w ∧ m.heath.active then
        let x : FifoEntry := ⟨ep.first, ep.esc, true⟩
        let m := graceBit c false (m.setSource c { s with episode := some { ep with expiry := none } })
        let m := setPairBit HTH_FESC_LO.ESC HTH_FESC_HI.ESC c true (alarm c m)
        capture x (severityAction x ep.parts m)
      else m
    | none => m
  | none => m

/-- FEC_CLEAR (R405). -/
def doFecClear (m : Wafer) : Wafer := putWords 0x20030 [0, 0, 0, 0, 0] m

/-- FL_TRIP_RELEASE (R398). -/
def doFlTripRelease (m : Wafer) : Wafer := m.modFault fun f => { f with flTrip := false }

/-! ### Record ring (R408 to R410) -/

/-- A fault trace copy (R410). -/
def traceCopy (rseq time : Nat) (l : List Nat) (m : Wafer) : Wafer :=
  if !m.on 0 HTH_FTRC.EN then m
  else if 4 ≤ m.heath.fault.sendBuf.length then m.incSat 0 HTH_FTRC.DROP
  else
    let addr := m.get64 0 HTH_FTRC_BASE_LO.ADDR HTH_FTRC_BASE_HI.ADDR + 64 * (rseq % 2 ^ min 20 (m.get 0 HTH_FTRC.RING_LOG2))
    m.modFault fun f => { f with sendBuf := f.sendBuf ++ [⟨.trace, time, addr, l ++ List.replicate 8 0⟩] }

/-- FAULT_RECORD_WRITE (R407 to R409): the writer completes the oldest FIFO entry. -/
def doFaultRecordWrite (m : Wafer) : Wafer :=
  match m.heath.fault.fifo with
  | [] => m
  | x :: rest =>
    let c := x.event.code
    let wp := m.get 0 HTH_FRING_WP.WP
    let rp := m.get 0 HTH_FRING_RP.RP
    let full : Bool := decide ((wp + 2 ^ 32 - rp) % 2 ^ 32 = 1023)
    let l := withCrc (recordWords x (m.get 0 (HTH_FSUB.SUBSEQ c)) wp)
    let m := (m.set 0 (HTH_FSUB.SUBSEQ c) 0).modFault fun f => { f with fifo := rest }
    let m := traceCopy wp x.event.time l (putWords (0x800000 + 0x20 * (wp % 1024)) l m)
    if full then
      let m := if m.on 0 HTH_FRING_STAT.NEWEST then m.incSat 0 HTH_FRING_STAT.DROP else m
      m.set 0 HTH_FRING_STAT.NEWEST 1
    else
      let m := m.set 0 HTH_FRING_WP.WP (wp + 1)
      if (wp + 1 + 2 ^ 32 - rp) % 2 ^ 32 = 1023 then
        heathFault 62 (m.get 0 HTH_FRING_STAT.DROP) 0 (m.set 0 HTH_FRING_STAT.FULL 1)
      else m

/-- Records that a write of HTH_FRING_RP reads on by (R409): a value beyond WP is taken as WP,
one below RP is ignored.  The counts wrap; a value up to half their range ahead of RP lies
beyond it. (DEDUCED: log 33.) -/
def ringAdvance (data : Word) (m : Wafer) : Nat :=
  let rp := m.get 0 HTH_FRING_RP.RP
  let ahead := (data.toNat + 2 ^ 32 - rp) % 2 ^ 32
  if ahead < 2 ^ 31 then min ahead ((m.get 0 HTH_FRING_WP.WP + 2 ^ 32 - rp) % 2 ^ 32) else 0

/-- RING_RP_WRITE (R409). -/
def doRingRpWrite (data : Word) (m : Wafer) : Wafer :=
  let wp := m.get 0 HTH_FRING_WP.WP
  let v := (m.get 0 HTH_FRING_RP.RP + ringAdvance data m) % 2 ^ 32
  if ringAdvance data m ≠ 0 then
    let m := m.set 0 HTH_FRING_RP.RP v
    let m := if m.on 0 HTH_FRING_STAT.NEWEST then (m.set 0 HTH_FRING_WP.WP (wp + 1)).set 0 HTH_FRING_STAT.NEWEST 0 else m
    m.setB 0 HTH_FRING_STAT.FULL (decide ((m.get 0 HTH_FRING_WP.WP + 2 ^ 32 - v) % 2 ^ 32 = 1023))
  else m

/-! ### Control registers -/

/-- A write of HTH_LFCTL (R413). -/
def lfctlWrite (data : Word) (m : Wafer) : Wafer :=
  if getBits data 24 8 = 0x5A ∧ data.getLsbD 23 then
    let m := m.each (List.range 256) fun i m => m.putWord (0x21000 + 4 * i) 0
    nvmQueue 5 ((m.set 0 HTH_LFCTL.NEXT 0).set 0 HTH_LFCTL.TOTAL 0)
  else m

/-- LAST_FAULT_CLEAR (R413): a write of HTH_LFCTL with KEY = 0x5A and CLR = 1. -/
def doLastFaultClear (m : Wafer) : Wafer := lfctlWrite 0x5A800000 m

/-- A write of HTH_FINJ_CTL (R414). -/
def finjWrite (data : Word) (m : Wafer) : Wafer :=
  if m.on 0 HTH_PINSTAT.TEST_ON ∧ data.getLsbD 31 then
    let e : FaultEvent :=
      ⟨getBits data 0 6, m.get 0 HTH_FINJ_UNIT.UNIT, m.get 0 HTH_FINJ_DA.DATA_A, m.get 0 HTH_FINJ_DB.DATA_B, m.wtime, true⟩
    let p := getBits data 8 6
    if data.getLsbD 30 then (if (m.sward p).rst || (m.sward p).passedBy then m else queueReport p e m) else heathEvent e 0 m
  else m

/-- FAULT_INJECT (R414). -/
def doFaultInject (origin : Bool) (part : Fin 64) (src : Fin 64) (m : Wafer) : Wafer :=
  finjWrite (BitVec.ofNat 32 (2 ^ 31 + bit origin * 2 ^ 30 + part.val * 2 ^ 8 + src.val)) m

/-- A write of HTH_FSEV[c] (R392). -/
def fsevWrite (c : Nat) (data : Word) (m : Wafer) : Wafer :=
  let m := plainWrite (0x20100 + 4 * c) data m
  let lo := m.get 0 (HTH_FSEV.MIN c)
  clampField 0 (HTH_FSEV.SEV c) lo 5 (some HTH_FSTAT.SEV_CLAMP)
    (clampField 0 (HTH_FSEV.ESC c) lo 5 (some HTH_FSTAT.SEV_CLAMP) m)

/-- MESH_PACKET_SENT of the Heath's send buffer (R410): the oldest copy leaves. -/
def heathPacketSent (m : Wafer) : Wafer :=
  match m.heath.fault.sendBuf with
  | [] => m
  | k :: rest => (m.modFault fun f => { f with sendBuf := rest }).send .faultCopy 64 (k.epoch :: k.addr :: k.payload)

end Sys2Proof.Machine
end

