-- ==== Sys2Proof/Machine/Budget.lean ====
section
/-! DEFINITION.  Chapter 08: the cap in force, leases, epochs and brakes, contexts and
Swath tables, links, and the Commons. -/

namespace Sys2Proof.Machine

/-! ### The cap in force (R264 to R267) -/

/-- A configured point of the derating table (R266): T in °C, C in steps of 10 W. -/
def deratePoint (k : Nat) (m : Wafer) : Nat × Nat := (min 120 (m.get 0 (HTH_DERATE.TEMP k)), m.get 0 (HTH_DERATE.CAP k))

def derateTable (m : Wafer) : List (Nat × Nat) := (List.range 8).map fun k => deratePoint k m

/-- The reset table of Table 8.11, the last valid one at wafer reset (R267). -/
def resetDerate : List (Nat × Nat) := (List.range 8).map fun k => (20 + 5 * k, 0xFFFF)

/-- Whether temperatures strictly ascend (R267). -/
def ascending : List (Nat × Nat) → Bool
  | [] => true
  | [_] => true
  | a :: b :: t => decide (a.1 < b.1) && ascending (b :: t)

def validDerate (m : Wafer) : List (Nat × Nat) := m.heath.derate.getD resetDerate

/-- The derated cap in steps of 10 W at a temperature in m°C (R266). -/
def derateAt (t : Int) : List (Nat × Nat) → Nat
  | [] => 0xFFFF
  | [a] => a.2
  | a :: b :: rest =>
    if t ≤ 1000 * (a.1 : Int) then a.2
    else if t < 1000 * (b.1 : Int) then
      ((a.2 : Int) + ((b.2 : Int) - a.2) * (t - 1000 * a.1) / (1000 * ((b.1 : Int) - a.1))).toNat
    else derateAt t (b :: rest)

/-- Share of a Commons member (R293). -/
def cmnN (m : Wafer) : Nat := clampN 1 64 (m.get 0 HTH_CMNCFG.N)

def groupCap (m : Wafer) : Nat := max (m.get 0 HTH_CMNCAP.GROUP_CAP) (5000 * cmnN m)

def cmnShare (m : Wafer) : Nat := groupCap m / cmnN m

/-- A member's ceiling (R298). -/
def cmnCeiling (m : Wafer) : Nat :=
  min (variantCapW m.fuse) (min (m.get 0 HTH_CAPREQ.PMB_CAP) (10 * m.get 0 HTH_DERSTAT.DER_CAP))

/-- The Commons term (R294, R300, R301). -/
def cmnTerm (m : Wafer) : Nat :=
  match m.heath.commons.grant with
  | some (g, _) => min g (cmnCeiling m)
  | none => cmnShare m

/-- The terms of R264 with their LIMIT_BY codes; on a tie the earlier one is named. -/
def capTerms (m : Wafer) : List (Nat × Nat) :=
  [(variantCapW m.fuse, 0), (m.get 0 HTH_CAPREQ.PMB_CAP, 1), (10 * m.get 0 HTH_DERSTAT.DER_CAP, 2)]
    ++ (if m.on 0 HTH_CMNCFG.EN then [(cmnTerm m, if m.heath.commons.grant.isSome then 3 else 4)] else [])

/-- The least term with its code, the first of equal ones.  (DEDUCED: log 29.) -/
def leastTerm (l : List (Nat × Nat)) : Nat × Nat :=
  l.foldl (fun a e => if e.1 < a.1 then e else a) (l.headD (0, 0))

/-- CAP_EFF is recomputed (R264). -/
def capEval (m : Wafer) : Wafer :=
  let m := m.set 0 HTH_CMNGRANT.GRANT (if m.on 0 HTH_CMNCFG.EN then cmnTerm m else 0)
  let t := leastTerm (capTerms m)
  let t := if t.1 < 5000 then (5000, 5) else t
  (m.set 0 HTH_CAPEFF.CAP_EFF t.1).set 0 HTH_CAPEFF.LIMIT_BY t.2

/-- The derated cap follows the inlet reading and the table (R266, R267). -/
def derateEval (m : Wafer) : Wafer :=
  let tbl := validDerate m
  let m :=
    match m.heath.inlet with
    | some t => ((m.set 0 HTH_DERSTAT.DER_FAIL 0).setI 0 HTH_INLET.INLET t).set 0 HTH_DERSTAT.DER_CAP (derateAt t tbl)
    | none => (m.set 0 HTH_DERSTAT.DER_FAIL 1).set 0 HTH_DERSTAT.DER_CAP (tbl.foldl (fun a e => min a e.2) 0xFFFF)
  capEval m

/-- A write of HTH_CAPREQ (R265). -/
def capreqWrite (data : Word) (m : Wafer) : Wafer :=
  capEval (clampField 0 HTH_CAPREQ.PMB_CAP 5000 0xFFFF (some HTH_CAPEFF.CAP_CLAMP) (plainWrite 0x10000 data m))

/-- CAP_REQUEST_WRITE (R265). -/
def doCapRequestWrite (cap : BitVec 16) (m : Wafer) : Wafer := capreqWrite (BitVec.ofNat 32 cap.toNat) m

/-- A write of HTH_DERATE[k] (R267, R302). -/
def derateWrite (k : Nat) (data : Word) (m : Wafer) : Wafer :=
  let m := plainWrite (0x10040 + 4 * k) data m
  let m := if 120 < m.get 0 (HTH_DERATE.TEMP k) then m.set 0 HTH_CAPEFF.CAP_CLAMP 1 else m
  let tbl := derateTable m
  if ascending tbl then derateEval (m.modHeath fun h => { h with derate := some tbl })
  else m.set 0 HTH_DERSTAT.TBL_ERR 1

/-- DERATE_TABLE_WRITE (R267). -/
def doDerateTableWrite (k : Fin 8) (data : Word) (m : Wafer) : Wafer := derateWrite k data m

/-- The inlet reading is unavailable (R267). -/
def inletLost (m : Wafer) : Wafer := heathFault 47 0 0 (derateEval (m.modHeath fun h => { h with inlet := none }))

/-- INLET_READING_TIMEOUT (R267): channel 32 has given no result for 1 s. -/
def doInletReadingTimeout (m : Wafer) : Wafer := inletLost m

/-- A code of HTH_CAPCFG or HTH_FASTCFG is out of range (R302). -/
def budgetBad (off : Nat) (m : Wafer) : Bool :=
  if off = 0x10008 then
    m.get 0 HTH_CAPCFG.DUR == 0 || decide (100 < m.get 0 HTH_CAPCFG.RSV ∨ m.get 0 HTH_CAPCFG.FLOOR_PCT < 10 ∨ 100 < m.get 0 HTH_CAPCFG.FLOOR_PCT)
  else if off = 0x10010 then m.get 0 HTH_FASTCFG.PARTIAL_N == 0 || m.get 0 HTH_FASTCFG.REL_N == 0
  else false

/-- A write of HTH_CAPCFG, HTH_EFF, HTH_FASTCFG or HTH_LNKBUD (R302). -/
def budgetConfig (off : Nat) (data : Word) (m : Wafer) : Wafer :=
  let m := plainWrite off data m
  let m := if budgetBad off m then m.set 0 HTH_CAPEFF.CAP_CLAMP 1 else m
  if off = 0x1000C then clampField 0 HTH_EFF.ETA 8000 9500 (some HTH_CAPEFF.CAP_CLAMP) m else m

/-! ### Watts and milliwatts (R268) -/

/-- P_in(S) in mW. -/
def inputPower (s : Nat) (m : Wafer) : Nat :=
  let eta := m.get 0 HTH_EFF.ETA
  (10000 * s + eta - 1) / eta + 1000 * m.get 0 HTH_EFF.OVH

/-- POOL in mW. -/
def leasePool (m : Wafer) : Nat :=
  (m.get 0 HTH_CAPEFF.CAP_EFF * (1000 - min 100 (m.get 0 HTH_CAPCFG.RSV)) - 1000 * m.get 0 HTH_EFF.OVH)
    * m.get 0 HTH_EFF.ETA / 10000

/-! ### Links (R78, R198, R291, R292, R308) -/

/-- The taken LNK_STAT of a partition's link (Table 2.11). -/
def lnkField (k : Nat) : Fld := ⟨8, 8 + 2 * k, 2⟩

/-- A link that R198 treats as untrained. -/
def linkLost (p k : Nat) (m : Wafer) : Bool :=
  m.on (unitOf p (64 + 2 * k)).base TSK_HSTAT.LINK_LOSS || m.on (unitOf p (64 + 2 * k + 1)).base TSK_HSTAT.LINK_LOSS

/-- Allowance of a link in W: of its width once passed, the full one before (R291). -/
def linkAllowance (p k : Nat) (m : Wafer) : Nat :=
  if linkLost p k m then 0
  else match Store.get noNat m.heath.width (4 * p + k) with
    | none => m.get 0 HTH_LNKBUD.FULL
    | some 3 => m.get 0 HTH_LNKBUD.FULL
    | some 2 => m.get 0 HTH_LNKBUD.HALF
    | some 1 => m.get 0 HTH_LNKBUD.QUARTER
    | some _ => 0

/-- Allowance of a partition in mW (R291). -/
def allowance (p : Nat) (m : Wafer) : Nat :=
  if isEdge p then 1000 * ((List.range 4).map fun k => linkAllowance p k m).sum else 0

/-- Whether a frame that a Verge has still to apply tells it that its link is untrained. -/
def untrainedOnWay (p u : Nat) (m : Wafer) : Bool :=
  match Store.get noFrame (m.sward p).down u with
  | some d => d.lnk == 0
  | none => false

/-- A link's width is passed to the Verges and reported to the Heath (R291, R308); a
segment that was off for want of training, or that a frame on its way turns off, has its
enables set again (R129). -/
def passWidth (p k : Nat) (m : Wafer) : Wafer :=
  let v := m.get (swd p) (lnkField k)
  let m := m.modSward p fun x => { x with lnkPassed := k :: x.lnkPassed.filter fun j => j != k }
  let again (m : Wafer) (u : Nat) : Wafer :=
    if v ≠ 0 ∧ m.get (swd p) SWD_DOMSTAT.LINK_ST ≠ 0 ∧ ¬ linkLost p k m
        ∧ (¬ m.on (unitOf p u).base TSK_CTL.EN0 ∨ untrainedOnWay p u m) then
      queueEnable p u 0 true m
    else m
  let m := [64 + 2 * k, 64 + 2 * k + 1].foldl again m
  (m.send .linkWidth p [k, v]).modHeath fun h => { h with width := Store.set noNat h.width (4 * p + k) (some v) }

/-- LNK_STAT_CHANGE (R78), at WTIME w. -/
def doLnkStatChange (p : Fin 64) (k : Fin 4) (v : Fin 4) (w : Nat) (m : Wafer) : Wafer :=
  let m := m.at w
  if isEdge p ∧ Store.get zeroNat (m.sward p).lnkRaw k ≠ v.val then
    m.modSward p fun x =>
      { x with lnkRaw := Store.set zeroNat x.lnkRaw k v, lnkSince := Store.set noNat x.lnkSince k (some w) }
  else m

/-- LNK_STAT_TAKE (R78, R291, R308), at WTIME w: the value has been stable for 1 µs.
(DEDUCED: log 34.) -/
def doLnkStatTake (p : Fin 64) (k : Fin 4) (w : Nat) (m : Wafer) : Wafer :=
  let m := m.at w
  let x := m.sward p
  match Store.get noNat x.lnkSince k with
  | some s =>
    let v := Store.get zeroNat x.lnkRaw k
    if s + 800 ≤ w ∧ ¬ x.rst then
      let m := m.modSward p fun x => { x with lnkSince := Store.set noNat x.lnkSince k none }
      if v = m.get (swd p) (lnkField k) then m
      else
        let m := (m.set (swd p) (lnkField k) v).set (swd p) ⟨8, 4 + k, 1⟩ 1
        if x.lnkPassed.contains k.val ∨ (m.on (swd p) SWD_DOMSTAT.TRAIN ∧ v ≠ 0) then passWidth p k m else m
    else m
  | none => m

/-- TRAIN_WINDOW_END (R308): TRAIN_MS after the window opened every link's taken width is
passed. (DESIGN CHOICE: log 5.) -/
def doTrainWindowEnd (p : Fin 64) (m : Wafer) : Wafer :=
  let m0 := m
  if m.on (swd p) SWD_DOMSTAT.TRAIN then
    let m := m.at (800 * (m.sward p).trainAt + 800000 * max 1 (m.get (swd p) SWD_DOMCFG.TRAIN_MS))
    let m := m.set (swd p) SWD_DOMSTAT.TRAIN 0
    m.each ((List.range 4).filter fun k => !(m0.sward p).lnkPassed.contains k) fun k m => passWidth p k m
  else m

/-! ### Leases (R271 to R276) -/

/-- Weight of a partition's context in force, 0 while it is contained (R272, R395). -/
def leaseWeight (p : Nat) (m : Wafer) : Nat := if contained p m then 0 else Store.get sixteen m.heath.weight p

/-- What R272 derives: floor FL, remainder REM and the sum of weights. -/
def leaseTerms (m : Wafer) : Nat × Nat × Nat :=
  let live := liveParts m
  let a := (live.map fun p => allowance p m).sum
  let x := (((List.range 64).filter fun p => !live.contains p).map fun p => m.get 0 (HTH_PLEASE.LEASE p)).sum
  let core := leasePool m - (a + x)
  let fl := core / live.length * clampN 10 100 (m.get 0 HTH_CAPCFG.FLOOR_PCT) / 100
  (fl, core - live.length * fl, (live.map fun p => leaseWeight p m).sum)

/-- B_p and F_p of a partition in mW (R272). -/
def leaseOf (t : Nat × Nat × Nat) (p : Nat) (m : Wafer) : Nat × Nat :=
  let f := t.1 + allowance p m
  (f + (if t.2.2 = 0 then 0 else t.2.1 * leaseWeight p m / t.2.2), f)

/-- One lease goes to a Sward (R271). -/
def sendLease (t : Nat × Nat × Nat) (p : Nat) (m : Wafer) : Wafer :=
  let l := leaseOf t p m
  let seq := (Store.get zeroNat m.heath.leaseSeq p + 1) % 2 ^ 16
  let m := m.modHeath fun h => { h with leaseSeq := Store.set zeroNat h.leaseSeq p seq }
  let m := m.set 0 (HTH_PLEASE.LEASE p) l.1
  let msg := [seq, m.wtime % 2 ^ 32, max 1 (m.get 0 HTH_CAPCFG.DUR), l.1, l.2]
  unicast p .lease 0 msg (m.send .lease p msg)

/-- First epoch that the Heath closes once a round of leases has gone out at WTIME w: the
first that begins after it, and after a takeover the one that begins with it too (R279,
Table 9.7). -/
def firstEpoch (takeover : Bool) (w : Nat) : Nat := if takeover then (w + 12799) / 12800 else w / 12800 + 1

/-- One round of leases; the first one settles which epochs the Heath closes (R279). -/
def sendLeases (m : Wafer) : Wafer :=
  let t := leaseTerms m
  let m := (liveParts m).foldl (fun m p => sendLease t p m) m
  if m.heath.epochFrom.isNone then
    m.modHeath fun h => { h with epochFrom := some (firstEpoch h.ready m.wtime) }
  else m

/-- LEASE_PERIOD (R271, R272), at WTIME w; leases begin at bring-up step 10. -/
def doLeasePeriod (w : Nat) (m : Wafer) : Wafer :=
  let m := m.at w
  if m.heath.active ∧ 9 ≤ m.heath.bringUp then sendLeases m else m

/-- Whether a is newer than b modulo 2^16 over a half range. -/
def newer16 (a b : Nat) : Bool :=
  let d := (a + 2 ^ 16 - b) % 2 ^ 16
  decide (0 < d ∧ d < 2 ^ 15)

/-- The 64-bit issue time of a lease (R273). -/
def extendIssue (now lo : Nat) : Int :=
  (now : Int) + signed 32 ((lo + 2 ^ 32 - now % 2 ^ 32) % 2 ^ 32)

/-- A lease reaches a Sward (R273). (DEDUCED: log 34.) -/
def takeLease (p : Fin 64) (seq : BitVec 16) (issue : Word) (dur : BitVec 8) (budget floor : Word) (m : Wafer) : Wafer :=
  let b := swd p
  if (m.sward p).rst then tally p 56 m
  else
    let m := tally p 55 (answered p .lease m)
    let m := m.modHeath fun h => { h with leaseGot := Store.set zeroNat h.leaseGot p budget.toNat }
    let at0 := extendIssue m.wtime issue.toNat
    let fresh : Bool := !m.on b SWD_LEASE.FIRST || newer16 seq.toNat (m.get b SWD_LEASE.SEQ)
    if dur ≠ 0 ∧ fresh ∧ (m.wtime : Int) < at0 + 800000 * (dur.toNat : Int) then
      tally p 38 ((m.modSward p fun x =>
        { x with leasePend := some ⟨seq.toNat, dur.toNat, at0.toNat, budget.toNat, floor.toNat⟩ }).set b SWD_LEASE.FIRST 1)
    else tally p 39 (m.set b SWD_LEASE.LEASE_REJ 1)

/-- LEASE_RECEIVE (R47, R273), at WTIME w. -/
def doLeaseReceive (p : Fin 64) (seq : BitVec 16) (issue : Word) (dur : BitVec 8) (budget floor : Word) (w : Nat)
    (m : Wafer) : Wafer :=
  received p (takeLease p seq issue dur budget floor) (m.at w)

/-- An accepted lease takes effect at a boundary (R273, R274). -/
def leaseBoundary (p : Nat) (m : Wafer) : Wafer :=
  let b := swd p
  match (m.sward p).leasePend with
  | none => m
  | some l =>
    let m := m.modSward p fun x => { x with leasePend := none, lease := some l }
    let m := (m.set b SWD_LBUD.BUDGET l.budget).set b SWD_LFLR.FLOOR l.floor
    ((m.set b SWD_LEASE.SEQ l.seq).set b SWD_LEASE.DUR l.dur).set b SWD_LEASE.EXPIRED 0

/-- LEASE_EXPIRE (R274), at WTIME w. -/
def doLeaseExpire (p : Fin 64) (w : Nat) (m : Wafer) : Wafer :=
  let m := m.at w
  let b := swd p
  match (m.sward p).lease with
  | some l =>
    if l.issue + 800000 * l.dur ≤ w ∧ (m.sward p).leasePend.isNone ∧ ¬ m.on b SWD_LEASE.EXPIRED then
      let m := m.set b SWD_LBUD.BUDGET (m.get b SWD_LFLR.FLOOR)
      let m := (m.set b SWD_LEASE.EXPIRED 1).set b SWD_LEASE.LEASE_EXP 1
      swardFault p 34 (m.get b SWD_LEASE.SEQ) 0 (tally p 40 m)
    else m
  | none => m

/-! ### Epochs, brake and release (R277 to R284) -/

/-- Whether a brake for epoch e is blanked (R282). -/
def blanked (e : Nat) (m : Wafer) : Bool :=
  match m.heath.brakeEpoch with
  | some b => decide (b < e ∧ e ≤ b + m.get 0 HTH_FASTCFG.BRK_BLANK)
  | none => false

/-- An over-cap epoch, or metered figure, brakes unless it is blanked (R270, R282). -/
def brake (e est : Nat) (m : Wafer) : Wafer :=
  if blanked e m then m
  else
    let m := (m.modHeath fun h => { h with brakeEpoch := some e }).send .brake 64 [e]
    heathFault 50 e est ((m.incSat 0 HTH_FASTCNT.BRAKES).set 0 HTH_FASTSTAT.BRAKE_ACT 1)

/-- The count of low epochs and RELEASE (R284). -/
def releaseCount (low : Bool) (m : Wafer) : Wafer :=
  if !low || !m.on 0 HTH_FASTSTAT.BRAKE_ACT then m.modHeath fun h => { h with lowRun := 0 }
  else
    let n := m.heath.lowRun + 1
    if max 1 (m.get 0 HTH_FASTCFG.REL_N) ≤ n then (m.modHeath fun h => { h with lowRun := 0 }).send .release 64 []
    else m.modHeath fun h => { h with lowRun := n }

/-- A partial epoch is counted; a run of PARTIAL_N raises source 45 once (R280). -/
def partialEpoch (isPartial : Bool) (m : Wafer) : Wafer :=
  if isPartial then
    let n := m.heath.partialRun + 1
    let m := (m.modHeath fun h => { h with partialRun := n }).set 0 HTH_FASTSTAT.PARTIAL_SUM 1
    let m := m.incSat 0 HTH_FASTCNT.PARTIALS
    if n = max 1 (m.get 0 HTH_FASTCFG.PARTIAL_N) then
      heathFault 45 (m.get 0 HTH_FASTCNT.PARTIALS) 0 (m.set 0 HTH_FASTSTAT.PARTIAL_LONG 1)
    else m
  else m.modHeath fun h => { h with partialRun := 0 }

/-- A closed epoch that begins within the metered interval under way is kept for it
(R269). -/
def etaEpoch (e s : Nat) (isPartial : Bool) (m : Wafer) : Wafer :=
  match m.heath.meter.roundFrom with
  | some (t, _) =>
    if t ≤ 12800 * e then m.modHeath fun h => { h with etaEpochs := (e, s, isPartial) :: h.etaEpochs } else m
  | none => m

/-- Epoch E closes on a result, or on none (R279 to R282, R284). (DEDUCED: log 31.) -/
def closeEpoch (e : Nat) (result : Option (Nat × Nat)) (m : Wafer) : Wafer :=
  let mask := match result with | some (_, k) => k | none => 0
  let missing := (liveParts m).filter fun p => !mask.testBit p
  let isPartial : Bool := result.isNone || !missing.isEmpty
  let s := (match result with | some (p, _) => p | none => 0) + (missing.map fun p => m.get 0 (HTH_PLEASE.LEASE p)).sum
  let est := inputPower s m
  let cap := m.get 0 HTH_CAPEFF.CAP_EFF
  let m := m.modHeath fun h =>
    { h with epochLast := some e, epochGot := none,
             commons := { h.commons with powSum := h.commons.powSum + est, powN := h.commons.powN + 1 } }
  let m := ((m.set 0 HTH_WSUM.SUM s).set 0 HTH_WEST.EST est).set 0 HTH_EPOCH.EPOCH e
  let m := etaEpoch e s isPartial (partialEpoch isPartial m)
  let m := releaseCount (!isPartial && decide (est ≤ cap * (1000 - m.get 0 HTH_FASTCFG.REL))) m
  if cap * 1000 < est then brake e est m else m

/-- Whether an epoch is open: not before the first that counts, and not closed. -/
def epochOpen (e : Nat) (m : Wafer) : Bool :=
  (match m.heath.epochFrom with | some f => decide (f ≤ e) | none => false)
    && (match m.heath.epochLast with | some l => decide (l < e) | none => true)

/-- REDUCTION_RESULT_RECEIVE (R279, R281), at WTIME w: the result for epoch e. -/
def doReductionResultReceive (e : Nat) (power : Word) (mask : BitVec 64) (w : Nat) (m : Wafer) : Wafer :=
  let m := m.at w
  let early : Bool := match m.heath.epochFrom with | some f => decide (e < f) | none => true
  if !m.heath.active || early then m
  else if !epochOpen e m then m.set 0 HTH_FASTSTAT.LATE 1
  else if (liveParts m).all fun p => mask.toNat.testBit p then closeEpoch e (some (power.toNat, mask.toNat)) m
  else m.modHeath fun h => { h with epochGot := some (e, power.toNat, mask.toNat) }

/-- EPOCH_DEADLINE (R279, R280), at WTIME w. -/
def doEpochDeadline (e : Nat) (w : Nat) (m : Wafer) : Wafer :=
  let m := m.at w
  if m.heath.active ∧ epochOpen e m ∧ 12800 * (e + 1) + 6400 ≤ w then
    let got := match m.heath.epochGot with
      | some (k, r) => if k = e then some r else none
      | none => none
    closeEpoch e got m
  else m

/-- BRAKE_RECEIVE (R47, R283): acted on at the next commit point. -/
def doBrakeReceive (p : Fin 64) (m : Wafer) : Wafer :=
  received p (fun m =>
    if (m.sward p).rst then m
    else tally p 36 (tally p 55 (m.modSward p fun x => { x with brakes := x.brakes + 1 }))) m

/-- BRK_HELD follows BRK_LIM, and a change is reported to the Heath (R284). -/
def brakeHeld (p : Nat) (v : Bool) (m : Wafer) : Wafer :=
  if m.on (swd p) SWD_BRAKE.BRK_HELD = v then m
  else (m.setB (swd p) SWD_BRAKE.BRK_HELD v).send .brakeHeld p [bit v]

/-- The brakes received since the last commit point act (R283). -/
def brakeCommit (p : Nat) (m : Wafer) : Wafer :=
  let b := swd p
  let n := (m.sward p).brakes
  if n = 0 then m
  else
    let lower (m : Wafer) : Wafer :=
      let lim := min (m.get b SWD_BRAKE.BRK_LIM) (m.get b SWD_RUNGSTAT.RUNG) - 1
      (m.set b SWD_BRAKE.BRK_LIM lim).incSat b SWD_BRAKE.BRK_CNT
    let m := (List.range n).foldl (fun m _ => lower m) m
    brakeHeld p true (m.modSward p fun x => { x with brakes := 0, brakeFrame := some x.frame })

/-- A Sward raises its brake limit by one (R284). -/
def takeRelease (p : Nat) (m : Wafer) : Wafer :=
  let b := swd p
  if (m.sward p).rst then m
  else
    let m := tally p 37 (tally p 55 (m.incSat b SWD_BRAKE.BRK_LIM))
    if m.get b SWD_BRAKE.BRK_LIM = 31 then brakeHeld p false m else m

/-- RELEASE_RECEIVE (R47, R284). -/
def doReleaseReceive (p : Fin 64) (m : Wafer) : Wafer := received p (takeRelease p) m

/-- BRAKE_ACT holds while a live partition reports a held brake (R284). -/
def brakeActEval (m : Wafer) : Wafer := m.setB 0 HTH_FASTSTAT.BRAKE_ACT (m.heath.held.any fun k => partLive k m)

/-- BRAKE_HELD_REPORT (R47, R284): it reaches the active Heath's stop. -/
def doBrakeHeldReport (p : Fin 64) (held : Bool) (m : Wafer) : Wafer :=
  received (64 + m.heath.activeId) (fun m =>
    brakeActEval (m.modHeath fun h =>
      { h with held := (if held then [p.val] else []) ++ h.held.filter fun k => k != p.val })) m

/-- A metered figure meets R269 and R270: power in mW, the end of its interval, and whether
it was taken in free run. (DEDUCED: log 31.) -/
def meteredFigure (power : Int) (upTo : Nat) (free : Bool) (m : Wafer) : Wafer :=
  let inside := m.heath.etaEpochs.filter fun x => decide (12800 * (x.1 + 1) ≤ upTo)
  let spoilt : Bool := m.heath.etaBad || free || inside.any fun x => x.2.2
  let m :=
    if m.on 0 HTH_EFF.ETA_FRZ || spoilt || inside.isEmpty then m
    else
      let den : Int := (power - 1000 * (m.get 0 HTH_EFF.OVH : Int)) * (inside.length : Int)
      let num : Int := 10000 * (((inside.map fun x => x.2.1).sum : Nat) : Int)
      let etaM : Int := if den = 0 then Config.etaOfZero num else if 0 < den then roundDiv num den else roundDiv (-num) (-den)
      let eta : Int := m.get 0 HTH_EFF.ETA
      m.set 0 HTH_EFF.ETA (clampI 8000 9500 (eta + roundDiv (etaM - eta) 8)).toNat
  let cap := m.get 0 HTH_CAPEFF.CAP_EFF
  if 1005 * (cap : Int) < power then
    let m := heathFault 46 power.toNat (1000 * cap) (m.set 0 HTH_FASTSTAT.MTR_OVER 1)
    brake (m.wtime / 12800) power.toNat m
  else m

/-! ### Contexts and Swath tables (R287 to R290) -/

def swathEntry (p c e : Nat) (m : Wafer) : Word := Store.get zeroWord (m.sward p).swath (256 * c + e)

def swathDur (p c e : Nat) (m : Wafer) : Nat := getBits (swathEntry p c e m) 16 11

/-- The first entry at or after e, wrapping, that is not skipped; e where all are. -/
def swathFrom (p c e : Nat) (m : Wafer) : Nat :=
  match ((List.range 256).map fun i => (e + i) % 256).find? fun i => swathDur p c i m != 0 with
  | some i => i
  | none => e

/-- Every entry of a table has DUR = 0 (R290). -/
def swathEmpty (p c : Nat) (m : Wafer) : Bool := (List.range 256).all fun i => swathDur p c i m == 0

/-- The pointer after n steps (R290). -/
def swathSteps (p c : Nat) (m : Wafer) : Nat → Nat → Nat
  | 0, e => swathFrom p c e m
  | n + 1, e => swathSteps p c m n (swathFrom p c ((swathFrom p c e m + 1) % 256) m)

/-- The live pointer of the context in force comes to an entry, which is current from this
frame on. -/
def setPointer (p e : Nat) (m : Wafer) : Wafer :=
  let b := swd p
  let c := m.get b SWD_CTXSTAT.CUR
  ((m.set b SWD_SWSTAT.PTR e).set b (SWD_CTXPTR.PTR c) e).modSward p fun x => { x with swathSince := x.frame }

/-- Signals 489 and 490 of the present entry, and SW_EMPTY (R290). -/
def swathSignals (p : Nat) (m : Wafer) : Wafer :=
  let b := swd p
  let c := m.get b SWD_CTXSTAT.CUR
  let w := swathEntry p c (m.get b SWD_SWSTAT.PTR) m
  let empty := swathEmpty p c m
  let m := m.setB b SWD_SWSTAT.SW_EMPTY empty
  let pwr : Int := if empty then 0 else 20 * getBits w 0 16
  let hint : Int := if empty then 0 else getBits w 27 5
  m.modSward p fun x => { x with sig := Store.set zeroInt (Store.set zeroInt x.sig 489 pwr) 490 hint }

/-- The pointer advances by the frame's swath-step sum (R290).  A step, an entry that is
skipped, or a table that was empty at the boundary before begins a new entry. -/
def swathAdvance (p : Nat) (m : Wafer) : Wafer :=
  let b := swd p
  let c := m.get b SWD_CTXSTAT.CUR
  let e := m.get b SWD_SWSTAT.PTR
  let n := ((m.sward p).signal 491).toNat
  if swathEmpty p c m then m
  else
    let e1 := swathSteps p c m n e
    let m := count p 43 n (hwEvent p) m
    if n = 0 ∧ e1 = e ∧ m.on b SWD_SWSTAT.SW_EMPTY = false then m else setPointer p e1 m

/-- The context that a snapshot's CTX fields select (R288): the one named by the most
stops, the lower number on a tie; and whether stops disagree. -/
def namedContext (l : List Nat) : Option (Nat × Bool) :=
  let votes (c : Nat) : Nat := (l.filter fun k => k == c + 1).length
  let best := (List.range 8).foldl (fun a c => if votes a < votes c then c else a) 0
  if votes best = 0 then none
  else some (best, (List.range 8).any fun c => c != best && votes c != 0)

/-- Contexts and Swath of a boundary, from the CTX fields of the snapshot (R288,
R290). -/
def contextBoundary (p : Nat) (ctxs : List Nat) (m : Wafer) : Wafer :=
  let b := swd p
  let m := swathAdvance p m
  match namedContext ctxs with
  | none => m
  | some (c, conflict) =>
    let m := if conflict then m.set b SWD_CTXSTAT.CONFLICT 1 else m
    let cur := m.get b SWD_CTXSTAT.CUR
    if !m.on b (SWD_CTX.EN c) then tally p 42 (m.set b SWD_CTXSTAT.CTX_REJ 1)
    else if c = cur then m
    else
      let old := m.get b (SWD_CTX.WEIGHT cur)
      let m := tally p 41 ((m.set b SWD_CTXSTAT.CUR c).incSat b SWD_CTXSTAT.SW_CNT)
      let m := setPointer p (swathFrom p c (m.get b (SWD_CTXPTR.PTR c)) m) m
      let w := m.get b (SWD_CTX.WEIGHT c)
      if w = old then m
      else reportWeight p w m

/-- SWATH_ENTRY_TIMEOUT (R290). -/
def doSwathEntryTimeout (p : Fin 64) (m : Wafer) : Wafer :=
  let b := swd p
  let c := m.get b SWD_CTXSTAT.CUR
  let e := m.get b SWD_SWSTAT.PTR
  let d := swathDur p c e m
  if 0 < d ∧ d < 2047 ∧ (m.sward p).swathSince + 16 * d ≤ (m.sward p).frame then
    swathSignals p (tally p 44 ((setPointer p (swathSteps p c m 1 e) m).incSat b SWD_SWSTAT.TMO_CNT))
  else m

/-- ENTRY advances after an access when AINC is set (Table 8.18). -/
def swathIndexNext (p : Nat) (m : Wafer) : Wafer :=
  if m.on (swd p) SWD_SWIDX.AINC then m.inc (swd p) SWD_SWIDX.ENTRY else m

/-- The table key that SWD_SWIDX selects. -/
def swathKey (p : Nat) (m : Wafer) : Nat := 256 * m.get (swd p) SWD_SWIDX.CTX + m.get (swd p) SWD_SWIDX.ENTRY

/-- What a read of SWD_SWDATA returns: the pending copy (R215, R302). -/
def swathRead (p : Nat) (m : Wafer) : Word :=
  let k := swathKey p m
  match (m.sward p).pendSwath.reverse.find? fun e => e.1 == k with
  | some (_, w) => w
  | none => Store.get zeroWord (m.sward p).swath k

/-- A write of SWD_SWDATA goes to the pending copy (R215, R302). -/
def swathWrite (p : Nat) (data : Word) (m : Wafer) : Wafer :=
  let k := swathKey p m
  let m := m.modSward p fun x => { x with pendSwath := x.pendSwath ++ [(k, data)] }
  swathIndexNext p (m.setB (swd p) SWD_SCHED.HOLD_PEND (m.on (swd p) SWD_SCHED.HOLD))

/-- SWATH_DATA_ACCESS (R290): a read, or a write of data. -/
def doSwathDataAccess (p : Fin 64) (write : Option Word) (m : Wafer) : Wafer :=
  match write with
  | some data => swathWrite p data m
  | none => swathIndexNext p (m.send .readData 64 [(swathRead p m).toNat])

/-! ### The Commons (R293 to R301) -/

def Wafer.modCommons (m : Wafer) (f : Commons → Commons) : Wafer := m.modHeath fun h => { h with commons := f h.commons }

def Wafer.member (m : Wafer) (i : Nat) : Member := Store.get noMember m.heath.commons.members i

def Wafer.modMember (m : Wafer) (i : Nat) (f : Member → Member) : Wafer :=
  m.modCommons fun c => { c with members := Store.set noMember c.members i (f (m.member i)) }

def cmnId (m : Wafer) : Nat := m.get 0 HTH_CMNCFG.ID

/-- Whether the Heath takes part (R293, R294). -/
def takesPart (m : Wafer) : Bool :=
  m.on 0 HTH_CMNCFG.EN && decide (cmnId m < cmnN m) && !m.on 0 HTH_CMNSTAT.DUP_ID

/-- A member that is live to this wafer (R297). -/
def memberLive (i : Nat) (m : Wafer) : Bool := i == cmnId m || (m.member i).heard.isSome

def liveMembers (m : Wafer) : List Nat := (List.range (cmnN m)).filter fun i => memberLive i m

/-- The Commons status follows its configuration and members; a wafer that takes the
coordinator's role starts from the reported grants (R294, R297, R299). -/
def cmnEval (m : Wafer) : Wafer :=
  let en := m.on 0 HTH_CMNCFG.EN
  let m := if en && !takesPart m then m.modCommons fun c => { c with grant := none } else m
  let live := liveMembers m
  let coord := live.headD (cmnId m)
  let was := m.on 0 HTH_CMNSTAT.COORD
  let now : Bool := takesPart m && coord == cmnId m
  let m := m.setB 0 HTH_CMNSTAT.ID_ERR (en && decide (cmnN m ≤ cmnId m))
  let m := m.setB 0 HTH_CMNSTAT.FALLBACK (en && m.heath.commons.grant.isNone)
  let m := (m.setB 0 HTH_CMNSTAT.COORD now).set 0 HTH_CMNSTAT.COORD_ID (if en then coord else 0)
  let m := capEval (m.set 0 HTH_CMNSTAT.LIVE (if en then live.length else 0))
  if now && !was then
    let own := cmnTerm m
    m.each (List.range (cmnN m)) fun i m =>
      m.modMember i fun x =>
        { x with grant := if i = cmnId m then own else if x.heard.isSome then x.grantIn else cmnShare m }
  else m

/-- A code of the Commons registers is out of range (R293, R302, Table 8.19). -/
def cmnBad (off : Nat) (m : Wafer) : Bool :=
  let n := m.get 0 HTH_CMNCFG.N
  let low : Bool := decide (m.get 0 HTH_CMNCAP.GROUP_CAP < 5000 * cmnN m)
  if off = 0x10800 then low || decide (n = 0 ∨ 64 < n)
  else if off = 0x10804 then low
  else decide (m.get 0 HTH_CMNGAIN.FLOOR_PCT < 10 ∨ 100 < m.get 0 HTH_CMNGAIN.FLOOR_PCT ∨ 100 < m.get 0 HTH_CMNGAIN.USE_PCT)

/-- A write of HTH_CMNCFG, HTH_CMNCAP or HTH_CMNGAIN (R293, R301, R302). -/
def cmnConfig (off : Nat) (data : Word) (m : Wafer) : Wafer :=
  let was := m.on 0 HTH_CMNCFG.EN
  let m := plainWrite off data m
  let m := if cmnBad off m then m.set 0 HTH_CAPEFF.CAP_CLAMP 1 else m
  let m :=
    if m.on 0 HTH_CMNCFG.EN = was then m
    else (m.modCommons fun c => { seq := c.seq }).set 0 HTH_CMNSTAT.DUP_ID 0
  cmnEval m

/-- COMMONS_ENABLE (R301). -/
def doCommonsEnable (on : Bool) (m : Wafer) : Wafer :=
  cmnConfig 0x10800 (setBits (m.word 0x10800) 31 1 (bit on)) m

/-- Bytes of a value, most significant first. -/
def bytesMsb (n v : Nat) : List Nat := ((List.range n).map fun i => v / 256 ^ i % 256).reverse

/-! ### Report buffers (R411, R412) -/

/-- Free shared buffers: an outgoing Commons frame holds one until WTIME has moved on.
(DESIGN CHOICE: log 70.) -/
def freeBuffers (m : Wafer) : Nat := 63 - (if m.heath.commons.bufAt = m.wtime then m.heath.commons.bufHeld else 0)

/-- An outgoing Commons frame takes a buffer and leaves, or is counted and waits for one:
a GRANT to a member, or under destination 64 a REPORT to all. -/
def sendFrame (dest : Nat) (l : List Nat) (m : Wafer) : Wafer :=
  if 0 < freeBuffers m then
    (m.modCommons fun c => { c with bufAt := m.wtime, bufHeld := if c.bufAt = m.wtime then c.bufHeld + 1 else 1 }).send
      (if dest = 64 then .commonsReport else .commonsGrant) dest l
  else (m.incSat 0 HTH_FBUFCNT.RETRY_CMN).modCommons fun c => { c with frames := c.frames ++ [(dest, l)] }

/-- In a later clock the frames that wait ask again, before any other request (R412). -/
def resendFrames (m : Wafer) : Wafer :=
  if m.heath.commons.bufAt = m.wtime then m
  else m.heath.commons.frames.foldl (fun m e => sendFrame e.1 e.2 m) (m.modCommons fun c => { c with frames := [] })

/-- An interface's response that needs a report buffer has one (R411, R412): an alarm read
has buffer 63 where no shared one is free. -/
def bufferFor (alarm : Bool) (m : Wafer) : Bool := alarm || decide (0 < freeBuffers m)

/-- COMMONS_REPORT_SEND (R296). -/
def doCommonsReportSend (m : Wafer) : Wafer :=
  if !m.heath.active then m
  else if !takesPart m then m.modCommons fun c => { c with waitSum := 0, waitN := 0, powSum := 0, powN := 0 }
  else
    let c := m.heath.commons
    let wait := c.waitSum / c.waitN
    let noBar : Bool := c.waitN == 0
    let power : Int := if c.powN = 0 then Config.meanOfNone m.fresh else freeDiv c.powSum (1000 * c.powN)
    let seq := (c.seq + 1) % 2 ^ 16
    let flags := bit noBar + 2 * m.get 0 HTH_CMNSTAT.FALLBACK + 4 * m.get 0 HTH_CMNSTAT.COORD
    let l := bytesMsb 2 (m.get 0 HTH_CMNCFG.GROUP) ++ [1, cmnId m, 0xFF, 0] ++ bytesMsb 2 seq
      ++ bytesMsb 4 (cmnCeiling m) ++ bytesMsb 4 power.toNat ++ bytesMsb 4 (cmnTerm m) ++ bytesMsb 2 wait
      ++ bytesMsb 2 c.waitN ++ [flags, 0, 0, 0]
    let own := cmnTerm m
    let ceil := cmnCeiling m
    let m := m.modMember (cmnId m) fun x =>
      { x with ceil := ceil, power := power.toNat, grantIn := own, wait := wait, noBar := noBar }
    let m := m.modCommons fun c => { c with seq := seq, waitSum := 0, waitN := 0, powSum := 0, powN := 0 }
    sendFrame 64 (l ++ bytesMsb 4 (crc32 l)) (resendFrames { m with fresh := m.fresh + 1 })

/-- BARRIER_WAIT_WRITE (R296). -/
def doBarrierWaitWrite (wait : BitVec 16) (m : Wafer) : Wafer :=
  m.modCommons fun c => { c with waitSum := c.waitSum + wait.toNat, waitN := c.waitN + 1 }

/-- A GRANT that passed the checks of R295 reaches the member (R297, R300). -/
def grantReceive (src seq grant cap n w : Nat) (m : Wafer) : Wafer :=
  let m := m.at w
  let fresh : Bool := match (m.member src).seqGrant with | some s => newer16 seq s | none => true
  if !takesPart m || !fresh then m
  else if src ≠ m.get 0 HTH_CMNSTAT.COORD_ID then m.incSat 0 HTH_CMNCNT.FOREIGN
  else
    let m := m.modMember src fun x => { x with seqGrant := some seq }
    let m :=
      if cap ≠ m.get 0 HTH_CMNCAP.GROUP_CAP ∨ n ≠ m.get 0 HTH_CMNCFG.N then
        heathFault 49 src 0 (m.set 0 HTH_CMNSTAT.CFG_MISM 1)
      else m
    cmnEval (m.modCommons fun c => { c with grant := some (grant, m.wtime + 32000000) })

/-- GRANT_RECEIVE (R300), at WTIME w, with the fields of an accepted GRANT to this
wafer. -/
def doGrantReceive (src : Fin 64) (seq : BitVec 16) (grant cap : Word) (n : BitVec 8) (w : Nat) (m : Wafer) : Wafer :=
  grantReceive src seq.toNat grant.toNat cap.toNat n.toNat w m

/-- A REPORT that passed the checks of R295 (R294, R297). -/
def reportReceive (src : Nat) (d : List Nat) (seq w : Nat) (m : Wafer) : Wafer :=
  let num (i n : Nat) : Nat := ((d.drop i).take n).foldl (fun a b => 256 * a + b) 0
  let fresh : Bool := match (m.member src).seqReport with | some s => newer16 seq s | none => true
  if !fresh then m
  else if src = cmnId m then
    let m := m.modMember src fun x => { x with seqReport := some seq }
    if m.on 0 HTH_CMNSTAT.DUP_ID then m
    else
      let m := (m.set 0 HTH_CMNSTAT.DUP_ID 1).modCommons fun c => { c with grant := none }
      heathFault 49 src 0 (cmnEval m)
  else
    cmnEval (m.modMember src fun x =>
      { x with heard := some w, seqReport := some seq, ceil := num 8 4, power := num 12 4, grantIn := num 16 4,
               wait := num 20 2, noBar := (num 24 1).testBit 0 })

/-- COMMONS_FRAME_RECEIVE (R295), at WTIME w: a whole frame of 32 bytes. -/
def doCommonsFrameReceive (bytes : List (BitVec 8)) (w : Nat) (m : Wafer) : Wafer :=
  let m := m.at w
  let d := bytes.map BitVec.toNat
  let num (i n : Nat) : Nat := ((d.drop i).take n).foldl (fun a b => 256 * a + b) 0
  let ty := num 2 1
  let src := num 3 1
  let dst := num 4 1
  if !(m.heath.active && m.on 0 HTH_CMNCFG.EN) then m
  else if d.length ≠ 32 ∨ num 28 4 ≠ crc32 (d.take 28) ∨ num 0 2 ≠ m.get 0 HTH_CMNCFG.GROUP ∨ (ty ≠ 1 ∧ ty ≠ 2)
      ∨ cmnN m ≤ src ∨ (ty = 2 ∧ cmnN m ≤ dst) then m.incSat 0 HTH_CMNCNT.BAD_FRM
  else if ty = 1 then reportReceive src d (num 6 2) w m
  else if dst = cmnId m then grantReceive src (num 6 2) (num 8 4) (num 12 4) (num 16 1) w m
  else m

/-- MEMBER_LIVENESS_EXPIRE (R297), at WTIME w: 3 ms without a REPORT. -/
def doMemberLivenessExpire (i : Fin 64) (w : Nat) (m : Wafer) : Wafer :=
  let m := m.at w
  match (m.member i).heard with
  | some t => if t + 2400000 ≤ w then cmnEval (m.modMember i fun x => { x with heard := none }) else m
  | none => m

/-- Lowers the largest grant above s until the sum fits (Table 8.3); of equal grants
the lowest ID's. -/
def fitGrants (cap s : Nat) : Nat → List Nat → List Nat
  | 0, g => g
  | fuel + 1, g =>
    if g.sum ≤ cap then g
    else
      let top := g.foldl max 0
      if top ≤ s then g
      else fitGrants cap s fuel (g.set (g.idxOf top) (max s (top - (g.sum - cap))))

/-- One member as the grant step sees it. -/
structure GrantInput where
  live : Bool
  noBar : Bool
  wait : Nat
  power : Nat
  ceil : Nat
  grant : Nat
  deriving DecidableEq, Repr

/-- The grant step of Table 8.3.  A scaled raise is never larger than the one it
scales, since no grant moves by more than step. (DEDUCED: log 30.) -/
def grantStep (cap s floor useP k : Nat) (l : List GrantInput) : List Nat :=
  let slack : Int := (cap : Int) - (l.map fun x => x.grant).sum
  let step : Int := (s * 2 / 100 : Nat)
  let waits := (l.filter fun x => x.live && !x.noBar).map fun x => x.wait
  let wm : Int := (waits.sum / waits.length : Nat)
  let raw := l.map fun x =>
    if !x.live then ((s : Int), (0 : Int))
    else
      let d : Int := if x.noBar then 0 else clampI (-step) step ((k : Int) * (wm - x.wait))
      let d := if 0 < d ∧ x.power * 100 < x.grant * useP then 0 else d
      ((x.grant : Int), clampI (min (floor : Int) x.ceil) x.ceil ((x.grant : Int) + d) - x.grant)
  let pos := (raw.map fun e => if 0 < e.2 then e.2 else 0).sum
  let neg := (raw.map fun e => if e.2 < 0 then -e.2 else 0).sum
  let need := max 0 (pos - slack)
  let scaled := raw.map fun e =>
    if need < neg then (if e.2 < 0 then e.1 - (-e.2 * need + neg - 1) / neg else e.1 + e.2)
    else if 0 < e.2 then e.1 + min e.2 (e.2 * (neg + slack) / pos) else e.1 + e.2
  fitGrants cap s 65 (scaled.map Int.toNat)

/-- A GRANT frame (Table 8.2). -/
def grantFrame (dst grant seq : Nat) (m : Wafer) : List Nat :=
  let l := bytesMsb 2 (m.get 0 HTH_CMNCFG.GROUP) ++ [2, cmnId m, dst, 0] ++ bytesMsb 2 seq ++ bytesMsb 4 grant
    ++ bytesMsb 4 (m.get 0 HTH_CMNCAP.GROUP_CAP) ++ [m.get 0 HTH_CMNCFG.N, 0, 0, 0] ++ List.replicate 8 0
  l ++ bytesMsb 4 (crc32 l)

/-- GRANT_STEP (R297, R299), at WTIME w: the coordinator runs the step, sends a GRANT to
every member and applies its own. (DEDUCED: log 30.) -/
def doGrantStep (w : Nat) (m : Wafer) : Wafer :=
  let m := m.at w
  if !(m.heath.active && m.on 0 HTH_CMNSTAT.COORD) then m
  else
    let n := cmnN m
    let s := cmnShare m
    let l := (List.range n).map fun i =>
      let x := m.member i
      let own : Bool := i == cmnId m
      GrantInput.mk (memberLive i m) x.noBar x.wait x.power (if own then cmnCeiling m else x.ceil) x.grant
    let g := grantStep (groupCap m) s (s * clampN 10 100 (m.get 0 HTH_CMNGAIN.FLOOR_PCT) / 100)
      (min 100 (m.get 0 HTH_CMNGAIN.USE_PCT)) (m.get 0 HTH_CMNGAIN.K) l
    let seq := (m.heath.commons.seq + 1) % 2 ^ 16
    let m := m.modCommons fun c => { c with seq := seq }
    let m := ((List.range n).zip g).foldl (fun m e =>
      let m := m.modMember e.1 fun x => { x with grant := e.2 }
      if e.1 = cmnId m then m else sendFrame e.1 (grantFrame e.1 e.2 seq m) m) (resendFrames m)
    let own := (m.member (cmnId m)).grant
    cmnEval (m.modCommons fun c => { c with grant := some (own, m.wtime + 32000000) })

/-- GRANT_EXPIRE (R301), at WTIME w. -/
def doGrantExpire (w : Nat) (m : Wafer) : Wafer :=
  let m := m.at w
  match m.heath.commons.grant with
  | some (_, t) =>
    if t ≤ w then
      let m := cmnEval ((m.modCommons fun c => { c with grant := none }).set 0 HTH_CMNSTAT.GRANT_LOST 1)
      heathFault 48 (m.get 0 HTH_CMNSTAT.COORD_ID) 0 m
    else m
  | none => m

end Sys2Proof.Machine
end

