-- ==== Sys2Proof/Machine/Domain.lean ====
section
/-! DEFINITION.  Chapter 09, domain control: the steps of Table 9.1, retention, the
trips of Table 9.2, FENCE and PRST at the Sward, and the staggered switch-on
(R73, R76, R77, R303 to R312, R450). -/

namespace Sys2Proof.Machine

/-! ### Targets (R303, R306, R307, R309) -/

/-- Tussocks of a partition, and its Verges. -/
def tussocksOf : List Nat := List.range 64
def vergesOf (p : Nat) : List Nat := if isEdge p then [64, 65, 66, 67, 68, 69, 70, 71] else []

/-- Units of a rail step: the Tussocks when `a` is set, the Verges when `e` is. -/
def stepUnits (p : Nat) (a e : Bool) : List Nat := (if a then tussocksOf else []) ++ (if e then vergesOf p else [])

/-- CORE is on in the target (R306), and may be on (R309). -/
def coreAsked (p : Nat) (m : Wafer) : Bool := m.on (swd p) SWD_DOMCTL.CORE
def coreTarget (p : Nat) (m : Wafer) : Bool := coreAsked p m && !m.on (swd p) SWD_DOMSTAT.CORE_HOLD

/-- ARRAY target: 0 off, 1 retention, 2 run (R306). -/
def arrayTarget (p : Nat) (m : Wafer) : Nat := if coreAsked p m then 2 else min 2 (m.get (swd p) SWD_DOMCTL.ARR)

def mifTarget (p : Nat) (m : Wafer) : Bool := isEdge p && m.on (swd p) SWD_DOMCTL.MIF
def linkTarget (p : Nat) (m : Wafer) : Bool := isEdge p && m.on (swd p) SWD_DOMCTL.LINK

/-- SPINE goes off only with SPINE_OFF set, CORE off and FENCE asserted (R307). -/
def spineOffTarget (p : Nat) (m : Wafer) : Bool :=
  !coreAsked p m && m.on (swd p) SWD_DOMCTL.SPINE_OFF && m.on (swd p) SWD_BSTAT.FENCE

/-- LOGIC goes off only with LOGIC_OFF set and SPINE off (R307). -/
def logicOffTarget (p : Nat) (m : Wafer) : Bool :=
  spineOffTarget p m && m.on (swd p) SWD_DOMCTL.LOGIC_OFF && m.get (swd p) SWD_DOMSTAT.SPINE_ST == 0

/-- The next step toward the target: steps off in reverse order first, then ARRAY's
move between run and retention, then steps on in order; `idle` where none is left. -/
def nextDomStep (p : Nat) (m : Wafer) : DomStep :=
  let st (f : Fld) : Nat := m.get (swd p) f
  let core := st SWD_DOMSTAT.CORE_ST
  let spine := st SWD_DOMSTAT.SPINE_ST
  let logic := st SWD_DOMSTAT.LOGIC_ST
  let array := st SWD_DOMSTAT.ARRAY_ST
  let mif := st SWD_DOMSTAT.MIF_ST
  let link := st SWD_DOMSTAT.LINK_ST
  let lOff : Bool := logic != 0 && logicOffTarget p m
  let kOff : Bool := link != 0 && !linkTarget p m
  let aOff : Bool := array != 0 && arrayTarget p m == 0
  let fOff : Bool := mif != 0 && !mifTarget p m
  let aOn : Bool := array == 0 && arrayTarget p m != 0
  let fOn : Bool := mif == 0 && mifTarget p m
  let lOn : Bool := logic == 0 && !logicOffTarget p m
  let kOn : Bool := link == 0 && linkTarget p m
  if core ≠ 0 ∧ coreTarget p m = false then .off4
  else if spine ≠ 0 ∧ core = 0 ∧ spineOffTarget p m then .off3
  else if lOff ∨ kOff then .off2 lOff kOff
  else if aOff ∨ fOff then .off1 aOff fOff
  else if array = 2 ∧ core = 0 ∧ arrayTarget p m = 1 then .sleep
  else if array = 3 ∧ arrayTarget p m = 2 then .wake
  else if aOn ∨ fOn then .on1 aOn fOn
  else if lOn ∨ kOn then .on2 lOn kOn
  else if spine ≠ 2 ∧ logic = 2 ∧ spineOffTarget p m = false then .on3
  else if core = 0 ∧ coreTarget p m ∧ array = 2 ∧ logic = 2 ∧ spine = 2 then .on4
  else .idle

/-- The target is all-off (R310). -/
def allOff (p : Nat) (m : Wafer) : Bool :=
  !coreAsked p m && arrayTarget p m == 0 && !mifTarget p m && !linkTarget p m && spineOffTarget p m
    && m.on (swd p) SWD_DOMCTL.LOGIC_OFF

/-! ### Steps (Table 9.1) -/

/-- Every counted unit of a list satisfies a test on its record (R304). -/
def allCounted (p : Nat) (us : List Nat) (f : Nat → UpRecord → Bool) (m : Wafer) : Bool :=
  us.all fun u => !counted p u m || f u ((m.sward p).record u)

/-- Rail q of a record is in a state. -/
def recState (q : Nat) (r : UpRecord) : Nat := if q = 0 then r.state0 else r.state1
def recAtTarget (q : Nat) (r : UpRecord) : Bool := if q = 0 then r.atTgt0 else r.atTgt1

/-- Every unit of the step shows AT_TGT with the rail in REG. -/
def stepUp (p : Nat) (us : List Nat) (q : Nat) (m : Wafer) : Bool :=
  allCounted p us (fun _ r => recState q r == rREG && recAtTarget q r) m

/-- The rail of every unit of the step is in OFF. -/
def stepDown (p : Nat) (us : List Nat) (q : Nat) (m : Wafer) : Bool :=
  allCounted p us (fun _ r => recState q r == rOFF) m

/-- Some unit would start the rail from OFF (R310): a live one that is not adopted and whose
record shows OFF, or that is in reset. -/
def fromOff (p : Nat) (us : List Nat) (q : Nat) (m : Wafer) : Bool :=
  us.any fun u =>
    !(m.sward p).isLost u && !(decide (u < 64) && m.on (unitOf p u).base TSK_HSTAT.ADOPTED)
      && ((m.unit (unitOf p u)).rst != .run || recState q ((m.sward p).record u) == rOFF)

/-- LOGIC of every counted Tussock lies within 5 mV of its set-point (R304). (DEDUCED: log 38.) -/
def spineClose (p : Nat) (m : Wafer) : Bool :=
  allCounted p tussocksOf (fun u _ =>
    let d := (m.sward p).signal u - railTarget (unitOf p u) 0 m
    decide (-5000 ≤ d ∧ d ≤ 5000)) m

/-- EN of rail q is written to every unit of a step (R304). -/
def queueEnables (p : Nat) (us : List Nat) (q : Nat) (on : Bool) (m : Wafer) : Wafer :=
  us.foldl (fun m u => queueEnable p u q on m) m

/-- The Sward changes header levels (R73); each change counts in event 59. -/
def setHeader (p : Nat) (f : SwardSt → SwardSt) (m : Wafer) : Wafer :=
  let lv (x : SwardSt) : Bool × Bool × Bool × Bool := (x.hdrCore, x.hdrSpine, x.hdrArrRet, x.hdrRet)
  let before := lv (m.sward p)
  let m := m.modSward p f
  if lv (m.sward p) = before then m else tally p 59 m

/-- A domain's state code (Table 9.15), where its step takes part. -/
def setState (p : Nat) (f : Fld) (part : Bool) (v : Nat) (m : Wafer) : Wafer := if part then m.set (swd p) f v else m

/-- The step in progress and the frame in which it began. -/
def beginStep (p : Nat) (d : DomStep) (m : Wafer) : Wafer :=
  m.modSward p fun x => { x with dom := d, domSince := x.frame }

/-- A step starts (R303, R306 to R308, R450). -/
def startStep (p : Nat) (d : DomStep) (m : Wafer) : Wafer :=
  let b := swd p
  let m := beginStep p d m
  match d with
  | .on1 a f =>
    queueEnables p (stepUnits p a f) 1 true
      (setState p SWD_DOMSTAT.MIF_ST f 1 (setState p SWD_DOMSTAT.ARRAY_ST a 1 m))
  | .on2 l k =>
    let m := setState p SWD_DOMSTAT.LINK_ST k 1 (setState p SWD_DOMSTAT.LOGIC_ST l 1 m)
    let m := queueEnables p (stepUnits p l k) 0 true m
    if k then
      let m := (m.modSward p fun x => { x with lnkPassed := [], trainAt := x.frame + 2 }).set b SWD_DOMSTAT.TRAIN 1
      (List.range 4).foldl (fun m j =>
        m.modHeath fun h => { h with width := Store.set noNat h.width (4 * p + j) none }) m
    else m
  | .on3 => setHeader p (fun x => { x with hdrSpine := true }) (m.set b SWD_DOMSTAT.SPINE_ST 1)
  | .on4 => setHeader p (fun x => { x with hdrCore := true }) (m.set b SWD_DOMSTAT.CORE_ST 1)
  | .off4 => setHeader p (fun x => { x with hdrCore := false }) (m.set b SWD_DOMSTAT.CORE_ST 1)
  | .off3 =>
    setHeader p (fun x => { x with hdrSpine := false }) ((m.set b SWD_DOMSTAT.SPINE_ST 1).set b SWD_BSTAT.SPINE_ON 0)
  | .off2 l k =>
    queueEnables p (stepUnits p l k) 0 false
      (setState p SWD_DOMSTAT.LINK_ST k 1 (setState p SWD_DOMSTAT.LOGIC_ST l 1 m))
  | .off1 a f =>
    let m := setState p SWD_DOMSTAT.MIF_ST f 1 (setState p SWD_DOMSTAT.ARRAY_ST a 1 m)
    let m := if a then setHeader p (fun x => { x with hdrArrRet := true }) m else m
    queueEnables p (stepUnits p a f) 1 false m
  | .sleep =>
    setHeader p (fun x => { x with hdrRet := true, hdrArrRet := true }) (m.set b SWD_DOMSTAT.ARRAY_ST 1)
  | .wake =>
    setHeader p (fun x => { x with hdrRet := false, hdrArrRet := false }) (m.set b SWD_DOMSTAT.ARRAY_ST 1)
  | _ => m

/-- Whether a header step's 2.2 µs from the boundary at which it applied have passed
(R304): it is sent in the next frame and applies at the boundary after that. -/
def headerDone (x : SwardSt) : Bool := decide (x.domSince + 4 ≤ x.frame)

/-- Whether the step in progress is complete on the present snapshot (Table 9.1).
(DEDUCED: log 38.) -/
def stepComplete (p : Nat) (m : Wafer) : Bool :=
  let x := m.sward p
  headerDone x && match x.dom with
    | .on1 a f => stepUp p (stepUnits p a f) 1 m
    | .on2 l k => stepUp p (stepUnits p l k) 0 m
    | .on3 => spineClose p m
    | .off2 l k => stepDown p (stepUnits p l k) 0 m
    | .off1 a f => stepDown p (stepUnits p a f) 1 m
    | .sleep => stepUp p tussocksOf 1 m
    | .wake => stepUp p tussocksOf 1 m
    | _ => true

/-- What the completion of a step changes. -/
def finishStep (p : Nat) (m : Wafer) : Wafer :=
  let b := swd p
  let d := (m.sward p).dom
  let m := tally p 57 (m.modSward p fun x => { x with dom := .idle })
  match d with
  | .on1 a f =>
    let m := setState p SWD_DOMSTAT.MIF_ST f 2 (setState p SWD_DOMSTAT.ARRAY_ST a 2 m)
    if a then setHeader p (fun x => { x with hdrArrRet := false }) m else m
  | .on2 l k => setState p SWD_DOMSTAT.LINK_ST k 2 (setState p SWD_DOMSTAT.LOGIC_ST l 2 m)
  | .on3 => (m.set b SWD_DOMSTAT.SPINE_ST 2).set b SWD_BSTAT.SPINE_ON 1
  | .on4 => m.set b SWD_DOMSTAT.CORE_ST 2
  | .off4 => m.set b SWD_DOMSTAT.CORE_ST 0
  | .off3 => m.set b SWD_DOMSTAT.SPINE_ST 0
  | .off2 l k => setState p SWD_DOMSTAT.LINK_ST k 0 (setState p SWD_DOMSTAT.LOGIC_ST l 0 m)
  | .off1 a f =>
    let m := setState p SWD_DOMSTAT.MIF_ST f 0 (setState p SWD_DOMSTAT.ARRAY_ST a 0 m)
    if a then setHeader p (fun x => { x with hdrRet := false }) m else m
  | .sleep => m.set b SWD_DOMSTAT.ARRAY_ST 3
  | .wake => beginStep p .awake (m.set b SWD_DOMSTAT.ARRAY_ST 2)
  | _ => m

/-! ### Returns (R329, R330) and grants (R310, R311) -/

/-- A return of the whole partition (R329). -/
def partitionReturn (p : Nat) (m : Wafer) : Wafer := clearAllSlots p (beginReturn p (unitsOf p) m)

/-- Units whose return is not over hold back rail enables and PG_CORE (R329); a unit
that is lost cannot report. -/
def returnsPending (p : Nat) (m : Wafer) : Bool :=
  (m.sward p).returning.any fun u => !(m.sward p).isLost u

/-- Bring-up step 10 is complete: the order has ended and every granted partition
has reached its target (R311, R313).  Step 11 begins: every Sward is given FULL (R250). -/
def bringUpEval (m : Wafer) : Wafer :=
  if m.heath.bringUp = 9 ∧ m.heath.sonOrder = false
      ∧ ((List.range 64).all fun p => !m.on (swd p) SWD_DOMSTAT.GRANTED) = true then
    (liveParts m).foldl (fun m p => if (m.sward p).rst then m else ladderCommand p 0x10000000 m) (setStep 10 m)
  else m

/-- The grant ends: the target is reached or is all-off (R310). -/
def endGrant (p : Nat) (m : Wafer) : Wafer :=
  if m.on (swd p) SWD_DOMSTAT.GRANTED ∨ m.on (swd p) SWD_DOMSTAT.SON_WAIT then
    bringUpEval ((m.set (swd p) SWD_DOMSTAT.GRANTED 0).set (swd p) SWD_DOMSTAT.SON_WAIT 0)
  else m

/-- Whether a step is a switch-on that needs a grant (R310). (DEDUCED: log 37.) -/
def needsGrant (p : Nat) (d : DomStep) (m : Wafer) : Bool :=
  match d with
  | .on1 a f => fromOff p (stepUnits p a f) 1 m
  | .on2 l k => fromOff p (stepUnits p l k) 0 m
  | _ => false

/-- Whether a step sets rail enables or PG_CORE, which a return holds back. -/
def switchesOn (d : DomStep) : Bool :=
  match d with
  | .on1 _ _ => true
  | .on2 _ _ => true
  | .on4 => true
  | _ => false

/-- With no step in progress, the next one toward the target begins (R303). (DEDUCED: log 37.) -/
def domNext (p : Nat) (m : Wafer) : Wafer :=
  let d := nextDomStep p m
  let m := if d = .idle ∨ allOff p m then endGrant p m else m
  if d = .idle then m
  else if switchesOn d then
    if (m.sward p).afterTrip then partitionReturn p (m.modSward p fun x => { x with afterTrip := false })
    else if returnsPending p m ∨ (needsGrant p d m ∧ m.on (swd p) SWD_DOMSTAT.GRANTED = false) then m
    else startStep p d m
  else if d = .wake then startStep p d (partitionReturn p m)
  else startStep p d m

/-- State of a rail's domain as the first snapshot after a Sward reset shows it
(R326): on when no unit is in OFF, off when all are, and between the two what makes
the Sward carry on toward the target. -/
def resumeState (p : Nat) (us : List Nat) (q : Nat) (target : Bool) (m : Wafer) : Nat :=
  if us = [] ∨ stepDown p us q m then 0
  else if fromOff p us q m ∧ target then 0
  else 2

/-- The Sward takes its domain state from a snapshot and the kept header levels
(R326). -/
def domResume (p : Nat) (m : Wafer) : Wafer :=
  let b := swd p
  let x := m.sward p
  let arr := resumeState p tussocksOf 1 (arrayTarget p m != 0) m
  let m := m.set b SWD_DOMSTAT.ARRAY_ST (if arr = 2 ∧ x.hdrRet then 3 else arr)
  let m := m.set b SWD_DOMSTAT.MIF_ST (resumeState p (vergesOf p) 1 (mifTarget p m) m)
  let m := m.set b SWD_DOMSTAT.LOGIC_ST (resumeState p tussocksOf 0 true m)
  let m := m.set b SWD_DOMSTAT.LINK_ST (resumeState p (vergesOf p) 0 (linkTarget p m) m)
  let m := m.set b SWD_DOMSTAT.SPINE_ST (if x.hdrSpine then 2 else 0)
  let m := m.setB b SWD_BSTAT.SPINE_ON (x.hdrSpine && spineClose p m)
  (m.set b SWD_DOMSTAT.CORE_ST (if x.hdrCore then 2 else 0)).modSward p fun x => { x with dom := .idle }

/-- Every rail that a step in progress ramps is now to go the other way (R303).
(DEDUCED: log 37.) -/
def turned (a aBack b bBack : Bool) : Bool := (!a || aBack) && (!b || bBack)

/-- A step off may turn back into a step on: no rail of it starts from OFF without a
grant (R310), and no return is due first (R329). -/
def mayTurnOn (p : Nat) (us : List Nat) (q : Nat) (m : Wafer) : Bool :=
  (!fromOff p us q m || m.on (swd p) SWD_DOMSTAT.GRANTED) && !(m.sward p).afterTrip && !returnsPending p m

/-- The domain steps of a commit point (R303): a step whose rail ramps the target now
reverses gives way at once, any other is completed first. (DEDUCED: log 37.) -/
def domCommit (p : Nat) (m : Wafer) : Wafer :=
  let x := m.sward p
  let onward (m : Wafer) : Wafer := if stepComplete p m then domNext p (finishStep p m) else m
  if x.rst || x.waitEnum then m
  else
    match x.dom with
    | .idle => domNext p m
    | .resume => if x.domSince + 3 ≤ x.frame then domNext p (domResume p m) else m
    | .awake =>
      if x.domSince + 1 ≤ x.frame then domNext p (m.modSward p fun x => { x with dom := .idle }) else m
    | .on1 a f =>
      if turned a (arrayTarget p m == 0) f (!mifTarget p m) then startStep p (.off1 a f) m else onward m
    | .on2 l k =>
      if turned l (logicOffTarget p m) k (!linkTarget p m) then startStep p (.off2 l k) m else onward m
    | .off1 a f =>
      if turned a (arrayTarget p m != 0) f (mifTarget p m) && mayTurnOn p (stepUnits p a f) 1 m then
        startStep p (.on1 a f) m
      else onward m
    | .off2 l k =>
      if turned l (!logicOffTarget p m) k (linkTarget p m) && mayTurnOn p (stepUnits p l k) 0 m then
        startStep p (.on2 l k) m
      else onward m
    | _ => onward m

/-! ### Commands -/

/-- A write of SWD_DOMCTL (R303, R306, R307). -/
def domctlWrite (p : Nat) (data : Word) (m : Wafer) : Wafer :=
  let b := swd p
  let m := plainWrite (b + SWD_DOMCTL.CORE.off) (if isEdge p then data else data &&& 0x3E) m
  let adj : Bool := data.getLsbD 1 && (decide (getBits data 2 2 < 2) || data.getLsbD 4 || data.getLsbD 5)
  let m := if adj then m.set b SWD_DOMSTAT.DOM_ADJ 1 else m
  if data.getLsbD 4 ∧ m.on b SWD_BSTAT.FENCE = false then m.set b SWD_DOMSTAT.SPINE_REJ 1 else m

/-- DOMCTL_WRITE (R303). -/
def doDomctlWrite (p : Fin 64) (data : Word) (m : Wafer) : Wafer := domctlWrite p data m

/-- A shutdown latch of the partition keeps CORE_HOLD (R309). -/
def shutdownLatched (p : Nat) (m : Wafer) : Bool :=
  tussocksOf.any fun t => m.on (unitOf p t).base TSK_HSTAT.OT_SD_LATCH

/-- A write of SWD_DOMSTAT: its flags clear, CORE_HOLD under R309. -/
def domstatWrite (p : Nat) (data : Word) (m : Wafer) : Wafer :=
  let a := swd p + SWD_DOMSTAT.CORE_HOLD.off
  let m := m.w1c a 0x18000000 data
  if shutdownLatched p m then m else m.w1c a 0x20000000 data

/-- CORE_HOLD_CLEAR (R309). -/
def doCoreHoldClear (p : Fin 64) (m : Wafer) : Wafer := domstatWrite p 0x20000000 m

/-- CORE is held off by a trip (R309, Table 9.2). -/
def coreHold (p : Nat) (m : Wafer) : Wafer :=
  (m.modSward p fun x => { x with afterTrip := true }).set (swd p) SWD_DOMSTAT.CORE_HOLD 1

/-- PARTITION_TRIP_RECEIVE (R47, R396). -/
def doPartitionTripReceive (p : Fin 64) (m : Wafer) : Wafer :=
  received p (fun m => if (m.sward p).rst then tally p 56 m else coreHold p (tally p 55 (answered p .trip m))) m

/-- The wafer-trip action of a Sward (R397). (DEDUCED: log 38.) -/
def waferTripAction (p : Nat) (m : Wafer) : Wafer :=
  let b := swd p
  let m := (coreHold p m).set b SWD_DOMCTL.CORE 0
  ((m.set b SWD_DOMCTL.ARR 0).set b SWD_DOMCTL.LINK 0).set b SWD_DOMCTL.MIF 0

/-- WTRIP_RECEIVE (R47, R397). -/
def doWtripReceive (p : Fin 64) (m : Wafer) : Wafer :=
  received p (fun m => if (m.sward p).rst then m else waferTripAction p (tally p 55 m)) m

/-- FL_TRIP_EDGE (R398), at WTIME w: an edge within 4 µs of the last forwarded one is
the same trip. -/
def doFlTripEdge (p : Fin 64) (w : Nat) (m : Wafer) : Wafer :=
  let m := m.at w
  let x := m.sward p
  let again : Bool := match x.flAt with | some t => decide (w < t + 3200) | none => false
  if x.rst || again then m
  else
    let m := ((m.modSward p fun x => { x with flAt := some w }).send .faultLine p []).set (swd p) SWD_FSTAT.FL_SEEN 1
    waferTripAction p m

/-- SPINE is to be switched on at once (R77), where LOGIC is on: as a step, or beside the one
that is under way, after which it is completed.  With LOGIC off the switch-on begins with
LOGIC (R303). (DEDUCED: log 37.) -/
def spineAtOnce (p : Nat) (m : Wafer) : Wafer :=
  let b := swd p
  let d := (m.sward p).dom
  if (m.sward p).rst || m.get b SWD_DOMSTAT.LOGIC_ST != 2 then m
  else if d = .idle ∨ d = .off3 then startStep p .on3 m
  else setHeader p (fun x => { x with hdrSpine := true }) (m.set b SWD_DOMSTAT.SPINE_ST 1)

/-- FENCE_CHANGE (R77, R307). -/
def doFenceChange (p : Fin 64) (level : Bool) (m : Wafer) : Wafer :=
  let b := swd p
  if m.on b SWD_BSTAT.FENCE = level then m
  else
    let m := (m.setB b SWD_BSTAT.FENCE level).send .fence p [bit level]
    if level then
      let n := (m.sward p).mesh.length
      if n = 0 then m
      else count p 50 n (hwEvent p) ((m.modSward p fun x => { x with mesh := [] }).set b SWD_BSTAT.MESH_DROP 1)
    else if (m.sward p).hdrSpine then m
    else spineAtOnce p (swardFault p 35 0 0 (m.set b SWD_BSTAT.FENCE_ERR 1))

/-- An open remap window closes when PRST falls (R33). -/
def closeWindowPrst (m : Wafer) : Wafer :=
  if m.on 0 HTH_MAPCTL.OPEN then
    ((m.modHeath fun h => { h with mapPend := [] }).set 0 HTH_MAPCTL.OPEN 0).set 0 HTH_MAPCTL.OPEN_REJ 1
  else m

/-- PRST_CHANGE (R33, R76, R330). -/
def doPrstChange (p : Fin 64) (level : Bool) (m : Wafer) : Wafer :=
  let b := swd p
  if m.on b SWD_BSTAT.PRST = level then m
  else
    let m := (m.setB b SWD_BSTAT.PRST level).send .prst p [bit level]
    let m := m.modHeath fun h =>
      { h with prst := if level then p.val :: h.prst.filter (fun k => k != p.val) else h.prst.filter fun k => k != p.val }
    if level then m else closeWindowPrst (partitionReturn p m)

/-- SWITCH_ON_REQUEST (R310). -/
def doSwitchOnRequest (p : Fin 64) (m : Wafer) : Wafer :=
  let b := swd p
  let x := m.sward p
  if x.rst || x.waitEnum || m.on b SWD_DOMSTAT.GRANTED || m.on b SWD_DOMSTAT.SON_WAIT
      || !needsGrant p (nextDomStep p m) m then m
  else
    let m := (m.set b SWD_DOMSTAT.SON_WAIT 1).send .switchOnRequest p []
    m.modHeath fun h => { h with sonQ := h.sonQ ++ [p.val] }

/-- Whether the sequence table names every partition once (R312). -/
def seqValid (m : Wafer) : Bool :=
  (List.range 64).all fun p => (List.range 64).any fun i => m.get 0 (HTH_SEQ.PART i) == p

/-- Entry i of the order in use: partition, gap in ms and skip (R311, R312). -/
def seqEntry (i : Nat) (m : Wafer) : Nat × Nat × Bool :=
  if seqValid m then (m.get 0 (HTH_SEQ.PART i), max 1 (m.get 0 (HTH_SEQ.GAP i)), m.on 0 (HTH_SEQ.SKIP i))
  else (seqPart i, 1, false)

/-- Entries from the present place on that are not passed over (R311, R316). -/
def seqLeft (m : Wafer) : List Nat :=
  (List.range 64).filter fun i =>
    let e := seqEntry i m
    decide (m.heath.sonNext ≤ i) && !e.2.2 && partLive e.1 m && !m.heath.katFailed.contains e.1

/-- A grant reaches a Sward, unless its stop is passed by (R48). -/
def takeGrant (p : Nat) (m : Wafer) : Wafer :=
  if (m.sward p).passedBy then m
  else if (m.sward p).rst then tally p 56 m
  else
    let m := tally p 58 (tally p 55 (answered p .grant m))
    (m.set (swd p) SWD_DOMSTAT.GRANTED 1).set (swd p) SWD_DOMSTAT.SON_WAIT 0

/-- The Heath grants a switch-on (R310). (DEDUCED: log 24.) -/
def sendGrant (p : Nat) (m : Wafer) : Wafer :=
  let m := m.modHeath fun h => { h with sonLast := some m.wtime, sonQ := h.sonQ.erase p }
  takeGrant p (unicast p .grant 0 [] (m.send .switchOnGrant p []))

/-- Whether `gap` ms have passed since the previous grant. -/
def grantSpaced (gap : Nat) (m : Wafer) : Bool :=
  match m.heath.sonLast with
  | some t => decide (t + 800000 * gap ≤ m.wtime)
  | none => true

/-- SWITCH_ON_GRANT (R310, R311), at WTIME w. (DEDUCED: log 24.) -/
def doSwitchOnGrant (w : Nat) (m : Wafer) : Wafer :=
  let m := m.at w
  if !m.heath.active || decide (m.heath.bringUp < 9) then m
  else if m.heath.sonOrder then
    match seqLeft m with
    | [] => bringUpEval (m.modHeath fun h => { h with sonOrder := false })
    | i :: rest =>
      let e := seqEntry i m
      if grantSpaced e.2.1 m then
        sendGrant e.1 (m.modHeath fun h => { h with sonNext := i + 1, sonOrder := !rest.isEmpty })
      else m
  else
    match m.heath.sonQ.find? fun p => !m.heath.katFailed.contains p with
    | some p => if grantSpaced 1 m then sendGrant p m else m
    | none => m

/-- A write of HTH_SEQ[i] (R312). -/
def seqWrite (i : Nat) (data : Word) (m : Wafer) : Wafer :=
  let m := plainWrite (0x100 + 4 * i) data m
  if seqValid m then m else m.set 0 HTH_BUSTAT.SEQ_ERR 1

/-- SEQ_TABLE_WRITE (R312). -/
def doSeqTableWrite (i : Fin 64) (data : Word) (m : Wafer) : Wafer := seqWrite i data m

end Sys2Proof.Machine
end

