-- ==== Sys2Proof/Machine/Meter.lean ====
section
/-! DEFINITION.  Chapter 10, input metering: tracking of MAINS_SYNC, the converters and
their sequence tables, results and windows, calibration, feed powers and the metered
figure. -/

namespace Sys2Proof.Machine

def Wafer.modMeter (m : Wafer) (f : MeterSt → MeterSt) : Wafer := m.modHeath fun h => { h with meter := f h.meter }

def Wafer.modConv (m : Wafer) (c : Nat) (f : Converter → Converter) : Wafer :=
  m.modMeter fun x => x.setConv c (f (x.conv c))

def converters : List Nat := [0, 1, 2, 3]

/-! ### Converters (R338, R349 to R353) -/

/-- Word of MTR_SEQ[c][e]. -/
def seqWord (c e : Nat) (m : Wafer) : Word := m.word (0x31000 + 0x80 * c + 4 * e)

/-- Fields of a sequence entry (Table 10.2). -/
def seqRepeat (w : Word) : Nat := getBits w 8 8
def seqCh (w : Word) : Nat := getBits w 0 6
def seqDelay (w : Word) : Nat := getBits w 16 8
def seqSkipped (w : Word) : Bool := seqRepeat w == 0 || decide (44 ≤ seqCh w)
/-- Diagnostic conversions of an entry (R347, Table 10.2). -/
def seqDiags (w : Word) : Nat := if w.getLsbD 24 ∧ seqCh w < 40 then 2 else 0

/-- What a converter does on a start event: it idles, lets the event pass, or converts:
channel, repeat number, kind and WIN. -/
inductive ConvStep where
  | idle
  | pass
  | convert (ch rep : Nat) (kind : ConvKind) (win : Bool)

/-- A converter at a start event of its sequence (R350 to R352); the table is given as a
function of the entry. (DEDUCED: log 42.) -/
def runSequence (table : Nat → Word) : Nat → Converter → Converter × ConvStep
  | 0, c => ({ c with entry := 0, begun := false, done := 0 }, .idle)
  | fuel + 1, c =>
    let c := if c.begun then c else { c with begun := true, cfg := table c.entry, done := 0 }
    let n := seqRepeat c.cfg
    let d := seqDiags c.cfg
    let after : Converter := { c with entry := (c.entry + 1) % 32, begun := false, done := 0 }
    let next : Converter := { c with done := c.done + 1 }
    if seqSkipped c.cfg then runSequence table fuel after
    else if c.done < n then (next, .convert (seqCh c.cfg) (c.done + 1) .entry (c.cfg.getLsbD 25))
    else if c.done < n + d then
      (next, .convert (seqCh c.cfg) 0 (if c.done = n then .pullUp else .pullDown) false)
    else if c.done < n + d + seqDelay c.cfg then (next, .pass)
    else runSequence table fuel after

/-- The entry that an interruption leaves a converter at: the interrupted one from its
first repeat, or the following one where only its DELAY was running (R353). -/
def interrupt (c : Converter) : Converter :=
  if c.running.isSome ∨ ¬ c.begun then { c with begun := false, running := none }
  else { c with entry := (c.entry + 1) % 32, begun := false }

/-- A conversion in progress is discarded (R341 to R343, R350): its entry starts again,
an urgent request is pending again, a calibration conversion is made up for. -/
def discardConv (m : Wafer) (c : Nat) : Wafer :=
  let x := m.heath.meter.conv c
  match x.running with
  | none => m
  | some k =>
    let m := m.modConv c fun x => { x with running := none, begun := false }
    match k.kind with
    | .urgent =>
      let m := if x.urgent.isNone then m.modConv c fun x => { x with urgent := some k.ch } else m
      m.set 0 ⟨MTR_STAT.URG_PEND.off, 24 + c, 1⟩ 1
    | .cal => m.modMeter fun x => { x with cal := x.cal.map fun r => { r with started := r.done } }
    | _ => m

def discardAll (m : Wafer) : Wafer := converters.foldl discardConv m

/-- A conversion that ends at a start event waits for its result (R338). -/
def endConv (x : Converter) : Converter := { x with ended := match x.running with | some k => some k | none => x.ended }

/-- A converter at a start event: the conversion in progress ends, and the next one
starts (R338): a calibration's, an urgent one, or the sequence's.  Where one of the first two
starts, only a calibration's conversion ends; any other is discarded (R353, R356). -/
def startConverter (start : Nat) (free : Bool) (m : Wafer) (c : Nat) : Wafer :=
  let x := m.heath.meter.conv c
  let conv (ch entry rep : Nat) (kind : ConvKind) (win : Bool) : Conv := ⟨ch, entry, rep, kind, win, start, free, false, false⟩
  let calNow : Option CalRun := m.heath.meter.cal.filter fun r => r.conv == c && decide (r.started < 16)
  let isCal : Bool := match x.running with | some k => k.kind == .cal | none => false
  let x1 : Converter := if isCal then endConv x else x
  match calNow, x.urgent with
  | some r, _ =>
    (m.modMeter fun y => { y with cal := some { r with started := r.started + 1 } }).modConv c fun _ =>
      { interrupt x1 with running := some (conv r.ch 0 0 .cal false) }
  | none, some ch =>
    (m.modConv c fun _ => { interrupt x1 with urgent := none, running := some (conv ch 0 0 .urgent false) }).set 0
      ⟨MTR_STAT.URG_PEND.off, 24 + c, 1⟩ 0
  | none, none =>
    let r := runSequence (fun e => seqWord c e m) 34 (endConv x)
    let run : Option Conv := match r.2 with
      | .convert ch rep kind win => some (conv ch r.1.entry rep kind win)
      | _ => none
    let idle : Bool := match r.2 with | .idle => true | _ => false
    (m.modConv c fun _ => { r.1 with running := run }).set 0 ⟨MTR_STAT.SEQ_EMPTY.off, 28 + c, 1⟩ (bit idle)

def isPull (k : ConvKind) : Bool := k == .pullUp || k == .pullDown

/-- Conversions whose pin another converter's diagnostic conversion pulls (R348). -/
def markPulled (m : Wafer) : Wafer :=
  let x := m.heath.meter
  let pulls (c ch : Nat) : Bool := converters.any fun d =>
    d != c && match (x.conv d).running with | some k => isPull k.kind && k.ch == ch | none => false
  converters.foldl (fun m c => m.modConv c fun y =>
    { y with running := y.running.map fun k => { k with pulled := !isPull k.kind && pulls c k.ch } }) m

/-- Conversions that ended at start event n whose channel a lower-numbered converter
converted beside them (R359). -/
def markSecond (n : Nat) (m : Wafer) : Wafer :=
  let x := m.heath.meter
  let counts (k : ConvKind) : Bool := k == .entry || k == .urgent
  let lower (c : Nat) (k : Conv) : Bool := converters.any fun d =>
    decide (d < c) && match (x.conv d).ended with
      | some j => j.ch == k.ch && j.start == k.start && counts j.kind && !j.pulled
      | none => false
  converters.foldl (fun m c => m.modConv c fun y =>
    { y with ended := y.ended.map fun k => if k.start + 1 = n then { k with second := lower c k } else k }) m

/-- A round begins at the latest start event (R360), and with it the interval of R269: the
epochs that begin within it are kept, and it is spoilt where MAINS_SYNC is lost already. -/
def beginRound (m : Wafer) : Wafer :=
  (m.modMeter fun x => { x with roundFrom := some (x.lastStart, x.starts), roundFeeds := [], roundFree := false }).modHeath
    fun h =>
      { h with etaEpochs := h.etaEpochs.filter fun e => decide (h.meter.lastStart ≤ 12800 * e.1),
               etaBad := m.on 0 MTR_STAT.FREE }

/-- A start event at WTIME w (R338). -/
def startEvent (w : Nat) (free : Bool) (m : Wafer) : Wafer :=
  let n := m.heath.meter.starts + 1
  let m := m.modMeter fun x =>
    { x with starts := n, lastStart := w, results := x.results.filter fun r => decide (n ≤ r.start + 2) }
  if m.on 0 MTR_CFG.RUN then
    let m := if m.heath.meter.roundFrom.isNone then beginRound m else m
    markSecond n (markPulled (converters.foldl (startConverter n free) m))
  else m

/-! ### MAINS_SYNC (R87, R339 to R342) -/

/-- Tracking starts afresh (R340). -/
def trackAfresh (m : Wafer) : Wafer :=
  (m.modMeter fun x => { x with lastEdge := none, since := m.wtime }).set 0 MTR_STAT.FREE 0

/-- 25 ms without an accepted edge (R87, R341). -/
def mainsLost (w : Nat) (m : Wafer) : Wafer :=
  let m := ((m.set 0 HTH_PINSTAT.MSYNC_LOST 1).set 0 MTR_STAT.FREE 1).modHeath fun h => { h with etaBad := true }
  let m := discardAll (m.modMeter fun x => { x with waitEdge := true })
  startEvent w true (heathFault 56 0 0 m)

/-- MAINS_SYNC_LOST (R341), at WTIME w. -/
def doMainsSyncLost (w : Nat) (m : Wafer) : Wafer :=
  let m := m.at w
  let x := m.heath.meter
  if m.heath.active ∧ ¬ m.on 0 MTR_STAT.FREE ∧ x.lastEdge.getD x.since + 20000000 ≤ w then mainsLost w m else m

/-- An edge becomes a start event from which the next interval is measured. -/
def acceptEdge (w : Nat) (m : Wafer) : Wafer := startEvent w false (m.modMeter fun x => { x with lastEdge := some w })

/-- An edge that arrives in free run ends it (R342). -/
def endFreeRun (w : Nat) (m : Wafer) : Wafer := acceptEdge w (discardAll (m.set 0 MTR_STAT.FREE 0))

/-- A selected edge at WTIME w (R339, R340, R342). -/
def selectedEdge (w : Nat) (m : Wafer) : Wafer :=
  let m := m.modMeter fun x => { x with waitEdge := false }
  if m.on 0 MTR_STAT.FREE then endFreeRun w m
  else
    match m.heath.meter.lastEdge with
    | none => acceptEdge w m
    | some t =>
      let d := w - t
      if d < 12000000 then m.incSat 0 MTR_STAT.EDGE_IGN
      else if d ≤ 18000000 then acceptEdge w (m.set 0 MTR_PERIOD.PERIOD d)
      else if d ≤ 20000000 then acceptEdge w ((m.set 0 MTR_PERIOD.PERIOD d).set 0 MTR_STAT.FREQ_OOR 1)
      else endFreeRun w (mainsLost (t + 20000000) m)

/-- MAINS_SYNC_EDGE (R87, R339), at WTIME w: the deglitched pin rises or falls.
(DEDUCED: log 42.) -/
def doMainsSyncEdge (rising : Bool) (w : Nat) (m : Wafer) : Wafer :=
  let m := (m.at w).setB 0 HTH_PINSTAT.MSYNC_LVL rising
  if m.heath.active ∧ rising ≠ m.on 0 MTR_CFG.EDGE then selectedEdge w m else m

/-- Free-run period in ms (Table 10.5). -/
def freePeriod (m : Wafer) : Nat := clampN 15 23 (m.get 0 MTR_CFG.FREE_PERIOD)

/-- FREE_RUN_START_EVENT (R341), at WTIME w. -/
def doFreeRunStartEvent (w : Nat) (m : Wafer) : Wafer :=
  let m := m.at w
  if m.heath.active ∧ m.on 0 MTR_STAT.FREE ∧ m.heath.meter.lastStart + 800000 * freePeriod m ≤ w then startEvent w true m
  else m

/-! ### Values, windows and feed powers (R344 to R348, R354, R355, R359, R360) -/

/-- The value of a code on a channel (R345). -/
def channelValue (ch code : Nat) (m : Wafer) : Int :=
  let d : Int := (code : Int) - m.get 0 (MTR_CALZ.CODE_Z ch)
  clampI (-(2 ^ 31)) (2 ^ 31 - 1) (m.getI 0 (MTR_CALRZ.REF_Z ch) + (m.getI 0 (MTR_CALG.GAIN ch) * d + 2 ^ 23) / 2 ^ 24)

/-- A code at either end of its range (R344). -/
def outOfRange (code : Nat) : Bool := code == 0 || code == 0xFFFFFF

/-- A result loads MTR_DATA and MTR_DSTAT (R354). -/
def loadData (c : Nat) (k : Conv) (code : Nat) (m : Wafer) : Wafer :=
  let m := if m.on 0 (MTR_DATA.VALID c) then m.set 0 (MTR_DATA.OVR c) 1 else m
  let m := ((m.set 0 (MTR_DATA.VALID c) 1).set 0 (MTR_DATA.CH c) k.ch).set 0 (MTR_DATA.CODE c) code
  let urg : Bool := k.kind == .urgent
  let m := (m.setB 0 (MTR_DSTAT.URG c) urg).setB 0 (MTR_DSTAT.FREE c) k.free
  let m := (m.setB 0 (MTR_DSTAT.PULLED c) k.pulled).setB 0 (MTR_DSTAT.OVRNG c) (outOfRange code)
  (m.set 0 (MTR_DSTAT.ENTRY c) (if urg then 0 else k.entry)).set 0 (MTR_DSTAT.REP c) (if urg then 0 else k.rep)

/-- A result is compared with its entry's window (R355). -/
def compareWindow (c e : Nat) (v : Int) (m : Wafer) : Wafer :=
  let lo := m.getI 0 (MTR_WLO.LO c e)
  let hi := m.getI 0 (MTR_WHI.HI c e)
  let was := (m.heath.meter.conv c).outside.contains e
  let out : Bool := decide (lo ≤ hi ∧ (v < lo ∨ hi < v))
  let m := m.modConv c fun x => { x with outside := (if out then [e] else []) ++ x.outside.filter fun k => k != e }
  if out && !was then
    let m := m.putWord (0x33000 + 4 * c) (m.word (0x33000 + 4 * c) ||| bitMask e 1)
    heathFault 53 (32 * c + e) (unsigned 32 v) (m.set 0 MTR_STAT.WIN_ANY 1)
  else m

/-- A completed figure (R360 to R362). -/
def completeRound (t n : Nat) (m : Wafer) : Wafer :=
  let x := m.heath.meter
  let fen := m.get 0 MTR_FEEDCFG.FEN
  let pm := (((List.range 16).filter fun i => fen.testBit i).map fun i => m.getI 0 (MTR_FPWR.PWR i)).sum
  let d := x.lastStart - t
  let m := m.setI 0 MTR_PIN.PIN pm
  let m := (m.inc 0 MTR_RNDSTAT.RND_CNT).setB 0 MTR_RNDSTAT.FREE x.roundFree
  let m := m.set 0 MTR_RNDSTAT.CYCLES (min 255 (x.starts - n))
  let e : Int := m.get64 0 MTR_ENERGY_LO.ENERGY_LO MTR_ENERGY_HI.ENERGY_HI
  let m := m.set64 0 MTR_ENERGY_LO.ENERGY_LO MTR_ENERGY_HI.ENERGY_HI
    (unsigned 64 (e + roundDiv (pm * (d : Int) * 125) 100000000))
  beginRound (meteredFigure pm x.lastStart x.roundFree m)

/-- A round completes once every enabled feed has a product (R360). -/
def roundEval (m : Wafer) : Wafer :=
  let fen := m.get 0 MTR_FEEDCFG.FEN
  match m.heath.meter.roundFrom with
  | some (t, n) =>
    if m.on 0 MTR_CFG.RUN ∧ fen ≠ 0 ∧ (List.range 16).all (fun i => !fen.testBit i || m.heath.meter.roundFeeds.contains i) then
      completeRound t n m
    else m
  | none => m

/-- The result of a channel on a start event: the lowest-numbered converter's (R359). -/
def resultOf (l : List MeterResult) (ch start : Nat) : Option MeterResult :=
  (l.filter fun r => r.ch == ch && r.start == start).foldl
    (fun a r => match a with | some x => if r.conv < x.conv then some r else some x | none => some r) none

/-- The power of feed n from results of one start event (R359). -/
def feedProduct (n start : Nat) (m : Wafer) : Wafer :=
  let l := m.heath.meter.results
  match resultOf l n start, resultOf l (16 + n) start with
  | some v, some i =>
    if (m.get 0 MTR_FEEDCFG.FEN).testBit n then
      if m.on 0 (MTR_CALZ.VALID n) ∧ m.on 0 (MTR_CALZ.VALID (16 + n)) then
        let m := m.setI 0 (MTR_FPWR.PWR n) (roundDiv (v.value * i.value) 1000000)
        roundEval (m.modMeter fun x =>
          { x with roundFeeds := if x.roundFeeds.contains n then x.roundFeeds else n :: x.roundFeeds,
                   roundFree := x.roundFree || v.free || i.free })
      else heathFault 54 n 0 (m.set 0 MTR_STAT.NOCAL 1)
    else m
  | _, _ => m

/-- What the Heath does with the internal channels and the inlet (R266, R346). -/
def channelUse (ch : Nat) (v : Int) (m : Wafer) : Wafer :=
  if ch = 40 ∧ (v < 998000 ∨ 1002000 < v) then heathFault 51 40 (unsigned 32 v) (m.set 0 MTR_STAT.REF_ERR 1)
  else if ch = 41 ∧ (v < 776000 ∨ 824000 < v) then heathFault 51 41 (unsigned 32 v) (m.set 0 MTR_STAT.STBY_ERR 1)
  else if ch = 32 then derateEval (m.modHeath fun h => { h with inlet := some v })
  else m

/-- A result that is neither a diagnostic nor a calibration one (R345, R354, R355,
R359). -/
def takeResult (c : Nat) (k : Conv) (code : Nat) (m : Wafer) : Wafer :=
  let m := loadData c k code m
  if k.pulled then m
  else
    let v := channelValue k.ch code m
    let m := if k.kind = .entry ∧ k.win then compareWindow c k.entry v m else m
    if m.heath.meter.openCh.contains k.ch then m
    else
      let m := channelUse k.ch v (m.setI 0 (MTR_VAL.VAL k.ch) v)
      if k.ch < 32 ∧ k.second = false then
        feedProduct (k.ch % 16) k.start (m.modMeter fun x => { x with results := x.results ++ [⟨k.ch, k.start, c, v, k.free⟩] })
      else m

/-- The transfer of a converter from a voltage in nV (R344). -/
def transfer (v : Int) : Int := roundDiv (v * 2 ^ 24) 1250000000

/-- The result code of a voltage, saturated at both ends (R344). -/
def resultCode (v : Int) : Nat := (clampI 0 0xFFFFFF (transfer v)).toNat

/-- The open-wire threshold as a code difference (R344, R347). -/
def owDelta (m : Wafer) : Int := transfer (10000000 * (clampN 5 125 (m.get 0 MTR_CFG.OW_DELTA) : Int))

/-- The second diagnostic code decides the open-wire test (R347). -/
def openWire (c ch down : Nat) (m : Wafer) : Wafer :=
  match (m.heath.meter.conv c).upCode with
  | none => m
  | some up =>
    let m := m.modConv c fun x => { x with upCode := none }
    if owDelta m < (up : Int) - (down : Int) then
      let m := m.modMeter fun x => { x with openCh := ch :: x.openCh.filter fun k => k != ch }
      let a := if ch < 32 then 0x30028 else 0x3002C
      let m := (m.putWord a (m.word a ||| bitMask (ch % 32) 1)).set 0 MTR_STAT.OW_ANY 1
      let m := heathFault 52 ch 0 m
      if ch = 32 then inletLost m else m
    else m.modMeter fun x => { x with openCh := x.openCh.filter fun k => k != ch }

/-- CONVERSION_RESULT (R338, R344, R345): the conversion that ended at converter c's last
start event has its result, of v nV at the converted input. (DEDUCED: log 42.) -/
def doConversionResult (c : Fin 4) (v : Int) (m : Wafer) : Wafer :=
  let code := resultCode v
  match (m.heath.meter.conv c).ended with
  | none => m
  | some k =>
    let m := m.modConv c fun x => { x with ended := none }
    if m.heath.active then
      match k.kind with
      | .pullUp => m.modConv c fun x => { x with upCode := some code }
      | .pullDown => openWire c k.ch code m
      | .cal =>
        m.modMeter fun x =>
          { x with cal := x.cal.map fun r =>
              { r with done := r.done + 1, sum := r.sum + code, bad := r.bad || outOfRange code } }
      | _ => takeResult c k code m
    else m

/-- METER_ROUND_TIMEOUT (R360): 256 start events after the round began. -/
def doMeterRoundTimeout (m : Wafer) : Wafer :=
  match m.heath.meter.roundFrom with
  | some (_, n) =>
    if n + 256 ≤ m.heath.meter.starts ∧ m.on 0 MTR_CFG.RUN ∧ m.get 0 MTR_FEEDCFG.FEN ≠ 0 then
      beginRound (heathFault 55 0 0 (m.set 0 MTR_STAT.ROUND_TO 1))
    else m
  | none => m

/-! ### Register writes (R343, R352, R353, R355 to R357) -/

/-- All converters go to entry 0 at the next start event (R343, R352). -/
def meterStart (m : Wafer) : Wafer :=
  let m := discardAll m
  let back (c : Converter) : Converter := { c with entry := 0, begun := false, done := 0, upCode := none }
  let m := converters.foldl (fun m c => m.modConv c back) m
  m.modMeter fun x => { x with roundFrom := none, roundFeeds := [] }

/-- RESTART: beside that, every entry's next compared result starts fresh (R352, R355). -/
def meterRestart (m : Wafer) : Wafer :=
  converters.foldl (fun m c => m.modConv c fun x => { x with outside := [] }) (meterStart m)

/-- A write of MTR_CFG (Table 10.5, R340, R343, R352). -/
def meterConfig (data : Word) (m : Wafer) : Wafer :=
  let was := m.on 0 MTR_CFG.RUN
  let m := plainWrite 0x30000 data m
  let ow := m.get 0 MTR_CFG.OW_DELTA
  let fp := m.get 0 MTR_CFG.FREE_PERIOD
  let m := if ow < 5 ∨ 125 < ow ∨ fp < 15 ∨ 23 < fp then m.set 0 MTR_STAT.CFG_ERR 1 else m
  let now := m.on 0 MTR_CFG.RUN
  let m :=
    if was && !now then discardAll (m.modMeter fun x => { x with roundFrom := none, roundFeeds := [] })
    else if !was && now then trackAfresh (meterStart m)
    else m
  if data.getLsbD 30 then meterRestart m else m

/-- METER_RUN_WRITE (R340, R343), at WTIME w. -/
def doMeterRunWrite (run : Bool) (w : Nat) (m : Wafer) : Wafer :=
  meterConfig (setBits (m.word 0x30000) 31 1 (bit run)) (m.at w)

/-- METER_RESTART (R352). -/
def doMeterRestart (m : Wafer) : Wafer := meterConfig (m.word 0x30000 ||| 0x40000000) m

/-- A write of MTR_URG (R353). -/
def urgentWrite (data : Word) (m : Wafer) : Wafer :=
  let m := m.w1c 0x3000C 0x40000000 data
  if data.getLsbD 31 then
    let c := getBits data 8 2
    let ch := getBits data 0 6
    let busy : Bool := match m.heath.meter.cal with | some r => r.conv == c | none => false
    if (m.heath.meter.conv c).urgent.isSome || decide (44 ≤ ch) || busy then m.set 0 MTR_URG.URG_REJ 1
    else (m.modConv c fun x => { x with urgent := some ch }).set 0 ⟨MTR_STAT.URG_PEND.off, 24 + c, 1⟩ 1
  else m

/-- METER_URGENT_REQUEST (R353). -/
def doMeterUrgentRequest (c : Fin 4) (ch : Fin 64) (m : Wafer) : Wafer :=
  urgentWrite (BitVec.ofNat 32 (2 ^ 31 + 256 * c.val + ch.val)) m

/-- A write of MTR_CALCMD (R356, R357). -/
def calCommand (data : Word) (m : Wafer) : Wafer :=
  let m := plainWrite 0x30010 data m
  let z := data.getLsbD 31
  let f := data.getLsbD 30
  let ch := getBits data 0 6
  if z || f then
    if decide (40 ≤ ch) || m.heath.meter.cal.isSome || m.on 0 MTR_STAT.FREE || (z && f) then m.set 0 MTR_CALCMD.CAL_REJ 1
    else
      let r : CalRun := ⟨z, ch, getBits data 8 2, m.getI 0 MTR_CALREF.REF, 0, 0, 0, false⟩
      (m.modMeter fun x => { x with cal := some r }).set 0 MTR_STAT.CAL_BUSY 1
  else m

/-- ZERO (R356). -/
def doZero (ch : Fin 64) (c : Fin 4) (m : Wafer) : Wafer :=
  calCommand (BitVec.ofNat 32 (2 ^ 31 + 256 * c.val + ch.val)) m

/-- FS (R356). -/
def doFs (ch : Fin 64) (c : Fin 4) (m : Wafer) : Wafer :=
  calCommand (BitVec.ofNat 32 (2 ^ 30 + 256 * c.val + ch.val)) m

/-- The gain of an FS, rounded to nearest (R356). -/
def calGain (ref den : Int) : Int :=
  if 0 < den then roundDiv (ref * 2 ^ 24) den else roundDiv (-(ref * 2 ^ 24)) (-den)

/-- METER_CAL_COMPLETE (R356, R357): the command's 16 conversions have ended. -/
def doMeterCalComplete (m : Wafer) : Wafer :=
  match m.heath.meter.cal with
  | none => m
  | some r =>
    if r.done < 16 then m
    else
      let m := (m.modMeter fun x => { x with cal := none }).set 0 MTR_STAT.CAL_BUSY 0
      let mean := (roundDiv r.sum 16).toNat
      if r.zero then
        if r.bad then m.set 0 MTR_CALCMD.CAL_ERR 1
        else m.modMeter fun x => { x with calZero := some (r.ch, mean, r.ref) }
      else
        let z : Nat × Int := match m.heath.meter.calZero with
          | some (ch, code, ref) =>
            if ch = r.ch then (code, ref) else (m.get 0 (MTR_CALZ.CODE_Z r.ch), m.getI 0 (MTR_CALRZ.REF_Z r.ch))
          | none => (m.get 0 (MTR_CALZ.CODE_Z r.ch), m.getI 0 (MTR_CALRZ.REF_Z r.ch))
        let m := m.modMeter fun x => { x with calZero := none }
        let den : Int := (mean : Int) - (z.1 : Int)
        let gain := calGain (r.ref - z.2) den
        if r.bad ∨ (-65536 < den ∧ den < 65536) ∨ gain < -(2 ^ 31) ∨ 2 ^ 31 ≤ gain then m.set 0 MTR_CALCMD.CAL_ERR 1
        else
          let m := (m.setI 0 (MTR_CALG.GAIN r.ch) gain).set 0 (MTR_CALZ.CODE_Z r.ch) z.1
          let m := (m.setI 0 (MTR_CALRZ.REF_Z r.ch) z.2).set 0 (MTR_CALZ.VALID r.ch) 1
          m.set 0 MTR_CALCMD.CAL_DONE 1

/-- A write of MTR_SEQ, MTR_WLO or MTR_WHI (R349, R355). -/
def meterTable (a : Nat) (data : Word) (m : Wafer) : Wafer :=
  let before := m
  let old := m.word a
  let m := plainWrite a data m
  let fresh (c e : Nat) (m : Wafer) : Wafer := m.modConv c fun x => { x with outside := x.outside.filter fun k => k != e }
  if a < 0x32000 then
    let c := (a - 0x31000) / 0x80
    let e := (a - 0x31000) % 0x80 / 4
    let m := if 44 ≤ seqCh data then m.set 0 MTR_STAT.CFG_ERR 1 else m
    if !old.getLsbD 25 && data.getLsbD 25 then fresh c e m else m
  else
    let c := (a - 0x32000) / 0x100
    let e := (a - 0x32000) % 0x100 / 8
    let crossed (x : Wafer) : Bool := decide (x.getI 0 (MTR_WHI.HI c e) < x.getI 0 (MTR_WLO.LO c e))
    let m := fresh c e m
    if crossed m && !crossed before then m.set 0 MTR_STAT.CFG_ERR 1 else m

/-- Whether a Heath address is a meter register with a write rule of its own. -/
def isMeterReg (a : Nat) : Bool :=
  a == 0x30000 || a == 0x3000C || a == 0x30010 || a == 0x30030 || decide (0x31000 ≤ a ∧ a < 0x31200) || decide (0x32000 ≤ a ∧ a < 0x32400)

/-- A write to a meter register. -/
def meterWrite (a : Nat) (data : Word) (m : Wafer) : Wafer :=
  if a = 0x30000 then meterConfig data m
  else if a = 0x3000C then urgentWrite data m
  else if a = 0x30010 then calCommand data m
  else if a = 0x30030 then roundEval (plainWrite a data m)
  else meterTable a data m

/-- What a read of a meter register returns, and what it changes: MTR_DATA latches its
status and clears VALID and OVR; the latched status is read once (R354). -/
def meterRead (a : Nat) (m : Wafer) : Word × Wafer :=
  let c := (a - 0x30040) / 8
  if 0x30040 ≤ a ∧ a < 0x30060 then
    if a % 8 = 0 then
      let m' := m.modMeter fun x => { x with dstat := Store.set noWord x.dstat c (some (m.word (a + 4))) }
      (m.word a, (m'.set 0 (MTR_DATA.VALID c) 0).set 0 (MTR_DATA.OVR c) 0)
    else
      match Store.get noWord m.heath.meter.dstat c with
      | some w => (w, m.modMeter fun x => { x with dstat := Store.set noWord x.dstat c none })
      | none => (m.word a, m)
  else (m.word a, m)

/-- METER_DATA_READ (R354). -/
def doMeterDataRead (c : Fin 4) (m : Wafer) : Wafer :=
  let a := 0x30040 + 8 * c.val
  let r := meterRead a m
  r.2.send .readData 64 [a, r.1.toNat]

/-! ### Takeover (R335, R340) -/

/-- The converters of a Heath that takes over: tracking starts afresh, and what was in
progress is lost and starts again; the interval is not used by R269. -/
def meterTakeover (m : Wafer) : Wafer :=
  let m := trackAfresh (discardAll m)
  let m := converters.foldl (fun m c => m.modConv c fun x => { x with ended := none }) m
  m.modHeath fun h => { h with etaBad := true }

end Sys2Proof.Machine
end

