-- ==== Sys2Proof/Machine/Reset.lean ====
section
/-! DEFINITION.  Chapter 09, resets, Hedgerow retries and Heath redundancy (R319 to
R336), and the time base and Hedgerow of chapter 01 (R47 to R53). -/

namespace Sys2Proof.Machine

/-! ### Unit reset (R320 to R324) -/

/-- A unit's reset is noted by its Sward and reported (R320, R323). -/
def noteUnitReset (p u : Nat) (m : Wafer) : Wafer :=
  let b := swd p
  let uid := unitOf p u
  let m := ((m.incSat b SWD_RSTSTAT.URST_CNT).set b SWD_RSTSTAT.UNIT u).set b (SWD_UEPOCH.RST_SEEN u) 1
  reportEvent p 27 uid.ref 0 0 (count p 52 1 (unitAttr uid) m)

/-- The Sward's own writes that wait for a unit are dropped. -/
def dropOwn (p u : Nat) (m : Wafer) : Wafer :=
  m.modSward p fun x => { x with ownQ := Store.set noAccess x.ownQ u [] }

/-- A unit is reset on a request (R320); what its Sward had still to write to it starts over
after CLEAR. (DEDUCED: log 23.) -/
def resetUnit (p u : Nat) (m : Wafer) : Wafer :=
  let uid := unitOf p u
  let m := dropOwn p u m
  if (m.unit uid).rst = .powerOn then m
  else if (m.unit uid).rst = .run then noteUnitReset p u (clearUnit uid false m)
  else clearUnit uid false m

/-- A write of SWD_RSTCMD (R320). -/
def rstcmdWrite (p : Nat) (data : Word) (m : Wafer) : Wafer :=
  if data.getLsbD 31 then
    let u := getBits data 0 7
    if 72 ≤ u ∨ (64 ≤ u ∧ isEdge p = false) then m.set (swd p) SWD_RSTSTAT.URST_REJ 1 else resetUnit p u m
  else m

/-- URST (R320). -/
def doUrst (p : Fin 64) (u : Fin 128) (m : Wafer) : Wafer := rstcmdWrite p (BitVec.ofNat 32 (2 ^ 31 + u.val)) m

/-- VIB has fallen at the active Heath's presence comparator, which watches the VIB plane
where it stands, beside P0 or P63 (R315, Table 1.10). (DEDUCED: log 52.) -/
def vibGone (p : Nat) (m : Wafer) : Wafer :=
  if p = (if m.heath.activeId = 0 then 0 else 63) then
    let m := (m.modHeath fun h => { h with vibHeld := false }).set 0 HTH_PINSTAT.VIB_PRES 0
    if m.heath.bringUp = 5 then m.set 0 HTH_BUSTAT.VIB_WAIT 1 else m
  else m

/-- From step 9 of bring-up on, a Sward that answers restores the units it holds in RESTORE
(R313, R324, R334). -/
def mayRestore (p : Nat) (m : Wafer) : Bool :=
  decide (8 ≤ m.heath.bringUp) && !(m.sward p).rst && !(m.sward p).waitEnum

/-- UNIT_CLEAR_END (R324, R329): the Sward writes the unit's image, and after the unit's
return its rail enables and the release. (DESIGN CHOICE: log 6.) -/
def doUnitClearEnd (u : UnitId) (m : Wafer) : Wafer :=
  if (m.unit u).rst = .clear then
    let m := restoreUnit u m
    if mayRestore u.part m then beginRestore u.part u.loc m else m
  else m

/-! ### Sward reset (R325, R326) -/

/-- Bits of a Sward register that keep their value through a Sward reset although they
are neither RWS nor RWP (R17, R42, R214, R235, R248, R325, R375, R379, Table 9.16).
(DEDUCED: log 35.) -/
def swardKeep (o : Nat) : Nat :=
  if (0x2000 ≤ o ∧ o < 0x4000) ∨ o = 0x50 ∨ (0x104 ≤ o ∧ o ≤ 0x10C) ∨ (0x1100 ≤ o ∧ o < 0x1220)
      ∨ (0x4000 ≤ o ∧ o < 0x8000 ∧ o % 0x40 = 0x38) ∨ (0xA000 ≤ o ∧ o < 0xAB00) ∨ o = 0xB040 ∨ o = 0xB044 then 2 ^ 32 - 1
  else if o = 0x100 then 0xFFFFFF09
  else if o = 0x8 then 0xFF03
  else if o = 0x48 then 0xF000FFFF
  else if o = 0x64 then 0x2000001F
  else if o = 0x1014 then 0xFFFF0000
  else if o = 0xAB04 then 0xFFFF
  else 0

/-- The Sward's own registers after a Sward reset. -/
def resetSwardBlock (p : Nat) (m : Wafer) : Wafer :=
  let back (a : Nat) (w : Word) : Word :=
    if swd p ≤ a ∧ a < swd p + 0x40000 then
      let keep := BitVec.ofNat 32 (swardKeep (a - swd p))
      (w &&& keep) ||| (resetRegister m.fuse false a w &&& ~~~keep)
    else w
  { m with regs := Store.map (resetWord m.fuse) back m.regs }

/-- A Sward reset begins (R325); `cause` is 0 for a command and 1 for the watchdog.
(DEDUCED: log 35.) -/
def beginSwardReset (p cause : Nat) (m : Wafer) : Wafer :=
  let old := m.sward p
  if old.rst then m
  else
    let m := abandonWalk p (resetSwardBlock p m)
    let m := m.modSward p fun _ =>
      { frame := old.frame, rst := true, waitEnum := old.waitEnum, bypass := old.bypass,
        pendWrites := old.pendWrites, pendSwath := old.pendSwath, swath := old.swath, sig := old.sig,
        recs := old.recs, lostRun := old.lostRun, tieCur := old.tieCur, image := old.image, nbr := old.nbr,
        vsetSent := old.vsetSent, hdrCore := old.hdrCore, hdrSpine := old.hdrSpine, hdrArrRet := old.hdrArrRet,
        hdrRet := old.hdrRet, rungSent := old.rungSent, rungNext := old.rungSent, rungVolt := old.rungSent,
        leasePend := old.leasePend, lease := old.lease, lnkRaw := old.lnkRaw, lnkSince := old.lnkSince,
        lnkPassed := old.lnkPassed, afterTrip := old.afterTrip, agg := { stale := true, winN := old.agg.winN },
        nanojoules := old.nanojoules, microjoules := old.microjoules, tapBase := old.tapBase,
        reports := old.reports, reportSeq := old.reportSeq, uncounted := old.uncounted,
        colReports := old.colReports, flAt := old.flAt, lastLost := old.lastLost }
    let m := (m.set (swd p) SWD_RUNGSTAT.TGT old.rungSent).incSat (swd p) SWD_RSTSTAT.SRST_CNT
    swardFault p 38 cause 0 (m.set (swd p) SWD_CSTAT.RST_GAP 1)

/-- SWARD_WATCHDOG (R325). -/
def doSwardWatchdog (p : Fin 64) (m : Wafer) : Wafer := beginSwardReset p 1 m

/-- The shadow bank as its Sward leaves reset (R248). -/
def shadowAfterReset (p : Nat) (m : Wafer) : Wafer :=
  if shadow p m = shFW ∨ shadow p m = shFAIL then m else setShadow p shCOPY m

/-- The active Heath rewrites the SWD_SCHED of a Sward that answers again (R326). -/
def schedRewrite (m : Wafer) (p : Nat) : Wafer :=
  if (m.sward p).schedDue && m.heath.active && !(m.sward p).rst then
    schedWrite p (Store.get zeroWord m.heath.sched p) (m.modSward p fun x => { x with schedDue := false })
  else m

/-- SWARD_RESET_END (R326): frames resume; outside bring-up the Heath rewrites
SWD_SCHED, every unit returns, and a unit in RESTORE is restored. (DEDUCED: log 36.) -/
def doSwardResetEnd (p : Fin 64) (m : Wafer) : Wafer :=
  let x := m.sward p
  if x.rst ∧ ¬ x.por then
    let m := shadowAfterReset p (m.modSward p fun x => { x with rst := false })
    if x.waitEnum then m
    else
      let m := partitionReturn p (beginStep p .resume (m.modSward p fun x => { x with schedDue := true }))
      let m := if mayRestore p m then (unitsOf p).foldl (fun m u => beginRestore p u m) m else m
      schedRewrite m p
  else m

/-! ### Wafer reset (R82, R313, R318, R319, R334) -/

/-- The Heaths in wafer reset: every Heath register at its Reset value, nothing kept
but MRAM, the test fuse, the level of MAINS_SYNC and the engine's PRST levels. -/
def resetHeaths (m : Wafer) : Wafer :=
  let lvl := m.get 0 HTH_PINSTAT.MSYNC_LVL
  let old := m.heath
  let m := { m with regs := m.regs.filter fun e => decide (0x1000000 ≤ e.1) }
  let m := m.modHeath fun _ =>
    { testFuse := old.testFuse, prst := old.prst, nvm := { mram := old.nvm.mram }, auxLow := old.auxLow,
      sysLow := old.sysLow, cmdRst := old.cmdRst, vstbyLost := old.vstbyLost }
  m.set 0 HTH_PINSTAT.MSYNC_LVL lvl

/-- A wafer reset begins (R82, R334); RST_CAUSE names the cause that began it.
(DEDUCED: log 21.) -/
def beginWaferReset (cause : Nat) (m : Wafer) : Wafer :=
  let held : Bool := m.heath.auxLow || m.heath.sysLow || m.heath.cmdRst || m.heath.vstbyLost
  let cause := if m.heath.vstbyLost then 0 else if held then m.get 0 HTH_PINSTAT.RST_CAUSE else cause
  let m := if m.heath.active then m.send .waferReset 64 [] else m
  (resetHeaths m).set 0 HTH_PINSTAT.RST_CAUSE cause

/-- AUX_OK_LOW (R82). -/
def doAuxOkLow (m : Wafer) : Wafer :=
  (beginWaferReset 0 m).modHeath fun h => { h with auxLow := true }

/-- SYS_RST_ASSERT (R82). -/
def doSysRstAssert (m : Wafer) : Wafer :=
  (beginWaferReset 1 m).modHeath fun h => { h with sysLow := true }

/-- VSTBY_LOSS (R50, R82, R334): the Heaths go to their power-on state and can send
nothing. -/
def doVstbyLoss (m : Wafer) : Wafer :=
  let m := m.modHeath fun h => { h with active := false, vstbyLost := true }
  beginWaferReset 0 m

/-- A WAFER_RST command (R319). -/
def waferRstCommand (m : Wafer) : Wafer :=
  (beginWaferReset 2 m).modHeath fun h => { h with cmdRst := true }

/-- HEATH_RESET_RELEASE (R54, R82, R84, R89, R313): the Heaths leave reset and boot; the
straps are sampled, and WTIME starts again where VSTBY was lost. -/
def doHeathResetRelease (straps : Fin 4) (test : Bool) (m : Wafer) : Wafer :=
  if m.heath.bringUp = 0 ∧ m.heath.active = false then
    let m := if m.heath.vstbyLost then { m with wtime := 0 } else m
    let m := m.modHeath fun h => { h with auxLow := false, sysLow := false, cmdRst := false, vstbyLost := false }
    let m := (m.set 0 HTH_PINSTAT.SMB_ADDR straps).setB 0 HTH_PINSTAT.TEST_STRAP test
    setStep 1 (m.setB 0 HTH_PINSTAT.TEST_ON (test && m.heath.testFuse))
  else m

/-- The registers of a Sward's range, up to a size, at their Reset values; FENCE and PRST
read their pins. -/
def clearSwardRegs (p size : Nat) (m : Wafer) : Wafer :=
  let pins := getBits (m.word (swd p + 8)) 0 2
  let m := { m with regs := m.regs.filter fun e => !decide (swd p ≤ e.1 ∧ e.1 < swd p + size) }
  m.set (swd p) ⟨8, 0, 2⟩ pins

/-- A Sward keeps nothing: it is in reset and waits for enumeration.  What the world around
it holds stays: the frame number, its stop's bypass, its supply and the LNK_STAT pins. -/
def clearSward (p : Nat) (m : Wafer) : Wafer :=
  m.modSward p fun x =>
    { frame := x.frame, rst := true, bypass := x.bypass, por := x.por, lnkRaw := x.lnkRaw, lnkSince := x.lnkSince }

/-- A Sward and all its units in wafer reset (R334): every register at its Reset value.
(DEDUCED: log 36.) -/
def waferResetSward (p : Nat) (m : Wafer) : Wafer :=
  let m := clearSwardRegs p 0x100000 m
  clearSward p ((unitsOf p).foldl (fun m u =>
    let uid := unitOf p u
    if (m.unit uid).rst = .powerOn then m
    else
      let m := clearUnit uid false m
      m.modUnit uid fun x => { x with arrRet := true, pgSpine := false, sentArrRet := true, sentCore := false, lnk := 0, rung := 0 }) m)

/-- WAFER_RESET_MESSAGE (R47, R334). -/
def doWaferResetMessage (p : Fin 64) (m : Wafer) : Wafer := received p (waferResetSward p) m

/-- SWARD_HEARTBEAT_TIMEOUT (R334): a Sward without its supply does not count. -/
def doSwardHeartbeatTimeout (p : Fin 64) (m : Wafer) : Wafer := if (m.sward p).por then m else waferResetSward p m

/-! ### Power-on resets (R54) -/

/-- TVDD_POR_ASSERT (R54): the VIB of a unit or of a Sward fell below 2.8 V. (DEDUCED: logs 23,
52.) -/
def doTvddPorAssert (t : TvddId) (m : Wafer) : Wafer :=
  match t with
  | .unit u => vibGone u.part (clearUnit u true m)
  | .sward p => vibGone p (clearSward p (clearSwardRegs p 0x40000 (m.modSward p fun x => { x with por := true })))

/-- TVDD_POR_RELEASE (R54): CLEAR follows with TVDD present, and the Sward notes the
reset; a Sward goes on into its reset. (DEDUCED: log 23.) -/
def doTvddPorRelease (t : TvddId) (m : Wafer) : Wafer :=
  match t with
  | .unit u =>
    if (m.unit u).rst = .powerOn then noteUnitReset u.part u.loc (dropOwn u.part u.loc (clearUnit u false m)) else m
  | .sward p => m.modSward p fun x => { x with por := false }

/-! ### HTH_RSTCTL (R319) -/

/-- What the Heath's two interfaces lose when the active Heath goes: the access in flight,
and with it the high word latched and the low half held (R13, R335). (DEDUCED: log 73.) -/
def dropTransactions (m : Wafer) : Wafer :=
  let kept (l : Store (Option (Nat × Word))) : Store (Option (Nat × Word)) := l.filter fun e => decide (2 ≤ e.1)
  m.modHeath fun h => { h with swOut := none, smbBusy := false, latches := kept h.latches, lowHeld := kept h.lowHeld }

/-- Accesses in flight at a Heath that goes are lost: the service window answers an error and
the SMBus transaction is abandoned (R335). -/
def loseInFlight (m : Wafer) : Wafer :=
  let out := m.heath.swOut
  let busy := m.heath.smbBusy
  let m := dropTransactions m
  let m := match out with | some (a, _) => windowErrorUncoded a m | none => m
  if busy then smbusAbandon false m else m

/-- A Heath boots again, and reports its self-test (R336). -/
def bootAgain (h : Nat) (m : Wafer) : Wafer :=
  if m.heath.halting = some h ∨ m.heath.halted.contains h then m
  else m.modHeath fun x => { x with booting := h :: x.booting.filter fun k => k != h }

/-- The active Heath goes: none is active until another takes over or it comes back; its
reference is released (R88). -/
def heathGone (m : Wafer) : Wafer := m.modHeath fun h => { h with active := false, vref := none }

/-- The region writes of a Heath that resets end, their slots not valid (R443). -/
def dropJobs (h : Nat) (m : Wafer) : Wafer :=
  m.modNvm fun x =>
    { (x.setJob h 0 none).setJob h 1 none with stopped := Store.set noJobs x.stopped h [] }

/-- The active Heath resets (R319, R336). -/
def heathReset (m : Wafer) : Wafer :=
  if m.heath.active then bootAgain m.heath.activeId (heathGone (dropJobs m.heath.activeId m)) else m

/-- A write of HTH_RSTCTL (R319). -/
def rstctlWrite (data : Word) (m : Wafer) : Wafer :=
  if getBits data 24 8 ≠ 0x5A then m
  else
    match data.getLsbD 23, data.getLsbD 22, data.getLsbD 21 with
    | false, false, false => m
    | true, false, false => waferRstCommand m
    | false, true, false => heathReset m
    | false, false, true =>
      if (m.sward (getBits data 0 6)).passedBy then m else beginSwardReset (getBits data 0 6) 0 m
    | _, _, _ => m.set 0 HTH_BUSTAT.RST_REJ 1

/-- WAFER_RST (R319). -/
def doWaferRst (m : Wafer) : Wafer := rstctlWrite 0x5A800000 m
/-- HEATH_RST (R319). -/
def doHeathRst (m : Wafer) : Wafer := rstctlWrite 0x5A400000 m
/-- SWD_RST (R319, R325). -/
def doSwdRst (p : Fin 64) (m : Wafer) : Wafer := rstctlWrite (BitVec.ofNat 32 (0x5A200000 + p.val)) m

/-! ### Hedgerow (R47, R48, R327) -/

/-- The stop at each position of the ring (Table 1.10): a partition, or 64 for H_A and
65 for H_B. -/
def ringStop (i : Nat) : Nat :=
  if i = 0 then 64
  else if i = 57 then 65
  else if i < 57 then
    let row := (i - 1) / 8
    8 * row + (if row % 2 = 0 then (i - 1) % 8 else 7 - (i - 1) % 8)
  else 63 - (i - 58)

/-- HEDGEROW_MESSAGE_RECEIVE (R47): the first copy of a message is acted on, and known
by its stop, sender and sequence number; of a later one the command that follows at the stop
has no effect.  A stop knows the sequence numbers of the last half range. (DESIGN CHOICE:
log 69.) -/
def doHedgerowMessageReceive (stop sender : Fin 66) (seq : BitVec 16) (m : Wafer) : Wafer :=
  let key := (stop.val, sender.val, seq.toNat)
  if stop.val < 64 ∧ (m.sward stop).passedBy then m
  else if m.heath.heard.contains key then m.modHeath fun h => { h with dups := stop.val :: h.dups.filter fun k => k != stop.val }
  else
    m.modHeath fun h =>
      { h with heard := key :: h.heard.filter fun k =>
          !(k.1 == stop.val && k.2.1 == sender.val && !newer16 (k.2.2 + 2 ^ 15 - 1) seq.toNat) }

/-- A partition is no longer live (R271): HTH_LIVE, the lease that R272 counts for it, which
is the last one it received, and BRAKE_ACT follow. -/
def partGone (p : Nat) (m : Wafer) : Wafer :=
  let m := setPairBit HTH_LIVE_LO.LIVE HTH_LIVE_HI.LIVE p false m
  brakeActEval (m.set 0 (HTH_PLEASE.LEASE p) (Store.get zeroNat m.heath.leaseGot p))

/-- The Heath that is not active drops out of redundancy (R331). -/
def standbyGone (m : Wafer) : Wafer := (m.modHeath fun h => { h with standby := false }).set 0 HTH_HBSTAT.STBY_OK 0

/-- STOP_BYPASS_CLOSE (R48): the stop at a ring position is passed by.  A Heath whose self-check
has failed resets (R336). -/
def doStopBypassClose (i : Fin 66) (m : Wafer) : Wafer :=
  let s := ringStop i
  if s < 64 then
    let was := partLive s m
    let m := m.modSward s fun x => { x with bypass := true }
    if was then partGone s m else m
  else if s - 64 = m.heath.activeId then heathReset m
  else if m.heath.standby then bootAgain (s - 64) (standbyGone m)
  else m

/-- Kind of message that a unicast sends again. -/
def unicastOut (k : UnicastKind) : OutKind :=
  match k with
  | .lease => .lease
  | .access => .config
  | .grant => .switchOnGrant
  | .trip => .partitionTrip
  | .config => .config

def isUnicast (p : Nat) (k : UnicastKind) (addr : Nat) (x : Unicast) : Bool := x.part == p && x.kind == k && x.addr == addr

/-- HEDGEROW_ABANDON (R327), at WTIME w: 1 ms without an answer. -/
def doHedgerowAbandon (p : Fin 64) (k : UnicastKind) (addr w : Nat) (m : Wafer) : Wafer :=
  let m := m.at w
  match m.heath.unicasts.find? (isUnicast p k addr) with
  | none => m
  | some x =>
    if m.heath.active ∧ x.first + 800000 ≤ w then
      let m := m.modHeath fun h => { h with unicasts := h.unicasts.filter fun y => !isUnicast p k addr y }
      let m := setPairBit HTH_UNREACH_LO.UNREACH HTH_UNREACH_HI.UNREACH p true m
      let m := if k = .access then abandonAccess x m else m
      heathFaultAt 42 (swardRef p) 0 0 m
    else m

/-! ### Time base (R51, R52) -/

/-- A live Sward missed the present mark. -/
def markMissed (m : Wafer) : Bool :=
  match m.heath.markAt with
  | none => false
  | some l => (liveParts m).any fun p => !l.contains p

/-- ALIGNMENT_MARK (R51), at WTIME w; a Sward that the mark before did not reach has
missed it (R52). -/
def doAlignmentMark (w : Nat) (m : Wafer) : Wafer :=
  let m := m.at w
  if m.heath.active then
    let m :=
      if markMissed m then
        ((m.modHeath fun h => { h with marks := 0 }).set 0 HTH_TBSTAT.ALIGNED 0).set 0 HTH_TBSTAT.MARK_MISS 1
      else m
    (m.modHeath fun h => { h with markAt := some [], markDone := false }).send .mark 64 [w]
  else m

/-- ALIGNMENT_MARK_RECEIVE (R52): a mark reaches a Sward with its WTIME.  It counts once, as
it reaches the last live Sward, and it counts while the reference is absent too, when ALIGNED
stays 0. (DESIGN CHOICE: log 72.) -/
def doAlignmentMarkReceive (p : Fin 64) (w : Nat) (m : Wafer) : Wafer :=
  let m := m.at w
  match m.heath.markAt with
  | none => m
  | some l =>
    if l.contains p.val ∨ ¬ partLive p m then m
    else
      let m := m.modHeath fun h => { h with markAt := some (p.val :: l) }
      if m.heath.markDone = false ∧ ((liveParts m).all fun q => (p.val :: l).contains q) = true then
        let m := m.modHeath fun h => { h with marks := min 16 (h.marks + 1), markDone := true }
        if 16 ≤ m.heath.marks ∧ m.on 0 HTH_TBSTAT.REF_OK then m.set 0 HTH_TBSTAT.ALIGNED 1 else m
      else m

/-- MESH_REF_LOSS (R52). -/
def doMeshRefLoss (m : Wafer) : Wafer :=
  let m := m.modHeath fun h => { h with marks := 0 }
  ((m.set 0 HTH_TBSTAT.REF_OK 0).set 0 HTH_TBSTAT.ALIGNED 0).set 0 HTH_TBSTAT.REF_LOST 1

/-- MESH_REF_RETURN (R52). -/
def doMeshRefReturn (m : Wafer) : Wafer := m.set 0 HTH_TBSTAT.REF_OK 1

/-! ### Heartbeats, takeover and mirroring (R318, R331 to R336) -/

/-- HEARTBEAT_SEND (R331). -/
def doHeartbeatSend (w : Nat) (m : Wafer) : Wafer :=
  let m := m.at w
  if m.heath.active then m.send .heartbeat 64 [m.heath.activeId, m.get 0 HTH_HBSTAT.GEN] else m

/-- STOREs in progress start again from the mirrored contents at the new active Heath; a
region-5 write goes on there, and the old Heath's writes go on only where it halts for its
die temperature (R335, R444, Table 13.9). (DEDUCED: log 51.) -/
def nvmTakeover (m : Wafer) : Wafer :=
  let a := m.heath.activeId
  let o := 1 - a
  let again (j : NvmJob) : NvmJob := { j with page := 0, retried := false }
  let keep : Bool := m.heath.halting == some o
  let m := m.modNvm fun x =>
    let x := { x with stopped := [(a, (Store.get noJobs x.stopped a).map again)].filter fun e => e.2 != [] }
    let x := x.setJob a 0 ((x.job a 0).map again)
    if keep then x else (x.setJob o 0 none).setJob o 1 none
  nvmBusy (nvmNext m)

/-- The standby becomes the active Heath (R331, R335, Table 9.7): it closes epochs from the
first round of leases that it sends, asserts SMB_ALERT# for every cause that is pending (R85),
and drives MTR_VREF (R88). -/
def becomeActive (m : Wafer) : Wafer :=
  m.modHeath fun h =>
    { h with activeId := 1 - h.activeId, active := true, standby := false, vref := some (1 - h.activeId),
             epochFrom := none, epochGot := none, mirrorQ := [], mirror := {},
             fault := { h.fault with answered := [], released := false } }

/-- HEATH_TAKEOVER (R318, R331, R335), at WTIME w: the standby goes on from its mirror; before
POWER_READY it is a wafer reset. (DESIGN CHOICE: log 8.) -/
def doHeathTakeover (w : Nat) (m : Wafer) : Wafer :=
  let m := m.at w
  if m.heath.standby then
    let m := becomeActive (bootAgain m.heath.activeId (takeMirrored m))
    let m := m.set 0 HTH_NVMSTAT.DEFER 0
    if m.heath.ready then
      let m := ((m.inc 0 HTH_HBSTAT.GEN).incSat 0 HTH_HBSTAT.TAKEOVERS).set 0 HTH_HBSTAT.HB_LOST 1
      let m := loseInFlight ((m.set 0 HTH_HBSTAT.STBY_OK 0).set 0 HTH_SMBCFG.PAGE 0)
      let m := heathFault 44 (m.get 0 HTH_HBSTAT.GEN) 0 (nvmTakeover (meterTakeover m))
      (List.range 64).foldl schedRewrite m
    else waferRstCommand m
  else m

/-- Whether a generation is higher than the own one (R332). -/
def genHigher (other own : Nat) : Bool :=
  let d := (other + 256 - own) % 256
  decide (1 ≤ d ∧ d ≤ 127)

/-- HEARTBEAT_RECEIVE (R47, R332): the active Heath hears a heartbeat of the other one; where
that has priority, it ceases to be active, resets, and the other is the active one. -/
def doHeartbeatReceive (gen : BitVec 8) (m : Wafer) : Wafer :=
  let own := m.get 0 HTH_HBSTAT.GEN
  let a := m.heath.activeId
  let tie : Bool := gen.toNat == own || (gen.toNat + 128) % 256 == own
  received (64 + a) (fun m =>
    if m.heath.active ∧ (genHigher gen.toNat own ∨ (tie ∧ a = 1)) then
      let m := loseInFlight (heathReset m)
      let m := m.modHeath fun h => { h with activeId := 1 - a, active := true, standby := false, vref := some (1 - a) }
      (m.set 0 HTH_HBSTAT.GEN gen.toNat).set 0 HTH_HBSTAT.STBY_OK 0
    else m) m

/-- MIRROR_RECORD_RECEIVE (R47, R333): the standby applies records in order and acknowledges
each. -/
def doMirrorRecordReceive (seq : BitVec 16) (m : Wafer) : Wafer :=
  let s := seq.toNat
  received (65 - m.heath.activeId) (fun m =>
    match m.heath.mirrorQ.find? fun e => e.1 == s with
    | none => m
    | some (_, x) =>
      if m.heath.standby ∧ s = (m.heath.mirrorSeen + 1) % 2 ^ 16 then
        let m := m.modHeath fun h =>
          { h with mirrorSeen := s, mirror := x, mirrorQ := h.mirrorQ.filter fun e => e.1 != s }
        mirrorAcked (some s) (m.send .mirrorAck m.heath.activeId [s])
      else m) m

/-- STANDBY_LOST (R333). -/
def doStandbyLost (m : Wafer) : Wafer :=
  if m.heath.active ∧ m.on 0 HTH_HBSTAT.STBY_OK then
    heathFault 43 0 0 (mirrorAcked none (bootAgain (1 - m.heath.activeId) (standbyGone m)))
  else m

/-- MIRROR_COPY_DONE (R336). -/
def doMirrorCopyDone (m : Wafer) : Wafer :=
  if m.on 0 HTH_HBSTAT.MIRROR_SYNC then
    let m := m.modHeath fun h => { h with standby := true, mirrorSeen := h.mirrorSent }
    (m.set 0 HTH_HBSTAT.MIRROR_SYNC 0).set 0 HTH_HBSTAT.STBY_OK 1
  else m

end Sys2Proof.Machine
end

