-- ==== Sys2Proof/Machine/Wire.lean ====
section
/-! DEFINITION.  What travels on a Swath spoke, bit for bit: the downlink frame with its
CRC-16 (R205, Tables 6.2 and 6.3) and the uplink record with its CRC-8 (R208, Table 6.4). -/

namespace Sys2Proof.Machine

/-! ### Check values -/

/-- One bit enters a CRC register, most significant first. -/
def crcStep {w : Nat} (poly : BitVec w) (r : BitVec w) (b : Bool) : BitVec w :=
  if r.msb != b then r <<< 1 ^^^ poly else r <<< 1

/-- The CRC of all bits of a word, from the most significant on. -/
def crcBits {w n : Nat} (poly init : BitVec w) (x : BitVec n) : BitVec w :=
  ((List.range n).map fun i => x.getMsbD i).foldl (crcStep poly) init

/-- The check value of a downlink frame (R205). -/
def frameCrc (x : BitVec 1048) : BitVec 16 := crcBits 0x1021 0xFFFF x

/-- The check value of an uplink record (R208). -/
def recordCrc (x : BitVec 192) : BitVec 8 := crcBits 0x07 0x00 x

/-! ### The downlink frame -/

/-- A stop record of the downlink frame (Table 6.3); an absent field is sent as zero. -/
def stopBits (r : StopRecord) : BitVec 112 :=
  let bal (s : Nat) : BitVec 6 := BitVec.ofInt 6 ((r.bal.getD []).getD s 0)
  let acc := r.acc.getD (0, 0, false)
  BitVec.ofNat 16 (r.vset0.getD 0) ++ BitVec.ofInt 8 (r.vtrim0.getD 0) ++ BitVec.ofInt 8 (r.vtrim1.getD 0)
    ++ bal 3 ++ bal 2 ++ bal 1 ++ bal 0 ++ BitVec.ofNat 4 (r.nbr.getD 0)
    ++ BitVec.ofBool r.vset0.isSome ++ BitVec.ofBool r.vtrim0.isSome ++ BitVec.ofBool r.vtrim1.isSome
    ++ BitVec.ofBool r.bal.isSome ++ BitVec.ofBool r.nbr.isSome ++ BitVec.ofBool r.acc.isSome
    ++ BitVec.ofNat 10 (acc.1 / 4) ++ acc.2.1 ++ BitVec.ofBool acc.2.2 ++ (0 : BitVec 3)

/-- What a stop reads in its record (Table 6.3). -/
def readStop (b : BitVec 112) : StopRecord :=
  let field (v lo wid : Nat) : Option (BitVec wid) := if b.getLsbD v then some (b.extractLsb' lo wid) else none
  { vset0 := (field 51 96 16).map BitVec.toNat,
    vtrim0 := (field 50 88 8).map BitVec.toInt,
    vtrim1 := (field 49 80 8).map BitVec.toInt,
    bal := if b.getLsbD 48 then
        some [(b.extractLsb' 56 6).toInt, (b.extractLsb' 62 6).toInt, (b.extractLsb' 68 6).toInt, (b.extractLsb' 74 6).toInt]
      else none,
    nbr := (field 47 52 4).map BitVec.toNat,
    acc := if b.getLsbD 46 then some (4 * (b.extractLsb' 36 10).toNat, b.extractLsb' 4 32, b.getLsbD 3) else none }

/-- The downlink header (Table 6.2). -/
def headerBits (f : DownFrame) : BitVec 40 :=
  (0xB4 : BitVec 8) ++ BitVec.ofNat 16 f.fnum ++ BitVec.ofNat 5 f.rung ++ BitVec.ofBool f.pgCore
    ++ BitVec.ofBool f.pgSpine ++ BitVec.ofBool f.arrRet ++ BitVec.ofBool f.ret ++ BitVec.ofNat 2 f.lnk ++ (0 : BitVec 5)

/-- The downlink frame of nine stop records (R205). -/
def frameBits (h : BitVec 40) (r : Nat → BitVec 112) : BitVec 1064 :=
  let body : BitVec 1048 := h ++ r 0 ++ r 1 ++ r 2 ++ r 3 ++ r 4 ++ r 5 ++ r 6 ++ r 7 ++ r 8
  body ++ frameCrc body

/-- Whether a copy of a downlink frame has a good CRC. -/
def frameGood (b : BitVec 1064) : Bool := frameCrc (b.extractLsb' 16 1048) == b.extractLsb' 0 16

/-- What stop j takes from a downlink frame. -/
def readFrame (j : Nat) (b : BitVec 1064) : DownFrame :=
  { fnum := (b.extractLsb' 1040 16).toNat, rung := (b.extractLsb' 1035 5).toNat, pgCore := b.getLsbD 1034,
    pgSpine := b.getLsbD 1033, arrRet := b.getLsbD 1032, ret := b.getLsbD 1031, lnk := (b.extractLsb' 1029 2).toNat,
    record := readStop (b.extractLsb' (16 + 112 * (8 - j)) 112) }

/-! ### The uplink record -/

/-- Bits 33:2 of a record: read data, or an event and the SLOW word (R210). -/
def tailBits (r : UpRecord) : BitVec 32 :=
  match r.readData with
  | some w => w
  | none =>
    let e := r.event.getD ⟨0, 0, 0⟩
    BitVec.ofNat 8 e.code ++ BitVec.ofNat 2 e.slot ++ BitVec.ofNat 6 e.data ++ BitVec.ofNat 16 (r.slow.getD 0)

/-- The uplink record of a stop (Table 6.4). -/
def upBits (r : UpRecord) : BitVec 192 :=
  BitVec.ofNat 16 r.v0 ++ BitVec.ofNat 16 r.v1 ++ BitVec.ofInt 16 r.i0 ++ BitVec.ofInt 16 r.i1
    ++ BitVec.ofInt 12 r.idif0 ++ BitVec.ofInt 12 r.idif1 ++ BitVec.ofInt 12 r.temp
    ++ BitVec.ofBool r.atTgt0 ++ BitVec.ofBool r.atTgt1 ++ BitVec.ofNat 3 r.state0 ++ BitVec.ofNat 3 r.state1
    ++ BitVec.ofBool r.otw ++ BitVec.ofBool r.otsd ++ BitVec.ofNat 2 r.actL ++ BitVec.ofBool r.canary
    ++ BitVec.ofBool (r.event.isSome && r.readData.isNone) ++ BitVec.ofBool r.readData.isSome ++ (0 : BitVec 1)
    ++ BitVec.ofNat 11 r.intUp ++ BitVec.ofNat 11 r.intDn ++ BitVec.ofNat 8 r.swStep ++ BitVec.ofNat 4 r.ctx
    ++ BitVec.ofNat 8 r.ctxTag ++ tailBits r ++ (0 : BitVec 2)

/-- A record with its CRC-8 (R208). -/
def recordBits (r : UpRecord) : BitVec 200 := upBits r ++ recordCrc (upBits r)

/-- Whether a copy of a record has a good CRC. -/
def recordOk (b : BitVec 200) : Bool := recordCrc (b.extractLsb' 8 192) == b.extractLsb' 0 8

/-- What the Sward reads in a record (Table 6.4). -/
def readRecord (c : BitVec 200) : UpRecord :=
  let b : BitVec 192 := c.extractLsb' 8 192
  let rd := b.getLsbD 77
  { v0 := (b.extractLsb' 176 16).toNat, v1 := (b.extractLsb' 160 16).toNat,
    i0 := (b.extractLsb' 144 16).toInt, i1 := (b.extractLsb' 128 16).toInt,
    idif0 := (b.extractLsb' 116 12).toInt, idif1 := (b.extractLsb' 104 12).toInt, temp := (b.extractLsb' 92 12).toInt,
    atTgt0 := b.getLsbD 91, atTgt1 := b.getLsbD 90, state0 := (b.extractLsb' 87 3).toNat,
    state1 := (b.extractLsb' 84 3).toNat, otw := b.getLsbD 83, otsd := b.getLsbD 82, actL := (b.extractLsb' 80 2).toNat,
    canary := b.getLsbD 79, intUp := (b.extractLsb' 65 11).toNat, intDn := (b.extractLsb' 54 11).toNat,
    swStep := (b.extractLsb' 46 8).toNat, ctx := (b.extractLsb' 42 4).toNat, ctxTag := (b.extractLsb' 34 8).toNat,
    event := if !rd && b.getLsbD 78 then
        some ⟨(b.extractLsb' 26 8).toNat, (b.extractLsb' 24 2).toNat, (b.extractLsb' 18 6).toNat⟩
      else none,
    readData := if rd then some (b.extractLsb' 2 32) else none,
    slow := if rd then none else some (b.extractLsb' 2 16).toNat }

/-! ### Copies -/

/-- What arrives of a frame that was sent: nothing, or a copy with the bits of a pattern
flipped.  A row's operand gives the pattern at each end of the spoke. (DESIGN CHOICE: log 5.) -/
def copyOf {n : Nat} (sent : BitVec n) (flips : Option (BitVec n)) : Option (BitVec n) := flips.map fun e => sent ^^^ e

/-- The first of two copies that is good. -/
def firstGood {n : Nat} (good : BitVec n → Bool) (a b : Option (BitVec n)) : Option (BitVec n) :=
  match a.filter good with
  | some x => some x
  | none => b.filter good

end Sys2Proof.Machine
end

