-- ==== Sys2Proof/Machine/Frame.lean ====
section
/-! DEFINITION.  The Swath frame as both ends see it: what a unit samples, sends and
applies at a boundary (R203 to R210, R365 to R369), the Sward's boundary and commit
point (R203, R209 to R212, R374 to R378), and its mesh packets (R376, R377). -/

namespace Sys2Proof.Machine

/-! ### Reading a unit's registers (R371, Tables 3.26, 4.6, 4.14, 5.5 to 5.10) -/

/-- Fields of a unit that show what the unit derives at the time of the read. -/
def unitOverlays (u : UnitId) (m : Wafer) : List (Fld × Nat) :=
  let x := m.unit u
  let slots := (List.range 4).filter fun s => !slotAbsent u s
  let recent (l : List Nat) : Nat := min 15 (recentTimes m.wtime l).length
  [(TSK_SWATH.EVQ, x.events.length)]
    ++ slots.flatMap (fun s =>
      [(TSK_PHSTAT.AVAIL s, bit (available u s m)), (TSK_ILIM.IEFF s, foldBack u s m),
       (TSK_PHFLT.RECENT s, recent (x.phase s).suspendedAt)])
    ++ [0, 1].flatMap (fun q =>
      [(TSK_RFLT.RECENT q, recent (x.rail q).trippedAt), (TSK_RFLT.UV_NOW q, bit (x.rail q).uvHeld)])
    ++ (if u.isVerge then [] else
      [(TSK_GSTAT.ARMED, bit (gorseArmed u m)), (TSK_GSTAT.SMALL, bit (neighbourhood u m < 6)),
       (TSK_GSTAT.INT_ARM, bit (intentArmed u m)), (TSK_GSTAT.SUPP, bit (suppressed u m)),
       (TSK_ISTAT.INFLIGHT, x.intents.length), (TSK_ISTAT.INT_ARM, bit (intentArmed u m)),
       (TSK_NBR.OWN_PH, ownPhases u m)])

/-- What a register of a unit reads; in reset every field holds its reset value. -/
def unitWord (u : UnitId) (off : Nat) (m : Wafer) : Word :=
  let w := m.word (u.base + off)
  if (m.unit u).rst = .run then
    ((unitOverlays u m).filter fun e => e.1.off == off).foldl (fun w e => setBits w e.1.lo e.1.wid e.2) w
  else w

/-- The sentinel that a peak register takes when it is read (R371); none for any other
register. -/
def peakSentinel (u : UnitId) (off : Nat) : Option Nat :=
  let slots := (List.range 4).filter fun s => !slotAbsent u s
  if off = 0x62C ∨ off = 0x64C then some 0x7FFFFFFF
  else if off = 0x630 ∨ off = 0x650 ∨ off = 0x6C4 then some 0x80000000
  else if slots.any fun s => off == 0x684 + 0x10 * s then some 0x80000000
  else none

/-- A read of a unit's register through any path (R371). -/
def unitRead (u : UnitId) (off : Nat) (m : Wafer) : Word × Wafer :=
  let w := unitWord u off m
  match peakSentinel u off with
  | some v => (w, m.putWord (u.base + off) (BitVec.ofNat 32 v))
  | none => (w, m)

/-! ### Event attributes of accesses (R380) -/

/-- Attributes of an access to a register address, by who issued it (Table 11.5). -/
def issuerAttr (i : Issuer) (a : Nat) : EventAttr :=
  match i with
  | .own => ⟨0, 0xFFF, 2, a⟩
  | .window super => ⟨2, 0xFFF, bit super, a⟩
  | .smbus => ⟨3, 0xFFF, 2, a⟩
  | .aperture g super => ⟨4, g.val, bit super, a⟩

/-! ### Telemetry of a unit (R365 to R368) -/

/-- A mean over 2^n frames from a sum (R366). -/
def windowMean (n : Nat) (s : Int) : Int := if n = 0 then s else (s + 2 ^ (n - 1)) / 2 ^ n

/-- The values of one telemetry sample (R365): V, I and P of each rail, the phase
currents, and the temperature. -/
def telSample (u : UnitId) (s : Sample) (m : Wafer) : List Int :=
  let v0 := 125 * roundDiv s.v0 125
  let v1 := 125 * roundDiv s.v1 125
  let pw (v i : Int) : Int := roundDiv (v * i) 1000000
  [v0, s.i0, pw v0 s.i0, v1, s.i1, pw v1 s.i1, s.ph0, s.ph1, s.ph2, s.ph3, (m.unit u).temps.headD 0]

/-- Where each value of a sample is averaged into (Table 11.1). -/
def telFields (u : UnitId) : List (Option Fld) :=
  [some (TSK_TAV_V.V 0), some (TSK_TAV_I.I 0), some (TSK_TAV_P.P 0),
   some (TSK_TAV_V.V 1), some (TSK_TAV_I.I 1), some (TSK_TAV_P.P 1),
   some (TSK_TAV_PI.I 0), some (TSK_TAV_PI.I 1), some (TSK_TAV_PI.I 2),
   if u.isVerge then some (TSK_TAV_PI.I 3) else none, some TSK_TAV_T.T]

/-- The window that ends at the boundary of frame f latches (R366, R368). -/
def telLatch (u : UnitId) (f : Nat) (m : Wafer) : Wafer :=
  let b := u.base
  let x := m.unit u
  let n := m.get b TSK_TSTAT.WIN_N
  if x.telWait ∨ x.telN = 0 ∨ f ≤ x.telFrom ∨ f % 2 ^ n ≠ 0 then m
  else
    let put (m : Wafer) (e : Option Fld × Int) : Wafer :=
      match e.1 with
      | some d => m.setI b d (windowMean n e.2)
      | none => m
    let m := ((telFields u).zip x.telSums).foldl put m
    let m := m.setB b TSK_TSTAT.STALE (x.telBad || decide (x.telN < 2 ^ n))
    (m.inc b TSK_TSTAT.WSEQ).modUnit u fun x => { x with telN := 0, telSums := [], telBad := false }

/-- The boundary of frame f takes a telemetry sample; a change of WIN_N comes into
force first (R366, R367). (DEDUCED: log 40.) -/
def telBoundary (u : UnitId) (f : Nat) (s : Sample) (m : Wafer) : Wafer :=
  let b := u.base
  let m := telLatch u f m
  let n := m.get b TSK_TCFG.WIN_N
  let m :=
    if n = m.get b TSK_TSTAT.WIN_N then m
    else (m.set b TSK_TSTAT.WIN_N n).modUnit u fun x => { x with telN := 0, telSums := [], telWait := true }
  let m := if (m.unit u).telWait ∧ f % 2 ^ n = 0 then m.modUnit u fun x => { x with telWait := false, telBad := false } else m
  if (m.unit u).telWait then m
  else
    let l := telSample u s m
    m.modUnit u fun x =>
      { x with telFrom := if x.telN = 0 then f else x.telFrom, telN := x.telN + 1,
               telSums := if x.telN = 0 then l else List.zipWith (fun a c => a + c) x.telSums l }

/-- TELEMETRY_WINDOW_LATCH (R366): the boundary of frame f ends a unit's window. -/
def doTelemetryWindowLatch (u : UnitId) (f : Nat) (m : Wafer) : Wafer :=
  telLatch u f (m.at (800 * f))

/-! ### What a unit sends (R208, R210) -/

/-- Sum of MAG over the occupied LOGIC entries of a direction (Table 6.4). -/
def intentSum (u : UnitId) (up : Bool) (m : Wafer) : Nat :=
  (((m.unit u).intents.filter fun e => e.rail == 0 && e.stepUp == up).map fun e => e.mag).sum

/-- The canaries of the frame that ends (R239): CANARY of the record, LAST, WARN and
WARN_L. -/
def canaryBoundary (u : UnitId) (failing : Nat) (m : Wafer) : Bool × Wafer :=
  let b := u.base
  if u.isVerge then (false, m)
  else
    let warn := m.on b TSK_CANARY.EN && decide (m.get b TSK_CANARY.THRESH ≤ failing)
    let str := m.on b TSK_CANARY.STR_EN && (m.unit u).canaryFrame
    let m := (m.set b TSK_CANARY.LAST (if m.on b TSK_CANARY.EN then min 255 failing else 0)).setB b TSK_CANARY.WARN warn
    let m := if warn then m.set b TSK_CANARY.WARN_L 1 else m
    (warn || str, m.modUnit u fun x => { x with canaryFrame := false })

/-- The sampled part of an uplink record (Table 6.4). (DESIGN CHOICE: log 15.) -/
def sampledRecord (u : UnitId) (s : Sample) (canary : Bool) (m : Wafer) : UpRecord :=
  let b := u.base
  let x := m.unit u
  let volt (v : Int) (q : Nat) : Nat := unsignedCode 16 (roundDiv (v - preLift u q m) 125)
  let amp (w : Nat) (i : Int) : Int := signedCode w (roundDiv i 10)
  { v0 := volt s.v0 0, v1 := volt s.v1 1, i0 := amp 16 s.i0, i1 := amp 16 s.i1,
    idif0 := amp 12 (s.ph0 - s.ph1), idif1 := if u.isVerge then amp 12 (s.ph2 - s.ph3) else 0,
    temp := signedCode 12 (roundDiv (m.getI b TSK_TEMP.TEMP) 125),
    atTgt0 := m.on b (TSK_RSTAT.AT_TGT 0), atTgt1 := m.on b (TSK_RSTAT.AT_TGT 1),
    state0 := railState u 0 m, state1 := railState u 1 m,
    otw := m.on b TSK_HSTAT.OT_WARN, otsd := m.on b TSK_HSTAT.OT_SD_LATCH,
    actL := ownPhases u m, canary := canary,
    intUp := intentSum u true m, intDn := intentSum u false m, swStep := x.swStep,
    ctx := match x.ctxPend with | some c => c.ctx + 1 | none => 0,
    ctxTag := match x.ctxPend with | some c => c.tag | none => 0 }

/-- The SLOW word of a record of frame f (Table 6.4). -/
def slowWord (u : UnitId) (f : Nat) (m : Wafer) : Nat :=
  let b := u.base
  match f % 4 with
  | 0 => m.get b TSK_CFGEP.CFG_EPOCH
  | 1 => getBits (m.word (b + 0x4D0)) 0 16
  | 2 => getBits (m.word (b + 0x4D0)) 16 16
  | _ => m.get b TSK_VIB.VIB / 5000 % 2 ^ 16

/-- The record of frame f goes out with read data, or else with the oldest event and
the SLOW word (R210). -/
def finishRecord (u : UnitId) (f : Nat) (r : UpRecord) (m : Wafer) : Wafer :=
  let x := m.unit u
  match x.readData with
  | w :: rest => m.modUnit u fun x => { x with readData := rest, uplink := some { r with readData := some w } }
  | [] =>
    let r := { r with slow := some (slowWord u f m) }
    if x.evOverflow then
      m.modUnit u fun x => { x with evOverflow := false, uplink := some { r with event := some ⟨23, 0, 0⟩ } }
    else
      match x.events with
      | [] => m.modUnit u fun x => { x with uplink := some r }
      | e :: rest =>
        m.modUnit u fun x =>
          { x with events := rest, evOverflowArmed := x.evOverflowArmed || rest.isEmpty,
                   uplink := some { r with event := some e } }

/-! ### What a unit applies (R205 to R207) -/

/-- A stop's valid field that carries the register at an offset (R207). -/
def carries (u : UnitId) (r : StopRecord) (off : Nat) : Bool :=
  (off == 0x100 && r.vset0.isSome) || (off == 0x104 && r.vtrim0.isSome) || (off == 0x144 && r.vtrim1.isSome)
    || (r.bal.isSome && (List.range 4).any fun s => !slotAbsent u s && off == (TSK_PHTRIM.BAL_TRIM s).off)
    || (off == TSK_NBR.NBR_PH.off && r.nbr.isSome)

/-- The access of a record (R207). -/
def applyAccess (u : UnitId) (r : StopRecord) (m : Wafer) : Wafer :=
  match r.acc with
  | none => m
  | some (off, data, read) =>
    if read then
      let a := unitRead u off m
      a.2.modUnit u fun x => { x with readData := x.readData ++ [a.1] }
    else if carries u r off then m
    else unitWrite u off data m

/-- A set-point field applies where its value differs from the register's (R206). -/
def applySetpoint (u : UnitId) (sp : SetPoint) (f : Fld) (code : Option Int) (m : Wafer) : Wafer :=
  match code with
  | none => m
  | some c => if m.getI u.base f = 625 * c then m else setpointWrite u sp (BitVec.ofInt 32 (625 * c)) m

/-- The balance codes of a record apply to every slot of the unit (R206). -/
def applyBalance (u : UnitId) (l : List Int) (m : Wafer) : Wafer :=
  ((List.range 4).zip l).foldl (fun m e =>
    let f := TSK_PHTRIM.BAL_TRIM e.1
    if slotAbsent u e.1 ∨ m.getI u.base f = e.2 then m
    else unitWrite u f.off (setBits 0 f.lo f.wid (unsigned 6 e.2)) m) m

/-- A Verge applies the LNK_STAT value that its Sward passes (R129).  A pulse that K1 gives as
it is forced off runs to its end (R102), and the carry stays. -/
def applyLink (u : UnitId) (v : Nat) (m : Wafer) : Wafer :=
  let m := m.modUnit u fun x => { x with lnk := v }
  let off := m.on u.base (TSK_PHSTAT.FORCED_OFF 1)
  match v with
  | 0 => if railEnabled u 0 m then railDisable u 0 m else m
  | 3 => if off then backInService u 1 (m.set u.base (TSK_PHSTAT.FORCED_OFF 1) 0) else m
  | _ => if off then m else dropWindow u 1 (m.set u.base (TSK_PHSTAT.FORCED_OFF 1) 1)

/-- PG_EN_CORE follows the level sent while the conditions of R305 hold (R73, R305); its
fall frees the intents (R155). -/
def applyCore (u : UnitId) (m : Wafer) : Wafer :=
  let x := m.unit u
  if x.sentCore && coreConditions u m then m.modUnit u fun x => { x with pgCore := true }
  else if x.pgCore then freeIntents u (fun _ => true) (m.modUnit u fun x => { x with pgCore := false })
  else m

/-- The header levels and values of a frame reach a unit (Table 6.2). -/
def applyHeader (u : UnitId) (f : DownFrame) (m : Wafer) : Wafer :=
  let m := m.modUnit u fun x => { x with rung := f.rung }
  if u.isVerge then applyLink u f.lnk m
  else
    let m := m.modUnit u fun x => { x with sentCore := f.pgCore, sentArrRet := f.arrRet, pgSpine := f.pgSpine }
    let m := if m.on u.base TSK_CTL.RET = f.ret then m else writeRet u f.ret m
    retentionEval u m

/-- A whole downlink frame applies (R206, R207). -/
def applyFrame (u : UnitId) (f : DownFrame) (m : Wafer) : Wafer :=
  let r := f.record
  let m := applyAccess u r (applyHeader u f m)
  let m := applySetpoint u (.vset 0) (TSK_VSET.VSET 0) (r.vset0.map fun c => (c : Int)) m
  let m := applySetpoint u (.vtrim 0) (TSK_VTRIM.VTRIM 0) r.vtrim0 m
  let m := applySetpoint u (.vtrim 1) (TSK_VTRIM.VTRIM 1) r.vtrim1 m
  let m := match r.bal with | some l => applyBalance u l m | none => m
  let m := match r.nbr with | some n => m.set u.base TSK_NBR.NBR_PH n | none => m
  if u.isVerge then m else applyCore u m

/-- The downlink frame that a Sward sends on a spoke (R205), none where it sends none; a
non-edge partition's ninth record is all zero. -/
def spokeFrame (p k : Nat) (m : Wafer) : Option (BitVec 1064) :=
  let at' (u : Nat) : Option DownFrame := Store.get noFrame (m.sward p).down u
  let rec' (j : Nat) : BitVec 112 :=
    match at' (if j < 8 then 8 * k + j else 64 + k) with
    | some d => stopBits d.record
    | none => 0
  (at' (8 * k)).map fun d => frameBits (headerBits d) rec'

/-- The spoke on which a unit is a stop, and its place there (R44). -/
def spokeOf (u : Nat) : Nat := if u < 64 then u / 8 else u - 64
def stopOf (u : Nat) : Nat := if u < 64 then u % 8 else 8

/-- The copy of its spoke's frame that a unit acts on, of the copies that come from the two
ends (R205). -/
def frameTaken (u : UnitId) (copies : Option (BitVec 1064) × Option (BitVec 1064)) (m : Wafer) : Option (BitVec 1064) :=
  (spokeFrame u.part (spokeOf u.loc) m).bind fun b => firstGood frameGood (copyOf b copies.1) (copyOf b copies.2)

/-- DOWNLINK_FRAME_RECEIVE (R44, R205): the first copy with a good CRC is kept for its
boundary; with none, the frame counts as bad, and an access in it is lost (R207).
(DEDUCED: log 39; DESIGN CHOICE: log 5.) -/
def doDownlinkFrameReceive (u : UnitId) (copies : Option (BitVec 1064) × Option (BitVec 1064)) (m : Wafer) : Wafer :=
  if !swathRuns u m then m
  else
    match frameTaken u copies m with
    | some b => m.modUnit u fun x => { x with frame := some (readFrame (stopOf u.loc) b) }
    | none =>
      let m := m.incSat u.base TSK_SWATH.BAD_CNT
      match Store.get noSent (m.sward u.part).accSent u.loc with
      | some a => count u.part 64 1 (issuerAttr a.issuer (u.base + a.off)) m
      | none => m

/-- A peak follows the extreme of a frame, where there is one (R370). -/
def framePeak (u : UnitId) (f : Fld) (v : Option Int) (m : Wafer) : Wafer :=
  match v with | some v => peakMax u f v m | none => m

def frameLow (u : UnitId) (q : Nat) (v : Option Int) (m : Wafer) : Wafer :=
  match v with
  | some v =>
    let r := 125 * roundDiv v 125
    if r < m.getI u.base (TSK_TPK_V.VMIN q) then m.setI u.base (TSK_TPK_V.VMIN q) r else m
  | none => m

/-- An extreme of rail q counts where the rail was in REG in the frame (R370). -/
def whileReg (u : UnitId) (q : Nat) (v : Option Int) (m : Wafer) : Option Int :=
  if railState u q m = rREG ∨ ((m.unit u).rail q).regSeen then v else none

/-- The peaks of the frame that ends (R370). -/
def framePeaks (u : UnitId) (s : Sample) (m : Wafer) : Wafer :=
  let low (q : Nat) (v : Option Int) (m : Wafer) : Wafer := frameLow u q (whileReg u q v m) m
  let top (q : Nat) (v : Option Int) (m : Wafer) : Wafer := framePeak u (TSK_TPK_I.IMAX q) (whileReg u q v m) m
  let phase (k : Nat) (v : Option Int) (m : Wafer) : Wafer :=
    if slotAbsent u k then m else framePeak u (TSK_TPK_PI.IMAX k) (whileReg u (slotRail k) v m) m
  let m := top 1 s.top1 (top 0 s.top0 (low 1 s.low1 (low 0 s.low0 m)))
  let m := phase 3 s.topPh3 (phase 2 s.topPh2 (phase 1 s.topPh1 (phase 0 s.topPh0 m)))
  [0, 1].foldl (fun m q => m.modRail u q fun r => { r with regSeen := false }) m

/-- The unit's sensed values at a boundary; the tie currents show in TSK_TIEI for sides
held closed (R197, Table 5.14). -/
def takeSample (u : UnitId) (s : Sample) (m : Wafer) : Wafer :=
  let m := framePeaks u s (senseMean u 1 s.v1 (senseMean u 0 s.v0 m))
  let m := m.modPhase u 0 fun x => { x with current := s.ph0 }
  let m := m.modPhase u 1 fun x => { x with current := s.ph1 }
  let m := m.modPhase u 2 fun x => { x with current := s.ph2 }
  if u.isVerge then m.modPhase u 3 fun x => { x with current := s.ph3 }
  else
    let code (n : Nat) (i : Int) : Nat :=
      if m.on u.base (TSK_TIESTAT.CLOSED n) then min 255 (roundDiv (if i < 0 then -i else i) 50).toNat else 0
    let m := m.set u.base (TSK_TIEI.TIEI 0) (code 0 s.tie0)
    let m := m.set u.base (TSK_TIEI.TIEI 1) (code 1 s.tie1)
    let m := m.set u.base (TSK_TIEI.TIEI 2) (code 2 s.tie2)
    m.set u.base (TSK_TIEI.TIEI 3) (code 3 s.tie3)

/-- DOWNLINK_APPLY (R203, R206, R365): at the boundary of frame f the unit samples,
applies the frame that names f, and makes its uplink record. (DEDUCED: log 40.) -/
def doDownlinkApply (u : UnitId) (f : Nat) (s : Sample) (m : Wafer) : Wafer :=
  let m := m.at (800 * f)
  if !swathRuns u m then m.modUnit u fun x => { x with uplink := none, frame := none }
  else
    let m := telBoundary u f s (adoptHold u (testTick u (takeSample u s m)))
    let c := canaryBoundary u s.canary m
    let r := sampledRecord u s c.1 c.2
    let m := c.2.modUnit u fun x => { x with swStep := 0, ctxPend := none }
    let m := match (m.unit u).frame with
      | some d => if d.fnum = f % 2 ^ 16 then applyFrame u d m else m
      | none => m
    finishRecord u f r (m.modUnit u fun x => { x with frame := none })

/-! ### Uplink at the Sward (R208, R209) -/

/-- A bit of SWD_SWERR; its rise raises the spoke-error source (R209). -/
def spokeError (p : Nat) (f : Fld) (s : Nat) (m : Wafer) : Wafer :=
  let b := swd p
  if (m.get b f).testBit s then m
  else
    let m := m.set b f (m.get b f + 2 ^ s)
    swardFault p 25 (m.word (b + f.off)).toNat 0 m

/-- UPLINK_RECORD_RECEIVE (R208): what arrives of the unit's record at each end of the spoke;
the first copy with a good CRC-8 is taken. (DESIGN CHOICE: log 5.) -/
def doUplinkRecordReceive (u : UnitId) (a b : Option (BitVec 200)) (m : Wafer) : Wafer :=
  let p := u.part
  let l := u.loc
  match (m.unit u).uplink with
  | none => m
  | some r =>
    if (m.sward p).rst then m
    else
      let a := copyOf (recordBits r) a
      let b := copyOf (recordBits r) b
      let bad := bit (a.any fun c => !recordOk c) + bit (b.any fun c => !recordOk c)
      let m := if 0 < bad then spokeError p SWD_SWERR.CRC_ERR (spokeOf l) (count p 17 bad (unitAttr u) m) else m
      match firstGood recordOk a b with
      | some c =>
        m.modSward p fun x =>
          { x with inbox := Store.set noRec x.inbox l (readRecord c), got := if x.got.contains l then x.got else x.got ++ [l] }
      | none => m

/-! ### Mesh packets (R77, R80, R377) -/

/-- Without the newest packet of a class. -/
def dropNewest (c : MeshClass) (l : List MeshPacket) : List MeshPacket :=
  (l.reverse.eraseP fun k => k.cls == c).reverse

def dropOldest (c : MeshClass) (l : List MeshPacket) : List MeshPacket := l.eraseP fun k => k.cls == c

def traceDropped (p : Nat) (m : Wafer) : Wafer := tally p 49 (m.incSat (swd p) SWD_TRSTAT.TR_DROP)
def telemetryDropped (p : Nat) (m : Wafer) : Wafer := tally p 47 (m.incSat (swd p) SWD_TRSTAT.TEL_DROP)

/-- A packet joins the Sward's buffer of 8 (R377), or is discarded under FENCE (R77).
(DEDUCED: log 39.) -/
def meshPush (p : Nat) (k : MeshPacket) (m : Wafer) : Wafer :=
  let l := (m.sward p).mesh
  let has (c : MeshClass) : Bool := l.any fun x => x.cls == c
  let keep (l : List MeshPacket) (m : Wafer) : Wafer := m.modSward p fun x => { x with mesh := l }
  if m.on (swd p) SWD_BSTAT.FENCE then tally p 50 (m.set (swd p) SWD_BSTAT.MESH_DROP 1)
  else if l.length < 8 then keep (l ++ [k]) m
  else if k.cls = .trace then traceDropped p m
  else if has .trace then traceDropped p (keep (dropNewest .trace l ++ [k]) m)
  else if has .telemetry then telemetryDropped p (keep (dropOldest .telemetry l ++ [k]) m)
  else if k.cls = .telemetry then telemetryDropped p m
  else m

/-- Counter event and message of a packet sent (Table 11.4). -/
def meshEvent (c : MeshClass) : Nat × OutKind :=
  match c with
  | .power => (45, .power)
  | .telemetry => (46, .telemetry)
  | .trace => (48, .trace)

/-- MESH_PACKET_SENT (R80, R377, R410): the mesh takes the oldest packet of the first
class that waits, from a Sward, or under sender 64 from the Heath. -/
def doMeshPacketSent (sender : Fin 65) (m : Wafer) : Wafer :=
  let p := sender.val
  if p = 64 then heathPacketSent m
  else if m.on (swd p) SWD_BSTAT.FENCE then m
  else
    let l := (m.sward p).mesh
    let first := match l.find? (fun k => k.cls == .power), l.find? (fun k => k.cls == .telemetry) with
      | some k, _ => some k
      | none, some k => some k
      | none, none => l.head?
    match first with
    | none => m
    | some k =>
      let m := m.modSward p fun x => { x with mesh := dropOldest k.cls x.mesh }
      tally p (meshEvent k.cls).1 (m.send (meshEvent k.cls).2 p (k.epoch :: k.addr :: k.payload))

/-! ### Partition aggregate (R374 to R376) -/

/-- The lesser of two readings with their units, the lower reference on a tie. -/
def least (a b : Int × Nat) : Int × Nat := if b.1 < a.1 ∨ (b.1 = a.1 ∧ b.2 < a.2) then b else a
def greatest (a b : Int × Nat) : Int × Nat := if a.1 < b.1 ∨ (b.1 = a.1 ∧ b.2 < a.2) then b else a

def pickFrom (f : Int × Nat → Int × Nat → Int × Nat) (a : Option (Int × Nat)) (l : List (Int × Nat)) : Option (Int × Nat) :=
  l.foldl (fun a e => match a with | some x => some (f x e) | none => some e) a

/-- Bytes of a signed 32-bit value, most significant first. -/
def int4 (v : Int) : List Nat := bytesMsb 4 (unsigned 32 v)

/-- The telemetry packet of a window (Table 11.2) that ends at the boundary of f.
(DEDUCED: log 40.) -/
def telemetryPacket (p f n : Nat) (m : Wafer) : MeshPacket :=
  let b := swd p
  let first := f - 2 ^ n
  let addr := m.get64 b SWD_TDEST_LO.ADDR SWD_TDEST_HI.ADDR
  ⟨.telemetry, first, addr,
   bytesMsb 4 (first % 2 ^ 32) ++ [p, 128 * m.get b SWD_TASTAT.STALE + n] ++ bytesMsb 2 (m.get b SWD_TASTAT.WSEQ)
     ++ (List.range 5).flatMap (fun r => bytesMsb 4 (m.get b (SWD_TAPWR.P r)))
     ++ bytesMsb 4 (m.get b SWD_TAVMIN.V) ++ bytesMsb 2 (m.get b SWD_TAVMIN_U.UNIT / 2 ^ 16 % 2 ^ 14)
     ++ bytesMsb 4 (m.get b SWD_TAIMAX.I) ++ bytesMsb 2 (m.get b SWD_TAIMAX_U.UNIT / 2 ^ 16 % 2 ^ 14)
     ++ bytesMsb 4 (m.get b SWD_TATMAX.T) ++ bytesMsb 2 (m.get b SWD_TATMAX_U.UNIT / 2 ^ 16)
     ++ bytesMsb 8 (m.get64 b SWD_TAENERGY_LO.E SWD_TAENERGY_HI.E) ++ List.replicate 10 0⟩

/-- A least or greatest value and its unit are latched; over no stop at all it is a free
value (log 13). -/
def latchPick (p : Nat) (v un : Fld) (e : Option (Int × Nat)) (m : Wafer) : Wafer :=
  let b := swd p
  match e with
  | some (x, r) => (m.setI b v x).set b un r
  | none =>
    let m := (m.setI b v (Config.meanOfNone m.fresh)).setI b un (Config.meanOfNone (m.fresh + 1))
    { m with fresh := m.fresh + 2 }

/-- The aggregate window that ends at the boundary of frame f latches (R374). -/
def aggLatch (p f : Nat) (m : Wafer) : Wafer :=
  let b := swd p
  let a := (m.sward p).agg
  if !a.running ∨ a.n = 0 ∨ f ≤ a.start ∨ f % 2 ^ a.winN ≠ 0 then m
  else
    let m := ((List.range 5).zip a.sums).foldl (fun m e => m.setI b (SWD_TAPWR.P e.1) (windowMean a.winN e.2)) m
    let m := latchPick p SWD_TAVMIN.V SWD_TAVMIN_U.UNIT a.vmin m
    let m := latchPick p SWD_TAIMAX.I SWD_TAIMAX_U.UNIT a.imax m
    let m := latchPick p SWD_TATMAX.T SWD_TATMAX_U.UNIT a.tmax m
    let m := m.setB b SWD_TASTAT.STALE (a.stale || decide (a.n < 2 ^ a.winN))
    let m := (m.inc b SWD_TASTAT.WSEQ).modSward p fun x => { x with agg := { winN := a.winN, start := f } }
    if m.on b SWD_TACFG.TEL_EN then meshPush p (telemetryPacket p f a.winN m) m else m

/-- AGGREGATE_WINDOW_LATCH (R374): the boundary of frame f ends a Sward's window. -/
def doAggregateWindowLatch (p : Fin 64) (f : Nat) (m : Wafer) : Wafer :=
  if (m.sward p).rst then m else aggLatch p f (m.at (800 * f))

/-- Partition rail energy (R375): 1 nJ per mW and frame; event 51 counts it in mJ. -/
def addEnergy (p : Nat) (m : Wafer) : Wafer :=
  let b := swd p
  let x := m.sward p
  let n := x.nanojoules + x.signal 480
  let e : Int := (m.get64 b SWD_TAENERGY_LO.E SWD_TAENERGY_HI.E : Int) + n / 1000
  let mj := x.microjoules + n / 1000
  let m := m.set64 b SWD_TAENERGY_LO.E SWD_TAENERGY_HI.E (unsigned 64 e)
  let whole : Nat := (mj / 1000).toNat
  let m := m.modSward p fun x => { x with nanojoules := n % 1000, microjoules := mj - 1000 * (whole : Int) }
  count p 51 whole (hwEvent p) m

/-- The snapshot at the boundary of frame f joins the aggregate's window (R374); `got`
are the stops whose record came. (DEDUCED: log 40.) -/
def aggBoundary (p f : Nat) (got : List Nat) (m : Wafer) : Wafer :=
  let m := aggLatch p f m
  let n := min 20 (m.get (swd p) SWD_TACFG.WIN_N)
  let a := (m.sward p).agg
  let a := if a.winN = n then a else { winN := n, running := false }
  let a := if !a.running ∧ f % 2 ^ n = 0 then { winN := n } else a
  let x := m.sward p
  let a :=
    if a.running then
      let ts := got.filter fun u => decide (u < 64)
      let at' (base : Nat) (u : Nat) : Int × Nat := (x.signal (base + u), (unitOf p u).ref)
      let temp (u : Nat) : Int × Nat := if u < 64 then at' 256 u else (x.signal (432 + (u - 64)), (unitOf p u).ref)
      { a with start := if a.n = 0 then f else a.start, n := a.n + 1,
               sums := ((List.range 5).zip a.sums).map fun e => e.2 + x.signal (480 + e.1),
               vmin := pickFrom least a.vmin (ts.map fun u => at' 0 u),
               imax := pickFrom greatest a.imax (ts.map fun u => at' 128 u),
               tmax := pickFrom greatest a.tmax (got.map temp) }
    else a
  m.modSward p fun x => { x with agg := a }

/-! ### Traces (R378) -/

/-- The trace packet of the present frame, where one is due (R378, Table 11.3); its
signals are those that a slot of the frame reads. (DEDUCED: log 39.) -/
def tracePoint (p : Nat) (m : Wafer) : Wafer :=
  let b := swd p
  let x := m.sward p
  if m.on b SWD_TRCFG.EN ∧ x.frame % 2 ^ min 10 (m.get b SWD_TRCFG.RATE_SHIFT) = 0 then
    let nsig := clampN 1 14 (m.get b SWD_TRCFG.NSIG)
    let addr := m.get64 b SWD_TRBASE_LO.ADDR SWD_TRBASE_HI.ADDR
      + 64 * (x.traceSeq % 2 ^ min 20 (m.get b SWD_TRCFG.RING_LOG2))
    let l := bytesMsb 4 (x.frame % 2 ^ 32) ++ bytesMsb 2 x.traceSeq ++ [p, nsig]
      ++ (List.range nsig).flatMap (fun i => int4 (signalValue p (m.get b (SWD_TRSEL.SIG i)) m))
      ++ List.replicate (4 * (14 - nsig)) 0
    let m := m.modSward p fun x => { x with traceSeq := (x.traceSeq + 1) % 2 ^ 16 }
    meshPush p ⟨.trace, x.frame, addr, l⟩ m
  else m

/-! ### The snapshot (R209, R211) -/

/-- Events 0 to 18 of one record against the one before it (Table 11.4). -/
def countRecord (p u : Nat) (old r : UpRecord) (m : Wafer) : Wafer :=
  let uid := unitOf p u
  let hw := unitAttr uid
  let core := patchAttr uid
  let toReg (a b : Nat) : Nat := bit (a != rREG && b == rREG)
  let m := count p 0 (bit r.canary) hw m
  let m := count p 1 (bit r.otw) hw m
  let m := count p 2 (toReg old.state0 r.state0 + toReg old.state1 r.state1) hw m
  let m := count p 3 (toReg r.state0 old.state0 + toReg r.state1 old.state1) hw m
  let m := count p 4 (bit (!old.atTgt0 && r.atTgt0)) hw m
  let m := count p 5 (bit (!old.atTgt1 && r.atTgt1)) hw m
  let m := count p 6 r.swStep core m
  let m := count p 7 (bit (r.ctx != 0)) core m
  let m := count p 8 (bit (r.intUp != 0)) core m
  let m := count p 9 (bit (r.intDn != 0)) core m
  let m := match r.event with
    | some e => count p (11 + e.slot % 4) 1 hw (count p 10 1 hw m)
    | none => m
  count p 18 (bit r.otsd) hw m

/-- A unit event that appears in the snapshot becomes a report (R388). -/
def unitReport (p u : Nat) (r : UpRecord) (e : UnitEvent) (m : Wafer) : Wafer :=
  let uid := unitOf p u
  let b := uid.base
  if 24 < e.code then m.set (swd p) SWD_FSTAT.BAD_EVT 1
  else
    let phase : Bool := e.code == 0 || e.code == 1 || e.code == 12 || e.code == 13
    let ref := if phase then phaseRef uid e.slot else uid.ref
    if e.code = 12 ∨ e.code = 13 then
      m.modSward p fun x => { x with colReports := x.colReports ++ [⟨u, e.slot, e.code, m.wtime, none⟩] }
    else
      let db := if e.code = 9 ∨ e.code = 10 then unsigned 32 (125 * r.temp) else 0
      let m := reportEvent p e.code ref e.data db m
      if e.code = 10 ∧ m.on b TSK_OT.SD_CORE then coreHold p m else m

/-- The register that a column report waits for: TSK_CRK[s], then TSK_CRKBASE[s] (R388). -/
def ColReport.off (e : ColReport) : Nat :=
  if e.est.isNone then (TSK_CRK.EST e.slot).off else (TSK_CRKBASE.BASE e.slot).off

/-- A read of the Sward's own that a column report waits for. -/
def ColReport.asks (e : ColReport) (a : UnitAccess) : Bool := a.read && a.issuer == .own && a.off == e.off

/-- The oldest column report of unit u takes the answer to its read, which the snapshot holds
where it came (R388). -/
def columnAnswer (p u : Nat) (e : ColReport) (w : Word) (m : Wafer) : Wafer :=
  let v := getBits w 0 16
  let put (l : List ColReport) (m : Wafer) : Wafer :=
    m.modSward p fun x => { x with colReports := x.colReports.flatMap fun k => if k = e then l else [k] }
  match e.est with
  | none => put [{ e with est := some v }] m
  | some est =>
    queueReport p { code := e.code, unit := phaseRef (unitOf p u) e.slot, dataA := est, dataB := v, time := e.time } (put [] m)

/-- Whether the answer in a record is that of a column report's read, which went out in the
frame before the last (R207). -/
def columnAnswered (p u : Nat) (e : ColReport) (m : Wafer) : Bool :=
  match Store.get noSent (m.sward p).accPrev u with | some a => e.asks a | none => false

/-- The snapshot serves the column reports of unit u: the answer is taken, and a read that is
neither queued nor on its way is queued (R388). (DESIGN CHOICE: log 75.) -/
def columnReads (p u : Nat) (w : Option Word) (m : Wafer) : Wafer :=
  let x := m.sward p
  match x.colReports.find? fun k => k.unit == u with
  | none => m
  | some e =>
    let sent : Bool := match Store.get noSent x.accSent u with | some a => e.asks a | none => false
    match w, columnAnswered p u e m with
    | some w, true => columnAnswer p u e w m
    | _, _ =>
      if sent || (x.own u).any e.asks then m
      else m.modSward p fun x => { x with ownQ := Store.set noAccess x.ownQ u (x.own u ++ [⟨e.off, 0, true, .own⟩]) }

/-- The SLOW word of a record of frame f (Table 6.4, R197, R211, R328). -/
def takeSlow (p u f v : Nat) (m : Wafer) : Wafer :=
  let b := swd p
  let x := m.sward p
  match f % 4 with
  | 0 =>
    if (m.unit (unitOf p u)).rst = .run ∧ ¬ x.returning.contains u ∧ ¬ x.hdrRet
        ∧ within x (Store.get noNat x.lastLost u) 4 = false then
      ((m.set b (SWD_UEPOCH.VALID u) 1).set b (SWD_UEPOCH.RST_SEEN u) 0).set b (SWD_UEPOCH.EPOCH u) v
    else m
  | 3 => m
  | k =>
    let port := if k = 1 then 0 else 2
    m.modSward p fun x =>
      { x with tieCur := Store.set zeroInt (Store.set zeroInt x.tieCur (4 * u + port) (50 * ((v % 256 : Nat) : Int)))
                 (4 * u + port + 1) (50 * ((v / 256 : Nat) : Int)) }

/-- Read data of a unit goes to the interface whose read of the unit it answers, else to
the Sward itself (R207, R327). -/
def answerRead (p base w : Nat) (m : Wafer) : Wafer :=
  let mine (x : Unicast) : Bool :=
    x.part == p && x.kind == .access && decide (base ≤ x.addr ∧ x.addr < base + 0x1000) && x.data.getD 1 0 == 1
  match m.heath.unicasts.find? mine with
  | none => m.send .readData p [base, w]
  | some x =>
    let m := setPairBit HTH_UNREACH_LO.UNREACH HTH_UNREACH_HI.UNREACH p false
      (m.modHeath fun h => { h with unicasts := h.unicasts.filter fun y => y != x })
    if x.data.headD 0 = 2 then (m.modHeath fun h => { h with swOut := none }).send .windowData 64 [x.addr, w]
    else if m.heath.smbBusy then
      ((m.modHeath fun h => { h with smbBusy := false }).inc 0 HTH_SMBCNT.TXN_OK).send .smbus 64 (5 :: wordBytes w ++ [0])
    else m

/-- A stop whose record came in the frame that ends: its values enter the snapshot
(R209, R329 step 6). -/
def takeRecord' (p u f : Nat) (m : Wafer) : Wafer :=
  let x := m.sward p
  let r := Store.get noRec x.inbox u
  let r := if x.freshRec.contains u then { r with intUp := 0, intDn := 0, swStep := 0, ctx := 0 } else r
  let m := countRecord p u (x.record u) r m
  let m := m.modSward p fun x =>
    { x with recs := Store.set noRec x.recs u r, lostRun := Store.set zeroNat x.lostRun u 0,
             freshRec := x.freshRec.filter fun k => k != u }
  let m := match r.event with | some e => unitReport p u r e m | none => m
  let mine : Bool := match x.colReports.find? fun k => k.unit == u with
    | some e => columnAnswered p u e m
    | none => false
  let m := match r.readData, mine with | some w, false => answerRead p (unitOf p u).base w.toNat m | _, _ => m
  let m := columnReads p u r.readData m
  match r.slow with | some v => takeSlow p u (f - 1) v m | none => m

/-- A stop whose record did not come (R209): it keeps its values; a unit in CLEAR is not
counted lost (R321). (DEDUCED: log 40.) -/
def loseRecord (p u f : Nat) (m : Wafer) : Wafer :=
  let uid := unitOf p u
  let m := columnReads p u none m
  if (m.unit uid).rst = .clear then m
  else
    let n := (m.sward p).lost u + 1
    let m := m.modSward p fun x =>
      { x with lostRun := Store.set zeroNat x.lostRun u n, lastLost := Store.set noNat x.lastLost u (some f) }
    let m := spokeError p SWD_SWERR.STOP_LOST (spokeOf u) (count p 16 1 (unitAttr uid) m)
    if n = 8 then reportEvent p 26 uid.ref 0 0 (count p 15 1 (unitAttr uid) m) else m

/-- Σ V × I of rail q over units, in 10^-6 of a mW. -/
def railSum (x : SwardSt) (us : List Nat) (q : Nat) : Int :=
  (us.map fun u =>
    let r := x.record u
    if q = 0 then (125 * r.v0 : Int) * (10 * r.i0) else (125 * r.v1 : Int) * (10 * r.i1)).sum

/-- Increase of an event counter over the previous frame (R225). (DEDUCED: log 41.) -/
def tapValue (p j : Nat) (m : Wafer) : Int :=
  let k := m.get (swd p) (SWD_CTAP.CNT j)
  if m.on (swd p) (SWD_CTAP.EN j) then
    ((min (2 ^ 31 - 1) (counterValue p k m - Store.get zeroNat (m.sward p).tapBase k) : Nat) : Int)
  else 0

/-- Signal i of the snapshot (Table 6.5), but for what the context and Swath rules set
after it. -/
def snapSignal (p : Nat) (m : Wafer) (i : Nat) : Int :=
  let b := swd p
  let x := m.sward p
  let ts := tussocksOf
  let vs := vergesOf p
  let us := ts ++ vs
  let spoke (s : Nat) : List Nat := us.filter fun u => spokeOf u == s
  let verge (k : Nat) (f : UpRecord → Int) : Int := if isEdge p then f (x.record (64 + k)) else 0
  let up (l : List Nat) : Int := (l.map fun u => 50 * ((x.record u).intUp : Int)).sum
  let dn (l : List Nat) : Int := (l.map fun u => 50 * ((x.record u).intDn : Int)).sum
  if i < 64 then 125 * (x.record i).v0
  else if i < 128 then 125 * (x.record (i - 64)).v1
  else if i < 192 then 10 * (x.record (i - 128)).i0
  else if i < 256 then 625 * ((Store.get zeroNat x.vsetSent (i - 192) : Nat) : Int)
  else if i < 320 then 125 * (x.record (i - 256)).temp
  else if i < 384 then 10 * (x.record (i - 320)).idif0
  else if i < 392 then verge (i - 384) fun r => 125 * r.v0
  else if i < 400 then verge (i - 392) fun r => 125 * r.v1
  else if i < 408 then verge (i - 400) fun r => 10 * r.i0
  else if i < 416 then verge (i - 408) fun r => 10 * r.i1
  else if i < 424 then verge (i - 416) fun r => 10 * r.idif0
  else if i < 432 then verge (i - 424) fun r => 10 * r.idif1
  else if i < 440 then verge (i - 432) fun r => 125 * r.temp
  else if i < 448 then tapValue p (i - 440) m
  else if i < 456 then up (spoke (i - 448))
  else if i < 464 then dn (spoke (i - 456))
  else if i < 480 then m.getI b (SWD_PROUT.Y (i - 464))
  else if 512 ≤ i then m.getI b (SWD_SOUT.OUT (i - 512))
  else
    match i with
    | 480 => roundDiv (railSum x us 0 + railSum x us 1) 1000000
    | 481 => roundDiv (railSum x ts 0) 1000000
    | 482 => roundDiv (railSum x ts 1) 1000000
    | 483 => roundDiv (railSum x vs 0) 1000000
    | 484 => roundDiv (railSum x vs 1) 1000000
    | 485 => m.get b SWD_LBUD.BUDGET
    | 486 => m.get b SWD_LFLR.FLOOR
    | 487 => m.get b SWD_RUNGSTAT.RUNG
    | 488 => rungLimit p m
    | 491 => ((min 255 ((us.map fun u => (x.record u).swStep).sum) : Nat) : Int)
    | 492 => m.get b SWD_CTXSTAT.CUR
    | 493 => up us
    | 494 => dn us
    | 495 => (us.map fun u => 125 * (x.record u).temp).foldl max (125 * (x.record 0).temp)
    | 496 => (us.filter fun u => (x.record u).otw).length
    | 497 => 525000 + 25000 * (m.get b SWD_RUNGSTAT.RUNG : Int)
    | 498 =>
      let l := x.vib.flatten
      if l = [] then Config.meanOfNone m.fresh else roundDiv l.sum l.length
    | _ => 0

/-- Signals 488 and 492 follow the context of the boundary. -/
def contextSignals (p : Nat) (m : Wafer) : Wafer :=
  let m := m.modSward p fun x =>
    { x with sig := Store.set zeroInt (Store.set zeroInt x.sig 488 (rungLimit p m)) 492 (m.get (swd p) SWD_CTXSTAT.CUR) }
  swathSignals p m

/-! ### The cap of an adopted patch (R197) -/

/-- Tie currents that the neighbours report toward Tussock u, times its LOGIC voltage: the
power in nW that its ties bring it (R197). -/
def tiePower (p u : Nat) (m : Wafer) : Nat :=
  let g := 64 * p + u
  let amps := ((List.range 4).filterMap fun n => (neighbour g n).map fun h =>
    Store.get zeroInt (m.sward (h / 64)).tieCur (4 * (h % 64) + facingPort n)).sum
  (amps * (m.sward p).signal u).toNat

/-- Sum of an adopted patch's tie power over the last 1,000 frames. -/
def tieSum (p u : Nat) (m : Wafer) : Nat := (Store.get noPow (m.sward p).tiePow u).sum

/-- The 1 ms mean of each adopted patch's tie power, and since when it exceeds 40 % of 1/64 of
the lease (R197). -/
def adoptedPower (p f : Nat) (m : Wafer) : Wafer :=
  tussocksOf.foldl (fun m u =>
    if m.on (unitOf p u).base TSK_HSTAT.ADOPTED then
      let l := (tiePower p u m :: Store.get noPow (m.sward p).tiePow u).take 1000
      let high : Bool := decide (m.get (swd p) SWD_LBUD.BUDGET * 10 ^ 9 < 160 * l.sum)
      let since := match Store.get noNat (m.sward p).tieOver u with | some k => k | none => f
      m.modSward p fun x =>
        { x with tiePow := Store.set noPow x.tiePow u l, tieOver := Store.set noNat x.tieOver u (if high then some since else none) }
    else
      m.modSward p fun x => { x with tiePow := Store.set noPow x.tiePow u [], tieOver := Store.set noNat x.tieOver u none }) m

/-- VIB values that the records of the previous frame report (signal 498). -/
def frameVib (p f : Nat) (got : List Nat) (m : Wafer) : List Int :=
  if (f - 1) % 4 = 3 then
    got.filterMap fun u => ((m.sward p).record u).slow.map fun v => 5000 * (v : Int)
  else []

/-- The input snapshot of the boundary of frame f (R209, R211, R212, R239, R245, R288,
R290). -/
def takeSnapshot (p f : Nat) (m : Wafer) : Wafer :=
  let got := (m.sward p).got.filter fun u => (unitsOf p).contains u
  let m := (unitsOf p).foldl (fun m u => if got.contains u then takeRecord' p u f m else loseRecord p u f m) m
  let vib := frameVib p f got m
  let m := m.modSward p fun x => { x with vib := (vib :: x.vib).take 4, inbox := [], got := [] }
  let m := m.modSward p fun x => { x with sig := Store.build zeroInt 768 (snapSignal p m) }
  let m := { m with fresh := m.fresh + 1 }
  let m := m.modSward p fun x =>
    { x with tapBase := Store.build zeroNat 96 fun k => counterValue p k m,
             canaryNow := tussocksOf.filter fun t => (x.record t).canary || x.kaFail.contains t, kaFail := [] }
  let ctxs := (unitsOf p).map fun u => ((m.sward p).record u).ctx
  let m := contextSignals p (contextBoundary p ctxs m)
  let m := ((m.sward p).canaryNow).foldl (fun m t => bumpTussock p t m) m
  addEnergy p (aggBoundary p f got (adoptedPower p f m))

/-- The boundary of frame f brings a snapshot; until the first one after a Sward reset, the
records that have come are not used (R326), and only the signals of the contexts follow. -/
def snapshotBoundary (p f : Nat) (m : Wafer) : Wafer :=
  let x := m.sward p
  if x.dom = .resume ∧ f < x.domSince + 3 then contextSignals p (m.modSward p fun x => { x with inbox := [], got := [] })
  else takeSnapshot p f m

/-! ### Power packets (R277) -/

/-- The power packet of the epoch that ends at the boundary of frame f (Table 8.1), and
the snapshot's share in the epoch under way. -/
def powerBoundary (p f : Nat) (m : Wafer) : Wafer :=
  let x := m.sward p
  let m :=
    if f % 16 = 0 then
      let e := f / 16 - 1
      let m := m.modSward p fun x => { x with powSum := 0, powN := 0 }
      if x.powN = 0 ∨ m.on (swd p) SWD_BSTAT.FENCE then m
      else
        let mean := (max 0 (x.powSum / (x.powN : Int))).toNat
        let l := bytesMsb 4 (e % 2 ^ 32) ++ bytesMsb 4 mean ++ bytesMsb 8 (2 ^ p) ++ bytesMsb 2 1 ++ List.replicate 6 0
        meshPush p ⟨.power, e, 0, l⟩ m
    else m
  m.modSward p fun x => { x with powSum := x.powSum + x.signal 480, powN := x.powN + 1 }

/-! ### The downlink frame (R205 to R207, R223, R236) -/

/-- LNK of the header for link k (R78, R129, R198, R308). -/
def linkHeader (p k : Nat) (m : Wafer) : Nat :=
  if !isEdge p then 0
  else if m.on (swd p) SWD_DOMSTAT.TRAIN ∧ ¬ (m.sward p).lnkPassed.contains k then 3
  else if linkLost p k m then 0
  else m.get (swd p) (lnkField k)

/-- VTRIM code of a committed output (Table 6.8). -/
def trimCode (c : Int) : Int := clampI (-64) 64 (roundDiv c 625)

/-- BAL of a record (R206): driven pairs, and the image's trims elsewhere. -/
def balanceCodes (p u : Nat) (dests : List (Nat × Nat × Int)) (m : Wafer) : Option (List Int) :=
  let verge : Bool := decide (64 ≤ u)
  let d0 := fieldValue dests u 2
  let d1 := if verge then fieldValue dests u 3 else none
  let held (s : Nat) : Int :=
    if !verge && s == 3 then 0
    else signed 6 (getBits (imageValue p u (0x204 + 0x20 * s) m) 0 6)
  let pair (d : Option Int) (s : Nat) : Int :=
    match d with
    | some c => if s % 2 = 0 then clampI (-25) 25 c else -(clampI (-25) 25 c)
    | none => held s
  if d0.isSome || d1.isSome then some [pair d0 0, pair d0 1, pair d1 2, pair d1 3] else none

/-- The stop record of unit u (Table 6.3). -/
def stopRecord (p u : Nat) (dests : List (Nat × Nat × Int)) (acc : Option UnitAccess) (m : Wafer) : StopRecord :=
  { vset0 := if u < 64 ∧ m.on (swd p) SWD_LDCTL.DRIVE then some (vsetCode p u m) else none,
    vtrim0 := (fieldValue dests u 0).map trimCode, vtrim1 := (fieldValue dests u 1).map trimCode,
    bal := balanceCodes p u dests m,
    nbr := if u < 64 then some (Store.get zeroNat (m.sward p).nbr u) else none,
    acc := acc.map fun a => (a.off, a.data, a.read) }

/-- Fields of a record that carry another value than in the frame before (event 24).
(DEDUCED: log 41.) -/
def changedFields (old new : StopRecord) : Nat :=
  bit (new.vset0.isSome && old.vset0 != new.vset0) + bit (new.vtrim0.isSome && old.vtrim0 != new.vtrim0)
    + bit (new.vtrim1.isSome && old.vtrim1 != new.vtrim1) + bit (new.bal.isSome && old.bal != new.bal)
    + bit (new.nbr.isSome && old.nbr != new.nbr)

/-- The next access of a stop: the Sward's own writes first (R207). (DEDUCED: log 25.) -/
def nextAccess (p u : Nat) (m : Wafer) : Option UnitAccess × Wafer :=
  let x := m.sward p
  match x.own u, x.access u with
  | a :: rest, _ => (some a, m.modSward p fun x => { x with ownQ := Store.set noAccess x.ownQ u rest })
  | [], a :: rest => (some a, m.modSward p fun x => { x with accQ := Store.set noAccess x.accQ u rest })
  | [], [] => (none, m)

/-- The stop of unit u in the downlink frame that starts at the boundary of f. -/
def sendStop (p f : Nat) (dests : List (Nat × Nat × Int)) (m : Wafer) (u : Nat) : Wafer :=
  let uid := unitOf p u
  let a := nextAccess p u m
  let m := a.2
  let x := m.sward p
  let r := stopRecord p u dests a.1 m
  let old := match Store.get noFrame x.down u with | some d => d.record | none => {}
  let d : DownFrame :=
    { fnum := (f + 1) % 2 ^ 16, rung := x.rungSent, pgCore := x.hdrCore, pgSpine := x.hdrSpine, arrRet := x.hdrArrRet,
      ret := x.hdrRet, lnk := linkHeader p (spokeOf u / 2) m, record := r }
  let m := m.modSward p fun x =>
    { x with down := Store.set noFrame x.down u (some d),
             accPrev := Store.set noSent x.accPrev u (Store.get noSent x.accSent u),
             accSent := Store.set noSent x.accSent u a.1,
             vsetSent := match r.vset0 with | some c => Store.set zeroNat x.vsetSent u c | none => x.vsetSent }
  let m := count p 24 (changedFields old r) (hwEvent p) m
  match a.1 with
  | some a =>
    let m := if a.read then m else recordImage p u a.off a.data m
    count p (if a.read then 62 else 63) 1 (issuerAttr a.issuer (uid.base + a.off)) m
  | none => m

/-- FRAME_BOUNDARY (R203): the boundary of frame f at a Sward. -/
def doFrameBoundary (p : Fin 64) (f : Nat) (m : Wafer) : Wafer :=
  let b := swd p
  let m := m.at (800 * f)
  if (m.sward p).rst then m.modSward p fun x => { x with frame := f }
  else
    let load := min 65535 (workDue p m)
    let m := (m.set b SWD_LOAD.LAST load).set b SWD_LOAD.PEAK (max (m.get b SWD_LOAD.PEAK) load)
    let m := tally p 19 (count p 23 load (hwEvent p) m)
    let m := m.modSward p fun x => { x with frame := f, results := [], predRan := [], committed := false }
    let x := m.sward p
    let m :=
      if m.get b SWD_RUNGSTAT.RUNG = x.rungSent then m
      else (m.set b SWD_RUNGSTAT.RUNG x.rungSent).modSward p fun x => { x with rungChanged := some f }
    let m := if (m.sward p).swapReady then makeSwap p m else m
    let m := snapshotBoundary p f (applyPending p (leaseBoundary p m))
    let m := paceBreakEval p (powerBoundary p f m)
    let m := m.modSward p fun x => { x with rungSent := x.rungNext }
    let dests := slotDests p m
    configStep ((unitsOf p).foldl (sendStop p f dests) m)

/-! ### The commit point (R203, R219, R247) -/

/-- The swap is to be made at the next boundary (R247): the bank is validated, no rung
change is under way and no brake came in the last 256 frames. -/
def swapCommit (p : Nat) (changed : Bool) (m : Wafer) : Wafer :=
  let x := m.sward p
  if shadow p m = shPEND ∧ m.get (swd p) SWD_RUNGSTAT.SEQ = 0 ∧ changed = false ∧ within x x.brakeFrame 256 = false then
    m.modSward p fun x => { x with swapReady := true }
  else m

/-- COMMIT_POINT (R203): 960 ns into the frame. -/
def doCommitPoint (p : Fin 64) (m : Wafer) : Wafer :=
  let x := m.sward p
  if x.rst || x.committed then m
  else
    let m := tracePoint p (m.at (800 * x.frame + 768))
    let r := sequencer p (brakeCommit p (commitSlots p m))
    let m := fullCommit p (walkCommit p r.2 (swapCommit p r.2 r.1))
    let m :=
      if mayWalk p m && !r.2 then
        match nextWalk p m with
        | some t => startWalk p t m
        | none => m
      else m
    (domCommit p m).modSward p fun x => { x with committed := true }

/-! ### Neighbours (R135, R197) -/

/-- Active LOGIC phases of a Tussock as its record shows them; none for an adopted
patch (R135). (DEDUCED: log 28.) -/
def reportedPhases (g : Nat) (m : Wafer) : Nat :=
  if m.on (tus g) TSK_HSTAT.ADOPTED then 0 else ((m.sward (g / 64)).record (g % 64)).actL

/-- NBR_COUNT_CHANGE (R135): the active-phase count of a Tussock changed, and the counts
of its neighbours follow; across a field boundary the count goes over Hedgerow. -/
def doNbrCountChange (g : Fin 4096) (m : Wafer) : Wafer :=
  ((List.range 4).filterMap fun n => neighbour g n).foldl (fun m h =>
    let m := if h / 64 = g.val / 64 then m else m.send .nbrCount (h / 64) [g.val, reportedPhases g m]
    let sum := (((List.range 4).filterMap fun n => neighbour h n).map fun k => reportedPhases k m).sum
    m.modSward (h / 64) fun x => if x.rst then x else { x with nbr := Store.set zeroNat x.nbr (h % 64) sum }) m

/-- The 1 ms mean of an adopted patch's tie power has exceeded its budget for 1 ms (R197). -/
def overCap (g : Nat) (m : Wafer) : Bool :=
  let x := m.sward (g / 64)
  !x.rst && match Store.get noNat x.tieOver (g % 64) with | some f => decide (f + 1000 ≤ x.frame) | none => false

/-- ADOPTION_OVER_CAP (R197), at WTIME w: reported with the budget and the mean in mW, and
again after each further 1 ms over it. (DESIGN CHOICE: log 71.) -/
def doAdoptionOverCap (g : Fin 4096) (w : Nat) (m : Wafer) : Wafer :=
  let m := m.at w
  let p := g.val / 64
  let t := g.val % 64
  if overCap g m then
    let bud := freeDiv (m.get (swd p) SWD_LBUD.BUDGET) 160
    let mean := freeDiv (tieSum p t m) (10 ^ 9)
    reportEvent p 29 (UnitId.tussock g).ref bud.toNat mean.toNat
      (m.modSward p fun x => { x with tieOver := Store.set noNat x.tieOver t (some x.frame) })
  else m

end Sys2Proof.Machine
end

