-- ==== Sys2Proof/Machine/Access.lean ====
section
/-! DEFINITION.  Register accesses from outside (R13, R16 to R21, R30 to R33, R56, R57,
R371, R385, R427, R428): where an address leads, what each register does on a read and
on a write, the interfaces' 64-bit latches, and the remap window. -/

namespace Sys2Proof.Machine

/-! ### The remap window (R31 to R33) -/

/-- A map entry as a word of VALID and PHYS. -/
def mapWord (data : Word) : Word := data &&& 0x80000FFF

/-- Entry n of the pending copy (R31). -/
def mapPending (n : Nat) (m : Wafer) : Word :=
  match m.heath.mapPend.find? fun e => e.1.val == n with
  | some (_, w) => w
  | none => m.word (0x101000 + 4 * n)

/-- No physical number stands in two valid entries of the pending copy (R32). -/
def mapUnique (m : Wafer) : Bool :=
  let phys := ((List.range 4096).map fun n => mapPending n m).filterMap fun w =>
    if w.getLsbD 31 then some (getBits w 0 12) else none
  (List.range 4096).all fun g => decide (phys.count g ≤ 1)

/-- The window closes and its pending copy goes. -/
def mapClose (m : Wafer) : Wafer := (m.modHeath fun h => { h with mapPend := [] }).set 0 HTH_MAPCTL.OPEN 0

/-- COMMIT while the window is open (R32). -/
def mapCommit (m : Wafer) : Wafer :=
  if mapUnique m then
    mapClose (m.heath.mapPend.foldr (fun e m => m.putWord (0x101000 + 4 * e.1.val) e.2) (m.inc 0 HTH_MAPCTL.MAP_GEN))
  else mapClose (m.set 0 HTH_MAPCTL.MAP_ERR 1)

/-- Every partition's PRST is asserted, as reported (R31). -/
def prstAll (m : Wafer) : Bool := (List.range 64).all fun p => m.heath.prst.contains p

/-- OPEN while the window is closed (R31, R199). -/
def mapOpen (m : Wafer) : Wafer :=
  if prstAll m then
    (m.modHeath fun h => { h with mapPend := [], windows := h.windows + 1 }).set 0 HTH_MAPCTL.OPEN 1
  else m.set 0 HTH_MAPCTL.OPEN_REJ 1

/-- A write of HTH_MAPCTL (R31, R32, Table 1.4). -/
def mapctlWrite (data : Word) (m : Wafer) : Wafer :=
  let m := m.w1c 0x100000 0x1C data
  match m.on 0 HTH_MAPCTL.OPEN, data.getLsbD 1, data.getLsbD 0 with
  | true, true, _ => mapCommit m
  | true, false, false => mapClose m
  | true, false, true => m
  | false, true, _ => m.set 0 HTH_MAPCTL.MAP_WERR 1
  | false, false, true => mapOpen m
  | false, false, false => m

/-- A write of HTH_LMAP[n] (R31, R33). -/
def lmapWrite (n : Fin 4096) (data : Word) (m : Wafer) : Wafer :=
  if m.on 0 HTH_MAPCTL.OPEN then
    m.modHeath fun h => { h with mapPend := (n, mapWord data) :: h.mapPend.filter fun e => e.1 != n }
  else m.set 0 HTH_MAPCTL.MAP_WERR 1

/-- MAP_OPEN (R31): a write of OPEN = 1. -/
def doMapOpen (m : Wafer) : Wafer := mapctlWrite 1 m

/-- MAP_COMMIT (R32): a write of COMMIT = 1 with either value of OPEN. -/
def doMapCommit (opens : Bool) (m : Wafer) : Wafer := mapctlWrite (BitVec.ofNat 32 (2 + bit opens)) m

/-- MAP_DISCARD (R32): a write of OPEN = 0 and COMMIT = 0. -/
def doMapDiscard (m : Wafer) : Wafer := mapctlWrite 0 m

/-- LMAP_WRITE (R31, R33). -/
def doLmapWrite (n : Fin 4096) (data : Word) (m : Wafer) : Wafer := lmapWrite n data m

/-! ### Writes to the Heath's registers -/

/-- HTH_LSEL of an interface (R57). -/
def lsel (i : Issuer) (m : Wafer) : Nat := if i = .smbus then getBits m.heath.lselSmb 0 12 else m.get 0 HTH_LSEL.LOG

/-- A write of HTH_NVMCMD (R438). -/
def storeWrite (data : Word) (m : Wafer) : Wafer :=
  if getBits data 24 8 = 0x5A ∧ data.getLsbD 23 then
    if (data.getLsbD 0 ∧ ¬ m.on 0 HTH_PINSTAT.TEST_ON) ∨ m.on 0 HTH_BUSTAT.HALT then m.set 0 HTH_NVMSTAT.REJ 1
    else m.each ((List.range 6).filter fun r => data.getLsbD r) nvmQueue
  else m

/-- The SPI pins outside an image read (R86, R436): all at high impedance under SPI_REL; else
SPI_CS# is high, SPI_SCK is low, and the flash of 1-1-1 mode has its IO2 and IO3 high.  During a
read they do not follow SPI_REL. (DEDUCED: log 54.) -/
def spiPins (m : Wafer) : Wafer :=
  if m.heath.bringUp = 3 ∨ m.heath.lone = 3 then m
  else
    let high : Option Bool := if 4 ≤ m.heath.bringUp ∧ ¬ m.on 0 HTH_FLSTAT.QUAD then some true else none
    m.modHeath fun h =>
      { h with spi := if m.on 0 HTH_IMGCFG.SPI_REL then ⟨none, none, none, none⟩ else ⟨some true, some false, high, high⟩ }

/-- A write of HTH_IMGCFG (R436). -/
def imgcfgWrite (data : Word) (m : Wafer) : Wafer := spiPins (plainWrite 0x4004C data m)

/-- A write to a Heath register (R17), through an interface. -/
def heathWrite (i : Issuer) (a : Nat) (data : Word) (m : Wafer) : Wafer :=
  if a = 8 then plainWrite a (if m.heath.meter.waitEdge then setBits data 6 1 0 else data) m
  else if a = 0x44 then rstctlWrite data m
  else if 0x100 ≤ a ∧ a < 0x200 then seqWrite ((a - 0x100) / 4) data m
  else if a = 0x10000 then capreqWrite data m
  else if a = 0x10008 ∨ a = 0x1000C ∨ a = 0x10010 ∨ a = 0x10070 then budgetConfig a data m
  else if 0x10040 ≤ a ∧ a < 0x10060 then derateWrite ((a - 0x10040) / 4) data m
  else if a = 0x10800 ∨ a = 0x10804 ∨ a = 0x10808 then cmnConfig a data m
  else if a = 0x10814 then doBarrierWaitWrite (BitVec.ofNat 16 (getBits data 0 16)) m
  else if a = 0x10F00 then paceWrite data m
  else if a = 0x20004 then fackWrite data m
  else if a = 0x20030 then (if data.getLsbD 31 then doFecClear m else m)
  else if a = 0x2004C then doRingRpWrite data m
  else if a = 0x20070 then lfctlWrite data m
  else if a = 0x20080 then finjWrite data m
  else if 0x20084 ≤ a ∧ a ≤ 0x2008C then (if m.on 0 HTH_PINSTAT.TEST_ON then plainWrite a data m else m)
  else if 0x20100 ≤ a ∧ a < 0x20200 then fsevWrite ((a - 0x20100) / 4) data m
  else if isMeterReg a then meterWrite a data m
  else if a = 0x40000 then storeWrite data m
  else if a = 0x4004C then imgcfgWrite data m
  else if a = 0x100000 then mapctlWrite data m
  else if a = 0x100004 then
    (if i = .smbus then m.modHeath fun h => { h with lselSmb := data &&& 0xFFF } else plainWrite a data m)
  else if 0x101000 ≤ a ∧ a < 0x105000 then lmapWrite (Fin.ofNat 4096 ((a - 0x101000) / 4)) data m
  else plainWrite a data m

/-! ### Writes to a Sward's registers -/

/-- A write of SWD_TRCFG (R378): SEQ counts from EN's setting. -/
def trcfgWrite (p : Nat) (data : Word) (m : Wafer) : Wafer :=
  let was := m.on (swd p) SWD_TRCFG.EN
  let m := plainWrite (swd p + 0xB080) data m
  if !was && m.on (swd p) SWD_TRCFG.EN then m.modSward p fun x => { x with traceSeq := 0 } else m

/-- A write that reaches a Sward's register (R17). -/
def swardWrite (p off : Nat) (data : Word) (m : Wafer) : Wafer :=
  if off = 0x40 ∨ off = 0x44 ∨ off = 0x54 then ladderConfig p off data m
  else if off = 0x4C then ladderCommand p data m
  else if off = 0x188 then swathWrite p data m
  else if off = 0x1000 then domctlWrite p data m
  else if off = 0x1004 then domstatWrite p data m
  else if off = 0x1010 then rstcmdWrite p data m
  else if 0x3000 ≤ off ∧ off < 0x4000 then ladderShadowWrite p off data m
  else if isPendingConfig off then pendConfig p off data m
  else if 0x4000 ≤ off ∧ off < 0x8000 then
    slotStateWrite p ((off - 0x4000) / 0x40) (off % 0x40 / 4) data m
  else if off = 0x8000 then
    schedWrite p data m
  else if off = 0x8034 then katWrite p data m
  else if 0xA600 ≤ off ∧ off < 0xA780 then counterConfig p off data m
  else if off = 0xAB00 then counterCommand p data m
  else if 0xAB40 ≤ off ∧ off < 0xAB80 then counterConfig p off data m
  else if off = 0xB000 then
    (if 20 < getBits data 0 5 then (plainWrite (swd p + off) data m).set (swd p) SWD_TASTAT.WCLAMP 1
     else plainWrite (swd p + off) data m)
  else if off = 0xB080 then trcfgWrite p data m
  else plainWrite (swd p + off) data m

/-! ### Reads -/

/-- What a read of a Heath register returns, and what it changes. -/
def heathRead (i : Issuer) (a : Nat) (m : Wafer) : Word × Wafer :=
  let w := m.word a
  if a = 0 then (setBits w 10 1 m.heath.activeId, m)
  else if a = 0x60000 then (BitVec.ofNat 32 m.wtime, m)
  else if a = 0x60004 then (BitVec.ofNat 32 (m.wtime / 2 ^ 32), m)
  else if a = 0x20000 then (setBits w 28 1 (m.get 0 HTH_PINSTAT.TEST_ON), m)
  else if a = 0x20058 then (setBits w HTH_FBUF.FREE.lo HTH_FBUF.FREE.wid (freeBuffers m), m)
  else if 0x20080 ≤ a ∧ a ≤ 0x2008C ∧ ¬ m.on 0 HTH_PINSTAT.TEST_ON then (0, m)
  else if a = 0x100004 then (BitVec.ofNat 32 (lsel i m), m)
  else if 0x101000 ≤ a ∧ a < 0x105000 ∧ m.on 0 HTH_MAPCTL.OPEN then (mapPending ((a - 0x101000) / 4) m, m)
  else meterRead a m

/-- What a read of a Sward's register returns, and what it changes. -/
def swardRead (p off : Nat) (m : Wafer) : Word × Wafer :=
  let b := swd p
  let w := m.word (b + off)
  let x := m.sward p
  if off = 0x10C then (setBits w SWD_BRAKE.RLIM.lo SWD_BRAKE.RLIM.wid (rungLimit p m), m)
  else if off = 0x188 then (swathRead p m, swathIndexNext p m)
  else if off = 0x1014 then
    let busy : Bool := (unitsOf p).any fun u => (m.unit (unitOf p u)).rst == .restore
    (setBits w SWD_RSTSTAT.RESTORE_BUSY.lo 1 (bit busy), m)
  else if off = 0x800C then (BitVec.ofNat 32 x.frame, m)
  else if off = 0x8064 then (BitVec.ofInt 32 (signalValue p (m.get b SWD_SIGIDX.IDX) m), m)
  else if off = 0xC000 then (setBits w SWD_FSTAT.QDEPTH.lo SWD_FSTAT.QDEPTH.wid x.reports.length, m)
  else if isPendingConfig off then (pendingRead p off m, m)
  else (w, m)

/-- A read of a mapped register address. (DESIGN CHOICE: log 56.) -/
def wordRead (i : Issuer) (a : Nat) (m : Wafer) : Word × Wafer :=
  match place a with
  | .heath o => heathRead i o m
  | .sward p o => swardRead p o m
  | .tussock g o => unitRead (.tussock (Fin.ofNat 4096 g)) o m
  | .verge n o => unitRead (.verge (Fin.ofNat 224 n)) o m
  | .nowhere => (0, m)

/-- A write to a mapped register address.  One that reaches a unit enters the Sward's
image of it (R328); a unit whose Swath logic does not run takes none (R54, R321). -/
def wordWrite (i : Issuer) (a : Nat) (data : Word) (m : Wafer) : Wafer :=
  let toUnit (u : UnitId) (o : Nat) : Wafer :=
    let m := recordImage u.part u.loc o data m
    if swathRuns u m then unitWrite u o data m else m
  match place a with
  | .heath o => heathWrite i o data m
  | .sward p o => swardWrite p o data m
  | .tussock g o => toUnit (.tussock (Fin.ofNat 4096 g)) o
  | .verge n o => toUnit (.verge (Fin.ofNat 224 n)) o
  | .nowhere => m

/-! ### 64-bit values (R13) -/

/-- Whether an address is the low word of a 64-bit value split across two registers.
(DEDUCED: log 49.) -/
def isPairLow (a : Nat) : Bool :=
  match place a with
  | .heath o =>
    [0x50, 0x58, 0x2003C, 0x20064, 0x30020, 0x60000].contains o
      || (decide (0x800000 ≤ o ∧ o < 0x808000) && o % 0x20 == 0x10)
      || (decide (0x21000 ≤ o ∧ o < 0x21400) && o % 0x40 == 0x10)
  | .sward _ o =>
    (decide (0xA000 ≤ o ∧ o < 0xA600) && o % 8 == 0) || (decide (0xA800 ≤ o ∧ o < 0xAB00) && o % 8 == 0)
      || (decide (0x4000 ≤ o ∧ o < 0x8000) && o % 0x40 == 0x28) || o == 0xB040 || o == 0xB048 || o == 0xB088
  | _ => false

def isPairHigh (a : Nat) : Bool := decide (4 ≤ a) && isPairLow (a - 4)

/-- Whether firmware can write a register. -/
def writable (fuse a : Nat) : Bool :=
  match lookupReg fuse (place a) with
  | some (d, _, i, _) => decide (i < d.roFrom) && decide (d.rw ||| d.rws ||| d.rwp ≠ 0)
  | none => false

/-- Place of an interface's latch in the store: the service window, the SMBus block
bridge, and one for each core cluster at each partition's user aperture. -/
def latchKey (i : Issuer) (p : Nat) : Nat :=
  match i with
  | .smbus => 1
  | .aperture g _ => 2 + 4096 * p + g.val
  | _ => 0

/-- A read through an interface, with its latch under a key (R13); the controller's own
accesses use none. -/
def latchedRead (i : Issuer) (k a : Nat) (m : Wafer) : Word × Wafer :=
  if i = .own then wordRead i a m
  else if isPairLow a then
    let hi := (wordRead i (a + 4) m).1
    let r := wordRead i a m
    (r.1, r.2.modHeath fun h => { h with latches := Store.set noLatch h.latches k (some (a + 4, hi)) })
  else
    match Store.get noLatch m.heath.latches k with
    | some (h, w) => if h = a then (w, m) else wordRead i a m
    | none => wordRead i a m

/-- Place of the low half that an interface holds. -/
def heldKey (i : Issuer) : Nat := if i = .smbus then 1 else 0

/-- A write through an interface: the halves of a 64-bit value apply together (R13).  Also
how many words it applied. -/
def latchedWrite (i : Issuer) (a : Nat) (data : Word) (m : Wafer) : Nat × Wafer :=
  let k := heldKey i
  if i = .own then (1, wordWrite i a data m)
  else if isPairLow a && writable m.fuse a then
    (0, m.modHeath fun h => { h with lowHeld := Store.set noLatch h.lowHeld k (some (a, data)) })
  else if isPairHigh a && writable m.fuse a then
    let held := Store.get noLatch m.heath.lowHeld k
    let m := m.modHeath fun h => { h with lowHeld := Store.set noLatch h.lowHeld k none }
    match held with
    | some (l, w) =>
      if l + 4 = a then (2, wordWrite i a data (wordWrite i l w m)) else (1, wordWrite i a data m)
    | none => (1, wordWrite i a data m)
  else (1, wordWrite i a data m)

/-! ### Where an access goes (R16, R19, R30, R55 to R57) -/

/-- The partition whose Sward serves a place. -/
def placePart : Place → Option Nat
  | .sward p _ => some p
  | .tussock g _ => some (g / 64)
  | .verge n _ => some (edgePart (n / 8))
  | _ => none

/-- ERR of a direct access to an address, 0 where it can be made (R428). (DEDUCED: log 20.) -/
def directErr (a : Nat) (m : Wafer) : Nat :=
  let gone : Bool := match placePart (place a) with | some p => (m.sward p).passedBy | none => false
  if gone then 3 else if mapped a then 0 else 1

/-- The ERR code of an access, and the address it is made to: the logical window
translates through the active map (R30, R57). (DEDUCED: log 20; DESIGN CHOICE: log 56.) -/
def target (i : Issuer) (a : Nat) (m : Wafer) : Nat × Nat :=
  if a % 4 ≠ 0 then (2, a)
  else if 0x108000 ≤ a ∧ a < 0x109000 then
    let n := lsel i m
    if m.on 0 (HTH_LMAP.VALID n) then
      let b := tus (m.get 0 (HTH_LMAP.PHYS n)) + (a - 0x108000)
      (directErr b m, b)
    else (4, a)
  else (directErr a m, a)

/-! ### Accesses over Hedgerow (R207, R327) -/

/-- Whether a Sward acts on an access that reaches it (R48, R54, R325, R334). -/
def swardAnswers (p : Nat) (m : Wafer) : Bool :=
  let x := m.sward p
  !x.rst && !x.waitEnum && !x.passedBy

/-- Whether an issuer is one of the Heath's two register interfaces. -/
def isPort (i : Issuer) : Bool :=
  match i with
  | .window _ => true
  | .smbus => true
  | _ => false

/-- The interface whose access a message carries: master, USER or SUPER. -/
def issuerOf (data : List Nat) : Issuer := if data.headD 0 = 2 then .window (data.getD 2 0 == 1) else .smbus

/-- An interface waits for a Sward's answer to its access, which the Heath repeats with the
words to write. (DEDUCED: log 45.) -/
def accessWaits (i : Issuer) (p a : Nat) (write : Option Word) (m : Wafer) : Wafer :=
  let e := issuerAttr i a
  let words := [e.mkind, if write.isSome then 2 else 1, e.priv, (write.getD 0).toNat]
  let m := if m.heath.unicasts.any (isUnicast p .access a) then m else unicast p .access a words m
  match i with
  | .window _ => m.modHeath fun h => { h with swOut := some (a, none) }
  | .smbus => m.modHeath fun h => { h with smbBusy := true }
  | _ => m

/-- A Sward has answered a message: nothing repeats it, and the Sward is reachable. -/
def delivered (p : Nat) (k : UnicastKind) (a : Nat) (m : Wafer) : Wafer :=
  setPairBit HTH_UNREACH_LO.UNREACH HTH_UNREACH_HI.UNREACH p false
    (m.modHeath fun h => { h with unicasts := h.unicasts.filter fun x => !isUnicast p k a x })

/-- A Sward has answered an access: the interface waits no longer. -/
def accessAnswered (i : Issuer) (p a : Nat) (m : Wafer) : Wafer :=
  let m := delivered p .access a m
  match i with
  | .window _ => m.modHeath fun h => { h with swOut := none }
  | .smbus => m.modHeath fun h => { h with smbBusy := false }
  | _ => m

/-- The response to a service-window write of address b, asked for as a: after the mirror
record's acknowledgement where there is a standby (R333), and not from a Heath that the write
has reset.  (DEDUCED: log 47.) -/
def windowWriteDone (a b : Nat) (m : Wafer) : Wafer :=
  if m.heath.active = false then
    (if m.heath.bringUp = 0 then m else m.modHeath fun h => { h with swOut := some (b, none) })
  else if b < 0x1000000 ∧ mirrors m then m.modHeath fun h => { h with swOut := some (b, some (nextRecord m)) }
  else m.send .windowOk 64 [a]

/-- An access made through an interface is answered: a is the address that the interface was
given, b where it led. -/
def portDone (i : Issuer) (write : Bool) (a b : Nat) (w : Word) (m : Wafer) : Wafer :=
  match i with
  | .window _ => if write then windowWriteDone a b m else m.send .windowData 64 [a, w.toNat]
  | .smbus => (if write then m else m.send .smbus 64 (5 :: wordBytes w.toNat ++ [0])).inc 0 HTH_SMBCNT.TXN_OK
  | _ => m

/-- An access for a unit reaches its Sward (R207): it joins the stop's queue of 16, or is NACKed
where the queue is full or the Sward takes no access.  Answers whether it was accepted. -/
def enqueueAccess (u : UnitId) (x : UnitAccess) (m : Wafer) : Bool × Wafer :=
  let p := u.part
  let l := u.loc
  let q := (m.sward p).access l
  if (m.sward p).passedBy then (false, m)
  else if !swardAnswers p m || decide (16 ≤ q.length) then (false, tally p 56 m)
  else (true, (tally p 55 m).modSward p fun y => { y with accQ := Store.set noAccess y.accQ l (q ++ [x]) })

/-- A register access of an interface to a unit: an accepted write is answered, a read waits
for its data, and what is not accepted goes out again (R207, R327). -/
def unitAccess (u : UnitId) (off : Nat) (write : Option Word) (i : Issuer) (m : Wafer) : Bool × Wafer :=
  let p := u.part
  let a := u.base + off
  let r := enqueueAccess u ⟨off, write.getD 0, write.isNone, i⟩ m
  if r.1 && write.isSome then (true, accessAnswered i p a r.2) else (false, accessWaits i p a write r.2)

/-- ACCESS_CHANNEL_ENQUEUE (R207, R327, R328): an access for a unit reaches its Sward, for an
interface that waits for it or as one of the Heath's own settings. -/
def doAccessChannelEnqueue (u : UnitId) (off : Fin 1024) (data : Word) (read : Bool) (issuer : Issuer) (m : Wafer) : Wafer :=
  let o := 4 * off.val
  let a := u.base + o
  let waiting : Bool := match issuer with | .window _ => m.heath.swOut.isSome | _ => m.heath.smbBusy
  received u.part (fun m =>
    if isPort issuer then
      let r := unitAccess u o (if read then none else some data) issuer m
      if r.1 && waiting then portDone issuer true a a 0 r.2 else r.2
    else
      let r := enqueueAccess u ⟨o, data, read, issuer⟩ m
      if r.1 then delivered u.part .config a r.2 else r.2) m

/-- One of the Heath's settings for a single Sward or unit reaches the Sward (R316), which
applies it, or queues it for the unit. -/
def takeSetting (p a : Nat) (data : Word) (m : Wafer) : Wafer :=
  let toUnit (u : UnitId) (o : Nat) : Wafer :=
    let r := enqueueAccess u ⟨o, data, false, .own⟩ m
    if r.1 then delivered p .config a r.2 else r.2
  match place a with
  | .sward _ o => if swardAnswers p m then swardWrite p o data (delivered p .config a m) else m
  | .tussock g o => toUnit (.tussock (Fin.ofNat 4096 g)) o
  | .verge n o => toUnit (.verge (Fin.ofNat 224 n)) o
  | _ => m

/-- The Heath sends a setting to a Sward by unicast (R316, R327). -/
def sendSetting (p a : Nat) (data : Word) (m : Wafer) : Wafer :=
  takeSetting p a data (unicast p .config a [a, data.toNat] (m.send .config p [a, data.toNat]))

/-! ### Accesses through the two interfaces (R56, R333, R426 to R428) -/

/-- What comes of an access: made, with the data read; refused, with its ERR and the
address recorded; or waiting on Hedgerow. -/
inductive Answer where
  | made (w : Word)
  | refused (err a : Nat)
  | waits
  deriving DecidableEq, Repr

/-- An access at the place it leads to, with its effect on the place's latches; also how many
words were moved. -/
def deliver (i : Issuer) (write : Option Word) (a : Nat) (m : Wafer) : Nat × Word × Wafer :=
  match write with
  | some data =>
    let r := latchedWrite i a data m
    (r.1, 0, r.2)
  | none =>
    let r := latchedRead i (latchKey i 0) a m
    (1, r.1, r.2)

/-- An access to a unit through an interface travels in the access channel (R207); the
controller's own acts at the unit. -/
def accessUnit (u : UnitId) (off : Nat) (i : Issuer) (write : Option Word) (m : Wafer) : Answer × Wafer :=
  let a := u.base + off
  let k := if write.isSome then 61 else 60
  if i = .own then
    let r := deliver i write a m
    (.made r.2.1, r.2.2)
  else
    let r := unitAccess u off write i m
    if r.1 then (.made 0, count u.part k 1 (issuerAttr i a) r.2)
    else (.waits, if write.isNone && swardAnswers u.part m then count u.part k 1 (issuerAttr i a) r.2 else r.2)

/-- An access through an interface, at the place it leads to; events 60 and 61 count it at
the Sward that serves it (R380). (DEDUCED: log 45.) -/
def access (i : Issuer) (write : Option Word) (a : Nat) (m : Wafer) : Answer × Wafer :=
  let t := target i a m
  if t.1 ≠ 0 then (.refused t.1 t.2, m)
  else
    match place t.2 with
    | .tussock g o => accessUnit (.tussock (Fin.ofNat 4096 g)) o i write m
    | .verge n o => accessUnit (.verge (Fin.ofNat 224 n)) o i write m
    | .sward p _ =>
      if swardAnswers p m then
        let r := deliver i write t.2 (accessAnswered i p t.2 (tally p 55 m))
        (.made r.2.1, count p (if write.isSome then 61 else 60) r.1 (issuerAttr i t.2) r.2.2)
      else (.waits, accessWaits i p t.2 write m)
    | _ =>
      let r := deliver i write t.2 m
      (.made r.2.1, r.2.2)

/-- An access is outstanding at the service window (R427): nothing else is performed. -/
def windowBusy (m : Wafer) : Bool := m.heath.swOut.isSome

/-- Accesses that a halted wafer serves (R314). -/
def servedHalted (write : Option Word) (a : Nat) : Bool := write.isNone && (a == 0 || a == 8 || a == 0x40)

/-- Registers whose reads through the service window take a report buffer: the record ring and
HTH_LFREC (R411). -/
def readsRecord (a : Nat) : Bool := decide (0x800000 ≤ a ∧ a < 0x808000) || decide (0x21000 ≤ a ∧ a < 0x21400)

/-- A service-window request (R427, R428): `be` are its byte enables. (DEDUCED: log 20.) -/
def windowAccess (super : Bool) (be : Nat) (write : Option Word) (a : Nat) (m : Wafer) : Wafer :=
  let i : Issuer := .window super
  let b := (target i a m).2
  let ty := if write.isSome then 2 else 1
  if windowBusy m then m.send .windowRetry 64 [a]
  else if m.on 0 HTH_BUSTAT.HALT ∧ ¬ servedHalted write a then windowErrorUncoded a m
  else if m.heath.active = false ∧ ¬ m.on 0 HTH_BUSTAT.HALT then m
  else if be ≠ 15 then windowRefuse ty 2 a m
  else
    let m := if readsRecord b then resendFrames m else m
    if readsRecord b ∧ write.isNone ∧ bufferFor false m = false then
      (m.incSat 0 HTH_FBUFCNT.RETRY_SW).send .windowRetry 64 [a]
    else
      match access i write a m with
      | (.made w, m) => portDone i write.isSome a b w m
      | (.refused e b, m) => windowRefuse ty e b m
      | (.waits, m) => m

/-- Status byte of the block bridge for an ERR code (Table 13.4). -/
def bridgeStatus (err : Nat) : Nat := match err with | 1 => 2 | 2 => 1 | e => e

/-- An SMBus read response that needs a report buffer gets one, or the port stretches SCL and
asks again (R411, R412). -/
def smbusBuffered (respond : Wafer → Wafer) (m : Wafer) : Wafer :=
  let m := resendFrames m
  if bufferFor false m then respond (m.modHeath fun h => { h with smbBusy := false })
  else (m.incSat 0 HTH_FBUFCNT.RETRY_SMB).modHeath fun h => { h with smbBusy := true }

/-- A block-bridge access (R426); a read answers with data and status. (DESIGN CHOICE: log 16.) -/
def bridgeAccess (write : Option Word) (a : Nat) (m : Wafer) : Wafer :=
  let b := (target .smbus a m).2
  let ty := if write.isSome then 2 else 1
  let reply (status : Nat) (m : Wafer) : Wafer :=
    if write.isSome then m else m.send .smbus 64 [5, 0, 0, 0, 0, status]
  let done (m : Wafer) : Wafer := m.inc 0 HTH_SMBCNT.TXN_OK
  let act (m : Wafer) : Wafer :=
    if m.on 0 HTH_BUSTAT.HALT ∧ ¬ servedHalted write a then
      reply (1 + Config.errOfRefusal m.fresh % 6) { m with fresh := m.fresh + 1 }
    else
      match access .smbus write a m with
      | (.made w, m) => portDone .smbus write.isSome a b w m
      | (.refused e b, m) => done (reply (bridgeStatus e) (if e = 3 ∨ e = 4 then accessError 3 ty e b m else m))
      | (.waits, m) => m
  if m.heath.active = false ∧ ¬ m.on 0 HTH_BUSTAT.HALT then m
  else if write.isSome ∨ b = 0x20008 ∨ b = 0x2000C then act m
  else smbusBuffered act m

/-- What the Heath had not yet an answer to reaches its Sward again: an interface's access, or
a setting (R327). -/
def arriveAgain (x : Unicast) (m : Wafer) : Wafer :=
  match x.kind with
  | .grant => takeGrant x.part m
  | .config => takeSetting x.part x.addr (BitVec.ofNat 32 (x.data.getD 1 0)) m
  | .access =>
    let i := issuerOf x.data
    let write : Option Word := if x.data.getD 1 0 = 2 then some (BitVec.ofNat 32 (x.data.getD 3 0)) else none
    match access i write x.addr m with
    | (.made w, n) => portDone i write.isSome x.addr x.addr w n
    | (.refused _ _, _) => m
    | (.waits, n) => n
  | _ => m

/-- HEDGEROW_RETRY (R327), at WTIME w: the message goes out again at each 20 µs point,
up to 1 ms from the first sending. -/
def doHedgerowRetry (p : Fin 64) (k : UnicastKind) (addr w : Nat) (m : Wafer) : Wafer :=
  let m := m.at w
  match m.heath.unicasts.find? (isUnicast p k addr) with
  | none => m
  | some x =>
    if m.heath.active ∧ x.first + 16000 * x.sends ≤ w ∧ w < x.first + 800000 then
      let m := m.modHeath fun h =>
        { h with unicasts := List.map (fun y => if isUnicast p k addr y then { y with sends := y.sends + 1 } else y) h.unicasts }
      arriveAgain x (m.send (unicastOut k) p x.data)
    else m

/-! ### The user aperture (R385) -/

/-- The register that an aperture offset shows (Table 11.6). (DEDUCED: log 46.) -/
def apertureReg (p o : Nat) : Option Nat :=
  if o < 0x600 then some (swd p + 0xA000 + o)
  else if o < 0x650 then (if mapped (swd p + 0xB000 + (o - 0x600)) then some (swd p + 0xB000 + (o - 0x600)) else none)
  else if o = 0x700 then some (swd p + 0x800C)
  else if o = 0x704 then some 0x60000
  else if o = 0x708 then some 0x60004
  else none

/-- An access of core cluster g to the aperture of partition p at an offset (R385).
(DEDUCED: log 46.) -/
def apertureAccess (g : Fin 4096) (super : Bool) (write : Bool) (p o : Nat) (m : Wafer) : Wafer :=
  let i : Issuer := .aperture g super
  let e := issuerAttr i (swd p + 0xA000 + o)
  if (m.sward p).rst then m
  else if write then count p 66 1 e m
  else if !super && !m.on (swd p) SWD_UAPCTL.USER_EN then (count p 66 1 e m).send .apertureData g [o, 0]
  else
    let r : Word × Wafer :=
      match apertureReg p o with
      | some a => latchedRead i (latchKey i p) a m
      | none => (0, m)
    (count p 65 1 e r.2).send .apertureData g [o, r.1.toNat]

/-- An access by an issuer at an address as Table 11.5 gives it. -/
def issuedAccess (i : Issuer) (be : Nat) (write : Option Word) (a : Nat) (m : Wafer) : Wafer :=
  match i with
  | .own => (access .own write a m).2
  | .window super => windowAccess super be write a m
  | .smbus => bridgeAccess write a m
  | .aperture g super =>
    match place a with
    | .sward p o => if 0xA000 ≤ o ∧ o < 0xB000 then apertureAccess g super write.isSome p (o - 0xA000) m else m
    | _ => m

/-- The register that an issuer's address leads to. -/
def issuedReg (i : Issuer) (a : Nat) (m : Wafer) : Nat :=
  match i, place a with
  | .aperture _ _, .sward p o => (apertureReg p (o - 0xA000)).getD a
  | _, _ => (target i a m).2

/-! ### Rows -/

/-- LOW_WORD_READ (R13). -/
def doLowWordRead (i : Issuer) (a : BitVec 30) (m : Wafer) : Wafer :=
  if isPairLow (issuedReg i a.toNat m) then issuedAccess i 15 none a.toNat m else m

/-- HIGH_WORD_READ (R13). -/
def doHighWordRead (i : Issuer) (a : BitVec 30) (m : Wafer) : Wafer :=
  if isPairHigh (issuedReg i a.toNat m) then issuedAccess i 15 none a.toNat m else m

/-- LOW_WORD_WRITE (R13). -/
def doLowWordWrite (i : Issuer) (a : BitVec 30) (data : Word) (m : Wafer) : Wafer :=
  if isPairLow (issuedReg i a.toNat m) then issuedAccess i 15 (some data) a.toNat m else m

/-- HIGH_WORD_WRITE (R13). -/
def doHighWordWrite (i : Issuer) (a : BitVec 30) (data : Word) (m : Wafer) : Wafer :=
  if isPairHigh (issuedReg i a.toNat m) then issuedAccess i 15 (some data) a.toNat m else m

/-- REGISTER_WRITE (R17). (DEDUCED: log 47.) -/
def doRegisterWrite (i : Issuer) (be : BitVec 4) (a : BitVec 30) (data : Word) (m : Wafer) : Wafer :=
  issuedAccess i be.toNat (some data) a.toNat m

/-- LOGICAL_WINDOW_ACCESS (R57): at word `o` of the window. -/
def doLogicalWindowAccess (i : Issuer) (be : BitVec 4) (o : Fin 1024) (write : Option Word) (m : Wafer) : Wafer :=
  issuedAccess i be.toNat write (0x108000 + 4 * o.val) m

/-- PEAK_READ (R371): the unit takes an issuer's read of a peak register, and the data goes
back. (DEDUCED: log 45.) -/
def doPeakRead (i : Issuer) (u : UnitId) (k : PeakReg) (m : Wafer) : Wafer :=
  if swathRuns u m then
    let a := u.base + k.off
    let r := unitRead u k.off m
    r.2.send .readData u.part [a, r.1.toNat, (issuerAttr i a).mkind]
  else m

/-- SLOT_STATE_WRITE (R13, R216): a write of state word `word` of slot n through the service
window, whose low words are held for their high words. -/
def doSlotStateWrite (p : Fin 64) (n : Fin 256) (word : Fin 6) (data : Word) (m : Wafer) : Wafer :=
  if swardAnswers p m then (latchedWrite (.window false) (swd p + 0x4000 + 0x40 * n.val + 4 * (10 + word.val)) data m).2
  else m

/-- APERTURE_READ (R385), and a write, which is refused. -/
def doApertureRead (p : Fin 64) (g : Fin 4096) (super write : Bool) (o : Fin 1024) (m : Wafer) : Wafer :=
  apertureAccess g super write p (4 * o.val) m

end Sys2Proof.Machine
end

