-- ==== Sys2Proof/Machine/Manage.lean ====
section
/-! DEFINITION.  Chapter 13, the SMBus target and its commands (R416 to R426), the SPI
pins (R436) and the writing of non-volatile storage (R437 to R440, R444, R445). -/

namespace Sys2Proof.Machine

/-! ### Transactions (R416 to R420) -/

/-- A write is discarded with a protocol error (R417). -/
def smbusDiscard (f : Fld) (kind : Nat) (m : Wafer) : Wafer := smbusError f kind (m.incSat 0 HTH_SMBCNT.DISCARD)

def invalidData (m : Wafer) : Wafer := smbusDiscard HTH_SMBSTAT.INV_DATA 2 m

/-- A transaction is complete. (DEDUCED: log 48.) -/
def smbusDone (m : Wafer) : Wafer := m.inc 0 HTH_SMBCNT.TXN_OK

/-- A halted wafer answers every SMBus command but the block read with an error, as it does a
command that does not exist (R314). (DESIGN CHOICE: log 16.) -/
def smbusHalted (m : Wafer) : Wafer := smbusError HTH_SMBSTAT.INV_CMD 1 m

/-- A write reaches its command at the end of its transaction, with its PEC checked
(R417). (DEDUCED: log 48.) -/
def smbusWrite (pec : Pec) (apply : Wafer → Wafer) (m : Wafer) : Wafer :=
  if m.on 0 HTH_BUSTAT.HALT then smbusHalted m
  else if !m.heath.active then m
  else if pec = .bad ∨ (pec = .none ∧ m.on 0 HTH_SMBCFG.PEC_REQ) then smbusDiscard HTH_SMBSTAT.PEC_FAIL 3 m
  else apply m

/-- A read command: its bytes go out, low byte first; a write to it is discarded (R417). -/
def smbusRead (write : Bool) (bytes : Wafer → List Nat) (m : Wafer) : Wafer :=
  if m.on 0 HTH_BUSTAT.HALT then smbusHalted m
  else if !m.heath.active then m
  else if write then smbusDiscard HTH_SMBSTAT.INV_CMD 1 m
  else (smbusDone m).send .smbus 64 (bytes m)

/-- A block read: its response is longer than 2 bytes and takes a report buffer (R411). -/
def smbusBlockRead (write : Bool) (bytes : Wafer → List Nat) (m : Wafer) : Wafer :=
  if m.heath.active && !m.on 0 HTH_BUSTAT.HALT && !write then smbusBuffered (smbusRead false bytes) m
  else smbusRead write bytes m

/-- Bytes of a 16-bit value, low byte first. -/
def wordLow (v : Nat) : List Nat := [v % 256, v / 256 % 256]

/-- Command codes of Table 13.1. -/
def smbusCodes : List Nat :=
  [0x00, 0x03, 0x19, 0x78, 0x79, 0x7C, 0x7D, 0x7E, 0x80, 0x88, 0x89, 0x97, 0x8D, 0x8E, 0x8F, 0x98, 0x99, 0x9A, 0x9B,
   0xD4, 0xD5, 0xD8, 0xD9]

/-- SMBUS_INVALID_COMMAND (R417). -/
def doSmbusInvalidCommand (code : BitVec 8) (m : Wafer) : Wafer :=
  if (!m.heath.active && !m.on 0 HTH_BUSTAT.HALT) || smbusCodes.contains code.toNat then m
  else smbusError HTH_SMBSTAT.INV_CMD 1 m

/-- ALERT_RESPONSE (R420): the host reads the Alert Response Address, and the Heath wins
or loses the arbitration. (DESIGN CHOICE: log 55.) -/
def doAlertResponse (win : Bool) (m : Wafer) : Wafer :=
  if smbAlert m && win then
    let waiting := (List.range 64).filter fun c => pending c m && m.on 0 (HTH_FSEV.ALERT_EN c)
    let m := m.modFault fun f =>
      { f with answered := waiting ++ f.answered.filter fun c => !waiting.contains c, released := true }
    (smbusDone m).send .smbus 64 [2 * (0x3A + m.get 0 HTH_PINSTAT.SMB_ADDR)]
  else m

/-- SMBUS_ABANDON (R418): an early STOP, SMB_SCL held low or an idle bus; `write` where a
partial write is discarded. -/
def doSmbusAbandon (write : Bool) (m : Wafer) : Wafer := if m.heath.active then smbusAbandon write m else m

/-- SMBUS_STRETCH_TIMEOUT (R419), of a transaction that stretches, with the number of data
bytes still to send. (DESIGN CHOICE: log 55.) -/
def doSmbusStretchTimeout (remaining : Fin 256) (m : Wafer) : Wafer :=
  if m.heath.active && m.heath.smbBusy then
    let m := m.modHeath fun h => { h with smbBusy := false }
    smbusError HTH_SMBSTAT.STRETCH_TO 5 (m.send .smbus 64 (List.replicate remaining.val 255))
  else m

/-! ### Readings (R421, R422) -/

/-- A code N, Y of Linear11 as 16 bits. -/
def linearWord (n y : Int) : Nat := unsigned 5 n * 2 ^ 11 + unsigned 11 y

/-- Mantissa of a value num / den at exponent n, to nearest with ties upward. -/
def linearMantissa (num den n : Int) : Int :=
  if n < 0 then roundDiv (num * 2 ^ (-n).toNat) den else roundDiv num (den * 2 ^ n.toNat)

/-- A value num / den in Linear11 (R422): the smallest exponent whose mantissa fits. -/
def linear11 (num den : Int) : Nat :=
  if num = 0 then 0
  else
    match ((List.range 32).map fun k => (k : Int) - 16).find? fun n =>
      decide (-1024 ≤ linearMantissa num den n ∧ linearMantissa num den n ≤ 1023) with
    | some n => linearWord n (linearMantissa num den n)
    | none => 0

/-- Feeds with FEN = 1. -/
def enabledFeeds (m : Wafer) : List Nat := (List.range 16).filter fun n => (m.get 0 MTR_FEEDCFG.FEN).testBit n

/-- PAGE in force. -/
def page (m : Wafer) : Nat := m.get 0 HTH_SMBCFG.PAGE

def channel (ch : Nat) (m : Wafer) : Int := m.getI 0 (MTR_VAL.VAL ch)

/-- READ_VIN's value in µV (Table 13.2). -/
def vinValue (m : Wafer) : Int :=
  if page m < 16 then channel (page m) m
  else
    let l := enabledFeeds m
    if l = [] then Config.meanOfNone m.fresh else ((l.map fun n => channel n m).sum) / l.length

/-- READ_IIN's value in mA. -/
def iinValue (m : Wafer) : Int :=
  if page m < 16 then channel (16 + page m) m else ((enabledFeeds m).map fun n => channel (16 + n) m).sum

/-- READ_PIN's value in mW. -/
def pinValue (m : Wafer) : Int :=
  if page m < 16 then (if (m.get 0 MTR_FEEDCFG.FEN).testBit (page m) then m.getI 0 (MTR_FPWR.PWR (page m)) else 0)
  else m.getI 0 MTR_PIN.PIN

/-- PAGE (R421). -/
def doPage (write : Option (BitVec 8)) (pec : Pec) (m : Wafer) : Wafer :=
  match write with
  | some v => smbusWrite pec (fun m => if 16 < v.toNat then invalidData m else smbusDone (m.set 0 HTH_SMBCFG.PAGE v.toNat)) m
  | none => smbusRead false (fun m => [page m]) m

/-- READ_VIN (R422). -/
def doReadVin (write : Bool) (m : Wafer) : Wafer :=
  smbusRead write (fun m => wordLow (linear11 (vinValue m) 1000000)) { m with fresh := m.fresh + 1 }

/-- READ_IIN (R422). -/
def doReadIin (write : Bool) (m : Wafer) : Wafer := smbusRead write (fun m => wordLow (linear11 (iinValue m) 1000)) m

/-- READ_PIN (R422). -/
def doReadPin (write : Bool) (m : Wafer) : Wafer := smbusRead write (fun m => wordLow (linear11 (pinValue m) 1000)) m

/-- READ_TEMPERATURE_1 (R422): coolant inlet. -/
def doReadTemperature1 (write : Bool) (m : Wafer) : Wafer :=
  smbusRead write (fun m => wordLow (linear11 (channel 32 m) 1000)) m

/-- READ_TEMPERATURE_2 (R422): coolant outlet. -/
def doReadTemperature2 (write : Bool) (m : Wafer) : Wafer :=
  smbusRead write (fun m => wordLow (linear11 (channel 33 m) 1000)) m

/-- READ_TEMPERATURE_3 (R422): Heath die. -/
def doReadTemperature3 (write : Bool) (m : Wafer) : Wafer :=
  smbusRead write (fun m => wordLow (linear11 (channel 42 m) 1000)) m

/-! ### Status (R423) -/

/-- Whether one of some sources is pending. -/
def anyPending (l : List Nat) (m : Wafer) : Bool := l.any fun c => pending c m

/-- Bits as a number: each with whether it is 1. -/
def bitsValue (l : List (Nat × Bool)) : Nat := (l.map fun e => bit e.2 * 2 ^ e.1).sum

def statusInput (m : Wafer) : Nat :=
  bitsValue [(7, pending 5 m), (5, pending 4 m), (4, pending 3 m), (3, m.on 0 HTH_BUSTAT.VIB_WAIT), (0, pending 46 m)]

def statusTemperature (m : Wafer) : Nat := bitsValue [(7, anyPending [10, 58] m), (6, pending 9 m)]

def statusCml (m : Wafer) : Nat :=
  bitsValue [(7, m.on 0 HTH_SMBSTAT.INV_CMD), (6, m.on 0 HTH_SMBSTAT.INV_DATA), (5, m.on 0 HTH_SMBSTAT.PEC_FAIL),
    (1, m.on 0 HTH_SMBSTAT.STALL || m.on 0 HTH_SMBSTAT.STRETCH_TO)]

def statusMfr (m : Wafer) : Nat :=
  bitsValue [(7, m.on 0 HTH_FSTAT.WTRIP), (2, pending 56 m), (1, m.on 0 HTH_FPEND_HI.PEND), (0, m.on 0 HTH_FPEND_LO.PEND)]

/-- Sources that bits 1 to 6 of STATUS_BYTE name (Table 13.3). -/
def statusSources : List Nat := [6, 7, 14, 3, 9, 10, 11, 47, 58]

def statusByte (m : Wafer) : Nat :=
  let other := (List.range 64).filter fun c => !statusSources.contains c
  bitsValue [(6, !m.on 0 HTH_BUSTAT.POWER_READY || m.on 0 HTH_FSTAT.WTRIP), (5, anyPending [6, 7] m), (4, pending 14 m),
    (3, pending 3 m), (2, anyPending [9, 10, 11, 47, 58] m), (1, statusCml m != 0), (0, anyPending other m)]

def statusWord (m : Wafer) : Nat :=
  bitsValue [(15, anyPending [6, 7, 8] m), (14, anyPending [14, 29, 46] m), (13, statusInput m != 0),
    (12, statusMfr m != 0), (11, !m.on 0 HTH_BUSTAT.POWER_READY)] + statusByte m

/-- STATUS_BYTE (R423). -/
def doStatusByte (write : Bool) (m : Wafer) : Wafer := smbusRead write (fun m => [statusByte m]) m
/-- STATUS_WORD (R423). -/
def doStatusWord (write : Bool) (m : Wafer) : Wafer := smbusRead write (fun m => wordLow (statusWord m)) m
/-- STATUS_INPUT (R423). -/
def doStatusInput (write : Bool) (m : Wafer) : Wafer := smbusRead write (fun m => [statusInput m]) m
/-- STATUS_TEMPERATURE (R423). -/
def doStatusTemperature (write : Bool) (m : Wafer) : Wafer := smbusRead write (fun m => [statusTemperature m]) m
/-- STATUS_CML (R423). -/
def doStatusCml (write : Bool) (m : Wafer) : Wafer := smbusRead write (fun m => [statusCml m]) m
/-- STATUS_MFR_SPECIFIC (R423). -/
def doStatusMfrSpecific (write : Bool) (m : Wafer) : Wafer := smbusRead write (fun m => [statusMfr m]) m

/-- CLEAR_FAULTS (R424). -/
def doClearFaults (pec : Pec) (m : Wafer) : Wafer :=
  smbusWrite pec (fun m => smbusDone ((doAll m).w1c 0x50004 0xF8000000 0xF8000000)) m

/-! ### Identity, cap and the block bridge (R416, R425, R426) -/

/-- CAPABILITY (R416). -/
def doCapability (write : Bool) (m : Wafer) : Wafer := smbusRead write (fun _ => [0xD0]) m
/-- PMBUS_REVISION (R416). -/
def doPmbusRevision (write : Bool) (m : Wafer) : Wafer := smbusRead write (fun _ => [0x33]) m
/-- MFR_ID (R416): "PORZ". -/
def doMfrId (write : Bool) (m : Wafer) : Wafer := smbusBlockRead write (fun _ => [4, 0x50, 0x4F, 0x52, 0x5A]) m
/-- MFR_MODEL (R416): "YOLOR-DRC". -/
def doMfrModel (write : Bool) (m : Wafer) : Wafer :=
  smbusBlockRead write (fun _ => [9, 0x59, 0x4F, 0x4C, 0x4F, 0x52, 0x2D, 0x44, 0x52, 0x43]) m
/-- MFR_REVISION (R416). -/
def doMfrRevision (write : Bool) (m : Wafer) : Wafer :=
  smbusBlockRead write (fun m => [2, m.get 0 HTH_IDENT.SIL_MAJOR, m.get 0 HTH_IDENT.SIL_MINOR]) m
/-- MFR_CAP_EFF (R416). -/
def doMfrCapEff (write : Bool) (m : Wafer) : Wafer := smbusRead write (fun m => wordLow (m.get 0 HTH_CAPEFF.CAP_EFF)) m

/-- MFR_WAFER_CAP (R425). -/
def doMfrWaferCap (write : Option (BitVec 16)) (pec : Pec) (m : Wafer) : Wafer :=
  match write with
  | some v => smbusWrite pec (fun m => smbusDone (capreqWrite (BitVec.ofNat 32 v.toNat) m)) m
  | none => smbusRead false (fun m => wordLow (m.get 0 HTH_CAPREQ.PMB_CAP)) m

/-- A little-endian word from bytes. -/
def bytesWord (l : List (BitVec 8)) : Nat := (l.map BitVec.toNat).foldr (fun b a => b + 256 * a) 0

/-- MFR_REG_WRITE (R417, R426), with the bytes of its block. -/
def doMfrRegWrite (bytes : List (BitVec 8)) (pec : Pec) (m : Wafer) : Wafer :=
  smbusWrite pec (fun m =>
    if bytes.length = 0 then smbusDone m
    else if bytes.length ≠ 8 then invalidData m
    else bridgeAccess (some (BitVec.ofNat 32 (bytesWord (bytes.drop 4)))) (bytesWord (bytes.take 4) % 2 ^ 30) m) m

/-- MFR_REG_READ (R417, R426), with the bytes of its write part. -/
def doMfrRegRead (bytes : List (BitVec 8)) (m : Wafer) : Wafer :=
  if m.heath.active = false ∧ ¬ m.on 0 HTH_BUSTAT.HALT then m
  else if bytes.length = 0 then smbusBuffered (fun m => (smbusDone m).send .smbus 64 [5, 0, 0, 0, 0, 6]) m
  else if bytes.length ≠ 4 then invalidData m
  else bridgeAccess none (bytesWord bytes % 2 ^ 30) m

/-! ### Flash pins and STORE (R436 to R440) -/

/-- SPI_RELEASE_WRITE (R436). -/
def doSpiReleaseWrite (release : Bool) (m : Wafer) : Wafer :=
  imgcfgWrite (setBits (m.word 0x4004C) 30 1 (bit release)) m

/-- STORE (R438). -/
def doStore (regions : BitVec 6) (m : Wafer) : Wafer := storeWrite (BitVec.ofNat 32 (0x5A800000 + regions.toNat)) m

/-- The job that an idle bank 0 of Heath h resumes (R439). -/
def nvmResume (h : Nat) (m : Wafer) : Wafer :=
  let x := m.heath.nvm
  match x.job h 0, Store.get noJobs x.stopped h with
  | none, j :: rest =>
    m.modNvm fun x => ({ x with stopped := Store.set noJobs x.stopped h rest }).setJob h 0 (some j)
  | _, _ => m

/-- Region r no longer waits (R438). -/
def nvmUnpend (r : Nat) (m : Wafer) : Wafer :=
  if regionPending r m then m.set 0 HTH_NVMSTAT.PEND (m.get 0 HTH_NVMSTAT.PEND - 2 ^ r) else m

/-- Both Heaths hold the newest copy of a region (R440). -/
def nvmBoth (r : Nat) (m : Wafer) : Wafer :=
  let seq := m.get 0 (HTH_NVMSEQ.SEQ r)
  let holds (h : Nat) : Bool := match m.heath.nvm.newest h r with | some (_, s) => s.seq == seq | none => false
  let both := holds 0 && holds 1
  let m := m.setB 0 (HTH_NVMREG.STBY_OK r) both
  if both then m.modNvm fun x => { x with lag := x.lag.filter fun k => k != r } else m

/-- What the completion of a region brings at the active Heath (R193, R413, R439, R440,
R445). -/
def nvmComplete (j : NvmJob) (m : Wafer) : Wafer :=
  let r := j.region
  let m := ((m.set 0 (HTH_NVMREG.SLOT r) j.slot).set 0 (HTH_NVMSEQ.SEQ r) j.seq).incSat 0 (HTH_NVMREG.STORES r)
  let m := nvmUnpend r (m.set 0 HTH_NVMSTAT.SPLIT (setBits (BitVec.ofNat 32 (m.get 0 HTH_NVMSTAT.SPLIT)) r 1 0).toNat)
  let m := if m.on 0 HTH_HBSTAT.STBY_OK then nvmBoth r (m.modNvm fun x => { x with lag := r :: x.lag }) else m
  let m :=
    if r = 5 then
      if m.on 0 HTH_LFCTL.WR_PEND then nvmQueue 5 (m.set 0 HTH_LFCTL.WR_PEND 0) else m
    else m
  if r = 1 then
    let m := retireDiffers m
    if m.on 0 HTH_HLTHCTL.STORE_PEND ∧ m.on 0 HTH_HLTHCTL.AUTO_STORE_RETIRE then nvmQueue 1 m else m
  else m

/-- The region write of a job ends at Heath h; its bank goes on with what waits. -/
def nvmGoOn (h : Nat) (m : Wafer) : Wafer :=
  let m := if regionPending 1 m && h == m.heath.activeId then nvmNext m else m
  let m := if m.heath.halting = some h then m else nvmResume h m
  nvmBusy (if h = m.heath.activeId ∧ m.heath.active then nvmNext m else m)

/-- A page that failed its read-back twice: the region write is abandoned (R437).
(DEDUCED: log 51.) -/
def nvmAbandon (h : Nat) (j : NvmJob) (m : Wafer) : Wafer :=
  let m := m.modNvm fun x => x.setJob h (regionBank j.region) none
  let m := if h = m.heath.activeId then nvmUnpend j.region (m.set 0 HTH_NVMSTAT.WR_ERR 1) else m
  nvmGoOn h (heathFaultAt 60 (0xC0000000 + h * 2 ^ 16) j.region 0 m)

/-- NVM_PAGE_WRITE_DONE (R437, R439, R440, R444): a page of Heath h's bank has been
written and read back, well or not. -/
def doNvmPageWriteDone (h : Fin 2) (bank : Fin 2) (good : Bool) (m : Wafer) : Wafer :=
  match m.heath.nvm.job h bank with
  | none => m
  | some j =>
    if !good then
      if j.retried then nvmAbandon h j m
      else m.modNvm fun x => x.setJob h bank (some { j with retried := true })
    else if j.page + 1 < regionPages j.region then
      if m.heath.halting = some h.val ∧ bank.val = 0 then m.modNvm fun x => x.setJob h 0 none
      else
        let m := m.modNvm fun x => x.setJob h bank (some { j with page := j.page + 1, retried := false })
        if bank.val = 0 ∧ j.region ≠ 1 ∧ regionPending 1 m ∧ h.val = m.heath.activeId then beginRegion 1 m else m
    else
      let m := m.modNvm fun x => (x.setSlot h j.region j.slot (some ⟨j.seq, j.data⟩)).setJob h bank none
      let m :=
        if h.val = m.heath.activeId then nvmComplete j m
        else if m.get 0 (HTH_NVMSEQ.SEQ j.region) = j.seq then nvmBoth j.region m
        else m
      nvmGoOn h m

/-- NVM_STANDBY_LAG (R440): 10 ms after the active Heath's completion. -/
def doNvmStandbyLag (r : Fin 6) (m : Wafer) : Wafer :=
  if m.heath.active ∧ m.heath.nvm.lag.contains r.val then
    (m.modNvm fun x => { x with lag := x.lag.filter fun k => k != r.val }).set 0 HTH_NVMSTAT.STBY_LAG 1
  else m

end Sys2Proof.Machine
end

