-- ==== Sys2Proof/Machine/Boot.lean ====
section
/-! DEFINITION.  Bring-up (R3, R8, R313 to R317), the boot image (R430 to R436) with its
digest, the load of non-volatile storage (R441, R442), a Heath that comes back (R336) and
one that halts (R444). -/

namespace Sys2Proof.Machine

/-! ### Choice of the active Heath (R3, R8, R314) -/

/-- The active Heath reads the variant fuses (R3, R8). -/
def readFuses (m : Wafer) : Wafer :=
  let m := setStep 3 m
  if fuseValid m.fuse then m else heathFault 40 (m.fuse % 16) 0 m

/-- Heath h becomes active at step 2, the other one standby if it has passed (R314). -/
def chooseHeath (h : Nat) (m : Wafer) : Wafer :=
  let other := if h = 0 then m.heath.testB else m.heath.testA
  let m := m.modHeath fun x => { x with activeId := h, active := true, standby := other == some true, vref := some h }
  let m := m.setB 0 HTH_HBSTAT.STBY_OK (other == some true)
  readFuses (trackAfresh (setStep 2 m))

/-- No Heath is active and the wafer halts (R314). -/
def haltWafer (m : Wafer) : Wafer := (m.modHeath fun x => { x with activeId := 0 }).set 0 HTH_BUSTAT.HALT 1

/-- The choice of R314 with the results that have come. -/
def chooseEval (m : Wafer) : Wafer :=
  if m.heath.bringUp ≠ 1 ∨ m.heath.active = true then m
  else
    match m.heath.testA, m.heath.testB with
    | some true, _ => chooseHeath 0 m
    | some false, some true => chooseHeath 1 m
    | some false, some false => haltWafer m
    | _, _ => m

/-- A Heath that comes back alone (R336): the mirrored state returns to its reset value,
but for what it takes from the Sward of its own partition and what the pins and other
agents hold. (DESIGN CHOICE: log 8.) -/
def loneReset (h : Nat) (m : Wafer) : Wafer :=
  let old := m.heath
  let lvl := m.word 8
  let lease (a : Nat) : Bool := decide (0x10100 ≤ a ∧ a < 0x10200)
  let m := { m with regs := m.regs.filter fun e => decide (0x1000000 ≤ e.1) || lease e.1 }
  let m := m.modHeath fun _ =>
    { activeId := h, active := true, bringUp := old.bringUp, ready := old.ready, vibHeld := old.vibHeld, lone := 3,
      halted := old.halted, booting := old.booting, testA := old.testA, testB := old.testB, testFuse := old.testFuse,
      leaseSeq := old.leaseSeq, leaseGot := old.leaseGot, weight := old.weight, width := old.width,
      linkLost := old.linkLost, held := old.held, sonOrder := old.sonOrder, katFailed := old.katFailed,
      heard := old.heard, dups := old.dups, live := old.live, prst := old.prst, retireMap := old.retireMap,
      paceOn := old.paceOn, nvm := { mram := old.nvm.mram }, fault := { seen := old.fault.seen },
      latches := old.latches.filter fun e => decide (2 ≤ e.1), vref := some h }
  let m := m.putWord 8 (lvl &&& 0x3BF)
  retireDiffers (trackAfresh (m.set 0 HTH_BUSTAT.LONE_RST 1))

/-- A Heath that has reset by itself ends its self-test (R336). -/
def heathReturns (h : Nat) (pass : Bool) (m : Wafer) : Wafer :=
  let m := m.modHeath fun x => { x with booting := x.booting.filter fun k => k != h }
  if m.heath.active then (if pass then m.set 0 HTH_HBSTAT.MIRROR_SYNC 1 else m)
  else if m.heath.standby then m
  else if pass then loneReset h m
  else haltWafer m

/-- HEATH_SELF_TEST_DONE (R3, R314, R336). -/
def doHeathSelfTestDone (h : Fin 2) (pass : Bool) (m : Wafer) : Wafer :=
  if m.heath.booting.contains h.val then heathReturns h pass m
  else if m.heath.bringUp = 0 then m
  else if h.val = 0 then
    if m.heath.testA.isSome then m
    else
      let m := m.modHeath fun x => { x with testA := some pass }
      if m.heath.active ∧ m.heath.activeId = 1 then
        (m.modHeath fun x => { x with standby := pass }).setB 0 HTH_HBSTAT.STBY_OK pass
      else chooseEval m
  else if m.heath.testB.isSome then m
  else
    let m := m.modHeath fun x => { x with testB := some pass }
    if m.heath.active ∧ m.heath.activeId = 0 then
      (m.modHeath fun x => { x with standby := pass }).setB 0 HTH_HBSTAT.STBY_OK pass
    else chooseEval m

/-- SELF_TEST_REPORT_TIMEOUT (R314). -/
def doSelfTestReportTimeout (m : Wafer) : Wafer :=
  if m.heath.bringUp = 1 ∧ m.heath.active = false ∧ m.heath.testB = some true ∧ m.heath.testA = none then chooseHeath 1 m
  else m

/-! ### SHA-256 (R433: FIPS 180-4) -/

/-- The first 64 primes, which the constants of FIPS 180-4 are made from. -/
def shaPrimes : List Nat :=
  (List.range 312).filter fun n => decide (2 ≤ n) && (List.range 18).all fun d => decide (d < 2) || decide (n ≤ d) || n % d != 0

/-- The integer part of the k-th root of n, for a root below 2^37: bit by bit from the top. -/
def rootFloor (k n : Nat) : Nat :=
  (List.range 37).foldl (fun r i => let s := r + 2 ^ (36 - i); if s ^ k ≤ n then s else r) 0

/-- The first 32 bits of the fractional part of the k-th root of a prime. -/
def rootWord (k p : Nat) : Word := BitVec.ofNat 32 (rootFloor k (p * 2 ^ (32 * k)))

/-- The 64 round constants (FIPS 180-4): of cube roots. -/
def shaK : List Word := shaPrimes.map (rootWord 3)

/-- The initial hash value (FIPS 180-4): of square roots. -/
def shaInit : List Word := (shaPrimes.take 8).map (rootWord 2)

/-- The next word of the message schedule; the schedule stands newest first. -/
def shaNext (w : List Word) : Word :=
  let x := w.getD 14 0
  let y := w.getD 1 0
  let s0 := x.rotateRight 7 ^^^ x.rotateRight 18 ^^^ (x >>> 3)
  let s1 := y.rotateRight 17 ^^^ y.rotateRight 19 ^^^ (y >>> 10)
  s1 + w.getD 6 0 + s0 + w.getD 15 0

/-- One round on the working variables a to h, with a constant and a schedule word. -/
def shaRound (s : List Word) (kw : Word × Word) : List Word :=
  match s with
  | [a, b, c, d, e, f, g, h] =>
    let s1 := e.rotateRight 6 ^^^ e.rotateRight 11 ^^^ e.rotateRight 25
    let t1 := h + s1 + ((e &&& f) ^^^ (~~~e &&& g)) + kw.1 + kw.2
    let s0 := a.rotateRight 2 ^^^ a.rotateRight 13 ^^^ a.rotateRight 22
    let t2 := s0 + ((a &&& b) ^^^ (a &&& c) ^^^ (b &&& c))
    [t1 + t2, a, b, c, d + t1, e, f, g]
  | s => s

/-- A big-endian word from four bytes. -/
def wordBig (l : List Nat) : Word := BitVec.ofNat 32 (l.foldl (fun a b => 256 * a + b) 0)

/-- The hash takes one block of 64 bytes. -/
def shaBlock (s : List Word) (block : List Nat) : List Word :=
  let w0 := ((List.range 16).map fun i => wordBig ((block.drop (4 * i)).take 4)).reverse
  let w := ((List.range 48).foldl (fun w _ => shaNext w :: w) w0).reverse
  List.zipWith (fun a b => a + b) s ((shaK.zip w).foldl shaRound s)

/-- SHA-256 of bytes, as eight words. -/
def sha256 (l : List Nat) : List Word :=
  let zeros := (119 - l.length % 64) % 64
  let padded := l ++ [0x80] ++ List.replicate zeros 0 ++ bytesMsb 8 (8 * l.length)
  ((List.range (padded.length / 64)).map fun i => (padded.drop (64 * i)).take 64).foldl shaBlock shaInit

/-! ### The flash and its image copies (R430 to R435) -/

/-- A little-endian field of a copy. -/
def leField (l : List (BitVec 8)) (off n : Nat) : Nat := bytesWord ((l.drop off).take n)

/-- Whether the header of a copy passes HDR_CRC. -/
def headerCrc (l : List (BitVec 8)) : Bool :=
  decide (64 ≤ l.length) && crc32 ((l.take 60).map BitVec.toNat) == leField l 60 4

/-- Whether a header is correct (R432, Table 13.5). -/
def headerGood (l : List (BitVec 8)) : Bool :=
  let len := leField l 12 4
  headerCrc l && leField l 0 4 == 0x59445243 && leField l 4 2 == 1 && ((l.drop 28).take 32).all (fun b => b == 0)
    && len % 8 == 0 && decide (8 ≤ len ∧ len ≤ 98304) && decide (64 + len ≤ l.length)

/-- Body of a copy whose header is correct. -/
def imageBody (l : List (BitVec 8)) : List (BitVec 8) := (l.drop 64).take (leField l 12 4)

/-- Records of a body, as words 0 and 1 (R431). -/
def imageRecords (l : List (BitVec 8)) : List (Nat × Nat) :=
  (List.range (l.length / 8)).map fun i => (leField l (8 * i) 4, leField l (8 * i + 4) 4)

/-- A record meets Table 13.6. -/
def recordGood (w : Nat) : Bool :=
  w % 4 == 0 &&
    match w / 2 ^ 30 with
    | 0 => true
    | 1 => decide (w % 2 ^ 30 < 0x40000)
    | 2 => w / 2 ^ 28 % 4 != 0 && w % 2 ^ 28 / 2 ^ 12 == 0
    | _ => false

/-- The fuse code in force: an unknown one stands as that of WS-18 (R8). -/
def fuseInForce (fuse : Nat) : Nat := if fuseValid fuse then fuse else 3

/-- The faults of a copy: of its format, its variant and its digest (R432, R433).
(DEDUCED: log 50.) -/
def copyFaults (fuse : Nat) (dig : Option (List Word)) (l : List (BitVec 8)) : Bool × Bool × Bool :=
  if !headerGood l then (true, false, false)
  else
    let body := imageBody l
    let fmt := crc32 (body.map BitVec.toNat) != leField l 16 4 || !(imageRecords body).all fun r => recordGood r.1
    let var := !(leField l 6 2).testBit (fuseInForce fuse - 1)
    let bad := match dig with
      | some d => sha256 ((l.take (64 + leField l 12 4)).map BitVec.toNat) != d
      | none => false
    (fmt, var, bad)

/-- The newest valid slot of a region in both Heaths, with the Heath it is taken from;
`own` where only the active Heath's slots count (R441). -/
def newestSlot (r : Nat) (own : Bool) (m : Wafer) : Option (Nat × Nat × NvmSlot) :=
  let a := m.heath.activeId
  let mine := (m.heath.nvm.newest a r).map fun s => (a, s)
  let other := if own then none else (m.heath.nvm.newest (1 - a) r).map fun s => (1 - a, s)
  match mine, other with
  | some (h, s), some (h', s') => if s.2.seq < s'.2.seq then some (h', s') else some (h, s)
  | some (h, s), none => some (h, s)
  | none, o => o

/-- The digest that a copy must have, where DIG_REQ is set in the settings overlay
(R433). -/
def requiredDigest (m : Wafer) : Option (List Word) :=
  match newestSlot 4 (m.heath.lone ≠ 0) m with
  | some (_, _, s) =>
    let val (a : Nat) : Nat := match s.data.find? fun e => e.1 == a with | some (_, v) => v | none => 0
    if (val 0x4004C).testBit 31 then some ((List.range 8).map fun k => BitVec.ofNat 32 (val (0x40060 + 4 * k))) else none
  | none => none

/-- A record's data with WO and RO bits at zero (R434). -/
def recordData (fuse a data : Nat) : Word :=
  match lookupReg fuse (place a) with
  | some (d, _, _, _) => BitVec.ofNat 32 data &&& BitVec.ofNat 32 (d.rw ||| d.w1c ||| d.rws ||| d.rwp)
  | none => 0

/-- A record is skipped and counted (R434). -/
def recordSkipped (m : Wafer) : Wafer := m.incSat 0 HTH_IMGSTAT.SKIPPED

/-- A record for one address is applied (R434). -/
def applyRecord (m : Wafer) (r : Nat × Nat) : Wafer :=
  let a := r.1 % 2 ^ 30
  if !mapped a ∨ a = 0x100000 ∨ (0x101000 ≤ a ∧ a < 0x105000) then recordSkipped m
  else wordWrite .own a (recordData m.fuse a r.2) m

/-- The image's records of a kind, in image order. -/
def recordsOf (kind : Nat) (m : Wafer) : List (Nat × Nat) := m.heath.image.filter fun r => r.1 / 2 ^ 30 == kind

/-- A copy that has been read and checked (R432). -/
def readCopy (b : Bool) (l : List (BitVec 8)) (m : Wafer) : Bool × Wafer :=
  let f := copyFaults m.fuse (requiredDigest m) l
  let bad : Bool := f.1 || f.2.1 || f.2.2
  let m := if f.1 then m.set 0 HTH_IMGSTAT.FMT_ERR 1 else m
  let m := if f.2.1 then m.set 0 HTH_IMGSTAT.VAR_ERR 1 else m
  let m := if f.2.2 then m.set 0 HTH_IMGSTAT.DIG_ERR 1 else m
  let m := if bad then m.set 0 (if b then HTH_IMGSTAT.B_BAD else HTH_IMGSTAT.A_BAD) 1 else m
  (!bad, m)

/-- Copy `b` is the image in force. -/
def takeImage (b : Bool) (l : List (BitVec 8)) (m : Wafer) : Wafer :=
  let m := (m.set 0 HTH_IMGSTAT.LOADED 1).setB 0 HTH_IMGSTAT.COPY b
  m.modHeath fun h => { h with image := imageRecords (imageBody l) }

/-- The copy that a selection takes (R432, R435). (DEDUCED: log 50.) -/
def selectImage (a b : List (BitVec 8)) (m : Wafer) : Wafer :=
  let sa := m.get 0 HTH_IMGSEQ_A.SEQ
  let sb := m.get 0 HTH_IMGSEQ_B.SEQ
  let d := (sb + 2 ^ 32 - sa) % 2 ^ 32
  let bFirst : Bool := decide (1 ≤ d ∧ d < 2 ^ 31)
  let x := if bFirst then b else a
  let y := if bFirst then a else b
  let r := readCopy bFirst x m
  if r.1 then takeImage bFirst x r.2
  else
    let s := readCopy (!bFirst) y r.2
    if s.1 then takeImage (!bFirst) y s.2
    else
      let m := (s.2.set 0 HTH_IMGSTAT.NONE 1).modHeath fun h => { h with image := [] }
      heathFault 59 (getBits (m.word 0x40040) 24 8) 0 m

/-- FLASH_IMAGE_READ (R430 to R436), with what the flash holds: its SFDP table, if its
signature is there, and the bytes of copies A and B. (DEDUCED: log 59.) -/
def doFlashImageRead (sfdp : Option Sfdp) (a b : List (BitVec 8)) (m : Wafer) : Wafer :=
  if m.heath.active ∧ (m.heath.bringUp = 3 ∨ m.heath.lone = 3) then
    let m := match sfdp with
      | some t =>
        let m := (m.set 0 HTH_FLSTAT.SFDP_OK 1).setB 0 HTH_FLSTAT.QUAD t.quad
        (m.setB 0 HTH_FLSTAT.ADDR4 (decide (27 < t.densLog2.val) && t.fourByte)).set 0 HTH_FLSTAT.DENS_LOG2 t.densLog2
      | none => m.putWord 0x40050 0
    let m := m.set 0 HTH_IMGSEQ_A.SEQ (if headerCrc a then leField a 8 4 else 0)
    let m := m.set 0 HTH_IMGSEQ_B.SEQ (if headerCrc b then leField b 8 4 else 0)
    let m := selectImage a b m
    let m := ((recordsOf 0 m).filter fun r => decide (r.1 < 0x1000000)).foldl applyRecord m
    spiPins (if m.heath.lone = 3 then m.modHeath fun h => { h with lone := 2 } else setStep 4 m)
  else m

/-! ### The load of non-volatile storage (R441, R442) -/

/-- Every RWP bit of the Heath registers of region 3 (`cal`) or 4 back at its reset
value. -/
def resetRwp (cal : Bool) (m : Wafer) : Wafer :=
  let back (a : Nat) (w : Word) : Word :=
    if a < 0x1000000 ∧ isMeterCal a = cal then
      let mask := BitVec.ofNat 32 (rwpMask m.fuse a)
      (w &&& ~~~mask) ||| (resetWord m.fuse a &&& mask)
    else w
  { m with regs := Store.map (resetWord m.fuse) back m.regs }

/-- An entry of an overlay changes RWP fields only (R442). -/
def loadRwp (cal : Bool) (m : Wafer) (e : Nat × Nat) : Wafer :=
  if e.1 < 0x1000000 ∧ isMeterCal e.1 = cal then
    let mask := BitVec.ofNat 32 (rwpMask m.fuse e.1)
    m.putWord e.1 ((m.word e.1 &&& ~~~mask) ||| (BitVec.ofNat 32 e.2 &&& mask))
  else m

/-- The contents of a region come into force at the Heath. -/
def loadRegion (r : Nat) (data : List (Nat × Nat)) (m : Wafer) : Wafer :=
  match r with
  | 0 => (data.filter fun e => decide (0x30200 ≤ e.1 ∧ e.1 < 0x30500 ∧ 0xA0 ≤ e.1 % 0x100 ∧ e.1 % 0x100 < 0xB0)).foldl (fun m e => m.putWord e.1 (BitVec.ofNat 32 e.2)) m
  | 1 => m.modHeath fun h => { h with retireMap := data.foldl (fun l e => Store.set zeroNat l e.1 (e.2 % 16)) [] }
  | 3 => data.foldl (loadRwp true) (resetRwp true m)
  | 4 => data.foldl (loadRwp false) (resetRwp false m)
  | 5 =>
    data.foldl (fun m e =>
      if 0x21000 ≤ e.1 ∧ e.1 < 0x21400 then m.putWord e.1 (BitVec.ofNat 32 e.2)
      else if e.1 = HTH_LFCTL.NEXT.off then m.set 0 ⟨HTH_LFCTL.NEXT.off, 0, 20⟩ e.2
      else m) m
  | _ => m

/-- One region at step 5 (R441). (DEDUCED: log 51.) -/
def examineRegion (m : Wafer) (r : Nat) : Wafer :=
  let a := m.heath.activeId
  let own : Bool := m.heath.lone != 0
  match newestSlot r own m with
  | none =>
    let m := m.putWord (HTH_NVMSEQ.SEQ r).off 0
    let m := ((m.set 0 (HTH_NVMREG.VALID r) 0).set 0 (HTH_NVMREG.SLOT r) 0).set 0 (HTH_NVMREG.OTHER r) 0
    let m := m.set 0 ⟨HTH_NVMSTAT.BAD.off, HTH_NVMSTAT.BAD.lo + r, 1⟩ 1
    heathFault 60 r 0 m
  | some (h, slot, s) =>
    let m := m.set 0 (HTH_NVMSEQ.SEQ r) s.seq
    let m := ((m.set 0 (HTH_NVMREG.VALID r) 1).set 0 (HTH_NVMREG.SLOT r) slot).setB 0 (HTH_NVMREG.OTHER r) (h != a)
    let both : Bool := match m.heath.nvm.newest (1 - h) r with | some (_, t) => t.seq == s.seq | none => false
    let m := m.setB 0 (HTH_NVMREG.STBY_OK r) (both && !own && m.on 0 HTH_HBSTAT.STBY_OK)
    let m := m.setB 0 ⟨HTH_NVMSTAT.SPLIT.off, HTH_NVMSTAT.SPLIT.lo + r, 1⟩ (!own && !both)
    loadRegion r s.data m

/-- Entries of the meter's window tables whose limits are crossed (R355). -/
def crossedLimits (m : Wafer) : List (Nat × Nat) :=
  ((List.range 4).flatMap fun c => (List.range 32).map fun e => (c, e)).filter fun k =>
    decide (m.getI 0 (MTR_WHI.HI k.1 k.2) < m.getI 0 (MTR_WLO.LO k.1 k.2))

/-- The settings of a register as a write carries them: its RW, RWS and RWP bits. -/
def settingWord (a : Nat) (m : Wafer) : Word :=
  match lookupReg m.fuse (place a) with
  | some (d, _, _, _) => m.word a &&& BitVec.ofNat 32 (d.rw ||| d.rws ||| d.rwp)
  | none => 0

/-- A value out of range that the overlay has put in force is clamped and flagged as a write of
it would be (R267, R293, R302, R349, R364, R391). -/
def clampSettings (m : Wafer) : Wafer :=
  (overlayOf false m).foldl (fun m e =>
    if 0x101000 ≤ e.1 ∧ e.1 < 0x105000 then m else heathWrite .own e.1 (settingWord e.1 m) m) m

/-- What follows from the settings that a load has put in force (R264, R267, R293, R355);
`crossed` are the limits that were crossed before it. -/
def settingsEval (crossed : List (Nat × Nat)) (m : Wafer) : Wafer :=
  let m := clampSettings m
  let m := if (crossedLimits m).any fun k => !crossed.contains k then m.set 0 MTR_STAT.CFG_ERR 1 else m
  let tbl := derateTable m
  let m := if ascending tbl then m.modHeath fun h => { h with derate := some tbl } else m.set 0 HTH_DERSTAT.TBL_ERR 1
  let m := if seqValid m then m else m.set 0 HTH_BUSTAT.SEQ_ERR 1
  cmnEval (derateEval m)

/-- NVM_OVERLAY_LOAD (R34, R192, R313, R315, R441, R442). -/
def doNvmOverlayLoad (m : Wafer) : Wafer :=
  if m.heath.active ∧ (m.heath.bringUp = 4 ∨ m.heath.lone = 2) then
    let was := m.on 0 MTR_CFG.RUN
    let m := retireDiffers (settingsEval (crossedLimits m) ((List.range 6).foldl examineRegion m))
    let m :=
      match was, m.on 0 MTR_CFG.RUN with
      | false, true => trackAfresh (meterStart m)
      | true, false => meterStart m
      | _, _ => m
    if m.heath.lone = 2 then m.modHeath fun h => { h with lone := 1 }
    else (setStep 5 m).setB 0 HTH_BUSTAT.VIB_WAIT (!m.heath.vibHeld)
  else m

/-! ### Enumeration, configuration and self-test (R315 to R317) -/

/-- VIB_PRESENCE_HELD (R315). (DEDUCED: log 52.) -/
def doVibPresenceHeld (m : Wafer) : Wafer :=
  if m.heath.bringUp = 0 then m
  else ((m.modHeath fun h => { h with vibHeld := true }).set 0 HTH_PINSTAT.VIB_PRES 1).set 0 HTH_BUSTAT.VIB_WAIT 0

/-- HEDGEROW_ENUMERATE (R48, R54, R315): every stop that the ring does not pass by answers the
token. (DEDUCED: log 52.) -/
def doHedgerowEnumerate (m : Wafer) : Wafer :=
  if m.heath.active ∧ m.heath.bringUp = 5 ∧ m.heath.vibHeld then
    let live := (List.range 64).filter fun p => !(m.sward p).passedBy
    let absent := (List.range 64).filter fun p => (m.sward p).passedBy
    let b := bitmap live
    let m := m.modHeath fun h => { h with live := live }
    let m := (m.set 0 HTH_LIVE_LO.LIVE (b % 2 ^ 32)).set 0 HTH_LIVE_HI.LIVE (b / 2 ^ 32)
    let m := live.foldl (fun m p => m.modSward p fun x => { x with waitEnum := false }) m
    setStep 6 (absent.foldl (fun m p => heathFaultAt 41 (swardRef p) 0 0 m) m)
  else m

/-- Pass 1 (R316): a record for every Sward. -/
def swardRecord (m : Wafer) (r : Nat × Nat) : Wafer :=
  let o := r.1 % 2 ^ 20
  if !mapped (swd 0 + o) then recordSkipped m
  else (liveParts m).foldl (fun m p => swardWrite p o (recordData m.fuse (swd p + o) r.2) m) m

/-- Pass 2 (R316): a record for every Tussock or Verge, which its Sward writes to the unit.
(DEDUCED: log 50.) -/
def unitRecord (m : Wafer) (r : Nat × Nat) : Wafer :=
  let o := r.1 % 2 ^ 12
  let named (u : UnitId) : Bool := (if u.isVerge then r.1.testBit 29 else r.1.testBit 28) && mapped (u.base + o)
  let any : Bool := (r.1.testBit 28 && mapped (tus 0 + o)) || (r.1.testBit 29 && mapped (vrg 0 + o))
  if !any then recordSkipped m
  else
    ((liveParts m).flatMap fun p => (unitsOf p).map fun u => unitOf p u).foldl (fun m u =>
      if named u then queueOwn u.part u.loc o (recordData m.fuse (u.base + o) r.2) m else m) m

/-- A setting for the Sward that serves an address, where it is live (R316). -/
def liveSetting (a : Nat) (data : Word) (m : Wafer) : Wafer :=
  match placePart (place a) with
  | some p => if partLive p m then sendSetting p a data m else m
  | none => m

/-- A record for one Sward or unit (R316, R434). -/
def unicastRecord (m : Wafer) (r : Nat × Nat) : Wafer :=
  let a := r.1 % 2 ^ 30
  if !mapped a then recordSkipped m else liveSetting a (recordData m.fuse a r.2) m

/-- Pass 3 (R316, R442): the image's records for single partitions and units, then BASE
and RETIRE from NVM. -/
def unicastPass (m : Wafer) : Wafer :=
  let m := ((recordsOf 0 m).filter fun r => decide (0x1000000 ≤ r.1)).foldl unicastRecord m
  let bases := match newestSlot 2 (m.heath.lone ≠ 0) m with | some (_, _, s) => s.data | none => []
  let m := bases.foldl (fun m e => liveSetting e.1 (BitVec.ofNat 32 (e.2 % 2 ^ 16)) m) m
  m.heath.retireMap.foldl (fun m e =>
    let u : UnitId := if e.1 < 4096 then .tussock (Fin.ofNat 4096 e.1) else .verge (Fin.ofNat 224 (e.1 - 4096))
    m.each (nibbleSlots e.2) fun s m => liveSetting (u.base + (TSK_PHHLTH.RETIRE s).off) 0x80000000 m) m

/-- CONFIG_BROADCAST (R256, R316): the three passes go out, and the pace mode where it differs
from that of a Sward out of reset; step 7 is complete once they have arrived.  A Heath that came
back alone sends passes 1 and 3 (R336). -/
def doConfigBroadcast (m : Wafer) : Wafer :=
  if !m.heath.active then m
  else if m.heath.lone = 1 then
    paceSend ((unicastPass ((recordsOf 1 m).foldl swardRecord m)).modHeath fun h => { h with lone := 0 })
  else if m.heath.bringUp = 6 ∧ m.heath.configSent = false then
    let m := unicastPass ((recordsOf 2 m).foldl unitRecord ((recordsOf 1 m).foldl swardRecord m))
    let m := if m.on 0 HTH_PACECTL.MODE then paceSend m else m
    configStep (m.modHeath fun h => { h with configSent := true })
  else m

/-- A phase that fails its self-test is retired with its cause bits (R317).
(DESIGN CHOICE: log 53.) -/
def testPhase (u : UnitId) (m : Wafer) (e : Nat × BitVec 6) : Wafer :=
  if e.2 = 0 ∨ slotAbsent u e.1 ∨ m.on u.base (TSK_PHHLTH.RETIRE e.1) then m
  else
    let m := m.set u.base (causeField e.1) (m.get u.base (causeField e.1) ||| e.2.toNat)
    (retirePhase u e.1 m).inc 0 HTH_BUSTAT.PT_RET

/-- Every unit of the live partitions that has its supply has tested its phases. -/
def allTested (m : Wafer) : Bool :=
  (liveParts m).all fun p => (unitsOf p).all fun u =>
    m.heath.tested.contains (unitOf p u).key || (m.unit (unitOf p u)).rst == .powerOn

/-- UNIT_SELF_TEST (R313, R317): a unit that has been released at step 9 tests its phases;
the causes of a slot that fails, after any repeat, are not zero. (DESIGN CHOICE: log 53.) -/
def doUnitSelfTest (u : UnitId) (c0 c1 c2 c3 : BitVec 6) (m : Wafer) : Wafer :=
  if m.heath.bringUp = 8 ∧ partLive u.part m ∧ (m.unit u).rst = .run ∧ ¬ m.heath.tested.contains u.key then
    let m := [(0, c0), (1, c1), (2, c2), (3, c3)].foldl (testPhase u) m
    let m := m.modHeath fun h => { h with tested := u.key :: h.tested }
    if allTested m then setStep 9 m else m
  else m

/-- POWER_READY (R313, R445): the FULL walks of step 11 have ended. (DEDUCED: log 52.) -/
def doPowerReady (m : Wafer) : Wafer :=
  if m.heath.active ∧ m.heath.bringUp = 10 ∧ ((liveParts m).all fun p => !m.on (swd p) SWD_LDSTAT.FULL_BUSY) = true then
    let m := (setStep 11 m).set 0 HTH_BUSTAT.POWER_READY 1
    let m := heathFault 63 0 0 (m.modHeath fun h => { h with ready := true })
    m.each ((List.range 6).filter fun r => (m.get 0 HTH_NVMSTAT.SPLIT).testBit r) nvmQueue
  else m

/-! ### Die temperature (R90, R444) -/

/-- HEATH_DIE_OVER_TEMP (R90, R444), with the die temperature in m°C. -/
def doHeathDieOverTemp (h : Fin 2) (t : Int) (m : Wafer) : Wafer :=
  if m.heath.halted.contains h.val ∨ m.heath.halting.isSome = true ∨ m.heath.bringUp = 0 then m
  else
    let acting : Bool := m.heath.active && m.heath.activeId == h.val
    let m := m.set 0 HTH_PINSTAT.THERMTRIP 1
    let m := if m.heath.active then heathFaultAt 58 (0xC0000000 + h * 2 ^ 16) 0 (unsigned 32 t) m else m
    let m := m.modHeath fun x => { x with halting := some h.val }
    if acting then (heathGone m).set 0 HTH_NVMSTAT.DEFER 1 else m

/-- HEATH_HALT (R48, R444). -/
def doHeathHalt (h : Fin 2) (m : Wafer) : Wafer :=
  if m.heath.halting = some h.val then
    let m := m.modHeath fun x => { x with halting := none, halted := h.val :: x.halted }
    let m := m.modNvm fun x => (x.setJob h 0 none).setJob h 1 none
    if m.heath.activeId = h.val then m.set 0 HTH_NVMSTAT.DEFER 0
    else standbyGone m
  else m

end Sys2Proof.Machine
end

