-- ==== Sys2Proof/Machine/Commands.lean ====
section
/-! DEFINITION.  The meaning of each command, in the order of the opcode table: the effect
of the operation of the same name on the controller; the queue is not touched. -/

namespace Sys2Proof.Machine

/-- LOW_WORD_READ (R13). -/
def execLowWordRead (i : Issuer) (a : BitVec 30) (s : State) : Result := s.run (doLowWordRead i a)

/-- HIGH_WORD_READ (R13). -/
def execHighWordRead (i : Issuer) (a : BitVec 30) (s : State) : Result := s.run (doHighWordRead i a)

/-- LOW_WORD_WRITE (R13). -/
def execLowWordWrite (i : Issuer) (a : BitVec 30) (data : Word) (s : State) : Result := s.run (doLowWordWrite i a data)

/-- HIGH_WORD_WRITE (R13). -/
def execHighWordWrite (i : Issuer) (a : BitVec 30) (data : Word) (s : State) : Result := s.run (doHighWordWrite i a data)

/-- REGISTER_WRITE (R17). -/
def execRegisterWrite (i : Issuer) (be : BitVec 4) (a : BitVec 30) (data : Word) (s : State) : Result := s.run (doRegisterWrite i be a data)

/-- VSTBY_LOSS (R50). -/
def execVstbyLoss (s : State) : Result := s.run (doVstbyLoss)

/-- AUX_OK_LOW (R82). -/
def execAuxOkLow (s : State) : Result := s.run (doAuxOkLow)

/-- SYS_RST_ASSERT (R82). -/
def execSysRstAssert (s : State) : Result := s.run (doSysRstAssert)

/-- HEATH_RESET_RELEASE (R313). -/
def execHeathResetRelease (straps : Fin 4) (test : Bool) (s : State) : Result := s.run (doHeathResetRelease straps test)

/-- HEATH_SELF_TEST_DONE (R314). -/
def execHeathSelfTestDone (h : Fin 2) (pass : Bool) (s : State) : Result := s.run (doHeathSelfTestDone h pass)

/-- FLASH_IMAGE_READ (R432). -/
def execFlashImageRead (sfdp : Option Sfdp) (a : List (BitVec 8)) (b : List (BitVec 8)) (s : State) : Result := s.run (doFlashImageRead sfdp a b)

/-- NVM_OVERLAY_LOAD (R441). -/
def execNvmOverlayLoad (s : State) : Result := s.run (doNvmOverlayLoad)

/-- VIB_PRESENCE_HELD (R315). -/
def execVibPresenceHeld (s : State) : Result := s.run (doVibPresenceHeld)

/-- HEDGEROW_ENUMERATE (R315). -/
def execHedgerowEnumerate (s : State) : Result := s.run (doHedgerowEnumerate)

/-- CONFIG_BROADCAST (R316). -/
def execConfigBroadcast (s : State) : Result := s.run (doConfigBroadcast)

/-- UNIT_SELF_TEST (R317). -/
def execUnitSelfTest (u : UnitId) (c0 : BitVec 6) (c1 : BitVec 6) (c2 : BitVec 6) (c3 : BitVec 6) (s : State) : Result := s.run (doUnitSelfTest u c0 c1 c2 c3)

/-- POWER_READY (R313). -/
def execPowerReady (s : State) : Result := s.run (doPowerReady)

/-- TVDD_POR_ASSERT (R54). -/
def execTvddPorAssert (t : TvddId) (s : State) : Result := s.run (doTvddPorAssert t)

/-- TVDD_POR_RELEASE (R54). -/
def execTvddPorRelease (t : TvddId) (s : State) : Result := s.run (doTvddPorRelease t)

/-- MAP_OPEN (R31). -/
def execMapOpen (s : State) : Result := s.run (doMapOpen)

/-- MAP_COMMIT (R32). -/
def execMapCommit (opens : Bool) (s : State) : Result := s.run (doMapCommit opens)

/-- MAP_DISCARD (R32). -/
def execMapDiscard (s : State) : Result := s.run (doMapDiscard)

/-- LMAP_WRITE (R31). -/
def execLmapWrite (n : Fin 4096) (data : Word) (s : State) : Result := s.run (doLmapWrite n data)

/-- LOGICAL_WINDOW_ACCESS (R57). -/
def execLogicalWindowAccess (i : Issuer) (be : BitVec 4) (o : Fin 1024) (write : Option Word) (s : State) : Result := s.run (doLogicalWindowAccess i be o write)

/-- PRST_CHANGE (R76). -/
def execPrstChange (p : Fin 64) (level : Bool) (s : State) : Result := s.run (doPrstChange p level)

/-- FENCE_CHANGE (R77). -/
def execFenceChange (p : Fin 64) (level : Bool) (s : State) : Result := s.run (doFenceChange p level)

/-- HEDGEROW_MESSAGE_RECEIVE (R47). -/
def execHedgerowMessageReceive (stop : Fin 66) (sender : Fin 66) (seq : BitVec 16) (s : State) : Result := s.run (doHedgerowMessageReceive stop sender seq)

/-- STOP_BYPASS_CLOSE (R48). -/
def execStopBypassClose (i : Fin 66) (s : State) : Result := s.run (doStopBypassClose i)

/-- ALIGNMENT_MARK (R51). -/
def execAlignmentMark (w : Nat) (s : State) : Result := s.run (doAlignmentMark w)

/-- ALIGNMENT_MARK_RECEIVE (R52). -/
def execAlignmentMarkReceive (p : Fin 64) (w : Nat) (s : State) : Result := s.run (doAlignmentMarkReceive p w)

/-- MESH_REF_LOSS (R52). -/
def execMeshRefLoss (s : State) : Result := s.run (doMeshRefLoss)

/-- SENSE_OPEN_DETECT (R62). -/
def execSenseOpenDetect (u : UnitId) (q : Fin 2) (v : Int) (s : State) : Result := s.run (doSenseOpenDetect u q v)

/-- VIB_UNDER_VOLTAGE (R63). -/
def execVibUnderVoltage (u : UnitId) (vib : Nat) (s : State) : Result := s.run (doVibUnderVoltage u vib)

/-- VIB_RECOVER (R63). -/
def execVibRecover (u : UnitId) (vib : Nat) (v0 : Int) (v1 : Int) (s : State) : Result := s.run (doVibRecover u vib v0 v1)

/-- VIB_OUT_OF_RANGE (R63). -/
def execVibOutOfRange (u : UnitId) (vib : Nat) (s : State) : Result := s.run (doVibOutOfRange u vib)

/-- VIB_SINK_INHIBIT (R63). -/
def execVibSinkInhibit (u : UnitId) (vib : Nat) (s : State) : Result := s.run (doVibSinkInhibit u vib)

/-- VIB_OVER_VOLTAGE (R63). -/
def execVibOverVoltage (u : UnitId) (vib : Nat) (s : State) : Result := s.run (doVibOverVoltage u vib)

/-- DEMAND_BEGIN (R95). -/
def execDemandBegin (u : UnitId) (q : Fin 2) (v : Int) (s : State) : Result := s.run (doDemandBegin u q v)

/-- DEMAND_END (R95). -/
def execDemandEnd (u : UnitId) (q : Fin 2) (v : Int) (s : State) : Result := s.run (doDemandEnd u q v)

/-- MODULATOR_REQUEST (R96). -/
def execModulatorRequest (u : UnitId) (q : Fin 2) (vib : Nat) (s : State) : Result := s.run (doModulatorRequest u q vib)

/-- PULSE_END (R105). -/
def execPulseEnd (u : UnitId) (slot : Fin 4) (s : State) : Result := s.run (doPulseEnd u slot)

/-- OFF_TIME_EXPIRE (R104). -/
def execOffTimeExpire (u : UnitId) (slot : Fin 4) (w : Nat) (s : State) : Result := s.run (doOffTimeExpire u slot w)

/-- PHASE_CURRENT_ZERO (R117). -/
def execPhaseCurrentZero (u : UnitId) (slot : Fin 4) (s : State) : Result := s.run (doPhaseCurrentZero u slot)

/-- FLL_WINDOW_END (R109). -/
def execFllWindowEnd (u : UnitId) (s : State) : Result := s.run (doFllWindowEnd u)

/-- SYNC_EDGE (R111). -/
def execSyncEdge (u : UnitId) (err : Int) (s : State) : Result := s.run (doSyncEdge u err)

/-- SYNC_EDGE_MISSING (R111). -/
def execSyncEdgeMissing (u : UnitId) (s : State) : Result := s.run (doSyncEdgeMissing u)

/-- SYNC_LOSS (R113). -/
def execSyncLoss (u : UnitId) (s : State) : Result := s.run (doSyncLoss u)

/-- SYNC_RETURN (R114). -/
def execSyncReturn (u : UnitId) (s : State) : Result := s.run (doSyncReturn u)

/-- REF_MOVE_COMPLETE (R113). -/
def execRefMoveComplete (u : UnitId) (s : State) : Result := s.run (doRefMoveComplete u)

/-- OWN_OSC_WRITE (R116). -/
def execOwnOscWrite (u : UnitId) (on : Bool) (s : State) : Result := s.run (doOwnOscWrite u on)

/-- SHED_ENTER (R119). -/
def execShedEnter (u : UnitId) (q : Fin 2) (i8 : Int) (s : State) : Result := s.run (doShedEnter u q i8)

/-- SHED_EXIT (R119). -/
def execShedExit (u : UnitId) (q : Fin 2) (i1 : Int) (s : State) : Result := s.run (doShedExit u q i1)

/-- SHED_HOLD_EXPIRE (R119). -/
def execShedHoldExpire (u : UnitId) (q : Fin 2) (s : State) : Result := s.run (doShedHoldExpire u q)

/-- SINK_ENTER (R120). -/
def execSinkEnter (u : UnitId) (q : Fin 2) (v : Int) (s : State) : Result := s.run (doSinkEnter u q v)

/-- SINK_EXIT (R120). -/
def execSinkExit (u : UnitId) (q : Fin 2) (v : Int) (s : State) : Result := s.run (doSinkExit u q v)

/-- RAIL_ENABLE (R122). -/
def execRailEnable (u : UnitId) (q : Fin 2) (s : State) : Result := s.run (doRailEnable u q)

/-- RAIL_DISABLE (R122). -/
def execRailDisable (u : UnitId) (q : Fin 2) (s : State) : Result := s.run (doRailDisable u q)

/-- ON_DELAY_EXPIRE (R122). -/
def execOnDelayExpire (u : UnitId) (q : Fin 2) (v : Int) (s : State) : Result := s.run (doOnDelayExpire u q v)

/-- RAMP_STEP (R122). -/
def execRampStep (u : UnitId) (q : Fin 2) (v : Int) (s : State) : Result := s.run (doRampStep u q v)

/-- SETPOINT_WRITE (R124). -/
def execSetpointWrite (u : UnitId) (sp : SetPoint) (data : Word) (v : Int) (s : State) : Result := s.run (doSetpointWrite u sp data v)

/-- RETENTION_SELECT (R126). -/
def execRetentionSelect (u : UnitId) (ret : Bool) (v : Int) (s : State) : Result := s.run (doRetentionSelect u ret v)

/-- PHCTL_WRITE (R101). -/
def execPhctlWrite (u : UnitId) (slot : Fin 4) (data : Word) (s : State) : Result := s.run (doPhctlWrite u slot data)

/-- INTENT_RECORD (R153). -/
def execIntentRecord (g : Fin 4096) (d : Word) (w : Nat) (i0 : Int) (i1 : Int) (s : State) : Result := s.run (doIntentRecord g d w i0 i1)

/-- IPORT_ISOLATION_END (R68). -/
def execIportIsolationEnd (g : Fin 4096) (w : Nat) (i0 : Int) (i1 : Int) (s : State) : Result := s.run (doIportIsolationEnd g w i0 i1)

/-- INTENT_LIFT (R154). -/
def execIntentLift (g : Fin 4096) (w : Nat) (i0 : Int) (i1 : Int) (s : State) : Result := s.run (doIntentLift g w i0 i1)

/-- INTENT_STEP_OBSERVED (R158). -/
def execIntentStepObserved (g : Fin 4096) (q : Fin 2) (i40 : Int) (s : State) : Result := s.run (doIntentStepObserved g q i40)

/-- INTENT_EXPIRE (R154). -/
def execIntentExpire (g : Fin 4096) (w : Nat) (s : State) : Result := s.run (doIntentExpire g w)

/-- PRELIFT_DECAY_STEP (R156). -/
def execPreliftDecayStep (g : Fin 4096) (q : Fin 2) (s : State) : Result := s.run (doPreliftDecayStep g q)

/-- GORSE_TRIGGER (R138). -/
def execGorseTrigger (g : Fin 4096) (v : Int) (fall : Int) (s : State) : Result := s.run (doGorseTrigger g v fall)

/-- GORSE_BURST_END (R139). -/
def execGorseBurstEnd (g : Fin 4096) (s : State) : Result := s.run (doGorseBurstEnd g)

/-- GORSE_BURST_EARLY_END (R140). -/
def execGorseBurstEarlyEnd (g : Fin 4096) (v : Int) (e0 : Nat) (e1 : Nat) (s : State) : Result := s.run (doGorseBurstEarlyEnd g v e0 e1)

/-- GORSE_REARM (R142). -/
def execGorseRearm (g : Fin 4096) (before : Int) (v : Int) (s : State) : Result := s.run (doGorseRearm g before v)

/-- NBR_COUNT_CHANGE (R135). -/
def execNbrCountChange (g : Fin 4096) (s : State) : Result := s.run (doNbrCountChange g)

/-- TIE_REQUEST_RECEIVE (R144). -/
def execTieRequestReceive (g : Fin 4096) (n : Fin 4) (code : Fin 4) (w : Nat) (s : State) : Result := s.run (doTieRequestReceive g n code w)

/-- TIE_SIDE_CLOSED (R64). -/
def execTieSideClosed (g : Fin 4096) (n : Fin 4) (s : State) : Result := s.run (doTieSideClosed g n)

/-- TIE_ACK_RECEIVE (R151). -/
def execTieAckReceive (g : Fin 4096) (n : Fin 4) (level : Bool) (s : State) : Result := s.run (doTieAckReceive g n level)

/-- TIE_REQUEST_RELEASE (R147). -/
def execTieRequestRelease (g : Fin 4096) (n : Fin 4) (s : State) : Result := s.run (doTieRequestRelease g n)

/-- TIE_HOLD_EXPIRE (R147). -/
def execTieHoldExpire (g : Fin 4096) (n : Fin 4) (s : State) : Result := s.run (doTieHoldExpire g n)

/-- TIE_GUARD_OPEN (R149). -/
def execTieGuardOpen (g : Fin 4096) (n : Fin 4) (v : Int) (s : State) : Result := s.run (doTieGuardOpen g n v)

/-- TIE_GUARD_RECLOSE (R149). -/
def execTieGuardReclose (g : Fin 4096) (n : Fin 4) (v : Int) (s : State) : Result := s.run (doTieGuardReclose g n v)

/-- TIE_ACK_TIMEOUT (R150). -/
def execTieAckTimeout (g : Fin 4096) (n : Fin 4) (s : State) : Result := s.run (doTieAckTimeout g n)

/-- STRETCH_ASSERT (R162). -/
def execStretchAssert (g : Fin 4096) (v : Int) (w : Nat) (s : State) : Result := s.run (doStretchAssert g v w)

/-- STRETCH_RELEASE (R162). -/
def execStretchRelease (g : Fin 4096) (v : Int) (w : Nat) (s : State) : Result := s.run (doStretchRelease g v w)

/-- PATCH_OVERLOAD_CLASSIFY (R166). -/
def execPatchOverloadClassify (g : Fin 4096) (v : Int) (s : State) : Result := s.run (doPatchOverloadClassify g v)

/-- CURRENT_LIMIT_HIT (R171). -/
def execCurrentLimitHit (u : UnitId) (slot : Fin 4) (i : Int) (s : State) : Result := s.run (doCurrentLimitHit u slot i)

/-- PHASE_FAULT_DETECT (R173). -/
def execPhaseFaultDetect (u : UnitId) (slot : Fin 4) (r : PhaseReading) (s : State) : Result := s.run (doPhaseFaultDetect u slot r)

/-- SUSPENSION_END (R174). -/
def execSuspensionEnd (u : UnitId) (slot : Fin 4) (s : State) : Result := s.run (doSuspensionEnd u slot)

/-- RAIL_OV_TRIP (R178). -/
def execRailOvTrip (u : UnitId) (q : Fin 2) (v : Int) (s : State) : Result := s.run (doRailOvTrip u q v)

/-- TRIP_RETRY_EXPIRE (R179). -/
def execTripRetryExpire (u : UnitId) (q : Fin 2) (v : Int) (s : State) : Result := s.run (doTripRetryExpire u q v)

/-- RAIL_UNDER_VOLTAGE (R180). -/
def execRailUnderVoltage (u : UnitId) (q : Fin 2) (v : Int) (s : State) : Result := s.run (doRailUnderVoltage u q v)

/-- TEMP_SAMPLE (R181). -/
def execTempSample (u : UnitId) (t : TempReading) (s : State) : Result := s.run (doTempSample u t)

/-- TEMP_SENSOR_FAIL (R186). -/
def execTempSensorFail (u : UnitId) (noSample : Bool) (s : State) : Result := s.run (doTempSensorFail u noSample)

/-- COLUMN_ESTIMATE (R187). -/
def execColumnEstimate (u : UnitId) (slot : Fin 4) (i : Int) (steady : Bool) (quiet : Bool) (s : State) : Result := s.run (doColumnEstimate u slot i steady quiet)

/-- COLUMN_ESTIMATE_DONE (R188). -/
def execColumnEstimateDone (u : UnitId) (slot : Fin 4) (drop : Int) (i : Int) (interrupted : Bool) (s : State) : Result := s.run (doColumnEstimateDone u slot drop i interrupted)

/-- BASELINE_CAPTURE (R189). -/
def execBaselineCapture (u : UnitId) (slot : Fin 4) (s : State) : Result := s.run (doBaselineCapture u slot)

/-- RETIRE_WRITE (R192). -/
def execRetireWrite (u : UnitId) (slot : Fin 4) (s : State) : Result := s.run (doRetireWrite u slot)

/-- UNRETIRE_WRITE (R199). -/
def execUnretireWrite (u : UnitId) (slot : Fin 4) (s : State) : Result := s.run (doUnretireWrite u slot)

/-- PHASE_TEST_START (R199). -/
def execPhaseTestStart (u : UnitId) (slot : Fin 4) (s : State) : Result := s.run (doPhaseTestStart u slot)

/-- PHASE_TEST_DONE (R199). -/
def execPhaseTestDone (u : UnitId) (slot : Fin 4) (s : State) : Result := s.run (doPhaseTestDone u slot)

/-- ADOPTION_END (R200). -/
def execAdoptionEnd (g : Fin 4096) (v : Int) (s : State) : Result := s.run (doAdoptionEnd g v)

/-- ADOPTION_OVER_CAP (R197). -/
def execAdoptionOverCap (g : Fin 4096) (w : Nat) (s : State) : Result := s.run (doAdoptionOverCap g w)

/-- FRAME_BOUNDARY (R203). -/
def execFrameBoundary (p : Fin 64) (f : Nat) (s : State) : Result := s.run (doFrameBoundary p f)

/-- DOWNLINK_FRAME_RECEIVE (R205). -/
def execDownlinkFrameReceive (u : UnitId) (copies : Option (BitVec 1064) × Option (BitVec 1064)) (s : State) : Result :=
  s.run (doDownlinkFrameReceive u copies)

/-- DOWNLINK_APPLY (R206). -/
def execDownlinkApply (u : UnitId) (f : Nat) (sample : Sample) (s : State) : Result := s.run (doDownlinkApply u f sample)

/-- UPLINK_RECORD_RECEIVE (R208). -/
def execUplinkRecordReceive (u : UnitId) (a : Option (BitVec 200)) (b : Option (BitVec 200)) (s : State) : Result := s.run (doUplinkRecordReceive u a b)

/-- ACCESS_CHANNEL_ENQUEUE (R207). -/
def execAccessChannelEnqueue (u : UnitId) (off : Fin 1024) (data : Word) (read : Bool) (issuer : Issuer) (s : State) : Result := s.run (doAccessChannelEnqueue u off data read issuer)

/-- COMMIT_POINT (R203). -/
def execCommitPoint (p : Fin 64) (s : State) : Result := s.run (doCommitPoint p)

/-- SETTLE_TIMEOUT (R254). -/
def execSettleTimeout (p : Fin 64) (s : State) : Result := s.run (doSettleTimeout p)

/-- RAISE_BLOCK_EXPIRE (R254). -/
def execRaiseBlockExpire (p : Fin 64) (s : State) : Result := s.run (doRaiseBlockExpire p)

/-- WALK_STEP_PASS (R241). -/
def execWalkStepPass (p : Fin 64) (s : State) : Result := s.run (doWalkStepPass p)

/-- WALK_SETTLE_FAIL (R241). -/
def execWalkSettleFail (p : Fin 64) (s : State) : Result := s.run (doWalkSettleFail p)

/-- FULL_RUNG_TIMEOUT (R250). -/
def execFullRungTimeout (p : Fin 64) (s : State) : Result := s.run (doFullRungTimeout p)

/-- SLOT_EXECUTE (R219). -/
def execSlotExecute (p : Fin 64) (n : Fin 256) (s : State) : Result := s.run (doSlotExecute p n)

/-- PREDICTOR_EXECUTE (R224). -/
def execPredictorExecute (p : Fin 64) (k : Fin 16) (s : State) : Result := s.run (doPredictorExecute p k)

/-- SWARD_CONFIG_WRITE (R215). -/
def execSwardConfigWrite (p : Fin 64) (off : Nat) (data : Word) (s : State) : Result := s.run (doSwardConfigWrite p off data)

/-- SLOT_STATE_WRITE (R216). -/
def execSlotStateWrite (p : Fin 64) (n : Fin 256) (word : Fin 6) (data : Word) (s : State) : Result := s.run (doSlotStateWrite p n word data)

/-- SLOT_INT_CLEAR (R220). -/
def execSlotIntClear (p : Fin 64) (n : Fin 256) (s : State) : Result := s.run (doSlotIntClear p n)

/-- PREDICTOR_CLEAR (R225). -/
def execPredictorClear (p : Fin 64) (k : Fin 16) (s : State) : Result := s.run (doPredictorClear p k)

/-- LOAD_PEAK_CLEAR (R226). -/
def execLoadPeakClear (p : Fin 64) (s : State) : Result := s.run (doLoadPeakClear p)

/-- KAT_START (R231). -/
def execKatStart (p : Fin 64) (s : State) : Result := s.run (doKatStart p)

/-- KAT_DONE (R231). -/
def execKatDone (p : Fin 64) (lanes : BitVec 4) (s : State) : Result := s.run (doKatDone p lanes)

/-- LADDER_SHADOW_WRITE (R234). -/
def execLadderShadowWrite (p : Fin 64) (t : Fin 64) (i : Fin 16) (data : Word) (s : State) : Result := s.run (doLadderShadowWrite p t i data)

/-- LADDER_CHECK_DONE (R246). -/
def execLadderCheckDone (p : Fin 64) (s : State) : Result := s.run (doLadderCheckDone p)

/-- LADDER_COPY_DONE (R245). -/
def execLadderCopyDone (p : Fin 64) (s : State) : Result := s.run (doLadderCopyDone p)

/-- SWAP (R263). -/
def execSwap (p : Fin 64) (s : State) : Result := s.run (doSwap p)

/-- RESYNC (R263). -/
def execResync (p : Fin 64) (s : State) : Result := s.run (doResync p)

/-- FW_OPEN (R249). -/
def execFwOpen (p : Fin 64) (s : State) : Result := s.run (doFwOpen p)

/-- FULL (R250). -/
def execFull (p : Fin 64) (s : State) : Result := s.run (doFull p)

/-- WALK_REQ (R263). -/
def execWalkReq (p : Fin 64) (t : Fin 64) (s : State) : Result := s.run (doWalkReq p t)

/-- KA_FAIL (R244). -/
def execKaFail (p : Fin 64) (t : Fin 64) (s : State) : Result := s.run (doKaFail p t)

/-- CANARY_STRETCH_WINDOW_END (R239). -/
def execCanaryStretchWindowEnd (g : Fin 4096) (w : Nat) (s : State) : Result := s.run (doCanaryStretchWindowEnd g w)

/-- PACE_MODE_WRITE (R256). -/
def execPaceModeWrite (mode : Bool) (s : State) : Result := s.run (doPaceModeWrite mode)

/-- PACE_MODE_APPLY (R257). -/
def execPaceModeApply (p : Fin 64) (s : State) : Result := s.run (doPaceModeApply p)

/-- CAP_REQUEST_WRITE (R265). -/
def execCapRequestWrite (cap : BitVec 16) (s : State) : Result := s.run (doCapRequestWrite cap)

/-- DERATE_TABLE_WRITE (R267). -/
def execDerateTableWrite (k : Fin 8) (data : Word) (s : State) : Result := s.run (doDerateTableWrite k data)

/-- INLET_READING_TIMEOUT (R267). -/
def execInletReadingTimeout (s : State) : Result := s.run (doInletReadingTimeout)

/-- LEASE_PERIOD (R272). -/
def execLeasePeriod (w : Nat) (s : State) : Result := s.run (doLeasePeriod w)

/-- LEASE_RECEIVE (R273). -/
def execLeaseReceive (p : Fin 64) (seq : BitVec 16) (issue : Word) (dur : BitVec 8) (budget : Word) (floor : Word) (w : Nat) (s : State) : Result := s.run (doLeaseReceive p seq issue dur budget floor w)

/-- LEASE_EXPIRE (R274). -/
def execLeaseExpire (p : Fin 64) (w : Nat) (s : State) : Result := s.run (doLeaseExpire p w)

/-- REDUCTION_RESULT_RECEIVE (R279). -/
def execReductionResultReceive (e : Nat) (power : Word) (mask : BitVec 64) (w : Nat) (s : State) : Result := s.run (doReductionResultReceive e power mask w)

/-- EPOCH_DEADLINE (R280). -/
def execEpochDeadline (e : Nat) (w : Nat) (s : State) : Result := s.run (doEpochDeadline e w)

/-- BRAKE_RECEIVE (R283). -/
def execBrakeReceive (p : Fin 64) (s : State) : Result := s.run (doBrakeReceive p)

/-- RELEASE_RECEIVE (R284). -/
def execReleaseReceive (p : Fin 64) (s : State) : Result := s.run (doReleaseReceive p)

/-- BRAKE_HELD_REPORT (R284). -/
def execBrakeHeldReport (p : Fin 64) (held : Bool) (s : State) : Result := s.run (doBrakeHeldReport p held)

/-- CONTEXT_RESTART (R287). -/
def execContextRestart (p : Fin 64) (c : Fin 8) (s : State) : Result := s.run (doContextRestart p c)

/-- SWATH_ENTRY_TIMEOUT (R290). -/
def execSwathEntryTimeout (p : Fin 64) (s : State) : Result := s.run (doSwathEntryTimeout p)

/-- SWATH_DATA_ACCESS (R290). -/
def execSwathDataAccess (p : Fin 64) (write : Option Word) (s : State) : Result := s.run (doSwathDataAccess p write)

/-- LNK_STAT_TAKE (R78). -/
def execLnkStatTake (p : Fin 64) (k : Fin 4) (w : Nat) (s : State) : Result := s.run (doLnkStatTake p k w)

/-- TRAIN_WINDOW_END (R308). -/
def execTrainWindowEnd (p : Fin 64) (s : State) : Result := s.run (doTrainWindowEnd p)

/-- COMMONS_ENABLE (R301). -/
def execCommonsEnable (on : Bool) (s : State) : Result := s.run (doCommonsEnable on)

/-- COMMONS_REPORT_SEND (R296). -/
def execCommonsReportSend (s : State) : Result := s.run (doCommonsReportSend)

/-- BARRIER_WAIT_WRITE (R296). -/
def execBarrierWaitWrite (wait : BitVec 16) (s : State) : Result := s.run (doBarrierWaitWrite wait)

/-- COMMONS_FRAME_RECEIVE (R295). -/
def execCommonsFrameReceive (bytes : List (BitVec 8)) (w : Nat) (s : State) : Result := s.run (doCommonsFrameReceive bytes w)

/-- MEMBER_LIVENESS_EXPIRE (R297). -/
def execMemberLivenessExpire (i : Fin 64) (w : Nat) (s : State) : Result := s.run (doMemberLivenessExpire i w)

/-- GRANT_STEP (R299). -/
def execGrantStep (w : Nat) (s : State) : Result := s.run (doGrantStep w)

/-- GRANT_RECEIVE (R300). -/
def execGrantReceive (src : Fin 64) (seq : BitVec 16) (grant : Word) (cap : Word) (n : BitVec 8) (w : Nat) (s : State) : Result := s.run (doGrantReceive src seq grant cap n w)

/-- GRANT_EXPIRE (R301). -/
def execGrantExpire (w : Nat) (s : State) : Result := s.run (doGrantExpire w)

/-- DOMCTL_WRITE (R303). (DEDUCED: log 47.) -/
def execDomctlWrite (p : Fin 64) (data : Word) (s : State) : Result := s.run (doDomctlWrite p data)

/-- CORE_HOLD_CLEAR (R309). -/
def execCoreHoldClear (p : Fin 64) (s : State) : Result := s.run (doCoreHoldClear p)

/-- SWITCH_ON_REQUEST (R310). -/
def execSwitchOnRequest (p : Fin 64) (s : State) : Result := s.run (doSwitchOnRequest p)

/-- SWITCH_ON_GRANT (R311). -/
def execSwitchOnGrant (w : Nat) (s : State) : Result := s.run (doSwitchOnGrant w)

/-- SEQ_TABLE_WRITE (R312). -/
def execSeqTableWrite (i : Fin 64) (data : Word) (s : State) : Result := s.run (doSeqTableWrite i data)

/-- WAFER_RST (R319). -/
def execWaferRst (s : State) : Result := s.run (doWaferRst)

/-- HEATH_RST (R319). -/
def execHeathRst (s : State) : Result := s.run (doHeathRst)

/-- SWD_RST (R325). -/
def execSwdRst (p : Fin 64) (s : State) : Result := s.run (doSwdRst p)

/-- WAFER_RESET_MESSAGE (R334). -/
def execWaferResetMessage (p : Fin 64) (s : State) : Result := s.run (doWaferResetMessage p)

/-- SWARD_HEARTBEAT_TIMEOUT (R334). -/
def execSwardHeartbeatTimeout (p : Fin 64) (s : State) : Result := s.run (doSwardHeartbeatTimeout p)

/-- URST (R320). -/
def execUrst (p : Fin 64) (u : Fin 128) (s : State) : Result := s.run (doUrst p u)

/-- UNIT_CLEAR_END (R324). -/
def execUnitClearEnd (u : UnitId) (s : State) : Result := s.run (doUnitClearEnd u)

/-- RELEASE_WRITE (R324). -/
def execReleaseWrite (u : UnitId) (s : State) : Result := s.run (doReleaseWrite u)

/-- SWARD_WATCHDOG (R325). -/
def execSwardWatchdog (p : Fin 64) (s : State) : Result := s.run (doSwardWatchdog p)

/-- SWARD_RESET_END (R326). -/
def execSwardResetEnd (p : Fin 64) (s : State) : Result := s.run (doSwardResetEnd p)

/-- HEDGEROW_RETRY (R327). -/
def execHedgerowRetry (p : Fin 64) (k : UnicastKind) (addr : Nat) (w : Nat) (s : State) : Result := s.run (doHedgerowRetry p k addr w)

/-- HEDGEROW_ABANDON (R327). -/
def execHedgerowAbandon (p : Fin 64) (k : UnicastKind) (addr : Nat) (w : Nat) (s : State) : Result := s.run (doHedgerowAbandon p k addr w)

/-- RETURN_EPOCH_CHECK (R329). -/
def execReturnEpochCheck (p : Fin 64) (u : Fin 72) (epoch : BitVec 16) (s : State) : Result := s.run (doReturnEpochCheck p u epoch)

/-- HEARTBEAT_SEND (R331). -/
def execHeartbeatSend (w : Nat) (s : State) : Result := s.run (doHeartbeatSend w)

/-- HEATH_TAKEOVER (R331). -/
def execHeathTakeover (w : Nat) (s : State) : Result := s.run (doHeathTakeover w)

/-- HEARTBEAT_RECEIVE (R332). -/
def execHeartbeatReceive (gen : BitVec 8) (s : State) : Result := s.run (doHeartbeatReceive gen)

/-- MIRROR_RECORD_RECEIVE (R333). -/
def execMirrorRecordReceive (seq : BitVec 16) (s : State) : Result := s.run (doMirrorRecordReceive seq)

/-- STANDBY_LOST (R333). -/
def execStandbyLost (s : State) : Result := s.run (doStandbyLost)

/-- MIRROR_COPY_DONE (R336). -/
def execMirrorCopyDone (s : State) : Result := s.run (doMirrorCopyDone)

/-- MAINS_SYNC_EDGE (R339). -/
def execMainsSyncEdge (rising : Bool) (w : Nat) (s : State) : Result := s.run (doMainsSyncEdge rising w)

/-- MAINS_SYNC_LOST (R341). -/
def execMainsSyncLost (w : Nat) (s : State) : Result := s.run (doMainsSyncLost w)

/-- FREE_RUN_START_EVENT (R341). -/
def execFreeRunStartEvent (w : Nat) (s : State) : Result := s.run (doFreeRunStartEvent w)

/-- CONVERSION_RESULT (R345). -/
def execConversionResult (c : Fin 4) (v : Int) (s : State) : Result := s.run (doConversionResult c v)

/-- METER_ROUND_TIMEOUT (R360). -/
def execMeterRoundTimeout (s : State) : Result := s.run (doMeterRoundTimeout)

/-- METER_RUN_WRITE (R343). -/
def execMeterRunWrite (run : Bool) (w : Nat) (s : State) : Result := s.run (doMeterRunWrite run w)

/-- METER_RESTART (R352). -/
def execMeterRestart (s : State) : Result := s.run (doMeterRestart)

/-- METER_URGENT_REQUEST (R353). -/
def execMeterUrgentRequest (c : Fin 4) (ch : Fin 64) (s : State) : Result := s.run (doMeterUrgentRequest c ch)

/-- METER_DATA_READ (R354). -/
def execMeterDataRead (c : Fin 4) (s : State) : Result := s.run (doMeterDataRead c)

/-- ZERO (R356). -/
def execZero (ch : Fin 64) (c : Fin 4) (s : State) : Result := s.run (doZero ch c)

/-- FS (R356). -/
def execFs (ch : Fin 64) (c : Fin 4) (s : State) : Result := s.run (doFs ch c)

/-- METER_CAL_COMPLETE (R357). -/
def execMeterCalComplete (s : State) : Result := s.run (doMeterCalComplete)

/-- TELEMETRY_WINDOW_LATCH (R366). -/
def execTelemetryWindowLatch (u : UnitId) (f : Nat) (s : State) : Result := s.run (doTelemetryWindowLatch u f)

/-- TELEMETRY_WINDOW_WRITE (R367). -/
def execTelemetryWindowWrite (u : UnitId) (n : Fin 32) (s : State) : Result := s.run (doTelemetryWindowWrite u n)

/-- MARK_STALE (R368). -/
def execMarkStale (u : UnitId) (s : State) : Result := s.run (doMarkStale u)

/-- PEAK_READ (R371). -/
def execPeakRead (i : Issuer) (u : UnitId) (k : PeakReg) (s : State) : Result := s.run (doPeakRead i u k)

/-- AGGREGATE_WINDOW_LATCH (R374). -/
def execAggregateWindowLatch (p : Fin 64) (f : Nat) (s : State) : Result := s.run (doAggregateWindowLatch p f)

/-- SNAP (R382). -/
def execSnap (p : Fin 64) (s : State) : Result := s.run (doSnap p)

/-- CLR (R382). -/
def execClr (p : Fin 64) (all : Bool) (k : Fin 128) (s : State) : Result := s.run (doClr p all k)

/-- COUNTER_OVERFLOW (R383). -/
def execCounterOverflow (p : Fin 64) (k : Fin 96) (n : Nat) (s : State) : Result := s.run (doCounterOverflow p k n)

/-- OVERFLOW_SNAPSHOT (R384). -/
def execOverflowSnapshot (p : Fin 64) (pred : Bool) (slot : Fin 256) (s : State) : Result := s.run (doOverflowSnapshot p pred slot)

/-- APERTURE_READ (R385). -/
def execApertureRead (p : Fin 64) (g : Fin 4096) (super : Bool) (write : Bool) (o : Fin 1024) (s : State) : Result := s.run (doApertureRead p g super write o)

/-- FAULT_REPORT_RECEIVE (R393). -/
def execFaultReportReceive (sender : Fin 65) (seq : BitVec 16) (code : Fin 64) (unit : Word) (dataA : Word) (dataB : Word) (time : BitVec 64) (sub : BitVec 16) (injected : Bool) (w : Nat) (s : State) : Result := s.run (doFaultReportReceive sender seq code unit dataA dataB time sub injected w)

/-- PARTITION_TRIP_RECEIVE (R396). -/
def execPartitionTripReceive (p : Fin 64) (s : State) : Result := s.run (doPartitionTripReceive p)

/-- FL_TRIP_EDGE (R398). -/
def execFlTripEdge (p : Fin 64) (w : Nat) (s : State) : Result := s.run (doFlTripEdge p w)

/-- WTRIP_RECEIVE (R397). -/
def execWtripReceive (p : Fin 64) (s : State) : Result := s.run (doWtripReceive p)

/-- FAULT_REPORT_ACK (R389). -/
def execFaultReportAck (p : Fin 64) (seq : BitVec 16) (s : State) : Result := s.run (doFaultReportAck p seq)

/-- FAULT_REPORT_RESEND (R389). -/
def execFaultReportResend (p : Fin 64) (seq : BitVec 16) (s : State) : Result := s.run (doFaultReportResend p seq)

/-- ACK (R400). -/
def execAck (c : Fin 64) (s : State) : Result := s.run (doAck c)

/-- ALL (R400). -/
def execAll (s : State) : Result := s.run (doAll)

/-- GRACE_TIMER_EXPIRE (R403). -/
def execGraceTimerExpire (c : Fin 64) (w : Nat) (s : State) : Result := s.run (doGraceTimerExpire c w)

/-- FEC_CLEAR (R405). -/
def execFecClear (s : State) : Result := s.run (doFecClear)

/-- FAULT_RECORD_WRITE (R408). -/
def execFaultRecordWrite (s : State) : Result := s.run (doFaultRecordWrite)

/-- RING_RP_WRITE (R409). -/
def execRingRpWrite (data : Word) (s : State) : Result := s.run (doRingRpWrite data)

/-- LAST_FAULT_CLEAR (R413). -/
def execLastFaultClear (s : State) : Result := s.run (doLastFaultClear)

/-- FAULT_INJECT (R414). -/
def execFaultInject (origin : Bool) (part : Fin 64) (src : Fin 64) (s : State) : Result := s.run (doFaultInject origin part src)

/-- PAGE (R421). -/
def execPage (write : Option (BitVec 8)) (pec : Pec) (s : State) : Result := s.run (doPage write pec)

/-- CLEAR_FAULTS (R424). -/
def execClearFaults (pec : Pec) (s : State) : Result := s.run (doClearFaults pec)

/-- CAPABILITY (R416). -/
def execCapability (write : Bool) (s : State) : Result := s.run (doCapability write)

/-- STATUS_BYTE (R423). -/
def execStatusByte (write : Bool) (s : State) : Result := s.run (doStatusByte write)

/-- STATUS_WORD (R423). -/
def execStatusWord (write : Bool) (s : State) : Result := s.run (doStatusWord write)

/-- STATUS_INPUT (R423). -/
def execStatusInput (write : Bool) (s : State) : Result := s.run (doStatusInput write)

/-- STATUS_TEMPERATURE (R423). -/
def execStatusTemperature (write : Bool) (s : State) : Result := s.run (doStatusTemperature write)

/-- STATUS_CML (R423). -/
def execStatusCml (write : Bool) (s : State) : Result := s.run (doStatusCml write)

/-- STATUS_MFR_SPECIFIC (R423). -/
def execStatusMfrSpecific (write : Bool) (s : State) : Result := s.run (doStatusMfrSpecific write)

/-- READ_VIN (R422). -/
def execReadVin (write : Bool) (s : State) : Result := s.run (doReadVin write)

/-- READ_IIN (R422). -/
def execReadIin (write : Bool) (s : State) : Result := s.run (doReadIin write)

/-- READ_PIN (R422). -/
def execReadPin (write : Bool) (s : State) : Result := s.run (doReadPin write)

/-- READ_TEMPERATURE_1 (R422). -/
def execReadTemperature1 (write : Bool) (s : State) : Result := s.run (doReadTemperature1 write)

/-- READ_TEMPERATURE_2 (R422). -/
def execReadTemperature2 (write : Bool) (s : State) : Result := s.run (doReadTemperature2 write)

/-- READ_TEMPERATURE_3 (R422). -/
def execReadTemperature3 (write : Bool) (s : State) : Result := s.run (doReadTemperature3 write)

/-- PMBUS_REVISION (R416). -/
def execPmbusRevision (write : Bool) (s : State) : Result := s.run (doPmbusRevision write)

/-- MFR_ID (R416). -/
def execMfrId (write : Bool) (s : State) : Result := s.run (doMfrId write)

/-- MFR_MODEL (R416). -/
def execMfrModel (write : Bool) (s : State) : Result := s.run (doMfrModel write)

/-- MFR_REVISION (R416). -/
def execMfrRevision (write : Bool) (s : State) : Result := s.run (doMfrRevision write)

/-- MFR_WAFER_CAP (R425). -/
def execMfrWaferCap (write : Option (BitVec 16)) (pec : Pec) (s : State) : Result := s.run (doMfrWaferCap write pec)

/-- MFR_CAP_EFF (R416). -/
def execMfrCapEff (write : Bool) (s : State) : Result := s.run (doMfrCapEff write)

/-- MFR_REG_WRITE (R426). -/
def execMfrRegWrite (bytes : List (BitVec 8)) (pec : Pec) (s : State) : Result := s.run (doMfrRegWrite bytes pec)

/-- MFR_REG_READ (R426). -/
def execMfrRegRead (bytes : List (BitVec 8)) (s : State) : Result := s.run (doMfrRegRead bytes)

/-- SMBUS_INVALID_COMMAND (R417). -/
def execSmbusInvalidCommand (code : BitVec 8) (s : State) : Result := s.run (doSmbusInvalidCommand code)

/-- ALERT_RESPONSE (R420). -/
def execAlertResponse (win : Bool) (s : State) : Result := s.run (doAlertResponse win)

/-- SMBUS_ABANDON (R418). -/
def execSmbusAbandon (write : Bool) (s : State) : Result := s.run (doSmbusAbandon write)

/-- SMBUS_STRETCH_TIMEOUT (R419). -/
def execSmbusStretchTimeout (remaining : Fin 256) (s : State) : Result := s.run (doSmbusStretchTimeout remaining)

/-- SPI_RELEASE_WRITE (R436). -/
def execSpiReleaseWrite (release : Bool) (s : State) : Result := s.run (doSpiReleaseWrite release)

/-- STORE (R438). -/
def execStore (regions : BitVec 6) (s : State) : Result := s.run (doStore regions)

/-- NVM_PAGE_WRITE_DONE (R437). -/
def execNvmPageWriteDone (h : Fin 2) (bank : Fin 2) (good : Bool) (s : State) : Result := s.run (doNvmPageWriteDone h bank good)

/-- NVM_STANDBY_LAG (R440). -/
def execNvmStandbyLag (r : Fin 6) (s : State) : Result := s.run (doNvmStandbyLag r)

/-- HEATH_DIE_OVER_TEMP (R444). -/
def execHeathDieOverTemp (h : Fin 2) (t : Int) (s : State) : Result := s.run (doHeathDieOverTemp h t)

/-- HEATH_HALT (R444). -/
def execHeathHalt (h : Fin 2) (s : State) : Result := s.run (doHeathHalt h)

/-- MESH_REF_RETURN (R52). -/
def execMeshRefReturn (s : State) : Result := s.run (doMeshRefReturn)

/-- SELF_TEST_REPORT_TIMEOUT (R314). -/
def execSelfTestReportTimeout (s : State) : Result := s.run (doSelfTestReportTimeout)

/-- FL_TRIP_RELEASE (R398). -/
def execFlTripRelease (s : State) : Result := s.run (doFlTripRelease)

/-- MESH_PACKET_SENT (R377). -/
def execMeshPacketSent (sender : Fin 65) (s : State) : Result := s.run (doMeshPacketSent sender)

/-- LNK_STAT_CHANGE (R78). -/
def execLnkStatChange (p : Fin 64) (k : Fin 4) (v : Fin 4) (w : Nat) (s : State) : Result := s.run (doLnkStatChange p k v w)

end Sys2Proof.Machine
end

