-- ==== Sys2Proof/Machine/Dispatch.lean ====
section
/-! DEFINITION.  Dispatch: one arm for each command. -/

namespace Sys2Proof.Machine

def exec (i : Instr) (s : State) : Host.Outcome State Fault Refusal :=
  match i with
  | .lowWordRead issuer a => Sys2Proof.Machine.execLowWordRead issuer a s
  | .highWordRead issuer a => Sys2Proof.Machine.execHighWordRead issuer a s
  | .lowWordWrite issuer a data => Sys2Proof.Machine.execLowWordWrite issuer a data s
  | .highWordWrite issuer a data => Sys2Proof.Machine.execHighWordWrite issuer a data s
  | .registerWrite issuer be a data => Sys2Proof.Machine.execRegisterWrite issuer be a data s
  | .vstbyLoss => Sys2Proof.Machine.execVstbyLoss s
  | .auxOkLow => Sys2Proof.Machine.execAuxOkLow s
  | .sysRstAssert => Sys2Proof.Machine.execSysRstAssert s
  | .heathResetRelease straps test => Sys2Proof.Machine.execHeathResetRelease straps test s
  | .heathSelfTestDone h pass => Sys2Proof.Machine.execHeathSelfTestDone h pass s
  | .flashImageRead sfdp a b => Sys2Proof.Machine.execFlashImageRead sfdp a b s
  | .nvmOverlayLoad => Sys2Proof.Machine.execNvmOverlayLoad s
  | .vibPresenceHeld => Sys2Proof.Machine.execVibPresenceHeld s
  | .hedgerowEnumerate => Sys2Proof.Machine.execHedgerowEnumerate s
  | .configBroadcast => Sys2Proof.Machine.execConfigBroadcast s
  | .unitSelfTest u c0 c1 c2 c3 => Sys2Proof.Machine.execUnitSelfTest u c0 c1 c2 c3 s
  | .powerReady => Sys2Proof.Machine.execPowerReady s
  | .tvddPorAssert t => Sys2Proof.Machine.execTvddPorAssert t s
  | .tvddPorRelease t => Sys2Proof.Machine.execTvddPorRelease t s
  | .mapOpen => Sys2Proof.Machine.execMapOpen s
  | .mapCommit opens => Sys2Proof.Machine.execMapCommit opens s
  | .mapDiscard => Sys2Proof.Machine.execMapDiscard s
  | .lmapWrite n data => Sys2Proof.Machine.execLmapWrite n data s
  | .logicalWindowAccess issuer be o write => Sys2Proof.Machine.execLogicalWindowAccess issuer be o write s
  | .prstChange p level => Sys2Proof.Machine.execPrstChange p level s
  | .fenceChange p level => Sys2Proof.Machine.execFenceChange p level s
  | .hedgerowMessageReceive stop sender seq => Sys2Proof.Machine.execHedgerowMessageReceive stop sender seq s
  | .stopBypassClose x => Sys2Proof.Machine.execStopBypassClose x s
  | .alignmentMark w => Sys2Proof.Machine.execAlignmentMark w s
  | .alignmentMarkReceive p w => Sys2Proof.Machine.execAlignmentMarkReceive p w s
  | .meshRefLoss => Sys2Proof.Machine.execMeshRefLoss s
  | .senseOpenDetect u q v => Sys2Proof.Machine.execSenseOpenDetect u q v s
  | .vibUnderVoltage u vib => Sys2Proof.Machine.execVibUnderVoltage u vib s
  | .vibRecover u vib v0 v1 => Sys2Proof.Machine.execVibRecover u vib v0 v1 s
  | .vibOutOfRange u vib => Sys2Proof.Machine.execVibOutOfRange u vib s
  | .vibSinkInhibit u vib => Sys2Proof.Machine.execVibSinkInhibit u vib s
  | .vibOverVoltage u vib => Sys2Proof.Machine.execVibOverVoltage u vib s
  | .demandBegin u q v => Sys2Proof.Machine.execDemandBegin u q v s
  | .demandEnd u q v => Sys2Proof.Machine.execDemandEnd u q v s
  | .modulatorRequest u q vib => Sys2Proof.Machine.execModulatorRequest u q vib s
  | .pulseEnd u slot => Sys2Proof.Machine.execPulseEnd u slot s
  | .offTimeExpire u slot w => Sys2Proof.Machine.execOffTimeExpire u slot w s
  | .phaseCurrentZero u slot => Sys2Proof.Machine.execPhaseCurrentZero u slot s
  | .fllWindowEnd u => Sys2Proof.Machine.execFllWindowEnd u s
  | .syncEdge u err => Sys2Proof.Machine.execSyncEdge u err s
  | .syncEdgeMissing u => Sys2Proof.Machine.execSyncEdgeMissing u s
  | .syncLoss u => Sys2Proof.Machine.execSyncLoss u s
  | .syncReturn u => Sys2Proof.Machine.execSyncReturn u s
  | .refMoveComplete u => Sys2Proof.Machine.execRefMoveComplete u s
  | .ownOscWrite u on => Sys2Proof.Machine.execOwnOscWrite u on s
  | .shedEnter u q i8 => Sys2Proof.Machine.execShedEnter u q i8 s
  | .shedExit u q i1 => Sys2Proof.Machine.execShedExit u q i1 s
  | .shedHoldExpire u q => Sys2Proof.Machine.execShedHoldExpire u q s
  | .sinkEnter u q v => Sys2Proof.Machine.execSinkEnter u q v s
  | .sinkExit u q v => Sys2Proof.Machine.execSinkExit u q v s
  | .railEnable u q => Sys2Proof.Machine.execRailEnable u q s
  | .railDisable u q => Sys2Proof.Machine.execRailDisable u q s
  | .onDelayExpire u q v => Sys2Proof.Machine.execOnDelayExpire u q v s
  | .rampStep u q v => Sys2Proof.Machine.execRampStep u q v s
  | .setpointWrite u sp data v => Sys2Proof.Machine.execSetpointWrite u sp data v s
  | .retentionSelect u ret v => Sys2Proof.Machine.execRetentionSelect u ret v s
  | .phctlWrite u slot data => Sys2Proof.Machine.execPhctlWrite u slot data s
  | .intentRecord g d w i0 i1 => Sys2Proof.Machine.execIntentRecord g d w i0 i1 s
  | .iportIsolationEnd g w i0 i1 => Sys2Proof.Machine.execIportIsolationEnd g w i0 i1 s
  | .intentLift g w i0 i1 => Sys2Proof.Machine.execIntentLift g w i0 i1 s
  | .intentStepObserved g q i40 => Sys2Proof.Machine.execIntentStepObserved g q i40 s
  | .intentExpire g w => Sys2Proof.Machine.execIntentExpire g w s
  | .preliftDecayStep g q => Sys2Proof.Machine.execPreliftDecayStep g q s
  | .gorseTrigger g v fall => Sys2Proof.Machine.execGorseTrigger g v fall s
  | .gorseBurstEnd g => Sys2Proof.Machine.execGorseBurstEnd g s
  | .gorseBurstEarlyEnd g v e0 e1 => Sys2Proof.Machine.execGorseBurstEarlyEnd g v e0 e1 s
  | .gorseRearm g before v => Sys2Proof.Machine.execGorseRearm g before v s
  | .nbrCountChange g => Sys2Proof.Machine.execNbrCountChange g s
  | .tieRequestReceive g n code w => Sys2Proof.Machine.execTieRequestReceive g n code w s
  | .tieSideClosed g n => Sys2Proof.Machine.execTieSideClosed g n s
  | .tieAckReceive g n level => Sys2Proof.Machine.execTieAckReceive g n level s
  | .tieRequestRelease g n => Sys2Proof.Machine.execTieRequestRelease g n s
  | .tieHoldExpire g n => Sys2Proof.Machine.execTieHoldExpire g n s
  | .tieGuardOpen g n v => Sys2Proof.Machine.execTieGuardOpen g n v s
  | .tieGuardReclose g n v => Sys2Proof.Machine.execTieGuardReclose g n v s
  | .tieAckTimeout g n => Sys2Proof.Machine.execTieAckTimeout g n s
  | .stretchAssert g v w => Sys2Proof.Machine.execStretchAssert g v w s
  | .stretchRelease g v w => Sys2Proof.Machine.execStretchRelease g v w s
  | .patchOverloadClassify g v => Sys2Proof.Machine.execPatchOverloadClassify g v s
  | .currentLimitHit u slot x => Sys2Proof.Machine.execCurrentLimitHit u slot x s
  | .phaseFaultDetect u slot r => Sys2Proof.Machine.execPhaseFaultDetect u slot r s
  | .suspensionEnd u slot => Sys2Proof.Machine.execSuspensionEnd u slot s
  | .railOvTrip u q v => Sys2Proof.Machine.execRailOvTrip u q v s
  | .tripRetryExpire u q v => Sys2Proof.Machine.execTripRetryExpire u q v s
  | .railUnderVoltage u q v => Sys2Proof.Machine.execRailUnderVoltage u q v s
  | .tempSample u t => Sys2Proof.Machine.execTempSample u t s
  | .tempSensorFail u noSample => Sys2Proof.Machine.execTempSensorFail u noSample s
  | .columnEstimate u slot x steady quiet => Sys2Proof.Machine.execColumnEstimate u slot x steady quiet s
  | .columnEstimateDone u slot drop x interrupted => Sys2Proof.Machine.execColumnEstimateDone u slot drop x interrupted s
  | .baselineCapture u slot => Sys2Proof.Machine.execBaselineCapture u slot s
  | .retireWrite u slot => Sys2Proof.Machine.execRetireWrite u slot s
  | .unretireWrite u slot => Sys2Proof.Machine.execUnretireWrite u slot s
  | .phaseTestStart u slot => Sys2Proof.Machine.execPhaseTestStart u slot s
  | .phaseTestDone u slot => Sys2Proof.Machine.execPhaseTestDone u slot s
  | .adoptionEnd g v => Sys2Proof.Machine.execAdoptionEnd g v s
  | .adoptionOverCap g w => Sys2Proof.Machine.execAdoptionOverCap g w s
  | .frameBoundary p f => Sys2Proof.Machine.execFrameBoundary p f s
  | .downlinkFrameReceive u copies => Sys2Proof.Machine.execDownlinkFrameReceive u copies s
  | .downlinkApply u f sample => Sys2Proof.Machine.execDownlinkApply u f sample s
  | .uplinkRecordReceive u a b => Sys2Proof.Machine.execUplinkRecordReceive u a b s
  | .accessChannelEnqueue u off data read x => Sys2Proof.Machine.execAccessChannelEnqueue u off data read x s
  | .commitPoint p => Sys2Proof.Machine.execCommitPoint p s
  | .settleTimeout p => Sys2Proof.Machine.execSettleTimeout p s
  | .raiseBlockExpire p => Sys2Proof.Machine.execRaiseBlockExpire p s
  | .walkStepPass p => Sys2Proof.Machine.execWalkStepPass p s
  | .walkSettleFail p => Sys2Proof.Machine.execWalkSettleFail p s
  | .fullRungTimeout p => Sys2Proof.Machine.execFullRungTimeout p s
  | .slotExecute p n => Sys2Proof.Machine.execSlotExecute p n s
  | .predictorExecute p k => Sys2Proof.Machine.execPredictorExecute p k s
  | .swardConfigWrite p off data => Sys2Proof.Machine.execSwardConfigWrite p off data s
  | .slotStateWrite p n word data => Sys2Proof.Machine.execSlotStateWrite p n word data s
  | .slotIntClear p n => Sys2Proof.Machine.execSlotIntClear p n s
  | .predictorClear p k => Sys2Proof.Machine.execPredictorClear p k s
  | .loadPeakClear p => Sys2Proof.Machine.execLoadPeakClear p s
  | .katStart p => Sys2Proof.Machine.execKatStart p s
  | .katDone p lanes => Sys2Proof.Machine.execKatDone p lanes s
  | .ladderShadowWrite p t x data => Sys2Proof.Machine.execLadderShadowWrite p t x data s
  | .ladderCheckDone p => Sys2Proof.Machine.execLadderCheckDone p s
  | .ladderCopyDone p => Sys2Proof.Machine.execLadderCopyDone p s
  | .swap p => Sys2Proof.Machine.execSwap p s
  | .resync p => Sys2Proof.Machine.execResync p s
  | .fwOpen p => Sys2Proof.Machine.execFwOpen p s
  | .full p => Sys2Proof.Machine.execFull p s
  | .walkReq p t => Sys2Proof.Machine.execWalkReq p t s
  | .kaFail p t => Sys2Proof.Machine.execKaFail p t s
  | .canaryStretchWindowEnd g w => Sys2Proof.Machine.execCanaryStretchWindowEnd g w s
  | .paceModeWrite mode => Sys2Proof.Machine.execPaceModeWrite mode s
  | .paceModeApply p => Sys2Proof.Machine.execPaceModeApply p s
  | .capRequestWrite cap => Sys2Proof.Machine.execCapRequestWrite cap s
  | .derateTableWrite k data => Sys2Proof.Machine.execDerateTableWrite k data s
  | .inletReadingTimeout => Sys2Proof.Machine.execInletReadingTimeout s
  | .leasePeriod w => Sys2Proof.Machine.execLeasePeriod w s
  | .leaseReceive p seq issue dur budget floor w => Sys2Proof.Machine.execLeaseReceive p seq issue dur budget floor w s
  | .leaseExpire p w => Sys2Proof.Machine.execLeaseExpire p w s
  | .reductionResultReceive e power mask w => Sys2Proof.Machine.execReductionResultReceive e power mask w s
  | .epochDeadline e w => Sys2Proof.Machine.execEpochDeadline e w s
  | .brakeReceive p => Sys2Proof.Machine.execBrakeReceive p s
  | .releaseReceive p => Sys2Proof.Machine.execReleaseReceive p s
  | .brakeHeldReport p held => Sys2Proof.Machine.execBrakeHeldReport p held s
  | .contextRestart p c => Sys2Proof.Machine.execContextRestart p c s
  | .swathEntryTimeout p => Sys2Proof.Machine.execSwathEntryTimeout p s
  | .swathDataAccess p write => Sys2Proof.Machine.execSwathDataAccess p write s
  | .lnkStatTake p k w => Sys2Proof.Machine.execLnkStatTake p k w s
  | .trainWindowEnd p => Sys2Proof.Machine.execTrainWindowEnd p s
  | .commonsEnable on => Sys2Proof.Machine.execCommonsEnable on s
  | .commonsReportSend => Sys2Proof.Machine.execCommonsReportSend s
  | .barrierWaitWrite wait => Sys2Proof.Machine.execBarrierWaitWrite wait s
  | .commonsFrameReceive bytes w => Sys2Proof.Machine.execCommonsFrameReceive bytes w s
  | .memberLivenessExpire x w => Sys2Proof.Machine.execMemberLivenessExpire x w s
  | .grantStep w => Sys2Proof.Machine.execGrantStep w s
  | .grantReceive src seq grant cap n w => Sys2Proof.Machine.execGrantReceive src seq grant cap n w s
  | .grantExpire w => Sys2Proof.Machine.execGrantExpire w s
  | .domctlWrite p data => Sys2Proof.Machine.execDomctlWrite p data s
  | .coreHoldClear p => Sys2Proof.Machine.execCoreHoldClear p s
  | .switchOnRequest p => Sys2Proof.Machine.execSwitchOnRequest p s
  | .switchOnGrant w => Sys2Proof.Machine.execSwitchOnGrant w s
  | .seqTableWrite x data => Sys2Proof.Machine.execSeqTableWrite x data s
  | .waferRst => Sys2Proof.Machine.execWaferRst s
  | .heathRst => Sys2Proof.Machine.execHeathRst s
  | .swdRst p => Sys2Proof.Machine.execSwdRst p s
  | .waferResetMessage p => Sys2Proof.Machine.execWaferResetMessage p s
  | .swardHeartbeatTimeout p => Sys2Proof.Machine.execSwardHeartbeatTimeout p s
  | .urst p u => Sys2Proof.Machine.execUrst p u s
  | .unitClearEnd u => Sys2Proof.Machine.execUnitClearEnd u s
  | .releaseWrite u => Sys2Proof.Machine.execReleaseWrite u s
  | .swardWatchdog p => Sys2Proof.Machine.execSwardWatchdog p s
  | .swardResetEnd p => Sys2Proof.Machine.execSwardResetEnd p s
  | .hedgerowRetry p k addr w => Sys2Proof.Machine.execHedgerowRetry p k addr w s
  | .hedgerowAbandon p k addr w => Sys2Proof.Machine.execHedgerowAbandon p k addr w s
  | .returnEpochCheck p u epoch => Sys2Proof.Machine.execReturnEpochCheck p u epoch s
  | .heartbeatSend w => Sys2Proof.Machine.execHeartbeatSend w s
  | .heathTakeover w => Sys2Proof.Machine.execHeathTakeover w s
  | .heartbeatReceive gen => Sys2Proof.Machine.execHeartbeatReceive gen s
  | .mirrorRecordReceive seq => Sys2Proof.Machine.execMirrorRecordReceive seq s
  | .standbyLost => Sys2Proof.Machine.execStandbyLost s
  | .mirrorCopyDone => Sys2Proof.Machine.execMirrorCopyDone s
  | .mainsSyncEdge rising w => Sys2Proof.Machine.execMainsSyncEdge rising w s
  | .mainsSyncLost w => Sys2Proof.Machine.execMainsSyncLost w s
  | .freeRunStartEvent w => Sys2Proof.Machine.execFreeRunStartEvent w s
  | .conversionResult c v => Sys2Proof.Machine.execConversionResult c v s
  | .meterRoundTimeout => Sys2Proof.Machine.execMeterRoundTimeout s
  | .meterRunWrite run w => Sys2Proof.Machine.execMeterRunWrite run w s
  | .meterRestart => Sys2Proof.Machine.execMeterRestart s
  | .meterUrgentRequest c ch => Sys2Proof.Machine.execMeterUrgentRequest c ch s
  | .meterDataRead c => Sys2Proof.Machine.execMeterDataRead c s
  | .zero ch c => Sys2Proof.Machine.execZero ch c s
  | .fs ch c => Sys2Proof.Machine.execFs ch c s
  | .meterCalComplete => Sys2Proof.Machine.execMeterCalComplete s
  | .telemetryWindowLatch u f => Sys2Proof.Machine.execTelemetryWindowLatch u f s
  | .telemetryWindowWrite u n => Sys2Proof.Machine.execTelemetryWindowWrite u n s
  | .markStale u => Sys2Proof.Machine.execMarkStale u s
  | .peakRead issuer u k => Sys2Proof.Machine.execPeakRead issuer u k s
  | .aggregateWindowLatch p f => Sys2Proof.Machine.execAggregateWindowLatch p f s
  | .snap p => Sys2Proof.Machine.execSnap p s
  | .clr p all k => Sys2Proof.Machine.execClr p all k s
  | .counterOverflow p k n => Sys2Proof.Machine.execCounterOverflow p k n s
  | .overflowSnapshot p pred slot => Sys2Proof.Machine.execOverflowSnapshot p pred slot s
  | .apertureRead p g super write o => Sys2Proof.Machine.execApertureRead p g super write o s
  | .faultReportReceive sender seq code unit dataA dataB time sub injected w => Sys2Proof.Machine.execFaultReportReceive sender seq code unit dataA dataB time sub injected w s
  | .partitionTripReceive p => Sys2Proof.Machine.execPartitionTripReceive p s
  | .flTripEdge p w => Sys2Proof.Machine.execFlTripEdge p w s
  | .wtripReceive p => Sys2Proof.Machine.execWtripReceive p s
  | .faultReportAck p seq => Sys2Proof.Machine.execFaultReportAck p seq s
  | .faultReportResend p seq => Sys2Proof.Machine.execFaultReportResend p seq s
  | .ack c => Sys2Proof.Machine.execAck c s
  | .all => Sys2Proof.Machine.execAll s
  | .graceTimerExpire c w => Sys2Proof.Machine.execGraceTimerExpire c w s
  | .fecClear => Sys2Proof.Machine.execFecClear s
  | .faultRecordWrite => Sys2Proof.Machine.execFaultRecordWrite s
  | .ringRpWrite data => Sys2Proof.Machine.execRingRpWrite data s
  | .lastFaultClear => Sys2Proof.Machine.execLastFaultClear s
  | .faultInject origin part src => Sys2Proof.Machine.execFaultInject origin part src s
  | .page write pec => Sys2Proof.Machine.execPage write pec s
  | .clearFaults pec => Sys2Proof.Machine.execClearFaults pec s
  | .capability write => Sys2Proof.Machine.execCapability write s
  | .statusByte write => Sys2Proof.Machine.execStatusByte write s
  | .statusWord write => Sys2Proof.Machine.execStatusWord write s
  | .statusInput write => Sys2Proof.Machine.execStatusInput write s
  | .statusTemperature write => Sys2Proof.Machine.execStatusTemperature write s
  | .statusCml write => Sys2Proof.Machine.execStatusCml write s
  | .statusMfrSpecific write => Sys2Proof.Machine.execStatusMfrSpecific write s
  | .readVin write => Sys2Proof.Machine.execReadVin write s
  | .readIin write => Sys2Proof.Machine.execReadIin write s
  | .readPin write => Sys2Proof.Machine.execReadPin write s
  | .readTemperature1 write => Sys2Proof.Machine.execReadTemperature1 write s
  | .readTemperature2 write => Sys2Proof.Machine.execReadTemperature2 write s
  | .readTemperature3 write => Sys2Proof.Machine.execReadTemperature3 write s
  | .pmbusRevision write => Sys2Proof.Machine.execPmbusRevision write s
  | .mfrId write => Sys2Proof.Machine.execMfrId write s
  | .mfrModel write => Sys2Proof.Machine.execMfrModel write s
  | .mfrRevision write => Sys2Proof.Machine.execMfrRevision write s
  | .mfrWaferCap write pec => Sys2Proof.Machine.execMfrWaferCap write pec s
  | .mfrCapEff write => Sys2Proof.Machine.execMfrCapEff write s
  | .mfrRegWrite bytes pec => Sys2Proof.Machine.execMfrRegWrite bytes pec s
  | .mfrRegRead bytes => Sys2Proof.Machine.execMfrRegRead bytes s
  | .smbusInvalidCommand code => Sys2Proof.Machine.execSmbusInvalidCommand code s
  | .alertResponse win => Sys2Proof.Machine.execAlertResponse win s
  | .smbusAbandon write => Sys2Proof.Machine.execSmbusAbandon write s
  | .smbusStretchTimeout remaining => Sys2Proof.Machine.execSmbusStretchTimeout remaining s
  | .spiReleaseWrite release => Sys2Proof.Machine.execSpiReleaseWrite release s
  | .store regions => Sys2Proof.Machine.execStore regions s
  | .nvmPageWriteDone h bank good => Sys2Proof.Machine.execNvmPageWriteDone h bank good s
  | .nvmStandbyLag r => Sys2Proof.Machine.execNvmStandbyLag r s
  | .heathDieOverTemp h t => Sys2Proof.Machine.execHeathDieOverTemp h t s
  | .heathHalt h => Sys2Proof.Machine.execHeathHalt h s
  | .meshRefReturn => Sys2Proof.Machine.execMeshRefReturn s
  | .selfTestReportTimeout => Sys2Proof.Machine.execSelfTestReportTimeout s
  | .flTripRelease => Sys2Proof.Machine.execFlTripRelease s
  | .meshPacketSent sender => Sys2Proof.Machine.execMeshPacketSent sender s
  | .lnkStatChange p k v w => Sys2Proof.Machine.execLnkStatChange p k v w s

end Sys2Proof.Machine
end

