-- ==== Sys2Proof/Machine/Step.lean ====
section
/-! DEFINITION.  A step: the command at the front of the queue acts. -/

namespace Sys2Proof.Machine

/-- One step: the front command acts with the rest of the queue; on an empty queue the
controller idles (log 3). (DESIGN CHOICE: log 4; DEDUCED: log 60.) -/
def step (s : State) : Host.Outcome State Fault Refusal :=
  match s.pending with
  | [] => .next s
  | c :: rest => exec c { s with pending := rest }

/-- The state with the command that a table word spells at the front of its queue.
(DEDUCED: log 59.) -/
def State.withFetchWord (s : State) (nbits w : Nat) : State :=
  match decodeTableWord nbits w with
  | some c => { s with pending := c :: s.pending }
  | none => s

end Sys2Proof.Machine
end

