-- ==== Sys2Proof/Laws/State.lean ====
section
/-! SUPPORT.  What each named operation on the controller leaves alone, one lemma per
operation and field; and what the changed field holds where that is said in one line. -/

namespace Sys2Proof.Machine

variable (m : Wafer)

@[simp] theorem Wafer.putWord_wtime (a : Nat) (v : Word) : (m.putWord a v).wtime = m.wtime := rfl
@[simp] theorem Wafer.putWord_fuse (a : Nat) (v : Word) : (m.putWord a v).fuse = m.fuse := rfl
@[simp] theorem Wafer.putWord_units (a : Nat) (v : Word) : (m.putWord a v).units = m.units := rfl
@[simp] theorem Wafer.putWord_swards (a : Nat) (v : Word) : (m.putWord a v).swards = m.swards := rfl
@[simp] theorem Wafer.putWord_heath (a : Nat) (v : Word) : (m.putWord a v).heath = m.heath := rfl
@[simp] theorem Wafer.putWord_out (a : Nat) (v : Word) : (m.putWord a v).out = m.out := rfl
@[simp] theorem Wafer.putWord_fresh (a : Nat) (v : Word) : (m.putWord a v).fresh = m.fresh := rfl

@[simp] theorem Wafer.set_wtime (b : Nat) (f : Fld) (v : Nat) : (m.set b f v).wtime = m.wtime := rfl
@[simp] theorem Wafer.set_fuse (b : Nat) (f : Fld) (v : Nat) : (m.set b f v).fuse = m.fuse := rfl
@[simp] theorem Wafer.set_units (b : Nat) (f : Fld) (v : Nat) : (m.set b f v).units = m.units := rfl
@[simp] theorem Wafer.set_swards (b : Nat) (f : Fld) (v : Nat) : (m.set b f v).swards = m.swards := rfl
@[simp] theorem Wafer.set_heath (b : Nat) (f : Fld) (v : Nat) : (m.set b f v).heath = m.heath := rfl
@[simp] theorem Wafer.set_out (b : Nat) (f : Fld) (v : Nat) : (m.set b f v).out = m.out := rfl
@[simp] theorem Wafer.set_fresh (b : Nat) (f : Fld) (v : Nat) : (m.set b f v).fresh = m.fresh := rfl

@[simp] theorem Wafer.setI_wtime (b : Nat) (f : Fld) (v : Int) : (m.setI b f v).wtime = m.wtime := rfl
@[simp] theorem Wafer.setI_fuse (b : Nat) (f : Fld) (v : Int) : (m.setI b f v).fuse = m.fuse := rfl
@[simp] theorem Wafer.setI_units (b : Nat) (f : Fld) (v : Int) : (m.setI b f v).units = m.units := rfl
@[simp] theorem Wafer.setI_swards (b : Nat) (f : Fld) (v : Int) : (m.setI b f v).swards = m.swards := rfl
@[simp] theorem Wafer.setI_heath (b : Nat) (f : Fld) (v : Int) : (m.setI b f v).heath = m.heath := rfl
@[simp] theorem Wafer.setI_out (b : Nat) (f : Fld) (v : Int) : (m.setI b f v).out = m.out := rfl
@[simp] theorem Wafer.setI_fresh (b : Nat) (f : Fld) (v : Int) : (m.setI b f v).fresh = m.fresh := rfl

@[simp] theorem Wafer.setB_wtime (b : Nat) (f : Fld) (v : Bool) : (m.setB b f v).wtime = m.wtime := rfl
@[simp] theorem Wafer.setB_fuse (b : Nat) (f : Fld) (v : Bool) : (m.setB b f v).fuse = m.fuse := rfl
@[simp] theorem Wafer.setB_units (b : Nat) (f : Fld) (v : Bool) : (m.setB b f v).units = m.units := rfl
@[simp] theorem Wafer.setB_swards (b : Nat) (f : Fld) (v : Bool) : (m.setB b f v).swards = m.swards := rfl
@[simp] theorem Wafer.setB_heath (b : Nat) (f : Fld) (v : Bool) : (m.setB b f v).heath = m.heath := rfl
@[simp] theorem Wafer.setB_out (b : Nat) (f : Fld) (v : Bool) : (m.setB b f v).out = m.out := rfl
@[simp] theorem Wafer.setB_fresh (b : Nat) (f : Fld) (v : Bool) : (m.setB b f v).fresh = m.fresh := rfl

@[simp] theorem Wafer.inc_wtime (b : Nat) (f : Fld) : (m.inc b f).wtime = m.wtime := rfl
@[simp] theorem Wafer.inc_fuse (b : Nat) (f : Fld) : (m.inc b f).fuse = m.fuse := rfl
@[simp] theorem Wafer.inc_units (b : Nat) (f : Fld) : (m.inc b f).units = m.units := rfl
@[simp] theorem Wafer.inc_swards (b : Nat) (f : Fld) : (m.inc b f).swards = m.swards := rfl
@[simp] theorem Wafer.inc_heath (b : Nat) (f : Fld) : (m.inc b f).heath = m.heath := rfl
@[simp] theorem Wafer.inc_out (b : Nat) (f : Fld) : (m.inc b f).out = m.out := rfl
@[simp] theorem Wafer.inc_fresh (b : Nat) (f : Fld) : (m.inc b f).fresh = m.fresh := rfl

@[simp] theorem Wafer.addSat_wtime (b : Nat) (f : Fld) (n : Nat) : (m.addSat b f n).wtime = m.wtime := rfl
@[simp] theorem Wafer.addSat_fuse (b : Nat) (f : Fld) (n : Nat) : (m.addSat b f n).fuse = m.fuse := rfl
@[simp] theorem Wafer.addSat_units (b : Nat) (f : Fld) (n : Nat) : (m.addSat b f n).units = m.units := rfl
@[simp] theorem Wafer.addSat_swards (b : Nat) (f : Fld) (n : Nat) : (m.addSat b f n).swards = m.swards := rfl
@[simp] theorem Wafer.addSat_heath (b : Nat) (f : Fld) (n : Nat) : (m.addSat b f n).heath = m.heath := rfl
@[simp] theorem Wafer.addSat_out (b : Nat) (f : Fld) (n : Nat) : (m.addSat b f n).out = m.out := rfl
@[simp] theorem Wafer.addSat_fresh (b : Nat) (f : Fld) (n : Nat) : (m.addSat b f n).fresh = m.fresh := rfl

@[simp] theorem Wafer.incSat_wtime (b : Nat) (f : Fld) : (m.incSat b f).wtime = m.wtime := by unfold Wafer.incSat; split <;> rfl
@[simp] theorem Wafer.incSat_fuse (b : Nat) (f : Fld) : (m.incSat b f).fuse = m.fuse := by unfold Wafer.incSat; split <;> rfl
@[simp] theorem Wafer.incSat_units (b : Nat) (f : Fld) : (m.incSat b f).units = m.units := by unfold Wafer.incSat; split <;> rfl
@[simp] theorem Wafer.incSat_swards (b : Nat) (f : Fld) : (m.incSat b f).swards = m.swards := by unfold Wafer.incSat; split <;> rfl
@[simp] theorem Wafer.incSat_heath (b : Nat) (f : Fld) : (m.incSat b f).heath = m.heath := by unfold Wafer.incSat; split <;> rfl
@[simp] theorem Wafer.incSat_out (b : Nat) (f : Fld) : (m.incSat b f).out = m.out := by unfold Wafer.incSat; split <;> rfl
@[simp] theorem Wafer.incSat_fresh (b : Nat) (f : Fld) : (m.incSat b f).fresh = m.fresh := by unfold Wafer.incSat; split <;> rfl

@[simp] theorem Wafer.w1c_wtime (a k : Nat) (d : Word) : (m.w1c a k d).wtime = m.wtime := rfl
@[simp] theorem Wafer.w1c_fuse (a k : Nat) (d : Word) : (m.w1c a k d).fuse = m.fuse := rfl
@[simp] theorem Wafer.w1c_units (a k : Nat) (d : Word) : (m.w1c a k d).units = m.units := rfl
@[simp] theorem Wafer.w1c_swards (a k : Nat) (d : Word) : (m.w1c a k d).swards = m.swards := rfl
@[simp] theorem Wafer.w1c_heath (a k : Nat) (d : Word) : (m.w1c a k d).heath = m.heath := rfl
@[simp] theorem Wafer.w1c_out (a k : Nat) (d : Word) : (m.w1c a k d).out = m.out := rfl
@[simp] theorem Wafer.w1c_fresh (a k : Nat) (d : Word) : (m.w1c a k d).fresh = m.fresh := rfl

@[simp] theorem Wafer.set64_wtime (b : Nat) (lo hi : Fld) (v : Nat) : (m.set64 b lo hi v).wtime = m.wtime := rfl
@[simp] theorem Wafer.set64_fuse (b : Nat) (lo hi : Fld) (v : Nat) : (m.set64 b lo hi v).fuse = m.fuse := rfl
@[simp] theorem Wafer.set64_units (b : Nat) (lo hi : Fld) (v : Nat) : (m.set64 b lo hi v).units = m.units := rfl
@[simp] theorem Wafer.set64_swards (b : Nat) (lo hi : Fld) (v : Nat) : (m.set64 b lo hi v).swards = m.swards := rfl
@[simp] theorem Wafer.set64_heath (b : Nat) (lo hi : Fld) (v : Nat) : (m.set64 b lo hi v).heath = m.heath := rfl
@[simp] theorem Wafer.set64_out (b : Nat) (lo hi : Fld) (v : Nat) : (m.set64 b lo hi v).out = m.out := rfl
@[simp] theorem Wafer.set64_fresh (b : Nat) (lo hi : Fld) (v : Nat) : (m.set64 b lo hi v).fresh = m.fresh := rfl

@[simp] theorem Wafer.modUnit_wtime (u : UnitId) (f : UnitSt → UnitSt) : (m.modUnit u f).wtime = m.wtime := rfl
@[simp] theorem Wafer.modUnit_fuse (u : UnitId) (f : UnitSt → UnitSt) : (m.modUnit u f).fuse = m.fuse := rfl
@[simp] theorem Wafer.modUnit_regs (u : UnitId) (f : UnitSt → UnitSt) : (m.modUnit u f).regs = m.regs := rfl
@[simp] theorem Wafer.modUnit_swards (u : UnitId) (f : UnitSt → UnitSt) : (m.modUnit u f).swards = m.swards := rfl
@[simp] theorem Wafer.modUnit_heath (u : UnitId) (f : UnitSt → UnitSt) : (m.modUnit u f).heath = m.heath := rfl
@[simp] theorem Wafer.modUnit_out (u : UnitId) (f : UnitSt → UnitSt) : (m.modUnit u f).out = m.out := rfl
@[simp] theorem Wafer.modUnit_fresh (u : UnitId) (f : UnitSt → UnitSt) : (m.modUnit u f).fresh = m.fresh := rfl

@[simp] theorem Wafer.modRail_wtime (u : UnitId) (q : Nat) (f : RailSt → RailSt) : (m.modRail u q f).wtime = m.wtime := rfl
@[simp] theorem Wafer.modRail_fuse (u : UnitId) (q : Nat) (f : RailSt → RailSt) : (m.modRail u q f).fuse = m.fuse := rfl
@[simp] theorem Wafer.modRail_regs (u : UnitId) (q : Nat) (f : RailSt → RailSt) : (m.modRail u q f).regs = m.regs := rfl
@[simp] theorem Wafer.modRail_swards (u : UnitId) (q : Nat) (f : RailSt → RailSt) : (m.modRail u q f).swards = m.swards := rfl
@[simp] theorem Wafer.modRail_heath (u : UnitId) (q : Nat) (f : RailSt → RailSt) : (m.modRail u q f).heath = m.heath := rfl
@[simp] theorem Wafer.modRail_out (u : UnitId) (q : Nat) (f : RailSt → RailSt) : (m.modRail u q f).out = m.out := rfl
@[simp] theorem Wafer.modRail_fresh (u : UnitId) (q : Nat) (f : RailSt → RailSt) : (m.modRail u q f).fresh = m.fresh := rfl

@[simp] theorem Wafer.modPhase_wtime (u : UnitId) (q : Nat) (f : PhaseSt → PhaseSt) : (m.modPhase u q f).wtime = m.wtime := rfl
@[simp] theorem Wafer.modPhase_fuse (u : UnitId) (q : Nat) (f : PhaseSt → PhaseSt) : (m.modPhase u q f).fuse = m.fuse := rfl
@[simp] theorem Wafer.modPhase_regs (u : UnitId) (q : Nat) (f : PhaseSt → PhaseSt) : (m.modPhase u q f).regs = m.regs := rfl
@[simp] theorem Wafer.modPhase_swards (u : UnitId) (q : Nat) (f : PhaseSt → PhaseSt) : (m.modPhase u q f).swards = m.swards := rfl
@[simp] theorem Wafer.modPhase_heath (u : UnitId) (q : Nat) (f : PhaseSt → PhaseSt) : (m.modPhase u q f).heath = m.heath := rfl
@[simp] theorem Wafer.modPhase_out (u : UnitId) (q : Nat) (f : PhaseSt → PhaseSt) : (m.modPhase u q f).out = m.out := rfl
@[simp] theorem Wafer.modPhase_fresh (u : UnitId) (q : Nat) (f : PhaseSt → PhaseSt) : (m.modPhase u q f).fresh = m.fresh := rfl

@[simp] theorem Wafer.modPort_wtime (u : UnitId) (q : Nat) (f : PortSt → PortSt) : (m.modPort u q f).wtime = m.wtime := rfl
@[simp] theorem Wafer.modPort_fuse (u : UnitId) (q : Nat) (f : PortSt → PortSt) : (m.modPort u q f).fuse = m.fuse := rfl
@[simp] theorem Wafer.modPort_regs (u : UnitId) (q : Nat) (f : PortSt → PortSt) : (m.modPort u q f).regs = m.regs := rfl
@[simp] theorem Wafer.modPort_swards (u : UnitId) (q : Nat) (f : PortSt → PortSt) : (m.modPort u q f).swards = m.swards := rfl
@[simp] theorem Wafer.modPort_heath (u : UnitId) (q : Nat) (f : PortSt → PortSt) : (m.modPort u q f).heath = m.heath := rfl
@[simp] theorem Wafer.modPort_out (u : UnitId) (q : Nat) (f : PortSt → PortSt) : (m.modPort u q f).out = m.out := rfl
@[simp] theorem Wafer.modPort_fresh (u : UnitId) (q : Nat) (f : PortSt → PortSt) : (m.modPort u q f).fresh = m.fresh := rfl

@[simp] theorem Wafer.modSward_wtime (p : Nat) (f : SwardSt → SwardSt) : (m.modSward p f).wtime = m.wtime := rfl
@[simp] theorem Wafer.modSward_fuse (p : Nat) (f : SwardSt → SwardSt) : (m.modSward p f).fuse = m.fuse := rfl
@[simp] theorem Wafer.modSward_regs (p : Nat) (f : SwardSt → SwardSt) : (m.modSward p f).regs = m.regs := rfl
@[simp] theorem Wafer.modSward_units (p : Nat) (f : SwardSt → SwardSt) : (m.modSward p f).units = m.units := rfl
@[simp] theorem Wafer.modSward_heath (p : Nat) (f : SwardSt → SwardSt) : (m.modSward p f).heath = m.heath := rfl
@[simp] theorem Wafer.modSward_out (p : Nat) (f : SwardSt → SwardSt) : (m.modSward p f).out = m.out := rfl
@[simp] theorem Wafer.modSward_fresh (p : Nat) (f : SwardSt → SwardSt) : (m.modSward p f).fresh = m.fresh := rfl

@[simp] theorem Wafer.modHeath_wtime (f : HeathSt → HeathSt) : (m.modHeath f).wtime = m.wtime := rfl
@[simp] theorem Wafer.modHeath_fuse (f : HeathSt → HeathSt) : (m.modHeath f).fuse = m.fuse := rfl
@[simp] theorem Wafer.modHeath_regs (f : HeathSt → HeathSt) : (m.modHeath f).regs = m.regs := rfl
@[simp] theorem Wafer.modHeath_units (f : HeathSt → HeathSt) : (m.modHeath f).units = m.units := rfl
@[simp] theorem Wafer.modHeath_swards (f : HeathSt → HeathSt) : (m.modHeath f).swards = m.swards := rfl
@[simp] theorem Wafer.modHeath_out (f : HeathSt → HeathSt) : (m.modHeath f).out = m.out := rfl
@[simp] theorem Wafer.modHeath_fresh (f : HeathSt → HeathSt) : (m.modHeath f).fresh = m.fresh := rfl

@[simp] theorem Wafer.send_wtime (k : OutKind) (d : Nat) (l : List Nat) : (m.send k d l).wtime = m.wtime := rfl
@[simp] theorem Wafer.send_fuse (k : OutKind) (d : Nat) (l : List Nat) : (m.send k d l).fuse = m.fuse := rfl
@[simp] theorem Wafer.send_regs (k : OutKind) (d : Nat) (l : List Nat) : (m.send k d l).regs = m.regs := rfl
@[simp] theorem Wafer.send_units (k : OutKind) (d : Nat) (l : List Nat) : (m.send k d l).units = m.units := rfl
@[simp] theorem Wafer.send_swards (k : OutKind) (d : Nat) (l : List Nat) : (m.send k d l).swards = m.swards := rfl
@[simp] theorem Wafer.send_heath (k : OutKind) (d : Nat) (l : List Nat) : (m.send k d l).heath = m.heath := rfl
@[simp] theorem Wafer.send_fresh (k : OutKind) (d : Nat) (l : List Nat) : (m.send k d l).fresh = m.fresh := rfl

@[simp] theorem Wafer.at_fuse (w : Nat) : (m.at w).fuse = m.fuse := rfl
@[simp] theorem Wafer.at_regs (w : Nat) : (m.at w).regs = m.regs := rfl
@[simp] theorem Wafer.at_units (w : Nat) : (m.at w).units = m.units := rfl
@[simp] theorem Wafer.at_swards (w : Nat) : (m.at w).swards = m.swards := rfl
@[simp] theorem Wafer.at_heath (w : Nat) : (m.at w).heath = m.heath := rfl
@[simp] theorem Wafer.at_out (w : Nat) : (m.at w).out = m.out := rfl
@[simp] theorem Wafer.at_fresh (w : Nat) : (m.at w).fresh = m.fresh := rfl

@[simp] theorem Wafer.modHeath_heath (f : HeathSt → HeathSt) : (m.modHeath f).heath = f m.heath := rfl
@[simp] theorem Wafer.send_out (k : OutKind) (d : Nat) (l : List Nat) : (m.send k d l).out = ⟨k, d, l⟩ :: m.out := rfl
@[simp] theorem Wafer.at_wtime (w : Nat) : (m.at w).wtime = max m.wtime w := rfl

end Sys2Proof.Machine
end

