-- ==== Sys2Proof/Laws/Mirror.lean ====
section
/-! SUPPORT.  What the mirror record of a command changes beside the command's own effect, and
what it leaves alone. -/

namespace Sys2Proof.Machine

variable (m n : Wafer)

@[simp] theorem State.run_next (s : State) (f : Wafer → Wafer) : s.run f = .next { s with w := mirrorStep s.w (f s.w) } := rfl

/-- With no standby kept, nothing is recorded. -/
theorem mirrorStep_alone (h : mirrors n = false) : mirrorStep m n = n := by simp [mirrorStep, h]

/-- Cases of the mirror record: none, the copy that a new standby starts from, or one record. -/
theorem mirrorStep_cases :
    mirrorStep m n = n ∨
    (mirrors m = false ∧ mirrorStep m n = n.modHeath fun h => { h with mirrorQ := [], mirror := mirrored n }) ∨
    mirrorStep m n = (n.modHeath fun h =>
      { h with mirrorSent := nextRecord n, mirrorQ := h.mirrorQ ++ [(nextRecord n, mirrored n)] }).send .mirror
        (1 - n.heath.activeId) [nextRecord n] := by
  unfold mirrorStep
  split
  · exact .inl rfl
  · split
    · rename_i h
      exact .inr (.inl ⟨by simpa using h, rfl⟩)
    · split
      · exact .inl rfl
      · exact .inr (.inr rfl)

@[simp] theorem mirrorStep_wtime : (mirrorStep m n).wtime = n.wtime := by
  rcases mirrorStep_cases m n with h | ⟨-, h⟩ | h <;> simp [h]
@[simp] theorem mirrorStep_fuse : (mirrorStep m n).fuse = n.fuse := by
  rcases mirrorStep_cases m n with h | ⟨-, h⟩ | h <;> simp [h]
@[simp] theorem mirrorStep_regs : (mirrorStep m n).regs = n.regs := by
  rcases mirrorStep_cases m n with h | ⟨-, h⟩ | h <;> simp [h]
@[simp] theorem mirrorStep_units : (mirrorStep m n).units = n.units := by
  rcases mirrorStep_cases m n with h | ⟨-, h⟩ | h <;> simp [h]
@[simp] theorem mirrorStep_swards : (mirrorStep m n).swards = n.swards := by
  rcases mirrorStep_cases m n with h | ⟨-, h⟩ | h <;> simp [h]
@[simp] theorem mirrorStep_fresh : (mirrorStep m n).fresh = n.fresh := by
  rcases mirrorStep_cases m n with h | ⟨-, h⟩ | h <;> simp [h]

end Sys2Proof.Machine
end

