-- ==== Sys2Proof/Laws/Bits.lean ====
section
/-! SUPPORT.  Laws of bit ranges: a field reads back what was written, and a
write leaves a disjoint field alone. -/

namespace Sys2Proof.Machine

theorem bitMask_bit (lo wid i : Nat) :
    (bitMask lo wid).getLsbD i = (decide (i < 32) && decide (lo ≤ i) && decide (i < lo + wid)) := by
  simp only [bitMask, BitVec.getLsbD_ofNat, ← Nat.shiftLeft_eq, Nat.testBit_shiftLeft, Nat.testBit_two_pow_sub_one]
  by_cases h1 : i < 32 <;> by_cases h2 : lo ≤ i <;>
    simp [h1, h2] <;> omega

theorem getBits_testBit (w : Word) (lo wid i : Nat) :
    (getBits w lo wid).testBit i = (decide (i < wid) && w.getLsbD (i + lo)) := by
  simp [getBits, Nat.testBit_mod_two_pow, Nat.testBit_div_two_pow, BitVec.getLsbD]

theorem setBits_bit (w : Word) (lo wid v i : Nat) (hi : i < 32) :
    (setBits w lo wid v).getLsbD i =
      if lo ≤ i ∧ i < lo + wid then v.testBit (i - lo) else w.getLsbD i := by
  simp only [setBits, BitVec.getLsbD_or, BitVec.getLsbD_and, BitVec.getLsbD_not, bitMask_bit,
    BitVec.getLsbD_ofNat, ← Nat.shiftLeft_eq, Nat.testBit_shiftLeft, Nat.testBit_mod_two_pow]
  by_cases h1 : lo ≤ i <;> by_cases h2 : i < lo + wid <;> 
    simp [h1, h2, hi] <;> omega

/-- A field reads back the low bits of the value written. -/
theorem getBits_setBits_same (w : Word) (lo wid v : Nat) (h : lo + wid ≤ 32) :
    getBits (setBits w lo wid v) lo wid = v % 2 ^ wid := by
  apply Nat.eq_of_testBit_eq
  intro i
  rw [getBits_testBit, Nat.testBit_mod_two_pow]
  by_cases hi : i < wid
  · rw [setBits_bit _ _ _ _ _ (by omega)]
    simp [hi]; intro hlt; omega
  · simp [hi]

/-- A write to one field leaves a disjoint field of the word alone. -/
theorem getBits_setBits_ne (w : Word) (lo wid v lo' wid' : Nat)
    (h : lo + wid ≤ lo' ∨ lo' + wid' ≤ lo) :
    getBits (setBits w lo wid v) lo' wid' = getBits w lo' wid' := by
  apply Nat.eq_of_testBit_eq
  intro i
  rw [getBits_testBit, getBits_testBit]
  by_cases hi : i < wid'
  · by_cases h32 : i + lo' < 32
    · rw [setBits_bit _ _ _ _ _ h32, if_neg (by omega)]
    · rw [BitVec.getLsbD_of_ge _ _ (by omega), BitVec.getLsbD_of_ge _ _ (by omega)]
  · simp [hi]

theorem getBits_lt (w : Word) (lo wid : Nat) : getBits w lo wid < 2 ^ wid :=
  Nat.mod_lt _ (by positivity)

/-- Fields whose bits agree read alike. -/
theorem getBits_congr {w w' : Word} {lo wid : Nat}
    (h : ∀ i, i < 32 → lo ≤ i → i < lo + wid → w'.getLsbD i = w.getLsbD i) :
    getBits w' lo wid = getBits w lo wid := by
  apply Nat.eq_of_testBit_eq
  intro i
  rw [getBits_testBit, getBits_testBit]
  by_cases hi : i < wid
  · by_cases h32 : i + lo < 32
    · rw [h _ h32 (by omega) (by omega)]
    · rw [BitVec.getLsbD_of_ge _ _ (by omega), BitVec.getLsbD_of_ge _ _ (by omega)]
  · simp [hi]

end Sys2Proof.Machine
end

