-- ==== Sys2Proof/Laws/Store.lean ====
section
/-! SUPPORT.  Laws of the sparse store: a read after a write gives the value
written, a write leaves every other key alone, and every operation keeps the
canonical form. -/

namespace Sys2Proof.Machine

variable {α : Type} (d : Nat → α)

theorem Store.get_filter_ne (l : Store α) {k j : Nat} (h : j ≠ k) :
    Store.get d (l.filter fun e => e.1 ≠ k) j = Store.get d l j := by
  induction l with
  | nil => rfl
  | cons e t ih =>
    obtain ⟨k', v⟩ := e
    by_cases hk : k' = k
    · have : k' ≠ j := by omega
      simp [Store.get, hk] at ih ⊢
      rw [ih, if_neg (by omega)]
    · simp [Store.get, hk] at ih ⊢
      rw [ih]

theorem Store.get_filter_same (l : Store α) (k : Nat) :
    Store.get d (l.filter fun e => e.1 ≠ k) k = d k := by
  induction l with
  | nil => rfl
  | cons e t ih =>
    obtain ⟨k', v⟩ := e
    by_cases hk : k' = k
    · simp [hk] at ih ⊢
      exact ih
    · simp [Store.get, hk] at ih ⊢
      exact ih

theorem Store.get_insert_same (l : Store α) (k : Nat) (v : α) (h : ∀ e ∈ l, e.1 ≠ k) :
    Store.get d (Store.insert l k v) k = v := by
  induction l with
  | nil => simp [Store.insert, Store.get]
  | cons e t ih =>
    obtain ⟨k', v'⟩ := e
    have hk : k' ≠ k := h (k', v') (by simp)
    simp only [Store.insert]
    split
    · simp [Store.get]
    · simp only [Store.get, if_neg hk]
      exact ih fun e he => h e (by simp [he])

theorem Store.get_insert_ne (l : Store α) {k j : Nat} (v : α) (h : j ≠ k) :
    Store.get d (Store.insert l k v) j = Store.get d l j := by
  induction l with
  | nil => simp [Store.insert, Store.get]; intro hk; omega
  | cons e t ih =>
    obtain ⟨k', v'⟩ := e
    simp only [Store.insert]
    split
    · rw [Store.get, if_neg (by omega)]
    · simp only [Store.get, ih]

section
variable [DecidableEq α]

/-- A read of the key just written gives the value written. -/
@[simp] theorem Store.get_set_same (l : Store α) (k : Nat) (v : α) :
    Store.get d (Store.set d l k v) k = v := by
  simp only [Store.set]
  split
  · rename_i h; rw [Store.get_filter_same, h]
  · exact Store.get_insert_same d _ k v (by simp)

/-- A write leaves every other key alone. -/
theorem Store.get_set_ne (l : Store α) {k j : Nat} (v : α) (h : j ≠ k) :
    Store.get d (Store.set d l k v) j = Store.get d l j := by
  simp only [Store.set]
  split
  · exact Store.get_filter_ne d l h
  · rw [Store.get_insert_ne d _ v h, Store.get_filter_ne d l h]

end

theorem Store.mem_insert (l : Store α) (k : Nat) (v : α) (e : Nat × α) :
    e ∈ Store.insert l k v ↔ e = (k, v) ∨ e ∈ l := by
  induction l with
  | nil => simp [Store.insert]
  | cons e' t ih =>
    simp only [Store.insert]
    split
    · simp
    · simp [ih]; tauto

theorem Store.insert_sorted (l : Store α) (k : Nat) (v : α)
    (hl : l.Pairwise fun a b => a.1 < b.1) (hk : ∀ e ∈ l, e.1 ≠ k) :
    (Store.insert l k v).Pairwise fun a b => a.1 < b.1 := by
  induction l with
  | nil => simp [Store.insert]
  | cons e t ih =>
    obtain ⟨k', v'⟩ := e
    simp only [List.pairwise_cons] at hl
    simp only [Store.insert]
    split
    · rename_i h
      simp only [List.pairwise_cons, List.mem_cons]
      refine ⟨?_, hl⟩
      rintro a (rfl | ha)
      · exact h
      · exact lt_trans h (hl.1 a ha)
    · rename_i h
      have hne := hk (k', v') (by simp)
      simp only [List.pairwise_cons]
      refine ⟨?_, ih hl.2 fun e he => hk e (by simp [he])⟩
      intro a ha
      rcases (Store.mem_insert t k v a).1 ha with rfl | ha
      · simp at h hne ⊢; omega
      · exact hl.1 a ha

variable [DecidableEq α]

/-- Writing keeps the canonical form. -/
theorem Store.set_wf (l : Store α) (k : Nat) (v : α) (h : Store.Wf d l) :
    Store.Wf d (Store.set d l k v) := by
  have hf : Store.Wf d (l.filter fun e => e.1 ≠ k) :=
    ⟨h.1.filter _, fun e he => h.2 e (List.mem_of_mem_filter he)⟩
  simp only [Store.set]
  split
  · exact hf
  · rename_i hv
    refine ⟨Store.insert_sorted _ k v hf.1 (by simp), fun e he => ?_⟩
    rcases (Store.mem_insert _ k v e).1 he with rfl | he
    · exact hv
    · exact hf.2 e he

/-- Mapping gives the canonical form. -/
theorem Store.map_wf (f : Nat → α → α) (l : Store α) : Store.Wf d (Store.map d f l) := by
  induction l with
  | nil => exact ⟨List.Pairwise.nil, by simp [Store.map]⟩
  | cons e t ih => exact Store.set_wf d _ _ _ ih

/-- A mapping that leaves the default of a key maps what the key reads as. -/
theorem Store.get_map (f : Nat → α → α) (l : Store α) (k : Nat) (h : f k (d k) = d k) :
    Store.get d (Store.map d f l) k = f k (Store.get d l k) := by
  induction l with
  | nil => exact h.symm
  | cons e t ih =>
    obtain ⟨j, v⟩ := e
    show Store.get d (Store.set d (Store.map d f t) j (f j v)) k = _
    by_cases hj : j = k
    · subst hj
      rw [Store.get_set_same]
      simp [Store.get]
    · rw [Store.get_set_ne d _ _ (by omega), ih]
      simp [Store.get, hj]

end Sys2Proof.Machine
end

