-- ==== Sys2Proof/Laws/Ops.lean ====
section
/-! SUPPORT.  What a read gives after a named operation: of registers, of the hidden state
of units and Swards; and where the register blocks lie. -/

namespace Sys2Proof.Machine

variable (m : Wafer)

/-! ### Where the blocks lie -/

theorem edgePart_lt (e : Nat) : edgePart e < 64 := by
  by_cases h : e < 28
  · have : ∀ e : Fin 28, edgePart e.val < 64 := by decide
    exact this ⟨e, h⟩
  · rw [edgePart, List.getD_eq_default _ _ (by simp [edgeParts]; omega)]; omega

theorem edgePart_inj {e f : Nat} (he : e < 28) (hf : f < 28) (h : edgePart e = edgePart f) : e = f := by
  have : ∀ e f : Fin 28, edgePart e.val = edgePart f.val → e.val = f.val := by decide
  exact this ⟨e, he⟩ ⟨f, hf⟩ h

theorem UnitId.part_lt (u : UnitId) : u.part < 64 := by
  cases u with
  | tussock g => simp only [UnitId.part]; omega
  | verge n => exact edgePart_lt _

theorem UnitId.base_eq (u : UnitId) : u.base = swd u.part + 0x40000 + u.loc * 0x1000 := by
  cases u with
  | tussock g => rfl
  | verge n => simp only [UnitId.base, vrg, UnitId.part, UnitId.loc, swd]; omega

theorem UnitId.loc_lt (u : UnitId) : u.loc < 72 := by
  cases u <;> simp only [UnitId.loc] <;> omega

/-- A unit's block lies in its Sward's range, past the Sward's own registers. -/
theorem UnitId.base_range (u : UnitId) :
    swd u.part + 0x40000 ≤ u.base ∧ u.base + 0x1000 ≤ swd u.part + 0x88000 := by
  have := u.loc_lt
  rw [u.base_eq]; omega

theorem UnitId.ext_part {u v : UnitId} (hp : u.part = v.part) (hl : u.loc = v.loc) : u = v := by
  cases u with
  | tussock g =>
    cases v with
    | tussock g' => simp only [UnitId.part, UnitId.loc] at hp hl; congr 1; apply Fin.ext; omega
    | verge n => simp only [UnitId.part, UnitId.loc] at hp hl; omega
  | verge n =>
    cases v with
    | tussock g => simp only [UnitId.part, UnitId.loc] at hp hl; omega
    | verge n' =>
      simp only [UnitId.part, UnitId.loc] at hp hl
      have := edgePart_inj (by omega) (by omega) hp
      congr 1; apply Fin.ext; omega

/-- The blocks of two units do not overlap. -/
theorem UnitId.base_apart {u v : UnitId} (h : u ≠ v) : u.base + 0x1000 ≤ v.base ∨ v.base + 0x1000 ≤ u.base := by
  have h1 := u.loc_lt; have h2 := v.loc_lt
  rw [u.base_eq, v.base_eq]
  simp only [swd]
  by_cases hp : u.part = v.part
  · have : u.loc ≠ v.loc := fun hl => h (UnitId.ext_part hp hl)
    omega
  · omega

/-- Registers of a unit are none of a Sward's own. -/
theorem UnitId.base_ne_swd (u : UnitId) (p : Nat) {i j : Nat} (hi : i < 0x1000) (hj : j < 0x40000) :
    u.base + i ≠ swd p + j := by
  have := u.base_range
  simp only [swd] at *
  omega

/-- Registers of a unit are none of the Heath's. -/
theorem UnitId.base_ne_heath (u : UnitId) {i j : Nat} (hj : j < 0x1000000) : u.base + i ≠ 0 + j := by
  have := u.base_range
  simp only [swd] at *
  omega

/-- Registers of a Sward are none of the Heath's. -/
theorem swd_ne_heath (p : Nat) {i j : Nat} (hj : j < 0x1000000) : swd p + i ≠ 0 + j := by
  simp only [swd]; omega

theorem UnitId.key_inj {u v : UnitId} (h : u.key = v.key) : u = v := by
  cases u <;> cases v <;> simp only [UnitId.key] at h <;> first | omega | (congr 1; apply Fin.ext; omega)

/-! ### Registers -/

@[simp] theorem Wafer.word_putWord (a : Nat) (v : Word) : (m.putWord a v).word a = v := by
  simp [Wafer.word, Wafer.putWord]

theorem Wafer.word_putWord_ne {a b : Nat} (v : Word) (h : b ≠ a) : (m.putWord a v).word b = m.word b := by
  simp only [Wafer.word, Wafer.putWord]
  exact Store.get_set_ne _ _ _ h

theorem Wafer.word_set (b : Nat) (f : Fld) (v : Nat) :
    (m.set b f v).word (b + f.off) = setBits (m.word (b + f.off)) f.lo f.wid v := by
  simp [Wafer.set]

theorem Wafer.word_set_ne {a b : Nat} {f : Fld} (v : Nat) (h : a ≠ b + f.off) : (m.set b f v).word a = m.word a :=
  m.word_putWord_ne _ h

/-- A field reads back the low bits of the number written to it. -/
theorem Wafer.get_set (b : Nat) (f : Fld) (v : Nat) (h : f.lo + f.wid ≤ 32) : (m.set b f v).get b f = v % 2 ^ f.wid := by
  rw [Wafer.get, m.word_set, getBits_setBits_same _ _ _ _ h]

/-- Two fields, each of a block, that share no bit. -/
abbrev Apart (b : Nat) (f : Fld) (b' : Nat) (g : Fld) : Prop :=
  b + f.off ≠ b' + g.off ∨ f.lo + f.wid ≤ g.lo ∨ g.lo + g.wid ≤ f.lo

/-- A write to a field leaves every other field alone. -/
theorem Wafer.get_set_ne {b b' : Nat} {f g : Fld} (v : Nat) (h : Apart b f b' g) :
    (m.set b f v).get b' g = m.get b' g := by
  by_cases ha : b' + g.off = b + f.off
  · rw [Wafer.get, ha, m.word_set, getBits_setBits_ne _ _ _ _ _ _ (by omega), ← ha, Wafer.get]
  · rw [Wafer.get, m.word_set_ne v ha, Wafer.get]

/-- A field reads back an integer that its two's complement can hold. -/
theorem Wafer.getI_set (b : Nat) (f : Fld) (v : Int) (h : f.lo + f.wid ≤ 32) (hw : 0 < f.wid)
    (hl : -(2 ^ (f.wid - 1) : Int) ≤ v) (hu : v < 2 ^ (f.wid - 1)) : (m.setI b f v).getI b f = v := by
  rw [Wafer.getI, Wafer.setI, signedCode, if_pos ⟨hl, hu⟩, m.get_set b f _ h, unsigned]
  obtain ⟨k, hk⟩ : ∃ k, f.wid = k + 1 := ⟨f.wid - 1, by omega⟩
  rw [hk] at hl hu ⊢
  rw [Nat.add_sub_cancel] at hl hu
  have hp : (2 : Int) ^ (k + 1) = 2 * 2 ^ k := by rw [pow_succ]; ring
  have hpos : (0 : Int) < 2 ^ k := by positivity
  have hn : ((v % 2 ^ (k + 1)).toNat : Int) = v % 2 ^ (k + 1) :=
    Int.toNat_of_nonneg (Int.emod_nonneg _ (by positivity))
  have hlt : (v % 2 ^ (k + 1)).toNat < 2 ^ (k + 1) := by
    have := Int.emod_lt_of_pos v (show (0 : Int) < 2 ^ (k + 1) by positivity)
    zify; rw [hn]; exact this
  rw [Nat.mod_eq_of_lt hlt, signed]
  simp only [Nat.add_sub_cancel, Nat.mod_eq_of_lt hlt]
  have hcast : ((v % 2 ^ (k + 1)).toNat : Int) % 2 ^ (k + 1) = v % 2 ^ (k + 1) := by
    rw [hn, Int.emod_emod_of_dvd _ (dvd_refl _)]
  by_cases hv : 0 ≤ v
  · have he : v % 2 ^ (k + 1) = v := Int.emod_eq_of_lt hv (by omega)
    rw [if_neg, hcast, he]
    zify; rw [hn, he]; omega
  · have he : v % 2 ^ (k + 1) = v + 2 ^ (k + 1) := by
      rw [← Int.add_mul_emod_self_left v (2 ^ (k + 1)) 1, mul_one]
      exact Int.emod_eq_of_lt (by omega) (by omega)
    rw [if_pos, hcast, he]
    · omega
    · zify; rw [hn, he]; omega

@[simp] theorem Wafer.get_modUnit (u : UnitId) (f : UnitSt → UnitSt) (b : Nat) (g : Fld) :
    (m.modUnit u f).get b g = m.get b g := rfl
@[simp] theorem Wafer.get_modRail (u : UnitId) (q : Nat) (f : RailSt → RailSt) (b : Nat) (g : Fld) :
    (m.modRail u q f).get b g = m.get b g := rfl
@[simp] theorem Wafer.get_modPhase (u : UnitId) (q : Nat) (f : PhaseSt → PhaseSt) (b : Nat) (g : Fld) :
    (m.modPhase u q f).get b g = m.get b g := rfl
@[simp] theorem Wafer.get_modPort (u : UnitId) (q : Nat) (f : PortSt → PortSt) (b : Nat) (g : Fld) :
    (m.modPort u q f).get b g = m.get b g := rfl
@[simp] theorem Wafer.get_modSward (p : Nat) (f : SwardSt → SwardSt) (b : Nat) (g : Fld) :
    (m.modSward p f).get b g = m.get b g := rfl
@[simp] theorem Wafer.get_modHeath (f : HeathSt → HeathSt) (b : Nat) (g : Fld) :
    (m.modHeath f).get b g = m.get b g := rfl
@[simp] theorem Wafer.get_send (k : OutKind) (d : Nat) (l : List Nat) (b : Nat) (g : Fld) :
    (m.send k d l).get b g = m.get b g := rfl
@[simp] theorem Wafer.get_at (w b : Nat) (g : Fld) : (m.at w).get b g = m.get b g := rfl

@[simp] theorem Wafer.word_modUnit (u : UnitId) (f : UnitSt → UnitSt) (a : Nat) :
    (m.modUnit u f).word a = m.word a := rfl
@[simp] theorem Wafer.word_modSward (p : Nat) (f : SwardSt → SwardSt) (a : Nat) :
    (m.modSward p f).word a = m.word a := rfl
@[simp] theorem Wafer.word_modHeath (f : HeathSt → HeathSt) (a : Nat) : (m.modHeath f).word a = m.word a := rfl
@[simp] theorem Wafer.word_send (k : OutKind) (d : Nat) (l : List Nat) (a : Nat) :
    (m.send k d l).word a = m.word a := rfl
@[simp] theorem Wafer.word_at (w a : Nat) : (m.at w).word a = m.word a := rfl

/-! ### Hidden state -/

@[simp] theorem Wafer.unit_modUnit (u : UnitId) (f : UnitSt → UnitSt) : (m.modUnit u f).unit u = f (m.unit u) := by
  simp [Wafer.unit, Wafer.modUnit]

theorem Wafer.unit_modUnit_ne {u v : UnitId} (f : UnitSt → UnitSt) (h : v ≠ u) :
    (m.modUnit u f).unit v = m.unit v := by
  simp only [Wafer.unit, Wafer.modUnit]
  exact Store.get_set_ne _ _ _ fun hk => h (UnitId.key_inj hk)

@[simp] theorem Wafer.sward_modSward (p : Nat) (f : SwardSt → SwardSt) : (m.modSward p f).sward p = f (m.sward p) := by
  simp [Wafer.sward, Wafer.modSward]

theorem Wafer.sward_modSward_ne {p r : Nat} (f : SwardSt → SwardSt) (h : r ≠ p) :
    (m.modSward p f).sward r = m.sward r := by
  simp only [Wafer.sward, Wafer.modSward]
  exact Store.get_set_ne _ _ _ h

@[simp] theorem Wafer.unit_putWord (a : Nat) (v : Word) (u : UnitId) : (m.putWord a v).unit u = m.unit u := rfl
@[simp] theorem Wafer.unit_set (b : Nat) (f : Fld) (v : Nat) (u : UnitId) : (m.set b f v).unit u = m.unit u := rfl
@[simp] theorem Wafer.unit_modSward (p : Nat) (f : SwardSt → SwardSt) (u : UnitId) :
    (m.modSward p f).unit u = m.unit u := rfl
@[simp] theorem Wafer.unit_modHeath (f : HeathSt → HeathSt) (u : UnitId) : (m.modHeath f).unit u = m.unit u := rfl
@[simp] theorem Wafer.unit_send (k : OutKind) (d : Nat) (l : List Nat) (u : UnitId) :
    (m.send k d l).unit u = m.unit u := rfl
@[simp] theorem Wafer.unit_at (w : Nat) (u : UnitId) : (m.at w).unit u = m.unit u := rfl
@[simp] theorem Wafer.sward_putWord (a : Nat) (v : Word) (p : Nat) : (m.putWord a v).sward p = m.sward p := rfl
@[simp] theorem Wafer.sward_set (b : Nat) (f : Fld) (v p : Nat) : (m.set b f v).sward p = m.sward p := rfl
@[simp] theorem Wafer.sward_modUnit (u : UnitId) (f : UnitSt → UnitSt) (p : Nat) :
    (m.modUnit u f).sward p = m.sward p := rfl
@[simp] theorem Wafer.sward_modHeath (f : HeathSt → HeathSt) (p : Nat) : (m.modHeath f).sward p = m.sward p := rfl
@[simp] theorem Wafer.sward_send (k : OutKind) (d : Nat) (l : List Nat) (p : Nat) :
    (m.send k d l).sward p = m.sward p := rfl
@[simp] theorem Wafer.sward_at (w p : Nat) : (m.at w).sward p = m.sward p := rfl

end Sys2Proof.Machine
end

