-- ==== Sys2Proof/Safety.lean ====
section
/-! DEFINITION.  The terms that claims are stated in: where a command may change the
controller, that it completes, and the form that a stored image keeps. -/

namespace Sys2Proof.Machine

/-- What a command may change.  Everything is outside unless it is named. -/
structure Area where
  /-- register fields, each with the address of its block -/
  fields : List (Nat × Fld) := []
  /-- ranges of register addresses: first address and size in bytes -/
  blocks : List (Nat × Nat) := []
  /-- Tussocks and Verges whose hidden state may change -/
  units : UnitId → Bool := fun _ => false
  /-- Swards whose hidden state may change -/
  swards : Nat → Bool := fun _ => false
  /-- the hidden state of the Heaths may change -/
  heath : Bool := false
  /-- messages may be sent -/
  sends : Bool := false
  /-- WTIME may move on -/
  time : Bool := false

/-- Bit `i` of the register at address `a` lies in the area. -/
def Area.Bit (A : Area) (a i : Nat) : Prop :=
  (∃ e ∈ A.fields, a = e.1 + e.2.off ∧ e.2.lo ≤ i ∧ i < e.2.lo + e.2.wid) ∨
    ∃ b ∈ A.blocks, b.1 ≤ a ∧ a < b.1 + b.2

/-- From the first controller to the second, nothing changed outside the area. -/
structure Within (A : Area) (m m' : Wafer) : Prop where
  fuse : m'.fuse = m.fuse
  regs : ∀ a i, i < 32 → ¬ A.Bit a i → (m'.word a).getLsbD i = (m.word a).getLsbD i
  units : ∀ u, A.units u = false → m'.unit u = m.unit u
  swards : ∀ p, A.swards p = false → m'.sward p = m.sward p
  heath : A.heath = false → m'.heath = m.heath
  sends : A.sends = false → m'.out = m.out
  time : A.time = false → m'.wtime = m.wtime

/-- A unit's own registers and hidden state. -/
def unitArea (u : UnitId) : Area := { blocks := [(u.base, 0x1000)], units := (· == u) }

/-- A Sward's own registers and hidden state, and its messages. -/
def swardArea (p : Nat) : Area := { blocks := [(swd p, 0x40000)], swards := (· == p), sends := true }

/-- Every register and all hidden state of a Sward's range, and its messages. -/
def partArea (p : Nat) : Area :=
  { blocks := [(swd p, 0x100000)], units := fun u => u.part == p, swards := (· == p), sends := true }

/-- The Heaths' registers and hidden state, and their messages. -/
def heathArea : Area := { blocks := [(0, 0x1000000)], heath := true, sends := true }

/-- Whatever waits, the command answers a next state in which the queue stands as it was: that
of the command's effect `n`, in which nothing outside the area has changed and the controller is
as `P` says, with the record of it that goes to a standby Heath (R333, `mirrorStep`). -/
def Gives (c : Instr) (m : Wafer) (A : Area) (P : Wafer → Prop) : Prop :=
  ∀ q, ∃ n, exec c ⟨m, q⟩ = .next ⟨mirrorStep m n, q⟩ ∧ Within A m n ∧ P n

/-- The stored images are in canonical form: keys rise strictly and no listed value is what
an unlisted key reads as. (DESIGN CHOICE: log 58.) -/
def Wafer.Canonical (m : Wafer) : Prop :=
  Store.Wf (resetWord m.fuse) m.regs ∧ Store.Wf unitReset m.units ∧ Store.Wf swardReset m.swards

end Sys2Proof.Machine
end

