-- ==== Sys2Proof/Laws/Area.lean ====
section
/-! SUPPORT.  Areas: each named operation stays within an area that names what it changes,
and effects in turn stay within one area; and the canonical form that each keeps. -/

namespace Sys2Proof.Machine

variable {A : Area} {m₀ m : Wafer}

@[refl] theorem Within.refl (A : Area) (m : Wafer) : Within A m m :=
  ⟨rfl, fun _ _ _ _ => rfl, fun _ _ => rfl, fun _ _ => rfl, fun _ => rfl, fun _ => rfl, fun _ => rfl⟩

theorem Within.trans {m₁ m₂ m₃ : Wafer} (h : Within A m₁ m₂) (k : Within A m₂ m₃) : Within A m₁ m₃ where
  fuse := k.fuse.trans h.fuse
  regs a i hi ha := (k.regs a i hi ha).trans (h.regs a i hi ha)
  units u hu := (k.units u hu).trans (h.units u hu)
  swards p hp := (k.swards p hp).trans (h.swards p hp)
  heath e := (k.heath e).trans (h.heath e)
  sends e := (k.sends e).trans (h.sends e)
  time e := (k.time e).trans (h.time e)

/-- A register word changes, all of it within the area. -/
theorem Within.putWord (h : Within A m₀ m) (a : Nat) (v : Word) (ha : ∀ i, i < 32 → A.Bit a i) :
    Within A m₀ (m.putWord a v) :=
  h.trans ⟨rfl, fun b i hi hb => by
    have : b ≠ a := by rintro rfl; exact hb (ha i hi)
    rw [m.word_putWord_ne v this], fun _ _ => rfl, fun _ _ => rfl, fun _ => rfl, fun _ => rfl, fun _ => rfl⟩

/-- A field changes that the area names or whose register lies in one of its blocks. -/
theorem Within.set (h : Within A m₀ m) (b : Nat) (f : Fld) (v : Nat)
    (hf : (b, f) ∈ A.fields ∨ ∃ k ∈ A.blocks, k.1 ≤ b + f.off ∧ b + f.off < k.1 + k.2) :
    Within A m₀ (m.set b f v) :=
  h.trans ⟨rfl, fun a i hi ha => by
    by_cases hw : a = b + f.off
    · subst hw
      rw [m.word_set, setBits_bit _ _ _ _ _ hi, if_neg]
      rintro ⟨h1, h2⟩
      rcases hf with hf | hf
      · exact ha (.inl ⟨_, hf, rfl, h1, h2⟩)
      · exact ha (.inr hf)
    · rw [m.word_set_ne v hw], fun _ _ => rfl, fun _ _ => rfl, fun _ => rfl, fun _ => rfl, fun _ => rfl⟩

theorem Within.modUnit (h : Within A m₀ m) (u : UnitId) (f : UnitSt → UnitSt) (hu : A.units u = true) :
    Within A m₀ (m.modUnit u f) :=
  h.trans ⟨rfl, fun _ _ _ _ => rfl,
    fun v hv => m.unit_modUnit_ne f (by rintro rfl; simp [hu] at hv), fun _ _ => rfl, fun _ => rfl, fun _ => rfl, fun _ => rfl⟩

theorem Within.modSward (h : Within A m₀ m) (p : Nat) (f : SwardSt → SwardSt) (hp : A.swards p = true) :
    Within A m₀ (m.modSward p f) :=
  h.trans ⟨rfl, fun _ _ _ _ => rfl, fun _ _ => rfl,
    fun r hr => m.sward_modSward_ne f (by rintro rfl; simp [hp] at hr), fun _ => rfl, fun _ => rfl, fun _ => rfl⟩

theorem Within.modHeath (h : Within A m₀ m) (f : HeathSt → HeathSt) (e : A.heath = true) :
    Within A m₀ (m.modHeath f) :=
  h.trans ⟨rfl, fun _ _ _ _ => rfl, fun _ _ => rfl, fun _ _ => rfl, fun k => by simp [e] at k,
    fun _ => rfl, fun _ => rfl⟩

theorem Within.send (h : Within A m₀ m) (k : OutKind) (d : Nat) (l : List Nat) (e : A.sends = true) :
    Within A m₀ (m.send k d l) :=
  h.trans ⟨rfl, fun _ _ _ _ => rfl, fun _ _ => rfl, fun _ _ => rfl, fun _ => rfl, fun k => by simp [e] at k, fun _ => rfl⟩

theorem Within.at (h : Within A m₀ m) (w : Nat) (e : A.time = true) : Within A m₀ (m.at w) :=
  h.trans ⟨rfl, fun _ _ _ _ => rfl, fun _ _ => rfl, fun _ _ => rfl, fun _ => rfl, fun _ => rfl, fun k => by simp [e] at k⟩

theorem Within.fresh (h : Within A m₀ m) (n : Nat) : Within A m₀ { m with fresh := n } :=
  h.trans ⟨rfl, fun _ _ _ _ => rfl, fun _ _ => rfl, fun _ _ => rfl, fun _ => rfl, fun _ => rfl, fun _ => rfl⟩

/-- Effects in turn stay within what each stays within. -/
theorem Within.fold {α : Type} (h : Within A m₀ m) (l : List α) (f : Wafer → α → Wafer)
    (hf : ∀ m x, x ∈ l → Within A m₀ m → Within A m₀ (f m x)) : Within A m₀ (l.foldl f m) := by
  induction l generalizing m with
  | nil => exact h
  | cons x t ih => exact ih (hf m x (by simp) h) fun m y hy => hf m y (by simp [hy])

/-- A field outside the area reads as before. -/
theorem Within.get (h : Within A m₀ m) (b : Nat) (f : Fld)
    (hf : ∀ i, i < 32 → f.lo ≤ i → i < f.lo + f.wid → ¬ A.Bit (b + f.off) i) : m.get b f = m₀.get b f :=
  getBits_congr fun i hi h1 h2 => h.regs _ i hi (hf i hi h1 h2)

/-! ### Canonical form -/

theorem Wafer.Canonical.putWord (h : m.Canonical) (a : Nat) (v : Word) : (m.putWord a v).Canonical :=
  ⟨Store.set_wf _ _ _ _ h.1, h.2.1, h.2.2⟩

theorem Wafer.Canonical.set (h : m.Canonical) (b : Nat) (f : Fld) (v : Nat) : (m.set b f v).Canonical := h.putWord _ _

theorem Wafer.Canonical.modUnit (h : m.Canonical) (u : UnitId) (f : UnitSt → UnitSt) : (m.modUnit u f).Canonical :=
  ⟨h.1, Store.set_wf _ _ _ _ h.2.1, h.2.2⟩

theorem Wafer.Canonical.modSward (h : m.Canonical) (p : Nat) (f : SwardSt → SwardSt) : (m.modSward p f).Canonical :=
  ⟨h.1, h.2.1, Store.set_wf _ _ _ _ h.2.2⟩

theorem Wafer.Canonical.modHeath (h : m.Canonical) (f : HeathSt → HeathSt) : (m.modHeath f).Canonical := h

theorem Wafer.Canonical.send (h : m.Canonical) (k : OutKind) (d : Nat) (l : List Nat) : (m.send k d l).Canonical := h

theorem Wafer.Canonical.at (h : m.Canonical) (w : Nat) : (m.at w).Canonical := h

end Sys2Proof.Machine
end

