-- ==== Sys2Proof/Certificates/Slice0/Obligations.lean ====
section
/-! DEFINITION.  The statements for the provers.  A clause names the command, where it may
change the controller (`Area`), that it completes whatever waits, and what the controller
holds afterwards; `m` is the controller before and `n` after. -/

open Sys2Proof Sys2Proof.Machine

/-- With a command at the front of the queue, a step is exec of it on the controller with the rest of the queue. (spec/INDEX.md) -/
def Obligations.StepRunsFront : Prop :=
  ∀ (c : Instr) (q : List Instr) (m : Wafer), step ⟨m, c :: q⟩ = exec c ⟨m, q⟩

/-- On an empty queue a step answers the same state: the choice of the assumption log's entry 3, and no rule of the spec. (spec/INDEX.md) -/
def Obligations.EmptyQueueIdles : Prop :=
  ∀ m : Wafer, step ⟨m, []⟩ = .next ⟨m, []⟩

/-- In every state every command, whatever its operands, answers a next state with the same queue; that an event out of its occasion completes without effect is the model's choice, log 1. (R18, spec/INDEX.md) -/
def Obligations.EveryCommandCompletes : Prop :=
  ∀ (c : Instr) (m : Wafer) (q : List Instr), ∃ n, exec c ⟨m, q⟩ = .next ⟨n, q⟩

/-- From any state whose stored images are canonical, a step leads to one whose images are canonical: keys rise strictly and nothing listed equals what an unlisted key reads as. (R18, spec/INDEX.md) -/
def Obligations.CanonicalFormKept : Prop :=
  ∀ s t : State, s.w.Canonical → step s = .next t → t.w.Canonical

/-- From any state, no step of any command changes the variant fuse code. (R3) -/
def Obligations.VariantNeverChanges : Prop :=
  ∀ s t : State, step s = .next t → t.w.fuse = s.w.fuse

/-- From any state, a step leaves WTIME no lower than before; the one exception is the release of the Heaths from a reset in which VSTBY was lost, which starts it at zero. (R50) -/
def Obligations.TimeNeverStepsBack : Prop :=
  ∀ s t : State, step s = .next t →
    s.w.wtime ≤ t.w.wtime ∨
      ((∃ straps test rest, s.pending = .heathResetRelease straps test :: rest) ∧ s.w.heath.vstbyLost = true ∧ t.w.wtime = 0)

/-- After reset the queue is empty, WTIME is zero, no Heath is active, nothing has been sent, the stored images are canonical, and these registers read as the Reset column says; that the variant is WS-30 is the model's choice, log 2. (R18, R50, R174, spec/01_wafer_rails_and_numbering.md) -/
def Obligations.ResetState : Prop :=
  State.reset.pending = [] ∧ Wafer.reset.wtime = 0 ∧ Wafer.reset.heath.active = false ∧ Wafer.reset.out = [] ∧
    Wafer.reset.Canonical ∧
    Wafer.reset.get 0 HTH_CAPREQ.PMB_CAP = 0x7530 ∧ Wafer.reset.get 0 HTH_EFF.ETA = 0x22A6 ∧
    Wafer.reset.get 0 MTR_CFG.RUN = 1 ∧ Wafer.reset.get 0 MTR_CFG.FREE_PERIOD = 0x14 ∧
    Wafer.reset.get 0 HTH_HBSTAT.GEN = 0 ∧ Wafer.reset.get 0 (HTH_LMAP.PHYS 4095) = 4095 ∧
    Wafer.reset.get (swd 63) SWD_LDCTL.DRIVE = 1 ∧ Wafer.reset.get (swd 63) SWD_SCHED.RUN = 0 ∧
    Wafer.reset.get (swd 63) SWD_TACFG.WIN_N = 0xA ∧ Wafer.reset.get (swd 63) SWD_LBUD.BUDGET = 0 ∧
    Wafer.reset.get (tus 4095) (TSK_VSET.VSET 0) = 0xAFC80 ∧ Wafer.reset.get (tus 4095) (TSK_VSET.VSET 1) = 0xC3500 ∧
    Wafer.reset.get (vrg 223) (TSK_VSET.VSET 0) = 0xB71B0 ∧ Wafer.reset.get (vrg 223) (TSK_VSET.VSET 1) = 0x118C30 ∧
    Wafer.reset.get (tus 0) TSK_HCTL.RETRY_MAX = 3 ∧ Wafer.reset.get (tus 0) TSK_CANARY.THRESH = 4

/-- A value of zero is sent as 0; any other that the form can hold is sent with the smallest exponent from -16 to 15 whose rounded mantissa lies from -1,024 to 1,023, the mantissa rounded to nearest with ties upward. (R422) -/
def Obligations.Linear11Reading : Prop :=
  (∀ den : Int, linear11 0 den = 0) ∧
  ∀ num den : Int, 0 < den → num ≠ 0 → -1024 * 2 ^ 15 * den ≤ num → num ≤ 1023 * 2 ^ 15 * den →
    ∃ e y : Int, -16 ≤ e ∧ e ≤ 15 ∧ -1024 ≤ y ∧ y ≤ 1023 ∧ linear11 num den = linearWord e y ∧
      (∀ a b : Int, (e < 0 ∧ a = num * 2 ^ (-e).toNat ∧ b = den ∨ 0 ≤ e ∧ a = num ∧ b = den * 2 ^ e.toNat) →
        (2 * y - 1) * b ≤ 2 * a ∧ 2 * a < (2 * y + 1) * b) ∧
      ∀ k : Int, -16 ≤ k → k < e → linearMantissa num den k < -1024 ∨ 1023 < linearMantissa num den k

/-- SNAP copies every counter at once; CLR loads a counter or all of them from PRE; the command's own event is counted after it; a counter that passes 2^48 - 1 goes on from PRE, sets its OVF bit and counts once in event 69; the snapshot of an overflow copies the counters after the skid. The model's own reading in it: log 74. (R382, R383, R384) -/
def Obligations.EventCounters : Prop :=
  -- SNAP
  (∀ (m : Wafer) (p : Fin 64),
        Gives (.snap p) m
          (swardArea p) fun n =>
            (∀ k : Fin 96, n.get64 (swd p) (SWD_CSNAP_LO.SNAP k) (SWD_CSNAP_HI.SNAP k) = counterValue p k m) ∧
            (n.get (swd p) SWD_CSTAT.SNAPS = (m.get (swd p) SWD_CSTAT.SNAPS + 1) % 2 ^ SWD_CSTAT.SNAPS.wid) ∧
            (counterTakes p 67 (hwEvent p) m = true → counterValue p 67 m + 1 < 2 ^ 48 → counterValue p 67 n = counterValue p 67 m + 1)) ∧
  -- CLR: one counter
  (∀ (m : Wafer) (p : Fin 64) (k : Fin 128),
      (k < 68) →
        Gives (.clr p false k) m
          (swardArea p) fun n =>
            counterValue p k n = counterPreload p k m) ∧
  -- CLR: the counter that counts CLR itself
  (∀ (m : Wafer) (p : Fin 64),
        Gives (.clr p false 68) m
          (swardArea p) fun n =>
            counterValue p 68 n = (if counterTakes p 68 (hwEvent p) m = true then wrapCounter (counterPreload p 68 m) (counterPreload p 68 m + 1) else counterPreload p 68 m)) ∧
  -- CLR: every counter
  (∀ (m : Wafer) (p : Fin 64) (all : Fin 128),
        Gives (.clr p true all) m
          (swardArea p) fun n =>
            ∀ k : Fin 68, counterValue p k n = counterPreload p k m) ∧
  -- COUNTER_OVERFLOW
  (∀ (m : Wafer) (p : Fin 64) (k : Fin 96) (c : Nat),
      (counterTakes p k (hwEvent p) m = true) →
      (0 < c) →
      (2 ^ 48 ≤ counterValue p k m + c) →
      (k.val ≠ 69) →
        Gives (.counterOverflow p k c) m
          (swardArea p) fun n =>
            (counterValue p k n = wrapCounter (counterPreload p k m) (counterValue p k m + c)) ∧
            ((n.word (swd p + (SWD_COVF.OVF (k / 32)).off)).getLsbD (k % 32) = true) ∧
            (counterTakes p 69 (hwEvent p) m = true → counterValue p 69 m + 1 < 2 ^ 48 → counterValue p 69 n = counterValue p 69 m + 1)) ∧
  -- COUNTER_OVERFLOW: the counter of overflows
  (∀ (m : Wafer) (p : Fin 64) (c : Nat),
      (counterTakes p 69 (hwEvent p) m = true) →
      (0 < c) →
      (2 ^ 48 ≤ counterValue p 69 m + c) →
      (wrapCounter (counterPreload p 69 m) (counterValue p 69 m + c) + 1 < 2 ^ 48) →
        Gives (.counterOverflow p 69 c) m
          (swardArea p) fun n =>
            (counterValue p 69 n = wrapCounter (counterPreload p 69 m) (counterValue p 69 m + c) + 1) ∧
            ((n.word (swd p + (SWD_COVF.OVF 2).off)).getLsbD 5 = true)) ∧
  -- OVERFLOW_SNAPSHOT
  (∀ (m : Wafer) (p : Fin 64) (pred : Bool) (slot : Fin 256),
      ((m.sward p).ovfSnap = true) →
        Gives (.overflowSnapshot p pred slot) m
          (swardArea p) fun n =>
            (n.on (swd p) SWD_CSAMP.PRED = pred) ∧
            (n.get (swd p) SWD_CSAMP.SLOT = slot) ∧
            (∀ k : Fin 96, n.get64 (swd p) (SWD_CSNAP_LO.SNAP k) (SWD_CSNAP_HI.SNAP k) = counterValue p k m) ∧
            (n.get (swd p) SWD_CSTAT.SNAPS = (m.get (swd p) SWD_CSTAT.SNAPS + 1) % 2 ^ SWD_CSTAT.SNAPS.wid) ∧
            ((n.sward p).ovfSnap = false)) ∧
  -- OVERFLOW_SNAPSHOT: no overflow waits for one
  (∀ (m : Wafer) (p : Fin 64) (pred : Bool) (slot : Fin 256),
      ((m.sward p).ovfSnap = false) →
        Gives (.overflowSnapshot p pred slot) m
          ({}) fun n =>
            n = m)

/-- A sense fault opens the rail (SENSE_OPEN) with a source-2 event; VIB below 3.3 V or above 4.8 V stops both rails; recovery ramps a stopped rail from its measured value (log 65: with no test of EN); the range and sink-inhibit flags follow VIB. The model's own readings in it: log 65. (R62, R63, R120, R121, Table 3.5) -/
def Obligations.SenseAndVib : Prop :=
  -- SENSE_OPEN_DETECT: a lead above 1.45 V
  (∀ (m : Wafer) (u : UnitId) (q : Fin 2) (v : Int),
      (1450000 < v) →
      (railState u q m ≠ rOFF) →
      (railState u q m ≠ rSENSE_OPEN) →
        Gives (.senseOpenDetect u q v) m
          (unitArea u) fun n =>
            (railState u q n = rSENSE_OPEN) ∧
            (n.get u.base (TSK_RSTAT.SINK q) = 0) ∧
            (((n.unit u).rail q).demanding = false) ∧
            ((m.unit u).events.length < 8 → (n.unit u).events = (m.unit u).events ++ [⟨2, 0, q.val⟩])) ∧
  -- SENSE_OPEN_DETECT: a reading below 0.10 V while the phases fire
  (∀ (m : Wafer) (u : UnitId) (q : Fin 2) (v : Int),
      (v < 100000) →
      (regulating u q m = true) →
      (¬ (railState u q m = rRAMP_UP ∧ ((m.unit u).rail q).rampFrom < 100000)) →
        Gives (.senseOpenDetect u q v) m
          (unitArea u) fun n =>
            (railState u q n = rSENSE_OPEN) ∧
            ((m.unit u).events.length < 8 → (n.unit u).events = (m.unit u).events ++ [⟨2, 0, q.val⟩])) ∧
  -- VIB_UNDER_VOLTAGE
  (∀ (m : Wafer) (u : UnitId) (vib : Nat),
      (5000 * vib < 3300000) →
        Gives (.vibUnderVoltage u vib) m
          (unitArea u) fun n =>
            (n.on u.base TSK_STAT.VIB_UV = true) ∧
            (n.get u.base TSK_VIB.VIB = 5000 * vib) ∧
            (∀ q : Fin 2, railState u q m = rDELAY ∨ railState u q m = rRAMP_UP ∨ railState u q m = rREG ∨ railState u q m = rRAMP_DOWN → railState u q n = rSTOPPED ∧ ((n.unit u).rail q).stopUv = true) ∧
            (n.on u.base TSK_STAT.SINK_INH = false) ∧
            (∀ q : Fin 2, railState u q m = rSTOPPED → railState u q n = rSTOPPED ∧ ((n.unit u).rail q).stopUv = true) ∧
            (m.on u.base TSK_STAT.VIB_UV = false → (m.unit u).events.length < 8 → (n.unit u).events = (m.unit u).events ++ [⟨3, 0, 0⟩])) ∧
  -- VIB_RECOVER: after an under-voltage stop
  (∀ (m : Wafer) (u : UnitId) (q : Fin 2) (vib : Nat) (v0 v1 : Int),
      (railState u q m = rSTOPPED) →
      (((m.unit u).rail q).stopUv = true) →
      (3400000 < 5000 * vib) →
        Gives (.vibRecover u vib v0 v1) m
          (unitArea u) fun n =>
            (railState u q n = rRAMP_UP) ∧
            (((n.unit u).rail q).ramping = true) ∧
            (((n.unit u).rail q).rampFrom = if q = 0 then v0 else v1) ∧
            (((n.unit u).rail q).rampTo = railTarget u q m)) ∧
  -- VIB_RECOVER: after an over-voltage stop
  (∀ (m : Wafer) (u : UnitId) (q : Fin 2) (vib : Nat) (v0 v1 : Int),
      (railState u q m = rSTOPPED) →
      (((m.unit u).rail q).stopUv = false) →
      (5000 * vib < 4600000) →
        Gives (.vibRecover u vib v0 v1) m
          (unitArea u) fun n =>
            (railState u q n = rRAMP_UP) ∧
            (((n.unit u).rail q).rampFrom = if q = 0 then v0 else v1) ∧
            (((n.unit u).rail q).ramping = true) ∧
            (((n.unit u).rail q).rampTo = railTarget u q m)) ∧
  -- VIB_OUT_OF_RANGE
  (∀ (m : Wafer) (u : UnitId) (vib : Nat),
      ((660 ≤ vib ∧ vib ≤ 720) ∨ (880 ≤ vib ∧ vib ≤ 920)) →
        Gives (.vibOutOfRange u vib) m
          ({ fields := [(u.base, TSK_VIB.VIB), (u.base, TSK_STAT.VIB_OOR), (u.base, TSK_STAT.SINK_INH), (u.base, TSK_SWATH.EVQ_OVF)], units := (· == u) }) fun n =>
            (n.get u.base TSK_VIB.VIB = 5000 * vib) ∧
            (n.on u.base TSK_STAT.VIB_OOR = true) ∧
            (n.on u.base TSK_STAT.SINK_INH = false)) ∧
  -- VIB_SINK_INHIBIT
  (∀ (m : Wafer) (u : UnitId) (vib : Nat),
      (920 < vib) →
      (vib < 4096) →
        Gives (.vibSinkInhibit u vib) m
          ({ fields := [(u.base, TSK_VIB.VIB), (u.base, TSK_STAT.SINK_INH), (u.base, TSK_RSTAT.SINK 0), (u.base, TSK_RSTAT.SINK 1)], units := (· == u) }) fun n =>
            (n.get u.base TSK_VIB.VIB = 5000 * vib) ∧
            (n.on u.base TSK_STAT.SINK_INH = true) ∧
            (∀ q : Fin 2, n.get u.base (TSK_RSTAT.SINK q) = 0) ∧
            (∀ q : Fin 2, ∀ s ∈ railSlots u.isVerge q, ((n.unit u).phase s).returning = false ∧ (((m.unit u).phase s).returning = true → ((n.unit u).phase s).bridge = .off))) ∧
  -- VIB_OVER_VOLTAGE
  (∀ (m : Wafer) (u : UnitId) (vib : Nat),
      (960 < vib) →
        Gives (.vibOverVoltage u vib) m
          (unitArea u) fun n =>
            (n.on u.base TSK_STAT.VIB_OV = true) ∧
            (n.on u.base TSK_STAT.SINK_INH = true) ∧
            (∀ q : Fin 2, railState u q m = rDELAY ∨ railState u q m = rRAMP_UP ∨ railState u q m = rREG ∨ railState u q m = rRAMP_DOWN → railState u q n = rSTOPPED ∧ ((n.unit u).rail q).stopUv = false) ∧
            (∀ q : Fin 2, railState u q m = rSTOPPED → railState u q n = rSTOPPED ∧ ((n.unit u).rail q).stopUv = false) ∧
            (m.on u.base TSK_STAT.VIB_OV = false → (m.unit u).events.length < 8 → (n.unit u).events = (m.unit u).events ++ [⟨5, 0, 0⟩]))

/-- Demand begins below V_set - H/2 and ends above V_set + H/2; a request goes to the next available phase with the on-time of the control law, or waits, or adds to the carry, which fires a pulse of TON_MIN once it reaches it; a pulse's end begins the minimum off-time; each frequency-lock window moves K_TON by its law, or is held. The model's own readings in it: logs 18 and 64. (R95, R96, R98, R104, R105, R106, R109, R110, R117) -/
def Obligations.Modulator : Prop :=
  -- DEMAND_BEGIN
  (∀ (m : Wafer) (u : UnitId) (q : Fin 2) (v : Int),
      (regulating u q m = true) →
      (v < vSet u q m - halfBand u q m) →
        Gives (.demandBegin u q v) m
          ({ fields := [(u.base, TSK_TPK_V.VMIN q)], units := (· == u) }) fun n =>
            (((n.unit u).rail q).demanding = true) ∧
            (((n.unit u).rail q).sense = v)) ∧
  -- DEMAND_END
  (∀ (m : Wafer) (u : UnitId) (q : Fin 2) (v : Int),
      (vSet u q m + halfBand u q m < v) →
        Gives (.demandEnd u q v) m
          ({ fields := [(u.base, TSK_TPK_V.VMIN q)], units := (· == u) }) fun n =>
            (((n.unit u).rail q).demanding = false) ∧
            (((n.unit u).rail q).waiting = false)) ∧
  -- MODULATOR_REQUEST: a phase is available and the on-time reaches its TON_MIN
  (∀ (m : Wafer) (u : UnitId) (q : Fin 2) (s vib : Nat),
      (mayRequest u q m = true) →
      (nextPhase u q m = some s) →
      (m.get u.base (TSK_PHCTL.TON_MIN s) ≤ onTime u q s (senseVib u vib m)) →
        Gives (.modulatorRequest u q vib) m
          ({ fields := [(u.base, TSK_VIB.VIB), (u.base, TSK_PHPULSE.PULSES s)], units := (· == u) }) fun n =>
            (((n.unit u).phase s).pulse = .normal) ∧
            (((n.unit u).phase s).bridge = .high) ∧
            (((n.unit u).phase s).steps = onTime u q s (senseVib u vib m)) ∧
            (((n.unit u).rail q).carry = 0) ∧
            (n.get u.base (TSK_PHPULSE.PULSES s) = (m.get u.base (TSK_PHPULSE.PULSES s) + 1) % 2 ^ 32) ∧
            (((n.unit u).rail q).rot = ((railSlots u.isVerge q).idxOf s + 1) % (railSlots u.isVerge q).length) ∧
            (((n.unit u).phase s).winPulses = ((m.unit u).phase s).winPulses + 1)) ∧
  -- MODULATOR_REQUEST: no phase is available
  (∀ (m : Wafer) (u : UnitId) (q : Fin 2) (vib : Nat),
      (mayRequest u q m = true) →
      (nextPhase u q m = none) →
        Gives (.modulatorRequest u q vib) m
          ({ fields := [(u.base, TSK_VIB.VIB)], units := (· == u) }) fun n =>
            ((n.unit u).rail q).waiting = true) ∧
  -- MODULATOR_REQUEST: a short on-time goes to the carry
  (∀ (m : Wafer) (u : UnitId) (q : Fin 2) (s vib : Nat),
      (mayRequest u q m = true) →
      (nextPhase u q m = some s) →
      (((m.unit u).rail q).carry + onTime u q s (senseVib u vib m) < m.get u.base (TSK_PHCTL.TON_MIN s)) →
        Gives (.modulatorRequest u q vib) m
          ({ fields := [(u.base, TSK_VIB.VIB)], units := (· == u) }) fun n =>
            ((n.unit u).rail q).carry = ((m.unit u).rail q).carry + onTime u q s (senseVib u vib m)) ∧
  -- MODULATOR_REQUEST: the carry reaches TON_MIN
  (∀ (m : Wafer) (u : UnitId) (q : Fin 2) (s vib : Nat),
      (mayRequest u q m = true) →
      (nextPhase u q m = some s) →
      (onTime u q s (senseVib u vib m) < m.get u.base (TSK_PHCTL.TON_MIN s)) →
      (m.get u.base (TSK_PHCTL.TON_MIN s) ≤ ((m.unit u).rail q).carry + onTime u q s (senseVib u vib m)) →
        Gives (.modulatorRequest u q vib) m
          ({ fields := [(u.base, TSK_VIB.VIB), (u.base, TSK_PHPULSE.PULSES s), (u.base, TSK_RSTAT.CARRY_FIRE q)], units := (· == u) }) fun n =>
            (((n.unit u).phase s).pulse = .normal) ∧
            (((n.unit u).phase s).bridge = .high) ∧
            (((n.unit u).phase s).steps = m.get u.base (TSK_PHCTL.TON_MIN s)) ∧
            (((n.unit u).rail q).carry = ((m.unit u).rail q).carry + onTime u q s (senseVib u vib m) - m.get u.base (TSK_PHCTL.TON_MIN s)) ∧
            (n.on u.base (TSK_RSTAT.CARRY_FIRE q) = true)) ∧
  -- PULSE_END
  (∀ (m : Wafer) (u : UnitId) (slot : Fin 4),
      (((m.unit u).phase slot).pulse ≠ .none) →
        Gives (.pulseEnd u slot) m
          ({ fields := [(u.base, TSK_GSTAT.BURST), (u.base, TSK_GSTAT.REARM_WAIT)], units := (· == u) }) fun n =>
            (((n.unit u).phase slot).pulse = .none) ∧
            (((n.unit u).phase slot).bridge = .low) ∧
            (((n.unit u).phase slot).offWait = true)) ∧
  -- OFF_TIME_EXPIRE
  (∀ (m : Wafer) (u : UnitId) (slot : Fin 4) (w : Nat),
      (((m.unit u).phase slot).offWait = true) →
        Gives (.offTimeExpire u slot w) m
          ({ fields := [(u.base, TSK_PHPULSE.PULSES 0), (u.base, TSK_PHPULSE.PULSES 1), (u.base, TSK_PHPULSE.PULSES 2), (u.base, TSK_PHPULSE.PULSES 3), (u.base, TSK_RSTAT.CARRY_FIRE 0), (u.base, TSK_RSTAT.CARRY_FIRE 1), (u.base, TSK_TIEPULSE.TIE_PULSES)], units := (· == u), time := true }) fun n =>
            (((n.unit u).phase slot).offWait = false) ∧
            (((m.unit u).phase slot).joinBurst = true → m.on u.base TSK_GSTAT.BURST = true → inService u slot m = true → ((n.unit u).phase slot).pulse = .burst ∧ ((n.unit u).phase slot).bridge = .high)) ∧
  -- PHASE_CURRENT_ZERO
  (∀ (m : Wafer) (u : UnitId) (slot : Fin 4),
      (((m.unit u).phase slot).bridge = .low) →
      (m.get u.base (TSK_RSTAT.SINK (slotRail slot)) = 0) →
      (((m.unit u).phase slot).returning = false) →
        Gives (.phaseCurrentZero u slot) m
          ({ units := (· == u) }) fun n =>
            (((n.unit u).phase slot).bridge = .off) ∧
            (((n.unit u).phase slot).current = 0) ∧
            (((n.unit u).rail (slotRail slot)).fllHold = true)) ∧
  -- PHASE_CURRENT_ZERO: the return of a sinking phase's current is over
  (∀ (m : Wafer) (u : UnitId) (slot : Fin 4),
      (((m.unit u).phase slot).returning = true) →
        Gives (.phaseCurrentZero u slot) m
          ({ units := (· == u) }) fun n =>
            (((n.unit u).phase slot).bridge = if m.on u.base (TSK_RSTAT.SINK (slotRail slot)) = true ∧ available u slot m = true then .low else .off) ∧
            (((n.unit u).phase slot).returning = false) ∧
            (((n.unit u).phase slot).current = 0)) ∧
  -- FLL_WINDOW_END: the law of R109, over the phases that served the whole window
  (∀ (m : Wafer) (u : UnitId) (q : Fin 2),
      (m.on u.base TSK_CTL.FLL_HOLD = false) →
      (((m.unit u).rail q).fllHold = false) →
      (((railSlots u.isVerge q).filter fun s => ((m.unit u).phase s).winServed && inService u s m) ≠ []) →
        Gives (.fllWindowEnd u) m
          ({ fields := [(u.base, TSK_KTON.K_TON 0), (u.base, TSK_KTON.K_TON 1), (u.base, TSK_KTON.FLL_SAT 0), (u.base, TSK_KTON.FLL_SAT 1), (u.base, TSK_KTON.FLL_HELD 0), (u.base, TSK_KTON.FLL_HELD 1)], units := (· == u) }) fun n =>
            (n.on u.base (TSK_KTON.FLL_HELD q) = false) ∧
            (∀ served : List Nat, (served = (railSlots u.isVerge q).filter fun s => ((m.unit u).phase s).winServed && inService u s m) → ∀ k c sum : Int, k = m.get u.base (TSK_KTON.K_TON q) → c = served.length → sum = (served.map fun s => (((m.unit u).phase s).winPulses : Int)).sum → (n.get u.base (TSK_KTON.K_TON q) : Int) = clampI 0x6000 0xA000 (roundDiv (k * (256 * c + clampI (-c) c (sum - 64 * c))) (256 * c))) ∧
            (∀ s ∈ railSlots u.isVerge q, ((n.unit u).phase s).winPulses = 0 ∧ ((n.unit u).phase s).winServed = inService u s m)) ∧
  -- FLL_WINDOW_END: the counts begin anew, and with FLL_HOLD the gains stay
  (∀ (m : Wafer) (u : UnitId),
      (m.on u.base TSK_CTL.FLL_HOLD = true) →
        Gives (.fllWindowEnd u) m
          ({ fields := [(u.base, TSK_KTON.FLL_HELD 0), (u.base, TSK_KTON.FLL_HELD 1)], units := (· == u) }) fun n =>
            ∀ q : Fin 2, n.on u.base (TSK_KTON.FLL_HELD q) = true ∧ ∀ s ∈ railSlots u.isVerge q, ((n.unit u).phase s).winPulses = 0)

/-- An accepted edge corrects the prediction and counts toward the return; a rejected or missing edge starts that count anew; the third missing edge moves to the own oscillator; 64 accepted edges move back. (R111, R113, R114, R116) -/
def Obligations.SyncReference : Prop :=
  -- SYNC_EDGE: within 6 %
  (∀ (m : Wafer) (u : UnitId) (err : Int),
      (-2400 ≤ err) →
      (err ≤ 2400) →
        Gives (.syncEdge u err) m
          ({ fields := [(u.base, TSK_SYNC.GOOD_CNT)], units := (· == u) }) fun n =>
            ((n.unit u).missRun = 0) ∧
            ((n.unit u).syncCorr = (m.unit u).syncCorr + err) ∧
            (onOwnOsc u m = true → m.get u.base TSK_SYNC.GOOD_CNT < 64 → n.get u.base TSK_SYNC.GOOD_CNT = m.get u.base TSK_SYNC.GOOD_CNT + 1)) ∧
  -- SYNC_EDGE: outside 6 %
  (∀ (m : Wafer) (u : UnitId) (err : Int),
      (err < -2400 ∨ 2400 < err) →
        Gives (.syncEdge u err) m
          ({ fields := [(u.base, TSK_SYNC.GOOD_CNT), (u.base, TSK_SYNC.REJ_CNT)] }) fun n =>
            (n.get u.base TSK_SYNC.REJ_CNT = min 65535 (m.get u.base TSK_SYNC.REJ_CNT + 1)) ∧
            (onOwnOsc u m = true → n.get u.base TSK_SYNC.GOOD_CNT = 0)) ∧
  -- SYNC_EDGE_MISSING
  (∀ (m : Wafer) (u : UnitId),
        Gives (.syncEdgeMissing u) m
          ({ fields := [(u.base, TSK_SYNC.GOOD_CNT)], units := (· == u) }) fun n =>
            ((n.unit u).missRun = min 3 ((m.unit u).missRun + 1)) ∧
            (onOwnOsc u m = true → n.get u.base TSK_SYNC.GOOD_CNT = 0)) ∧
  -- SYNC_LOSS
  (∀ (m : Wafer) (u : UnitId),
      ((m.unit u).missRun = 3) →
      (onOwnOsc u m = false) →
        Gives (.syncLoss u) m
          ({ fields := [(u.base, TSK_SYNC.SRC), (u.base, TSK_SYNC.GOOD_CNT), (u.base, TSK_SYNC.SYNC_LOST), (u.base, TSK_SWATH.EVQ_OVF)], units := (· == u) }) fun n =>
            (n.get u.base TSK_SYNC.SRC = 2) ∧
            (n.get u.base TSK_SYNC.GOOD_CNT = 0) ∧
            (n.on u.base TSK_SYNC.SYNC_LOST = true) ∧
            (m.on u.base TSK_SYNC.SYNC_LOST = false → (m.unit u).events.length < 8 → (n.unit u).events = (m.unit u).events ++ [⟨24, 0, 0⟩])) ∧
  -- SYNC_LOSS: a unit already on its own oscillator keeps SYNC_LOST (log 65)
  (∀ (m : Wafer) (u : UnitId),
      (onOwnOsc u m = true) →
        Gives (.syncLoss u) m
          ({}) fun n =>
            (n.get u.base TSK_SYNC.SYNC_LOST = m.get u.base TSK_SYNC.SYNC_LOST)) ∧
  -- SYNC_RETURN
  (∀ (m : Wafer) (u : UnitId),
      (onOwnOsc u m = true) →
      (m.get u.base TSK_SYNC.GOOD_CNT = 64) →
      (m.get u.base TSK_CTL.OWN_OSC = 0) →
        Gives (.syncReturn u) m
          ({ fields := [(u.base, TSK_SYNC.SRC)] }) fun n =>
            n.get u.base TSK_SYNC.SRC = 3) ∧
  -- REF_MOVE_COMPLETE
  (∀ (m : Wafer) (u : UnitId),
      (m.get u.base TSK_SYNC.SRC = 2 ∨ m.get u.base TSK_SYNC.SRC = 3) →
        Gives (.refMoveComplete u) m
          ({ fields := [(u.base, TSK_SYNC.SRC)] }) fun n =>
            n.get u.base TSK_SYNC.SRC = if m.get u.base TSK_SYNC.SRC = 2 then 1 else 0) ∧
  -- OWN_OSC_WRITE
  (∀ (m : Wafer) (u : UnitId) (on : Bool),
        Gives (.ownOscWrite u on) m
          ({ fields := [(u.base, TSK_CTL.OWN_OSC), (u.base, TSK_SYNC.SRC), (u.base, TSK_SYNC.GOOD_CNT)] }) fun n =>
            (n.on u.base TSK_CTL.OWN_OSC = on) ∧
            (on = true → onOwnOsc u m = false → n.get u.base TSK_SYNC.SRC = 2 ∧ n.get u.base TSK_SYNC.GOOD_CNT = 0) ∧
            (on = false ∨ onOwnOsc u m = true → n.get u.base TSK_SYNC.SRC = m.get u.base TSK_SYNC.SRC ∧ n.get u.base TSK_SYNC.GOOD_CNT = m.get u.base TSK_SYNC.GOOD_CNT))

/-- Below the shed threshold a two-phase rail sheds its second phase, or the first where the second alone is in service; above 1.25 times the threshold it restores what it shed and does not shed for 64 µs; above V_set + OV_SOFT_eff, in RAMP_DOWN above V_set + H/2, a rail stops issuing pulses and sinks through every available phase unless sink mode is inhibited, and below V_set + H/2 sink mode ends. The model's own readings in it: log 65. (R119, R120, R121, R125) -/
def Obligations.LightLoadAndSink : Prop :=
  -- SHED_ENTER: the second phase
  (∀ (m : Wafer) (u : UnitId) (q : Fin 2) (s1 s2 : Nat) (i8 : Int),
      (railSlots u.isVerge q = [s1, s2]) →
      (i8 < 50 * (m.get u.base (TSK_SHED.SHED_I q) : Int)) →
      (m.get u.base (TSK_SHED.SHED_I q) ≠ 0) →
      (m.get u.base (TSK_RSTAT.SHED q) = 0) →
      (((m.unit u).rail q).shedHold = false) →
      (regulating u q m = true) →
      (¬ (inService u s2 m = true ∧ inService u s1 m = false)) →
        Gives (.shedEnter u q i8) m
          ({ fields := [(u.base, TSK_RSTAT.SHED q), (u.base, TSK_PHSTAT.SHED s2)], units := (· == u) }) fun n =>
            (n.on u.base (TSK_RSTAT.SHED q) = true) ∧
            (n.on u.base (TSK_PHSTAT.SHED s2) = true) ∧
            (((n.unit u).phase s2).winServed = false)) ∧
  -- SHED_ENTER: the second phase alone is in service, and the first is shed
  (∀ (m : Wafer) (u : UnitId) (q : Fin 2) (s1 s2 : Nat) (i8 : Int),
      (railSlots u.isVerge q = [s1, s2]) →
      (i8 < 50 * (m.get u.base (TSK_SHED.SHED_I q) : Int)) →
      (m.get u.base (TSK_SHED.SHED_I q) ≠ 0) →
      (m.get u.base (TSK_RSTAT.SHED q) = 0) →
      (((m.unit u).rail q).shedHold = false) →
      (regulating u q m = true) →
      (inService u s2 m = true) →
      (inService u s1 m = false) →
        Gives (.shedEnter u q i8) m
          ({ fields := [(u.base, TSK_RSTAT.SHED q), (u.base, TSK_PHSTAT.SHED s1)], units := (· == u) }) fun n =>
            (n.on u.base (TSK_RSTAT.SHED q) = true) ∧
            (n.on u.base (TSK_PHSTAT.SHED s1) = true) ∧
            (((n.unit u).phase s1).winServed = false)) ∧
  -- SHED_ENTER: while the hold after a restore runs the rail does not shed
  (∀ (m : Wafer) (u : UnitId) (q : Fin 2) (i8 : Int),
      (((m.unit u).rail q).shedHold = true) →
        Gives (.shedEnter u q i8) m
          ({}) fun n =>
            (n.get u.base (TSK_RSTAT.SHED q) = m.get u.base (TSK_RSTAT.SHED q))) ∧
  -- SHED_EXIT
  (∀ (m : Wafer) (u : UnitId) (q : Fin 2) (i1 : Int),
      (6250 * (m.get u.base (TSK_SHED.SHED_I q) : Int) < 100 * i1) →
      (m.on u.base (TSK_RSTAT.SHED q) = true) →
        Gives (.shedExit u q i1) m
          ({ fields := [(u.base, TSK_RSTAT.SHED q), (u.base, TSK_RSTAT.CARRY_FIRE q), (u.base, TSK_PHSTAT.SHED 0), (u.base, TSK_PHSTAT.SHED 1), (u.base, TSK_PHSTAT.SHED 2), (u.base, TSK_PHSTAT.SHED 3), (u.base, TSK_PHPULSE.PULSES 0), (u.base, TSK_PHPULSE.PULSES 1), (u.base, TSK_PHPULSE.PULSES 2), (u.base, TSK_PHPULSE.PULSES 3), (u.base, TSK_TIEPULSE.TIE_PULSES)], units := (· == u) }) fun n =>
            (n.on u.base (TSK_RSTAT.SHED q) = false) ∧
            (∀ s ∈ railSlots u.isVerge q, n.on u.base (TSK_PHSTAT.SHED s) = false) ∧
            (((n.unit u).rail q).shedHold = true)) ∧
  -- SHED_HOLD_EXPIRE
  (∀ (m : Wafer) (u : UnitId) (q : Fin 2),
        Gives (.shedHoldExpire u q) m
          ({ units := (· == u) }) fun n =>
            ((n.unit u).rail q).shedHold = false) ∧
  -- SINK_ENTER
  (∀ (m : Wafer) (u : UnitId) (q : Fin 2) (v : Int),
      (regulating u q m = true) →
      (m.get u.base (TSK_OVS.SINK_LIM q) ≠ 0) →
      (m.get u.base TSK_STAT.SINK_INH = 0) →
      ((if railState u q m = rRAMP_DOWN then vSet u q m + halfBand u q m else vSet u q m + ovSoftEff u q m) < v) →
        Gives (.sinkEnter u q v) m
          (unitArea u) fun n =>
            (n.on u.base (TSK_RSTAT.SINK q) = true) ∧
            (((n.unit u).rail q).demanding = false) ∧
            (((n.unit u).rail q).fllHold = true) ∧
            (((n.unit u).rail q).waiting = false) ∧
            (∀ s ∈ railSlots u.isVerge q, available u s m = true → ((m.unit u).phase s).pulse = .none → ((m.unit u).phase s).testDue = false → ((m.unit u).phase s).returning = false → ((n.unit u).phase s).bridge = .low)) ∧
  -- SINK_ENTER: with sink mode inhibited the rail only stops issuing pulses
  (∀ (m : Wafer) (u : UnitId) (q : Fin 2) (v : Int),
      (regulating u q m = true) →
      (m.get u.base (TSK_OVS.SINK_LIM q) = 0 ∨ m.get u.base TSK_STAT.SINK_INH ≠ 0) →
      ((if railState u q m = rRAMP_DOWN then vSet u q m + halfBand u q m else vSet u q m + ovSoftEff u q m) < v) →
        Gives (.sinkEnter u q v) m
          ({ fields := [(u.base, TSK_TPK_V.VMIN q)], units := (· == u) }) fun n =>
            (((n.unit u).rail q).demanding = false) ∧
            (((n.unit u).rail q).waiting = false)) ∧
  -- SINK_EXIT
  (∀ (m : Wafer) (u : UnitId) (q : Fin 2) (v : Int),
      (v < vSet u q m + halfBand u q m) →
        Gives (.sinkExit u q v) m
          ({ fields := [(u.base, TSK_RSTAT.SINK q), (u.base, TSK_TPK_V.VMIN q)], units := (· == u) }) fun n =>
            n.on u.base (TSK_RSTAT.SINK q) = false)

/-- Setting EN takes a rail from OFF to DELAY, turns a ramp down round, only sets the bit in the other states, and is rejected under a latched over-temperature; the on-delay leads to RAMP_UP from the measured value; clearing EN ramps down, or leads from a state without regulation to OFF; each SYNC edge moves the ramp; set-point writes are held in range and on the grid and the ramp follows their target. The model's own readings in it: log 26. (R38, R94, R100, R101, R122, R123, R124, R126, R131) -/
def Obligations.RailStartStop : Prop :=
  -- RAIL_ENABLE: from OFF
  (∀ (m : Wafer) (u : UnitId) (q : Fin 2),
      (railEnabled u q m = false) →
      (m.on u.base TSK_HSTAT.OT_SD_LATCH = false) →
      ((m.unit u).rst = .run) →
      (railState u q m = rOFF) →
        Gives (.railEnable u q) m
          (unitArea u) fun n =>
            (railEnabled u q n = true) ∧
            (railState u q n = rDELAY)) ∧
  -- RAIL_ENABLE: in RAMP_DOWN the ramp turns round from its present value
  (∀ (m : Wafer) (u : UnitId) (q : Fin 2),
      (railEnabled u q m = false) →
      (m.on u.base TSK_HSTAT.OT_SD_LATCH = false) →
      ((m.unit u).rst = .run) →
      (railState u q m = rRAMP_DOWN) →
        Gives (.railEnable u q) m
          (unitArea u) fun n =>
            (railEnabled u q n = true) ∧
            (railState u q n = rRAMP_UP) ∧
            (((n.unit u).rail q).rampFrom = m.getI u.base (TSK_VNOW.VNOW q)) ∧
            (((n.unit u).rail q).rampTo = railTarget u q m)) ∧
  -- RAIL_ENABLE: in RESTORE, and in every other state, the bit alone is set
  (∀ (m : Wafer) (u : UnitId) (q : Fin 2),
      (railEnabled u q m = false) →
      (m.on u.base TSK_HSTAT.OT_SD_LATCH = false) →
      ((m.unit u).rst ≠ .run ∨ (railState u q m ≠ rOFF ∧ railState u q m ≠ rRAMP_DOWN)) →
        Gives (.railEnable u q) m
          ({ fields := [(u.base, enField q)] }) fun n =>
            (railEnabled u q n = true)) ∧
  -- RAIL_ENABLE: rejected while OT_SD_LATCH is set
  (∀ (m : Wafer) (u : UnitId) (q : Fin 2),
      (railEnabled u q m = false) →
      (m.on u.base TSK_HSTAT.OT_SD_LATCH = true) →
        Gives (.railEnable u q) m
          ({ fields := [(u.base, TSK_HSTAT.EN_REJ)] }) fun n =>
            n.on u.base TSK_HSTAT.EN_REJ = true) ∧
  -- RAIL_DISABLE: while the rail regulates
  (∀ (m : Wafer) (u : UnitId) (q : Fin 2),
      (railState u q m = rRAMP_UP ∨ railState u q m = rREG) →
        Gives (.railDisable u q) m
          (unitArea u) fun n =>
            (railEnabled u q n = false) ∧
            (railState u q n = rRAMP_DOWN) ∧
            (((n.unit u).rail q).rampTo = 0) ∧
            (((n.unit u).rail q).rampEdges = 25 * rampUs (m.get u.base (TSK_RAMP.OFF_RAMP q))) ∧
            (((n.unit u).rail q).rampFrom = if ((m.unit u).rail q).ramping = true then m.getI u.base (TSK_VNOW.VNOW q) else ((m.unit u).rail q).mean) ∧
            (((n.unit u).rail q).ramping = true)) ∧
  -- RAIL_DISABLE: from DELAY, STOPPED, SENSE_OPEN or TRIPPED the rail goes to OFF
  (∀ (m : Wafer) (u : UnitId) (q : Fin 2),
      (railState u q m = rDELAY ∨ railState u q m = rSTOPPED ∨ railState u q m = rSENSE_OPEN ∨ railState u q m = rTRIPPED) →
        Gives (.railDisable u q) m
          (unitArea u) fun n =>
            (railEnabled u q n = false) ∧
            (railState u q n = rOFF) ∧
            (n.on u.base (TSK_RFLT.OV_LATCH q) = false)) ∧
  -- RAIL_DISABLE: in OFF and RAMP_DOWN the bit alone is cleared
  (∀ (m : Wafer) (u : UnitId) (q : Fin 2),
      (railState u q m = rOFF ∨ railState u q m = rRAMP_DOWN) →
        Gives (.railDisable u q) m
          ({ fields := [(u.base, enField q)] }) fun n =>
            (railEnabled u q n = false)) ∧
  -- ON_DELAY_EXPIRE
  (∀ (m : Wafer) (u : UnitId) (q : Fin 2) (v : Int),
      (railState u q m = rDELAY) →
        Gives (.onDelayExpire u q v) m
          (unitArea u) fun n =>
            (railState u q n = rRAMP_UP) ∧
            (((n.unit u).rail q).rampFrom = v) ∧
            (((n.unit u).rail q).rampTo = railTarget u q m) ∧
            (n.get u.base (TSK_VNOW.VNOW q) = unsigned 32 v) ∧
            (((n.unit u).rail q).rampEdges = 25 * rampUs (m.get u.base (TSK_RAMP.ON_RAMP q)))) ∧
  -- RAMP_STEP
  (∀ (m : Wafer) (u : UnitId) (q : Fin 2) (v : Int),
      (((m.unit u).rail q).ramping = true) →
      (railState u q m = rRAMP_UP ∨ railState u q m = rREG ∨ railState u q m = rRAMP_DOWN) →
        Gives (.rampStep u q v) m
          (unitArea u) fun n =>
            (n.get u.base (TSK_VNOW.VNOW q) = unsigned 32 (nextRampValue u q m)) ∧
            (railState u q m = rRAMP_UP → nextRampValue u q m = ((m.unit u).rail q).rampTo → railState u q n = rREG) ∧
            (railState u q m = rRAMP_DOWN → nextRampValue u q m = ((m.unit u).rail q).rampTo → railState u q n = rOFF)) ∧
  -- SETPOINT_WRITE: VSET
  (∀ (m : Wafer) (u : UnitId) (q : Fin 2) (data : Word) (v : Int),
        Gives (.setpointWrite u (.vset q) data v) m
          (unitArea u) fun n =>
            (n.getI u.base (TSK_VSET.VSET q) = onGrid (clampI (railRange u.isVerge q).1 (railRange u.isVerge q).2 data.toInt)) ∧
            (n.get u.base TSK_CFGEP.CFG_EPOCH = (m.get u.base TSK_CFGEP.CFG_EPOCH + 1) % 65536) ∧
            ((data.toInt < (railRange u.isVerge q).1 ∨ (railRange u.isVerge q).2 < data.toInt ∨ sumClamped u q n = true) → n.on u.base (TSK_RSTAT.VSET_CLAMP q) = true) ∧
            (railState u q m = rRAMP_UP ∨ railState u q m = rREG → ((n.unit u).rail q).rampTo = railTarget u q n)) ∧
  -- SETPOINT_WRITE: VTRIM
  (∀ (m : Wafer) (u : UnitId) (q : Fin 2) (data : Word) (v : Int),
        Gives (.setpointWrite u (.vtrim q) data v) m
          (unitArea u) fun n =>
            (n.getI u.base (TSK_VTRIM.VTRIM q) = onGrid (clampI (-40000) 40000 data.toInt)) ∧
            (n.get u.base TSK_CFGEP.CFG_EPOCH = m.get u.base TSK_CFGEP.CFG_EPOCH) ∧
            ((data.toInt < -40000 ∨ 40000 < data.toInt ∨ sumClamped u q n = true) → n.on u.base (TSK_RSTAT.VSET_CLAMP q) = true) ∧
            (railState u q m = rRAMP_UP ∨ railState u q m = rREG → ((n.unit u).rail q).rampTo = railTarget u q n)) ∧
  -- SETPOINT_WRITE: VRET of a Tussock
  (∀ (m : Wafer) (g : Fin 4096) (data : Word) (v : Int),
        Gives (.setpointWrite (.tussock g) .vret data v) m
          (unitArea (.tussock g)) fun n =>
            (n.getI (tus g) TSK_VRET.VRET = onGrid (clampI 420000 550000 data.toInt)) ∧
            (n.get (tus g) TSK_CFGEP.CFG_EPOCH = (m.get (tus g) TSK_CFGEP.CFG_EPOCH + 1) % 65536) ∧
            ((data.toInt < 420000 ∨ 550000 < data.toInt) → n.on (tus g) (TSK_RSTAT.VSET_CLAMP 1) = true) ∧
            (railState (.tussock g) 1 m = rRAMP_UP ∨ railState (.tussock g) 1 m = rREG → ((n.unit (.tussock g)).rail 1).rampTo = railTarget (.tussock g) 1 n)) ∧
  -- RETENTION_SELECT
  (∀ (m : Wafer) (g : Fin 4096) (ret : Bool) (v : Int),
        Gives (.retentionSelect (.tussock g) ret v) m
          (unitArea (.tussock g)) fun n =>
            (n.on (tus g) TSK_CTL.RET = ret) ∧
            (ret = true → (n.unit (.tussock g)).arrRet = true) ∧
            (railState (.tussock g) 1 m = rRAMP_UP ∨ railState (.tussock g) 1 m = rREG → ((n.unit (.tussock g)).rail 1).rampTo = railTarget (.tussock g) 1 n)) ∧
  -- PHCTL_WRITE
  (∀ (m : Wafer) (u : UnitId) (slot : Fin 4) (data : Word),
      (slotAbsent u slot = false) →
        Gives (.phctlWrite u slot data) m
          ({ fields := [(u.base, TSK_PHCTL.DT_LH slot), (u.base, TSK_PHCTL.DT_HL slot), (u.base, TSK_PHCTL.TON_MIN slot), (u.base, TSK_PHCTL.DT_CLAMP slot), (u.base, TSK_PHCTL.TON_CLAMP slot), (u.base, TSK_CFGEP.CFG_EPOCH)] }) fun n =>
            (n.get u.base (TSK_PHCTL.DT_LH slot) = clampN 4 20 (getBits data 16 5)) ∧
            (n.get u.base (TSK_PHCTL.DT_HL slot) = clampN 4 20 (getBits data 8 5)) ∧
            (n.get u.base (TSK_PHCTL.TON_MIN slot) = max (getBits data 0 8) (tonFloor (clampN 4 20 (getBits data 16 5)) (clampN 4 20 (getBits data 8 5)))) ∧
            (n.get u.base TSK_CFGEP.CFG_EPOCH = (m.get u.base TSK_CFGEP.CFG_EPOCH + 1) % 65536) ∧
            (4 ≤ getBits data 16 5 ∧ getBits data 16 5 ≤ 20 ∧ 4 ≤ getBits data 8 5 ∧ getBits data 8 5 ≤ 20 ∨ n.on u.base (TSK_PHCTL.DT_CLAMP slot) = true) ∧
            (getBits data 0 8 < tonFloor (clampN 4 20 (getBits data 16 5)) (clampN 4 20 (getBits data 8 5)) → n.on u.base (TSK_PHCTL.TON_CLAMP slot) = true)) ∧
  -- PHCTL_WRITE: a slot without a power stage ignores it (log 65: CFG_EPOCH stays)
  (∀ (m : Wafer) (u : UnitId) (slot : Fin 4) (data : Word),
      (slotAbsent u slot = true) →
        Gives (.phctlWrite u slot data) m
          ({}) fun n =>
            (n.get u.base TSK_CFGEP.CFG_EPOCH = m.get u.base TSK_CFGEP.CFG_EPOCH))

/-- A record is taken in the order of R153: malformed, marker, swath step, context, idle rail, full table, entry; while the port is isolated it waits; a lifted entry that is observed is a hit and one that expires a miss; the pre-lift moves to its target by one edge of SLEW. (R67, R68, R153, R154, R156, R158) -/
def Obligations.Intents : Prop :=
  -- INTENT_RECORD: the port is isolated, and the record waits
  (∀ (m : Wafer) (g : Fin 4096) (d : Word) (w : Nat) (i0 i1 : Int),
      (iportIsolated (.tussock g) m = true) →
        Gives (.intentRecord g d w i0 i1) m
          ({ units := (· == .tussock g), time := true }) fun n =>
            ((n.unit (.tussock g)).iportVld = !(m.unit (.tussock g)).iportVld) ∧
            ((n.unit (.tussock g)).iportD = d) ∧
            ((n.unit (.tussock g)).iportTkn = (m.unit (.tussock g)).iportTkn)) ∧
  -- INTENT_RECORD: malformed by its TYPE, rail or context
  (∀ (m : Wafer) (g : Fin 4096) (d : Word) (w : Nat) (i0 i1 : Int),
      (iportIsolated (.tussock g) m = false) →
      (3 < getBits d 28 4 ∨ (getBits d 28 4 < 2 ∧ 1 < getBits d 10 2) ∨ (getBits d 28 4 = 3 ∧ 8 < getBits d 12 8)) →
        Gives (.intentRecord g d w i0 i1) m
          ({ unitArea (.tussock g) with time := true }) fun n =>
            (n.get (tus g) TSK_IREJ.MALF_CNT = min 65535 (m.get (tus g) TSK_IREJ.MALF_CNT + 1)) ∧
            (n.on (tus g) TSK_ISTAT.MALF = true) ∧
            ((n.unit (.tussock g)).intents = (m.unit (.tussock g)).intents) ∧
            ((n.unit (.tussock g)).iportTkn = !(m.unit (.tussock g)).iportTkn)) ∧
  -- INTENT_RECORD: a marker is counted
  (∀ (m : Wafer) (g : Fin 4096) (d : Word) (w : Nat) (i0 i1 : Int),
      (iportIsolated (.tussock g) m = false) →
      (getBits d 28 4 ≤ 3) →
      (getBits d 28 4 < 2 → getBits d 10 2 < 2) →
      (getBits d 12 8 = 0) →
        Gives (.intentRecord g d w i0 i1) m
          ({ unitArea (.tussock g) with time := true }) fun n =>
            (n.get (tus g) TSK_IMRK.MARK_CNT = min 65535 (m.get (tus g) TSK_IMRK.MARK_CNT + 1)) ∧
            ((n.unit (.tussock g)).intents = (m.unit (.tussock g)).intents) ∧
            ((n.unit (.tussock g)).iportTkn = !(m.unit (.tussock g)).iportTkn)) ∧
  -- INTENT_RECORD: a swath-step record adds to the sum of the next reply
  (∀ (m : Wafer) (g : Fin 4096) (d : Word) (w : Nat) (i0 i1 : Int),
      (iportIsolated (.tussock g) m = false) →
      (getBits d 28 4 = 2) →
      (getBits d 12 8 ≠ 0) →
        Gives (.intentRecord g d w i0 i1) m
          ({ units := (· == .tussock g), time := true }) fun n =>
            (n.unit (.tussock g)).swStep = min 255 ((m.unit (.tussock g)).swStep + getBits d 12 8)) ∧
  -- INTENT_RECORD: a context record waits for its effective time, the later one winning
  (∀ (m : Wafer) (g : Fin 4096) (d : Word) (w : Nat) (i0 i1 : Int),
      (iportIsolated (.tussock g) m = false) →
      (getBits d 28 4 = 3) →
      (0 < getBits d 12 8) →
      (getBits d 12 8 ≤ 8) →
        Gives (.intentRecord g d w i0 i1) m
          ({ units := (· == .tussock g), time := true }) fun n =>
            ((∀ old, (m.unit (.tussock g)).ctxPend = some old → old.effective ≤ w + 4 * getBits d 20 8) → (n.unit (.tussock g)).ctxPend = some ⟨getBits d 12 8 - 1, getBits d 0 8, w + 4 * getBits d 20 8⟩) ∧
            (∀ old, (m.unit (.tussock g)).ctxPend = some old → w + 4 * getBits d 20 8 < old.effective → (n.unit (.tussock g)).ctxPend = some old)) ∧
  -- INTENT_RECORD: a step on a rail outside REG is counted and not taken
  (∀ (m : Wafer) (g : Fin 4096) (d : Word) (w : Nat) (i0 i1 : Int),
      (iportIsolated (.tussock g) m = false) →
      (getBits d 28 4 < 2) →
      (getBits d 10 2 < 2) →
      (getBits d 12 8 ≠ 0) →
      (railState (.tussock g) (getBits d 10 2) m ≠ rREG) →
        Gives (.intentRecord g d w i0 i1) m
          ({ unitArea (.tussock g) with time := true }) fun n =>
            (n.get (tus g) TSK_IMRK.IDLE_CNT = min 65535 (m.get (tus g) TSK_IMRK.IDLE_CNT + 1)) ∧
            ((n.unit (.tussock g)).intents = (m.unit (.tussock g)).intents)) ∧
  -- INTENT_RECORD: a step on a rail in REG enters the table
  (∀ (m : Wafer) (g : Fin 4096) (d : Word) (w : Nat) (i0 i1 : Int),
      (iportIsolated (.tussock g) m = false) →
      (getBits d 28 4 < 2) →
      (getBits d 10 2 < 2) →
      (getBits d 12 8 ≠ 0) →
      (railState (.tussock g) (getBits d 10 2) m = rREG) →
      ((m.unit (.tussock g)).intents.length < 8) →
        Gives (.intentRecord g d w i0 i1) m
          ({ unitArea (.tussock g) with time := true }) fun n =>
            ((n.unit (.tussock g)).intents.length = (m.unit (.tussock g)).intents.length + 1) ∧
            (∃ e ∈ (n.unit (.tussock g)).intents, e.tag = getBits d 0 8 ∧ e.mag = getBits d 12 8 ∧ e.rail = getBits d 10 2 ∧ e.stepUp = (getBits d 28 4 == 0) ∧ e.capture = w ∧ e.effective = w + 4 * getBits d 20 8)) ∧
  -- INTENT_RECORD: the table is full
  (∀ (m : Wafer) (g : Fin 4096) (d : Word) (w : Nat) (i0 i1 : Int),
      (iportIsolated (.tussock g) m = false) →
      (getBits d 28 4 < 2) →
      (getBits d 10 2 < 2) →
      (getBits d 12 8 ≠ 0) →
      (railState (.tussock g) (getBits d 10 2) m = rREG) →
      (8 ≤ (m.unit (.tussock g)).intents.length) →
        Gives (.intentRecord g d w i0 i1) m
          ({ unitArea (.tussock g) with time := true }) fun n =>
            (n.get (tus g) TSK_IREJ.FULL_CNT = min 65535 (m.get (tus g) TSK_IREJ.FULL_CNT + 1)) ∧
            (n.on (tus g) TSK_ISTAT.FULL = true) ∧
            ((n.unit (.tussock g)).intents = (m.unit (.tussock g)).intents)) ∧
  -- IPORT_ISOLATION_END: a swath-step record that waited is taken
  (∀ (m : Wafer) (g : Fin 4096) (w : Nat) (i0 i1 : Int),
      (iportIsolated (.tussock g) m = false) →
      ((m.unit (.tussock g)).iportVld ≠ (m.unit (.tussock g)).iportTkn) →
      (getBits (m.unit (.tussock g)).iportD 28 4 = 2) →
      (getBits (m.unit (.tussock g)).iportD 12 8 ≠ 0) →
        Gives (.iportIsolationEnd g w i0 i1) m
          ({ units := (· == .tussock g), time := true }) fun n =>
            ((n.unit (.tussock g)).iportTkn = (m.unit (.tussock g)).iportVld) ∧
            ((n.unit (.tussock g)).swStep = min 255 ((m.unit (.tussock g)).swStep + getBits (m.unit (.tussock g)).iportD 12 8))) ∧
  -- IPORT_ISOLATION_END: any record that waited is taken
  (∀ (m : Wafer) (g : Fin 4096) (w : Nat) (i0 i1 : Int),
      (iportIsolated (.tussock g) m = false) →
      ((m.unit (.tussock g)).iportVld ≠ (m.unit (.tussock g)).iportTkn) →
        Gives (.iportIsolationEnd g w i0 i1) m
          ({ unitArea (.tussock g) with time := true }) fun n =>
            ((n.unit (.tussock g)).iportTkn = (m.unit (.tussock g)).iportVld) ∧
            ((n.unit (.tussock g)).iportVld = (m.unit (.tussock g)).iportVld)) ∧
  -- INTENT_LIFT: every entry whose lift time has come is in LIFT
  (∀ (m : Wafer) (g : Fin 4096) (w : Nat) (i0 i1 : Int),
        Gives (.intentLift g w i0 i1) m
          ({ unitArea (.tussock g) with time := true }) fun n =>
            (∀ e ∈ (n.unit (.tussock g)).intents, liftTime (.tussock g) m e ≤ w → e.lifted = true) ∧
            ((n.unit (.tussock g)).intents.length = (m.unit (.tussock g)).intents.length)) ∧
  -- INTENT_STEP_OBSERVED: the entries seen are hits and leave the table, the others stay
  (∀ (m : Wafer) (g : Fin 4096) (q : Fin 2) (i40 : Int),
        Gives (.intentStepObserved g q i40) m
          (unitArea (.tussock g)) fun n =>
            (∀ e ∈ (n.unit (.tussock g)).intents, e ∈ (m.unit (.tussock g)).intents ∧ ¬ (e.lifted = true ∧ e.rail = q ∧ (e.stepUp = true → e.liftCurrent + 25 * (e.mag : Int) ≤ i40) ∧ (e.stepUp = false → i40 ≤ e.liftCurrent - 25 * (e.mag : Int)))) ∧
            (∀ e ∈ (m.unit (.tussock g)).intents, e ∈ (n.unit (.tussock g)).intents ∨ (e.lifted = true ∧ e.rail = q ∧ (e.stepUp = true → e.liftCurrent + 25 * (e.mag : Int) ≤ i40) ∧ (e.stepUp = false → i40 ≤ e.liftCurrent - 25 * (e.mag : Int)))) ∧
            (n.get (tus g) TSK_IHIT.HITS = (m.get (tus g) TSK_IHIT.HITS + ((m.unit (.tussock g)).intents.length - (n.unit (.tussock g)).intents.length)) % 2 ^ 32)) ∧
  -- INTENT_EXPIRE
  (∀ (m : Wafer) (g : Fin 4096) (w : Nat),
        Gives (.intentExpire g w) m
          ({ unitArea (.tussock g) with time := true }) fun n =>
            (∀ e ∈ (n.unit (.tussock g)).intents, e.lifted = true → w < e.effective + 8 * m.get (tus g) TSK_ICFG.EXP) ∧
            (n.get (tus g) TSK_IMISS.MISSES = (m.get (tus g) TSK_IMISS.MISSES + ((m.unit (.tussock g)).intents.length - (n.unit (.tussock g)).intents.length)) % 2 ^ 32) ∧
            (∀ e ∈ (m.unit (.tussock g)).intents, e ∈ (n.unit (.tussock g)).intents ∨ (e.lifted = true ∧ e.effective + 8 * m.get (tus g) TSK_ICFG.EXP ≤ w))) ∧
  -- PRELIFT_DECAY_STEP: a lift above its target falls by at most one edge of SLEW
  (∀ (m : Wafer) (g : Fin 4096) (q : Fin 2),
      (liftTarget (.tussock g) q m < preLift (.tussock g) q m) →
        Gives (.preliftDecayStep g q) m
          ({ fields := [(tus g, TSK_ISTAT.PL0), (tus g, TSK_ISTAT.PL1), (tus g, TSK_RSTAT.VSET_CLAMP q)], units := (· == .tussock g) }) fun n =>
            preLift (.tussock g) q n = max (liftTarget (.tussock g) q m) (preLift (.tussock g) q m - 4 * (max 1 (m.get (tus g) (TSK_SLEW.SLEW q)) : Nat))) ∧
  -- PRELIFT_DECAY_STEP: a lift below its target rises by at most one edge of SLEW
  (∀ (m : Wafer) (g : Fin 4096) (q : Fin 2),
      (preLift (.tussock g) q m < liftTarget (.tussock g) q m) →
        Gives (.preliftDecayStep g q) m
          ({ fields := [(tus g, TSK_ISTAT.PL0), (tus g, TSK_ISTAT.PL1), (tus g, TSK_RSTAT.VSET_CLAMP q)], units := (· == .tussock g) }) fun n =>
            (preLift (.tussock g) q n = min (liftTarget (.tussock g) q m) (preLift (.tussock g) q m + 4 * (max 1 (m.get (tus g) (TSK_SLEW.SLEW q)) : Nat))))

/-- Below V_set - Δ_G_eff with a fast fall an armed Tussock fires both LOGIC phases and asks its neighbours; a pulse that began with the burst ends at its own t_G, early above the band, and Gorse re-arms in the band or across it. The model's own readings in it: log 63. (R136, R138, R139, R140, R142) -/
def Obligations.Gorse : Prop :=
  -- GORSE_TRIGGER
  (∀ (m : Wafer) (g : Fin 4096) (v fall : Int),
      (gorseArmed (.tussock g) m = true) →
      (v < vSet (.tussock g) 0 m - gorseLevel (.tussock g) m) →
      (625 * (m.get (tus g) TSK_GORSE.SG : Int) < fall) →
        Gives (.gorseTrigger g v fall) m
          (unitArea (.tussock g)) fun n =>
            (n.on (tus g) TSK_GSTAT.BURST = true) ∧
            (n.get (tus g) TSK_GBURST.BURSTS = (m.get (tus g) TSK_GBURST.BURSTS + 1) % 2 ^ 32) ∧
            (∀ k : Fin 4, m.on (tus g) (TSK_TIESTAT.TIED_OFF k) = false → m.on (tus g) (TSK_TIESTAT.ACK_IN k) = false → ((m.unit (.tussock g)).port k).reqOut = 0 → ((n.unit (.tussock g)).port k).reqOut = 1) ∧
            (((n.unit (.tussock g)).rail 0).rot = 0) ∧
            (((n.unit (.tussock g)).rail 0).carry = 0) ∧
            (∀ s : Fin 2, inService (.tussock g) s m = true → ((m.unit (.tussock g)).phase s).pulse ≠ .none → ((n.unit (.tussock g)).phase s).pulse = .burst ∧ ((n.unit (.tussock g)).phase s).bridge = ((m.unit (.tussock g)).phase s).bridge ∧ ((n.unit (.tussock g)).phase s).fromStart = burstSteps (.tussock g) s m) ∧
            (∀ s : Fin 2, inService (.tussock g) s m = true → ((m.unit (.tussock g)).phase s).pulse = .none → ((m.unit (.tussock g)).phase s).offWait = true → ((n.unit (.tussock g)).phase s).joinBurst = true) ∧
            (∀ s : Fin 2, inService (.tussock g) s m = true → ((m.unit (.tussock g)).phase s).pulse = .none → ((m.unit (.tussock g)).phase s).offWait = false → ((n.unit (.tussock g)).phase s).pulse = .burst ∧ ((n.unit (.tussock g)).phase s).bridge = .high ∧ ((n.unit (.tussock g)).phase s).fromStart = burstSteps (.tussock g) s m ∧ (m.on (tus g) (TSK_RSTAT.SHED 0) = false → ((n.unit (.tussock g)).phase s).steps = burstSteps (.tussock g) s m + burstEarly (.tussock g) s m)) ∧
            (n.on (tus g) (TSK_RSTAT.SHED 0) = false)) ∧
  -- GORSE_BURST_END
  (∀ (m : Wafer) (g : Fin 4096),
      (m.on (tus g) TSK_GSTAT.BURST = true) →
        Gives (.gorseBurstEnd g) m
          ({ fields := [(tus g, TSK_GSTAT.BURST), (tus g, TSK_GSTAT.REARM_WAIT)], units := (· == .tussock g) }) fun n =>
            (∀ s : Fin 2, s.val ∈ burstDue (.tussock g) m → ((n.unit (.tussock g)).phase s).pulse = .none ∧ ((n.unit (.tussock g)).phase s).bridge = .low ∧ ((n.unit (.tussock g)).phase s).offWait = true) ∧
            (∀ s : Fin 4, s.val ∉ burstDue (.tussock g) m → (n.unit (.tussock g)).phase s = (m.unit (.tussock g)).phase s) ∧
            (∀ s : Fin 2, s.val ∈ burstDue (.tussock g) m ↔ ((m.unit (.tussock g)).phase s).pulse = .burst ∧ ((m.unit (.tussock g)).phase s).lateBurst = false ∧ ∀ t : Fin 2, ((m.unit (.tussock g)).phase t).pulse = .burst → ((m.unit (.tussock g)).phase t).lateBurst = false → ((m.unit (.tussock g)).phase s).fromStart ≤ ((m.unit (.tussock g)).phase t).fromStart) ∧
            ((∀ s : Fin 2, ((n.unit (.tussock g)).phase s).pulse ≠ .burst ∧ ((n.unit (.tussock g)).phase s).joinBurst = false) → n.on (tus g) TSK_GSTAT.BURST = false ∧ n.on (tus g) TSK_GSTAT.REARM_WAIT = true) ∧
            ((∃ s : Fin 2, ((n.unit (.tussock g)).phase s).pulse = .burst ∨ ((n.unit (.tussock g)).phase s).joinBurst = true) → n.on (tus g) TSK_GSTAT.BURST = true)) ∧
  -- GORSE_BURST_EARLY_END: a burst pulse on for TON_MIN ends
  (∀ (m : Wafer) (g : Fin 4096) (v : Int) (e0 e1 : Nat),
      (vSet (.tussock g) 0 m + halfBand (.tussock g) 0 m < v) →
        Gives (.gorseBurstEarlyEnd g v e0 e1) m
          ({ fields := [(tus g, TSK_GSTAT.BURST), (tus g, TSK_GSTAT.REARM_WAIT), (tus g, TSK_TPK_V.VMIN 0)], units := (· == .tussock g) }) fun n =>
            (∀ s : Fin 2, ((m.unit (.tussock g)).phase s).pulse = .burst ∨ ((m.unit (.tussock g)).phase s).pulse = .tie → ((m.unit (.tussock g)).phase s).tonMin ≤ (if s = 0 then e0 else e1) → ((n.unit (.tussock g)).phase s).pulse = .none ∧ ((n.unit (.tussock g)).phase s).bridge = .low ∧ ((n.unit (.tussock g)).phase s).offWait = true) ∧
            (∀ s : Fin 2, ((m.unit (.tussock g)).phase s).pulse = .burst ∨ ((m.unit (.tussock g)).phase s).pulse = .tie → (if s = 0 then e0 else e1) < ((m.unit (.tussock g)).phase s).tonMin → ((n.unit (.tussock g)).phase s).pulse = ((m.unit (.tussock g)).phase s).pulse ∧ ((n.unit (.tussock g)).phase s).steps = ((m.unit (.tussock g)).phase s).tonMin) ∧
            (∀ s : Fin 2, ((n.unit (.tussock g)).phase s).joinBurst = false)) ∧
  -- GORSE_REARM
  (∀ (m : Wafer) (g : Fin 4096) (before v : Int),
      (m.on (tus g) TSK_GSTAT.REARM_WAIT = true) →
      (vSet (.tussock g) 0 m - halfBand (.tussock g) 0 m ≤ v ∧ v ≤ vSet (.tussock g) 0 m + halfBand (.tussock g) 0 m ∨ before < vSet (.tussock g) 0 m - halfBand (.tussock g) 0 m ∧ vSet (.tussock g) 0 m + halfBand (.tussock g) 0 m < v) →
        Gives (.gorseRearm g before v) m
          ({ fields := [(tus g, TSK_GSTAT.REARM_WAIT), (tus g, TSK_TPK_V.VMIN 0)], units := (· == .tussock g) }) fun n =>
            n.on (tus g) TSK_GSTAT.REARM_WAIT = false)

/-- A neighbour's request closes the side once, the closing raises TIE_ACK, the release or the end of the hold opens it, the guard opens a side held below 0.85 V_set and closes it again in the band, TIE_ACK answers or its absence withdraws the request. The model's own readings in it: log 5. (R144, R145, R147, R149, R150, R152, R195) -/
def Obligations.Ties : Prop :=
  -- TIE_REQUEST_RECEIVE: 0b01 on a port that can serve it
  (∀ (m : Wafer) (g : Fin 4096) (k : Fin 4) (w : Nat),
      (m.on (tus g) (TSK_TIESTAT.TIED_OFF k) = false) →
      (mayClose (.tussock g) m = true) →
      (((m.unit (.tussock g)).port k).side = false) →
      (((m.unit (.tussock g)).port k).used01 = false) →
      (((m.unit (.tussock g)).port k).guarded = false) →
        Gives (.tieRequestReceive g k 1 w) m
          ({ fields := [(tus g, TSK_TIESTAT.REQ_IN k), (tus g, TSK_PHPULSE.PULSES 0), (tus g, TSK_PHPULSE.PULSES 1), (tus g, TSK_TIEPULSE.TIE_PULSES)], units := (· == .tussock g), time := true }) fun n =>
            (n.get (tus g) (TSK_TIESTAT.REQ_IN k) = 1) ∧
            (((n.unit (.tussock g)).port k).side = true) ∧
            (((n.unit (.tussock g)).port k).for01 = true) ∧
            (((n.unit (.tussock g)).port k).used01 = true)) ∧
  -- TIE_REQUEST_RECEIVE: 0b01 once more, or on a port whose side is closed or guarded
  (∀ (m : Wafer) (g : Fin 4096) (k : Fin 4) (w : Nat),
      (m.on (tus g) (TSK_TIESTAT.TIED_OFF k) = false) →
      (mayClose (.tussock g) m = true) →
      (((m.unit (.tussock g)).port k).side = true ∨ ((m.unit (.tussock g)).port k).used01 = true ∨ ((m.unit (.tussock g)).port k).guarded = true) →
        Gives (.tieRequestReceive g k 1 w) m
          ({ fields := [(tus g, TSK_TIESTAT.REQ_IN k)], units := (· == .tussock g), time := true }) fun n =>
            (n.get (tus g) (TSK_TIESTAT.REQ_IN k) = 1) ∧
            (((n.unit (.tussock g)).port k).side = ((m.unit (.tussock g)).port k).side)) ∧
  -- TIE_REQUEST_RECEIVE: 0b10
  (∀ (m : Wafer) (g : Fin 4096) (k code : Fin 4) (w : Nat),
      (2 ≤ code.val) →
      (m.on (tus g) (TSK_TIESTAT.TIED_OFF k) = false) →
      (mayClose (.tussock g) m = true) →
      (((m.unit (.tussock g)).port k).side = false) →
      (((m.unit (.tussock g)).port k).guarded = false) →
        Gives (.tieRequestReceive g k code w) m
          ({ fields := [(tus g, TSK_TIESTAT.REQ_IN k), (tus g, TSK_TIECNT.HOLD_CNT)], units := (· == .tussock g), time := true }) fun n =>
            (n.get (tus g) (TSK_TIESTAT.REQ_IN k) = code) ∧
            (((n.unit (.tussock g)).port k).side = true) ∧
            (((n.unit (.tussock g)).port k).gradual = tieApart (.tussock g) k m) ∧
            (((n.unit (.tussock g)).port k).counted = true) ∧
            (n.get (tus g) TSK_TIECNT.HOLD_CNT = if ((m.unit (.tussock g)).port k).counted = true then m.get (tus g) TSK_TIECNT.HOLD_CNT else min 65535 (m.get (tus g) TSK_TIECNT.HOLD_CNT + 1))) ∧
  -- TIE_REQUEST_RECEIVE: the side may not close
  (∀ (m : Wafer) (g : Fin 4096) (k : Fin 4) (code : Fin 4) (w : Nat),
      (m.on (tus g) (TSK_TIESTAT.TIED_OFF k) = false) →
      (code.val ≠ 0) →
      (mayClose (.tussock g) m = false) →
        Gives (.tieRequestReceive g k code w) m
          ({ fields := [(tus g, TSK_TIESTAT.REQ_IN k)], units := (· == .tussock g), time := true }) fun n =>
            (swathRuns (.tussock g) m = true → n.get (tus g) (TSK_TIESTAT.REQ_IN k) = code) ∧
            (((n.unit (.tussock g)).port k).reqWire = code.val) ∧
            (((n.unit (.tussock g)).port k).side = ((m.unit (.tussock g)).port k).side) ∧
            (code.val = 1 → ((n.unit (.tussock g)).port k).used01 = true)) ∧
  -- TIE_SIDE_CLOSED
  (∀ (m : Wafer) (g : Fin 4096) (k : Fin 4),
      (((m.unit (.tussock g)).port k).side = true) →
      (m.on (tus g) (TSK_TIESTAT.CLOSED k) = false) →
      (m.get (tus g) (TSK_TIESTAT.REQ_IN k) ≠ 0 ∨ m.on (tus g) TSK_TIE.HOLD = true) →
        Gives (.tieSideClosed g k) m
          ({ fields := [(tus g, TSK_TIESTAT.CLOSED k)], units := (· == .tussock g) }) fun n =>
            (n.on (tus g) (TSK_TIESTAT.CLOSED k) = true) ∧
            (((n.unit (.tussock g)).port k).ackOut = true) ∧
            (((n.unit (.tussock g)).port k).holding = m.on (tus g) TSK_TIE.HOLD) ∧
            (((n.unit (.tussock g)).port k).side = true) ∧
            (((n.unit (.tussock g)).port k).closedAt = m.wtime)) ∧
  -- TIE_SIDE_CLOSED: the request is gone and there is no hold
  (∀ (m : Wafer) (g : Fin 4096) (k : Fin 4),
      (((m.unit (.tussock g)).port k).side = true) →
      (m.on (tus g) (TSK_TIESTAT.CLOSED k) = false) →
      (m.get (tus g) (TSK_TIESTAT.REQ_IN k) = 0) →
      (m.on (tus g) TSK_TIE.HOLD = false) →
        Gives (.tieSideClosed g k) m
          ({ fields := [(tus g, TSK_TIESTAT.CLOSED k), (tus g, TSK_TIEI.TIEI k)], units := (· == .tussock g) }) fun n =>
            (n.on (tus g) (TSK_TIESTAT.CLOSED k) = false) ∧
            (((n.unit (.tussock g)).port k).side = false) ∧
            (((n.unit (.tussock g)).port k).ackOut = false)) ∧
  -- TIE_ACK_RECEIVE: a requester's 0b01 goes to 0b10 when adopted, stays while its burst lasts, and else returns to 0b00
  (∀ (m : Wafer) (g : Fin 4096) (k : Fin 4),
      (m.on (tus g) (TSK_TIESTAT.TIED_OFF k) = false) →
      ((m.unit (.tussock g)).rst = .run) →
      (((m.unit (.tussock g)).port k).reqOut = 1) →
      (((m.unit (.tussock g)).port k).ignoreAck = false) →
        Gives (.tieAckReceive g k true) m
          ({ fields := [(tus g, TSK_TIESTAT.ACK_IN k)], units := (· == .tussock g) }) fun n =>
            (n.on (tus g) (TSK_TIESTAT.ACK_IN k) = true) ∧
            (((n.unit (.tussock g)).port k).reqOut = if m.on (tus g) TSK_HSTAT.ADOPTED = true then 2 else if m.on (tus g) TSK_GSTAT.BURST = true then 1 else 0)) ∧
  -- TIE_ACK_RECEIVE: the fall ends the ignoring of a late TIE_ACK, and an adopted patch asks again
  (∀ (m : Wafer) (g : Fin 4096) (k : Fin 4),
      (m.on (tus g) (TSK_TIESTAT.TIED_OFF k) = false) →
      ((m.unit (.tussock g)).rst = .run) →
        Gives (.tieAckReceive g k false) m
          ({ fields := [(tus g, TSK_TIESTAT.ACK_IN k)], units := (· == .tussock g) }) fun n =>
            (n.on (tus g) (TSK_TIESTAT.ACK_IN k) = false) ∧
            (((n.unit (.tussock g)).port k).ignoreAck = false) ∧
            (((n.unit (.tussock g)).port k).reqOut = if m.on (tus g) TSK_HSTAT.ADOPTED = true ∧ ((m.unit (.tussock g)).port k).reqOut = 0 then 2 else ((m.unit (.tussock g)).port k).reqOut)) ∧
  -- TIE_ACK_RECEIVE: outside RUN no request changes
  (∀ (m : Wafer) (g : Fin 4096) (k : Fin 4) (level : Bool),
      (m.on (tus g) (TSK_TIESTAT.TIED_OFF k) = false) →
      ((m.unit (.tussock g)).rst ≠ .run) →
        Gives (.tieAckReceive g k level) m
          ({ fields := [(tus g, TSK_TIESTAT.ACK_IN k)], units := (· == .tussock g) }) fun n =>
            (((n.unit (.tussock g)).port k).reqOut = ((m.unit (.tussock g)).port k).reqOut) ∧
            (((n.unit (.tussock g)).port k).ackWire = level)) ∧
  -- TIE_REQUEST_RELEASE: a closed side without a hold, or whose hold is over, opens
  (∀ (m : Wafer) (g : Fin 4096) (k : Fin 4),
      (((m.unit (.tussock g)).port k).side = true) →
      (m.on (tus g) (TSK_TIESTAT.CLOSED k) = true) →
      (((m.unit (.tussock g)).port k).holding = false ∨ holdEnd (.tussock g) k m ≤ m.wtime) →
        Gives (.tieRequestRelease g k) m
          ({ fields := [(tus g, TSK_TIESTAT.REQ_IN k), (tus g, TSK_TIESTAT.CLOSED k), (tus g, TSK_TIEI.TIEI k)], units := (· == .tussock g) }) fun n =>
            (n.get (tus g) (TSK_TIESTAT.REQ_IN k) = 0) ∧
            (n.on (tus g) (TSK_TIESTAT.CLOSED k) = false) ∧
            (((n.unit (.tussock g)).port k).side = false) ∧
            (((n.unit (.tussock g)).port k).ackOut = false)) ∧
  -- TIE_REQUEST_RELEASE: a side that does not conduct or is held stays
  (∀ (m : Wafer) (g : Fin 4096) (k : Fin 4),
      (m.on (tus g) (TSK_TIESTAT.CLOSED k) = false ∨ ((m.unit (.tussock g)).port k).holding = true ∧ m.wtime < holdEnd (.tussock g) k m) →
        Gives (.tieRequestRelease g k) m
          ({ fields := [(tus g, TSK_TIESTAT.REQ_IN k)], units := (· == .tussock g) }) fun n =>
            (n.get (tus g) (TSK_TIESTAT.REQ_IN k) = 0) ∧
            (((n.unit (.tussock g)).port k).side = ((m.unit (.tussock g)).port k).side)) ∧
  -- TIE_HOLD_EXPIRE: with no request standing the side opens
  (∀ (m : Wafer) (g : Fin 4096) (k : Fin 4),
      (((m.unit (.tussock g)).port k).holding = true) →
      (m.get (tus g) (TSK_TIESTAT.REQ_IN k) = 0) →
        Gives (.tieHoldExpire g k) m
          ({ fields := [(tus g, TSK_TIESTAT.CLOSED k), (tus g, TSK_TIEI.TIEI k)], units := (· == .tussock g), time := true }) fun n =>
            (((n.unit (.tussock g)).port k).holding = false) ∧
            (((n.unit (.tussock g)).port k).side = false) ∧
            (n.on (tus g) (TSK_TIESTAT.CLOSED k) = false) ∧
            (n.wtime = max m.wtime (holdEnd (.tussock g) k m))) ∧
  -- TIE_HOLD_EXPIRE: under a standing request the side stays
  (∀ (m : Wafer) (g : Fin 4096) (k : Fin 4),
      (((m.unit (.tussock g)).port k).holding = true) →
      (m.get (tus g) (TSK_TIESTAT.REQ_IN k) ≠ 0) →
        Gives (.tieHoldExpire g k) m
          ({ units := (· == .tussock g), time := true }) fun n =>
            (((n.unit (.tussock g)).port k).holding = false) ∧
            (((n.unit (.tussock g)).port k).side = ((m.unit (.tussock g)).port k).side) ∧
            (n.wtime = max m.wtime (holdEnd (.tussock g) k m))) ∧
  -- TIE_GUARD_OPEN
  (∀ (m : Wafer) (g : Fin 4096) (k : Fin 4) (v : Int),
      (m.on (tus g) TSK_TIE.GUARD_EN = true) →
      (m.on (tus g) (TSK_TIESTAT.CLOSED k) = true) →
      (100 * v < 85 * vSet (.tussock g) 0 m) →
        Gives (.tieGuardOpen g k v) m
          ({ fields := [(tus g, TSK_TIESTAT.CLOSED k), (tus g, TSK_TIESTAT.GUARD k), (tus g, TSK_TIEI.TIEI k), (tus g, TSK_TPK_V.VMIN 0), (tus g, TSK_SWATH.EVQ_OVF)], units := (· == .tussock g) }) fun n =>
            (((n.unit (.tussock g)).port k).side = false) ∧
            (((n.unit (.tussock g)).port k).guarded = true) ∧
            (n.on (tus g) (TSK_TIESTAT.CLOSED k) = false) ∧
            (n.on (tus g) (TSK_TIESTAT.GUARD k) = true) ∧
            (m.on (tus g) (TSK_TIESTAT.GUARD k) = false → (m.unit (.tussock g)).events.length < 8 → (n.unit (.tussock g)).events = (m.unit (.tussock g)).events ++ [⟨20, 0, k.val⟩])) ∧
  -- TIE_GUARD_RECLOSE
  (∀ (m : Wafer) (g : Fin 4096) (k : Fin 4) (v : Int),
      (((m.unit (.tussock g)).port k).guarded = true) →
      (2 ≤ m.get (tus g) (TSK_TIESTAT.REQ_IN k)) →
      (mayClose (.tussock g) m = true) →
      (vSet (.tussock g) 0 m - halfBand (.tussock g) 0 m ≤ v) →
      (v ≤ vSet (.tussock g) 0 m + halfBand (.tussock g) 0 m) →
        Gives (.tieGuardReclose g k v) m
          ({ fields := [(tus g, TSK_TIECNT.HOLD_CNT), (tus g, TSK_TPK_V.VMIN 0)], units := (· == .tussock g) }) fun n =>
            (((n.unit (.tussock g)).port k).side = true) ∧
            (((n.unit (.tussock g)).port k).guarded = false)) ∧
  -- TIE_ACK_TIMEOUT
  (∀ (m : Wafer) (g : Fin 4096) (k : Fin 4),
      (((m.unit (.tussock g)).port k).reqOut = 1) →
      (m.on (tus g) (TSK_TIESTAT.ACK_IN k) = false) →
        Gives (.tieAckTimeout g k) m
          ({ fields := [(tus g, TSK_TIECNT.NOACK_CNT), (tus g, TSK_TIESTAT.NOACK k), (tus g, TSK_SWATH.EVQ_OVF)], units := (· == .tussock g) }) fun n =>
            (((n.unit (.tussock g)).port k).reqOut = 0) ∧
            (((n.unit (.tussock g)).port k).ignoreAck = true) ∧
            (n.get (tus g) TSK_TIECNT.NOACK_CNT = min 65535 (m.get (tus g) TSK_TIECNT.NOACK_CNT + 1)) ∧
            (n.on (tus g) (TSK_TIESTAT.NOACK k) = true) ∧
            (m.on (tus g) (TSK_TIESTAT.NOACK k) = false → (m.unit (.tussock g)).events.length < 8 → (n.unit (.tussock g)).events = (m.unit (.tussock g)).events ++ [⟨19, 0, k.val⟩]))

/-- STRETCH rises below its level and falls once LOGIC has recovered and HOLD has passed since it rose; a reading below 0.85 V_set with every phase in service at its limit within 1 µs, held for OVL_T, is patch overload, which opens every side and withdraws the requests. The model's own readings in it: log 5. (R162, R165, R166) -/
def Obligations.StretchAndOverload : Prop :=
  -- STRETCH_ASSERT
  (∀ (m : Wafer) (g : Fin 4096) (v : Int) (w : Nat),
      (m.on (tus g) TSK_STR.EN = true) →
      (m.on (tus g) TSK_STR.ACT = false) →
      (stretchState (.tussock g) m = true) →
      (v < m.getI (tus g) (TSK_VNOW.VNOW 0) - stretchLevel (.tussock g) m) →
        Gives (.stretchAssert g v w) m
          ({ fields := [(tus g, TSK_STR.ACT), (tus g, TSK_STRCNT.RISES), (tus g, TSK_TPK_V.VMIN 0)], units := (· == .tussock g), time := true }) fun n =>
            (n.on (tus g) TSK_STR.ACT = true) ∧
            ((n.unit (.tussock g)).strSince = w) ∧
            ((n.unit (.tussock g)).strRise = w) ∧
            (n.get (tus g) TSK_STRCNT.RISES = (m.get (tus g) TSK_STRCNT.RISES + 1) % 2 ^ TSK_STRCNT.RISES.wid)) ∧
  -- STRETCH_RELEASE
  (∀ (m : Wafer) (g : Fin 4096) (v : Int) (w : Nat),
      (m.on (tus g) TSK_STR.ACT = true) →
      (m.getI (tus g) (TSK_VNOW.VNOW 0) - halfBand (.tussock g) 0 m < v) →
      ((m.unit (.tussock g)).strRise + m.get (tus g) TSK_STR.HOLD ≤ w) →
        Gives (.stretchRelease g v w) m
          ({ fields := [(tus g, TSK_STR.ACT), (tus g, TSK_TPK_V.VMIN 0)], units := (· == .tussock g), time := true }) fun n =>
            n.on (tus g) TSK_STR.ACT = false) ∧
  -- STRETCH_RELEASE: before the HOLD has passed, or without recovery, it stays
  (∀ (m : Wafer) (g : Fin 4096) (v : Int) (w : Nat),
      (v ≤ m.getI (tus g) (TSK_VNOW.VNOW 0) - halfBand (.tussock g) 0 m ∨ w < (m.unit (.tussock g)).strRise + m.get (tus g) TSK_STR.HOLD) →
        Gives (.stretchRelease g v w) m
          ({ fields := [(tus g, TSK_TPK_V.VMIN 0)], units := (· == .tussock g), time := true }) fun n =>
            (n.get (tus g) TSK_STR.ACT = m.get (tus g) TSK_STR.ACT)) ∧
  -- PATCH_OVERLOAD_CLASSIFY
  (∀ (m : Wafer) (g : Fin 4096) (v : Int),
      (100 * v < 85 * vSet (.tussock g) 0 m) →
      (inService (.tussock g) 0 m = true ∨ inService (.tussock g) 1 m = true) →
      (m.on (tus g) TSK_OVL.OVL_ACT = false) →
      (∀ s : Fin 2, inService (.tussock g) s m = true → (match ((m.unit (.tussock g)).phase s).limitAt with | some t => decide (m.wtime ≤ t + 800) | none => false) = true) →
        Gives (.patchOverloadClassify g v) m
          ({ unitArea (.tussock g) with time := true }) fun n =>
            (n.on (tus g) TSK_OVL.OVL = true) ∧
            (n.on (tus g) TSK_OVL.OVL_ACT = true) ∧
            (∀ k : Fin 4, ((n.unit (.tussock g)).port k).side = false ∧ n.on (tus g) (TSK_TIESTAT.CLOSED k) = false ∧ ((n.unit (.tussock g)).port k).reqOut ≠ 1) ∧
            (n.wtime = max m.wtime ((m.unit (.tussock g)).rail0.ovlFrom.getD m.wtime + ovlTicks (.tussock g) m)) ∧
            ((m.unit (.tussock g)).events.length < 8 → (n.unit (.tussock g)).events = (m.unit (.tussock g)).events ++ [⟨14, 0, 0⟩]))

/-- A pulse that reaches the fold-back limit ends, and a sinking phase that reaches -SINK_LIM returns its current to VIB; a fault that the detectors see is recorded as a cause bit, suspends a phase with a retry left and retires it otherwise; a short retires at once; a fault under test fails the test; the end of the suspension puts the phase back. (R120, R171, R172, R173, R174, R199) -/
def Obligations.PhaseProtection : Prop :=
  -- CURRENT_LIMIT_HIT
  (∀ (m : Wafer) (u : UnitId) (slot : Fin 4) (i : Int),
      (((m.unit u).phase slot).pulse ≠ .none) →
      (50 * (foldBack u slot m : Int) ≤ i) →
        Gives (.currentLimitHit u slot i) m
          ({ fields := [(u.base, TSK_GSTAT.BURST), (u.base, TSK_GSTAT.REARM_WAIT), (u.base, TSK_TPK_PI.IMAX slot)], units := (· == u) }) fun n =>
            (((n.unit u).phase slot).pulse = .none) ∧
            (((n.unit u).phase slot).bridge = .low) ∧
            (((n.unit u).phase slot).offWait = true) ∧
            (((n.unit u).rail (slotRail slot)).fllHold = true) ∧
            (((n.unit u).phase slot).limitAt = some m.wtime)) ∧
  -- CURRENT_LIMIT_HIT: -SINK_LIM in sink mode
  (∀ (m : Wafer) (u : UnitId) (slot : Fin 4) (i : Int),
      (m.on u.base (TSK_RSTAT.SINK (slotRail slot)) = true) →
      (((m.unit u).phase slot).pulse = .none) →
      (((m.unit u).phase slot).bridge = .low) →
      (available u slot m = true) →
      (i ≤ -250 * (m.get u.base (TSK_OVS.SINK_LIM (slotRail slot)) : Int)) →
        Gives (.currentLimitHit u slot i) m
          ({ units := (· == u) }) fun n =>
            (((n.unit u).phase slot).bridge = .high) ∧
            (((n.unit u).phase slot).returning = true) ∧
            (((n.unit u).phase slot).current = i)) ∧
  -- PHASE_FAULT_DETECT: a fault of another kind than a short suspends while a retry is left
  (∀ (m : Wafer) (u : UnitId) (slot : Fin 4) (r : PhaseReading),
      (slotAbsent u slot = false) →
      (seenFaults u slot r m ≠ 0) →
      (seenFaults u slot r m &&& 3 = 0) →
      (m.on u.base (TSK_PHSTAT.RETIRED slot) = false) →
      (m.on u.base (TSK_PHHLTH.TEST_BUSY slot) = false) →
      ((recentTimes m.wtime ((m.unit u).phase slot).suspendedAt).length < m.get u.base TSK_HCTL.RETRY_MAX) →
        Gives (.phaseFaultDetect u slot r) m
          (unitArea u) fun n =>
            (n.on u.base (TSK_PHSTAT.SUSPENDED slot) = true) ∧
            (((n.unit u).phase slot).suspendedAt = m.wtime :: recentTimes m.wtime ((m.unit u).phase slot).suspendedAt) ∧
            (((n.unit u).phase slot).bridge = .off) ∧
            (n.get u.base (TSK_PHFLT.RETRIES slot) = min (2 ^ (TSK_PHFLT.RETRIES slot).wid - 1) (m.get u.base (TSK_PHFLT.RETRIES slot) + 1)) ∧
            (n.get u.base (causeField slot) = m.get u.base (causeField slot) ||| (seenFaults u slot r m).toNat) ∧
            (nextInRotation u (slotRail slot) m = some slot.val → ((n.unit u).rail (slotRail slot)).carry = 0)) ∧
  -- PHASE_FAULT_DETECT: a short, or a fault with no retry left, retires the phase
  (∀ (m : Wafer) (u : UnitId) (slot : Fin 4) (r : PhaseReading),
      (slotAbsent u slot = false) →
      (seenFaults u slot r m ≠ 0) →
      (seenFaults u slot r m &&& 3 ≠ 0 ∨ m.get u.base TSK_HCTL.RETRY_MAX ≤ (recentTimes m.wtime ((m.unit u).phase slot).suspendedAt).length) →
      (m.on u.base (TSK_PHSTAT.RETIRED slot) = false) →
      (m.on u.base (TSK_PHHLTH.RETIRE slot) = false) →
      (m.on u.base (TSK_PHHLTH.TEST_BUSY slot) = false) →
        Gives (.phaseFaultDetect u slot r) m
          (unitArea u) fun n =>
            (n.on u.base (TSK_PHSTAT.RETIRED slot) = true) ∧
            (n.on u.base (TSK_PHHLTH.RETIRE slot) = true) ∧
            (((n.unit u).phase slot).bridge = .off) ∧
            (n.get u.base (causeField slot) = m.get u.base (causeField slot) ||| (seenFaults u slot r m).toNat)) ∧
  -- PHASE_FAULT_DETECT: under test it fails the test
  (∀ (m : Wafer) (u : UnitId) (slot : Fin 4) (r : PhaseReading),
      (slotAbsent u slot = false) →
      (seenFaults u slot r m ≠ 0) →
      (m.on u.base (TSK_PHHLTH.TEST_BUSY slot) = true) →
        Gives (.phaseFaultDetect u slot r) m
          ({ fields := [(u.base, causeField slot), (u.base, TSK_GSTAT.BURST), (u.base, TSK_GSTAT.REARM_WAIT)], units := (· == u) }) fun n =>
            (((n.unit u).phase slot).testFault = true) ∧
            (((n.unit u).phase slot).bridge = .off) ∧
            (n.get u.base (causeField slot) = m.get u.base (causeField slot) ||| (seenFaults u slot r m).toNat)) ∧
  -- PHASE_FAULT_DETECT: a retired phase keeps the short's cause
  (∀ (m : Wafer) (u : UnitId) (slot : Fin 4) (r : PhaseReading),
      (slotAbsent u slot = false) →
      (seenFaults u slot r m ≠ 0) →
      (m.on u.base (TSK_PHSTAT.RETIRED slot) = true) →
      (m.on u.base (TSK_PHHLTH.TEST_BUSY slot) = false) →
        Gives (.phaseFaultDetect u slot r) m
          ({ fields := [(u.base, causeField slot), (u.base, TSK_GSTAT.BURST), (u.base, TSK_GSTAT.REARM_WAIT)], units := (· == u) }) fun n =>
            (n.get u.base (causeField slot) = m.get u.base (causeField slot) ||| 1) ∧
            (((n.unit u).phase slot).bridge = .off)) ∧
  -- SUSPENSION_END
  (∀ (m : Wafer) (u : UnitId) (slot : Fin 4),
      (m.on u.base (TSK_PHSTAT.SUSPENDED slot) = true) →
        Gives (.suspensionEnd u slot) m
          ({ fields := [(u.base, TSK_PHSTAT.SUSPENDED slot), (u.base, TSK_PHPULSE.PULSES 0), (u.base, TSK_PHPULSE.PULSES 1), (u.base, TSK_PHPULSE.PULSES 2), (u.base, TSK_PHPULSE.PULSES 3), (u.base, TSK_RSTAT.CARRY_FIRE 0), (u.base, TSK_RSTAT.CARRY_FIRE 1), (u.base, TSK_TIEPULSE.TIE_PULSES)], units := (· == u) }) fun n =>
            (n.on u.base (TSK_PHSTAT.SUSPENDED slot) = false) ∧
            (((n.unit u).phase slot).servedFrom = m.wtime))

/-- A rail above V_ref_hi, the highest V_set of the last 10 µs, by its offset is tripped: both transistors off, the carry cleared, OV set; it is retried while it has retries and else latched, with the event of the one or the other; the retry ramps it from its measured value; in REG a reading below V_ref_lo - UV is flagged and reported. (R177, R178, R179, R180) -/
def Obligations.RailTrips : Prop :=
  -- RAIL_OV_TRIP: with a retry left
  (∀ (m : Wafer) (u : UnitId) (q : Fin 2) (v : Int),
      (railState u q m ≠ rOFF) →
      (railState u q m ≠ rSENSE_OPEN) →
      (railState u q m ≠ rTRIPPED) →
      (vRefHi u q m + ovOffset u q m < v) →
      ((recentTimes m.wtime ((m.unit u).rail q).trippedAt).length < m.get u.base TSK_HCTL.RETRY_MAX) →
        Gives (.railOvTrip u q v) m
          (unitArea u) fun n =>
            (railState u q n = rTRIPPED) ∧
            (n.on u.base (TSK_RFLT.OV q) = true) ∧
            (n.get u.base (TSK_RFLT.TRIPS q) = min (2 ^ (TSK_RFLT.TRIPS q).wid - 1) (m.get u.base (TSK_RFLT.TRIPS q) + 1)) ∧
            (((n.unit u).rail q).retrying = true) ∧
            (((n.unit u).rail q).trippedAt = m.wtime :: recentTimes m.wtime ((m.unit u).rail q).trippedAt) ∧
            (((n.unit u).rail q).carry = 0) ∧
            (∀ s ∈ railSlots u.isVerge q, ((n.unit u).phase s).pulse = .none ∧ ((n.unit u).phase s).bridge = .off) ∧
            ((m.unit u).events.length < 8 → (n.unit u).events = (m.unit u).events ++ [⟨6, 0, q.val⟩])) ∧
  -- RAIL_OV_TRIP: with no retry left the trip is latched
  (∀ (m : Wafer) (u : UnitId) (q : Fin 2) (v : Int),
      (railState u q m ≠ rOFF) →
      (railState u q m ≠ rSENSE_OPEN) →
      (railState u q m ≠ rTRIPPED) →
      (vRefHi u q m + ovOffset u q m < v) →
      (m.get u.base TSK_HCTL.RETRY_MAX ≤ (recentTimes m.wtime ((m.unit u).rail q).trippedAt).length) →
        Gives (.railOvTrip u q v) m
          (unitArea u) fun n =>
            (railState u q n = rTRIPPED) ∧
            (n.on u.base (TSK_RFLT.OV_LATCH q) = true) ∧
            (n.on u.base (TSK_RFLT.OV q) = true) ∧
            (((n.unit u).rail q).retrying = false) ∧
            (((n.unit u).rail q).carry = 0) ∧
            (∀ s ∈ railSlots u.isVerge q, ((n.unit u).phase s).pulse = .none ∧ ((n.unit u).phase s).bridge = .off) ∧
            ((m.unit u).events.length < 8 → (n.unit u).events = (m.unit u).events ++ [⟨7, 0, q.val⟩])) ∧
  -- TRIP_RETRY_EXPIRE
  (∀ (m : Wafer) (u : UnitId) (q : Fin 2) (v : Int),
      (railState u q m = rTRIPPED) →
      (((m.unit u).rail q).retrying = true) →
        Gives (.tripRetryExpire u q v) m
          (unitArea u) fun n =>
            (railState u q n = rRAMP_UP) ∧
            (((n.unit u).rail q).rampFrom = v) ∧
            (((n.unit u).rail q).retrying = false) ∧
            (((n.unit u).rail q).rampTo = railTarget u q m) ∧
            (((n.unit u).rail q).ramping = true)) ∧
  -- RAIL_UNDER_VOLTAGE
  (∀ (m : Wafer) (u : UnitId) (q : Fin 2) (v : Int),
      (railState u q m = rREG) →
      (v < vRefLo u q m - 1000 * (m.get u.base (TSK_RLIM.UV q) : Int)) →
        Gives (.railUnderVoltage u q v) m
          ({ fields := [(u.base, TSK_RFLT.UV q), (u.base, TSK_TPK_V.VMIN q), (u.base, TSK_SWATH.EVQ_OVF)], units := (· == u) }) fun n =>
            (n.on u.base (TSK_RFLT.UV q) = true) ∧
            (((n.unit u).rail q).uvHeld = true) ∧
            (((m.unit u).rail q).uvHeld = false → (m.unit u).events.length < 8 → (n.unit u).events = (m.unit u).events ++ [⟨8, 0, q.val⟩]) ∧
            (((m.unit u).rail q).uvHeld = true → (n.unit u).events = (m.unit u).events)) ∧
  -- RAIL_UNDER_VOLTAGE: the condition has ended
  (∀ (m : Wafer) (u : UnitId) (q : Fin 2) (v : Int),
      (railState u q m ≠ rREG ∨ vRefLo u q m - 1000 * (m.get u.base (TSK_RLIM.UV q) : Int) ≤ v) →
        Gives (.railUnderVoltage u q v) m
          ({ fields := [(u.base, TSK_TPK_V.VMIN q)], units := (· == u) }) fun n =>
            (((n.unit u).rail q).uvHeld = false) ∧
            ((n.unit u).events = (m.unit u).events))

/-- The mean of the last 8 samples, and of valid samples alone after a failure, is TEMP; the warning is raised at its threshold and cleared 5 °C below it; the shutdown threshold turns off both rails; a sensor that fails raises the warning once and recovers at the 64th valid sample in a row; a column is estimated after a quiet millisecond in REG or counted as skipped (log 66), and its estimate is stored, becomes the baseline when one is asked for, and raises the flags at the second high estimate in a row. The model's own readings in it: log 66. (R181, R183, R184, R185, R186, R187, R188, R189, R190) -/
def Obligations.TemperatureAndColumns : Prop :=
  -- TEMP_SAMPLE: the mean lies below the shutdown threshold
  (∀ (m : Wafer) (u : UnitId) (t : TempReading) (l : List Int),
      ((m.unit u).tempFailed = false) →
      (l = (if (m.unit u).validOnly = true ∧ ¬ (t.inTime = true ∧ -20000 ≤ t.value ∧ t.value ≤ 150000) then (m.unit u).temps else (t.value :: (m.unit u).temps).take 8)) →
      (-20000 ≤ freeDiv l.sum l.length) →
      (freeDiv l.sum l.length ≤ 150000) →
      (freeDiv l.sum l.length < 1000 * (m.get u.base TSK_OT.OT_SD : Int)) →
      (m.on u.base TSK_HSTAT.OT_SD_LATCH = false) →
        Gives (.tempSample u t) m
          ({ fields := [(u.base, TSK_TEMP.TEMP), (u.base, TSK_TPK_T.TMAX), (u.base, TSK_HSTAT.OT_WARN), (u.base, TSK_SWATH.EVQ_OVF)], units := (· == u) }) fun n =>
            (n.getI u.base TSK_TEMP.TEMP = freeDiv l.sum l.length) ∧
            ((n.unit u).temps = l) ∧
            (n.on u.base TSK_HSTAT.OT_WARN = (decide (1000 * (m.get u.base TSK_OT.OT_WARN : Int) ≤ freeDiv l.sum l.length) || (m.on u.base TSK_HSTAT.OT_WARN && decide (1000 * (m.get u.base TSK_OT.OT_WARN : Int) - 5000 ≤ freeDiv l.sum l.length)))) ∧
            ((n.unit u).events = (m.unit u).events ++ (if m.on u.base TSK_HSTAT.OT_WARN = false ∧ n.on u.base TSK_HSTAT.OT_WARN = true ∧ (m.unit u).events.length < 8 then [⟨9, 0, 0⟩] else []))) ∧
  -- TEMP_SAMPLE: over-temperature shutdown
  (∀ (m : Wafer) (u : UnitId) (t : TempReading) (l : List Int),
      ((m.unit u).tempFailed = false) →
      (l = (if (m.unit u).validOnly = true ∧ ¬ (t.inTime = true ∧ -20000 ≤ t.value ∧ t.value ≤ 150000) then (m.unit u).temps else (t.value :: (m.unit u).temps).take 8)) →
      (freeDiv l.sum l.length ≤ 150000) →
      (1000 * (m.get u.base TSK_OT.OT_SD : Int) ≤ freeDiv l.sum l.length) →
      (m.on u.base TSK_HSTAT.OT_SD_LATCH = false) →
        Gives (.tempSample u t) m
          (unitArea u) fun n =>
            (n.getI u.base TSK_TEMP.TEMP = freeDiv l.sum l.length) ∧
            (n.on u.base TSK_HSTAT.OT_SD_LATCH = true) ∧
            (∀ q : Fin 2, railState u q n = (if railState u q m = rOFF ∨ railState u q m = rSENSE_OPEN then railState u q m else rTRIPPED) ∧ (railState u q n = rTRIPPED → ((n.unit u).rail q).retrying = false)) ∧
            (∀ k : Fin 4, ((n.unit u).port k).reqOut ≠ 1 ∧ (u.isVerge = false → ((n.unit u).port k).side = false))) ∧
  -- TEMP_SAMPLE: the shutdown latch clears
  (∀ (m : Wafer) (u : UnitId) (t : TempReading) (l : List Int),
      ((m.unit u).tempFailed = false) →
      (l = (if (m.unit u).validOnly = true ∧ ¬ (t.inTime = true ∧ -20000 ≤ t.value ∧ t.value ≤ 150000) then (m.unit u).temps else (t.value :: (m.unit u).temps).take 8)) →
      (-20000 ≤ freeDiv l.sum l.length) →
      (freeDiv l.sum l.length < 1000 * (m.get u.base TSK_OT.OT_SD : Int)) →
      (freeDiv l.sum l.length < 1000 * (m.get u.base TSK_OT.OT_WARN : Int) - 5000) →
        Gives (.tempSample u t) m
          (unitArea u) fun n =>
            (n.on u.base TSK_HSTAT.OT_SD_LATCH = false) ∧
            (n.on u.base TSK_HSTAT.OT_WARN = false) ∧
            (∀ q : Fin 2, railState u q n = railState u q m)) ∧
  -- TEMP_SAMPLE: a failed sensor recovers at its 64th valid sample in a row
  (∀ (m : Wafer) (u : UnitId) (t : TempReading),
      ((m.unit u).tempFailed = true) →
      ((m.unit u).goodTemps < 63 ∨ ¬ (t.inTime = true ∧ -20000 ≤ t.value ∧ t.value ≤ 150000)) →
        Gives (.tempSample u t) m
          ({ fields := [(u.base, TSK_TEMP.TEMP), (u.base, TSK_TPK_T.TMAX)], units := (· == u) }) fun n =>
            ((n.unit u).tempFailed = true) ∧
            ((n.unit u).goodTemps = (if t.inTime = true ∧ -20000 ≤ t.value ∧ t.value ≤ 150000 then (m.unit u).goodTemps + 1 else 0))) ∧
  -- TEMP_SAMPLE: the 64th valid sample in a row
  (∀ (m : Wafer) (u : UnitId) (t : TempReading),
      ((m.unit u).tempFailed = true) →
      (63 ≤ (m.unit u).goodTemps) →
      (t.inTime = true ∧ -20000 ≤ t.value ∧ t.value ≤ 150000) →
        Gives (.tempSample u t) m
          (unitArea u) fun n =>
            ((n.unit u).tempFailed = false) ∧
            ((n.unit u).validOnly = true) ∧
            ((n.unit u).goodTemps = 0)) ∧
  -- TEMP_SENSOR_FAIL
  (∀ (m : Wafer) (u : UnitId) (noSample : Bool),
      (noSample = true ∨ m.getI u.base TSK_TEMP.TEMP < -20000 ∨ 150000 < m.getI u.base TSK_TEMP.TEMP) →
      ((m.unit u).tempFailed = false) →
        Gives (.tempSensorFail u noSample) m
          ({ fields := [(u.base, TSK_HSTAT.SENS_FLT), (u.base, TSK_HSTAT.OT_WARN), (u.base, TSK_SWATH.EVQ_OVF)], units := (· == u) }) fun n =>
            ((n.unit u).tempFailed = true) ∧
            ((n.unit u).goodTemps = 0) ∧
            (n.on u.base TSK_HSTAT.SENS_FLT = true) ∧
            (n.on u.base TSK_HSTAT.OT_WARN = true) ∧
            ((m.unit u).events.length < 7 → (n.unit u).events = (m.unit u).events ++ [⟨11, 0, 0⟩, ⟨9, 0, 0⟩])) ∧
  -- COLUMN_ESTIMATE: taken
  (∀ (m : Wafer) (u : UnitId) (slot : Fin 4) (i : Int),
      (slotAbsent u slot = false) →
      (m.wtime % 51200000 = 0) →
      (railState u (slotRail slot) m = rREG) →
      (inService u slot m = true) →
      (((m.unit u).rail (slotRail slot)).regFrom + 800000 ≤ m.wtime) →
      (((m.unit u).phase slot).servedFrom + 800000 ≤ m.wtime) →
      (50 * (m.get u.base TSK_HCTL.CRK_IMIN : Int) ≤ i) →
        Gives (.columnEstimate u slot i true true) m
          ({ units := (· == u) }) fun n =>
            ((n.unit u).phase slot).estimating = true) ∧
  -- COLUMN_ESTIMATE: skipped
  (∀ (m : Wafer) (u : UnitId) (slot : Fin 4) (i : Int) (steady quiet : Bool),
      (slotAbsent u slot = false) →
      (m.wtime % 51200000 = 0) →
      (railState u (slotRail slot) m ≠ rREG ∨ inService u slot m = false ∨ m.wtime < ((m.unit u).rail (slotRail slot)).regFrom + 800000 ∨ m.wtime < ((m.unit u).phase slot).servedFrom + 800000 ∨ i < 50 * (m.get u.base TSK_HCTL.CRK_IMIN : Int) ∨ steady = false ∨ quiet = false) →
        Gives (.columnEstimate u slot i steady quiet) m
          ({ fields := [(u.base, TSK_CRK.SKIP_CNT slot)] }) fun n =>
            n.get u.base (TSK_CRK.SKIP_CNT slot) = min (2 ^ (TSK_CRK.SKIP_CNT slot).wid - 1) (m.get u.base (TSK_CRK.SKIP_CNT slot) + 1)) ∧
  -- COLUMN_ESTIMATE: between the 64 ms marks
  (∀ (m : Wafer) (u : UnitId) (slot : Fin 4) (i : Int) (steady quiet : Bool),
      (m.wtime % 51200000 ≠ 0) →
        Gives (.columnEstimate u slot i steady quiet) m
          ({}) fun n =>
            (n.unit u).phase slot = (m.unit u).phase slot) ∧
  -- COLUMN_ESTIMATE_DONE: a baseline is captured
  (∀ (m : Wafer) (u : UnitId) (slot : Fin 4) (drop i : Int),
      (((m.unit u).phase slot).estimating = true) →
      (0 < i) →
      (0 ≤ roundDiv (1000 * drop) i) →
      (roundDiv (1000 * drop) i < 65536) →
      (m.on u.base (TSK_CRKBASE.CAPT_PEND slot) = true) →
        Gives (.columnEstimateDone u slot drop i false) m
          ({ fields := [(u.base, TSK_CRK.EST slot), (u.base, TSK_CRK.VALID slot), (u.base, TSK_CRKBASE.BASE slot), (u.base, TSK_CRKBASE.CAPT_PEND slot)], units := (· == u) }) fun n =>
            (n.get u.base (TSK_CRK.EST slot) = (roundDiv (1000 * drop) i).toNat) ∧
            (n.on u.base (TSK_CRK.VALID slot) = true) ∧
            (n.get u.base (TSK_CRKBASE.BASE slot) = (roundDiv (1000 * drop) i).toNat) ∧
            (n.on u.base (TSK_CRKBASE.CAPT_PEND slot) = false) ∧
            (((n.unit u).phase slot).estimating = false) ∧
            (((n.unit u).phase slot).warnPrev = false) ∧
            (((n.unit u).phase slot).suspPrev = false)) ∧
  -- COLUMN_ESTIMATE_DONE: a phase with no baseline
  (∀ (m : Wafer) (u : UnitId) (slot : Fin 4) (drop i : Int),
      (((m.unit u).phase slot).estimating = true) →
      (0 < i) →
      (0 ≤ roundDiv (1000 * drop) i) →
      (roundDiv (1000 * drop) i < 65536) →
      (m.on u.base (TSK_CRKBASE.CAPT_PEND slot) = false) →
      (m.get u.base (TSK_CRKBASE.BASE slot) = 0) →
        Gives (.columnEstimateDone u slot drop i false) m
          ({ fields := [(u.base, TSK_CRK.EST slot), (u.base, TSK_CRK.VALID slot)], units := (· == u) }) fun n =>
            (n.get u.base (TSK_CRK.EST slot) = (roundDiv (1000 * drop) i).toNat) ∧
            (n.on u.base (TSK_CRK.VALID slot) = true) ∧
            (((n.unit u).phase slot).warnPrev = false) ∧
            (((n.unit u).phase slot).suspPrev = false)) ∧
  -- COLUMN_ESTIMATE_DONE: compared with the baseline, below the suspect ratio at least once
  (∀ (m : Wafer) (u : UnitId) (slot : Fin 4) (drop i : Int) (e : Nat),
      (((m.unit u).phase slot).estimating = true) →
      (0 < i) →
      (roundDiv (1000 * drop) i = e) →
      (e < 65536) →
      (m.on u.base (TSK_CRKBASE.CAPT_PEND slot) = false) →
      (m.get u.base (TSK_CRKBASE.BASE slot) ≠ 0) →
      (((m.unit u).phase slot).suspPrev = false ∨ 100 * e < 180 * m.get u.base (TSK_CRKBASE.BASE slot)) →
        Gives (.columnEstimateDone u slot drop i false) m
          ({ fields := [(u.base, TSK_CRK.EST slot), (u.base, TSK_CRK.VALID slot), (u.base, TSK_CRK.CRK_WARN slot), (u.base, TSK_SWATH.EVQ_OVF)], units := (· == u) }) fun n =>
            (n.get u.base (TSK_CRK.EST slot) = e) ∧
            (n.on u.base (TSK_CRK.CRK_WARN slot) = (m.on u.base (TSK_CRK.CRK_WARN slot) || (((m.unit u).phase slot).warnPrev && decide (130 * m.get u.base (TSK_CRKBASE.BASE slot) ≤ 100 * e)))) ∧
            (((n.unit u).phase slot).warnPrev = decide (130 * m.get u.base (TSK_CRKBASE.BASE slot) ≤ 100 * e)) ∧
            (((n.unit u).phase slot).suspPrev = decide (180 * m.get u.base (TSK_CRKBASE.BASE slot) ≤ 100 * e))) ∧
  -- COLUMN_ESTIMATE_DONE: the second suspect estimate in a row
  (∀ (m : Wafer) (u : UnitId) (slot : Fin 4) (drop i : Int) (e : Nat),
      (slotAbsent u slot = false) →
      (((m.unit u).phase slot).estimating = true) →
      (((m.unit u).phase slot).suspPrev = true) →
      (0 < i) →
      (roundDiv (1000 * drop) i = e) →
      (e < 65536) →
      (m.on u.base (TSK_CRKBASE.CAPT_PEND slot) = false) →
      (m.get u.base (TSK_CRKBASE.BASE slot) ≠ 0) →
      (180 * m.get u.base (TSK_CRKBASE.BASE slot) ≤ 100 * e) →
        Gives (.columnEstimateDone u slot drop i false) m
          (unitArea u) fun n =>
            (n.get u.base (TSK_CRK.EST slot) = e) ∧
            (n.on u.base (TSK_CRK.CRK_SUSP slot) = true) ∧
            (m.on u.base TSK_HCTL.CRK_RET = true → n.on u.base (TSK_PHSTAT.RETIRED slot) = true) ∧
            (m.on u.base TSK_HCTL.CRK_RET = true → m.on u.base (TSK_PHSTAT.RETIRED slot) = false → n.on u.base (TSK_PHFLT.CRACK slot) = true)) ∧
  -- COLUMN_ESTIMATE_DONE: an interrupted estimate
  (∀ (m : Wafer) (u : UnitId) (slot : Fin 4) (drop i : Int) (interrupted : Bool),
      (((m.unit u).phase slot).estimating = true) →
      (interrupted = true ∨ i ≤ 0) →
        Gives (.columnEstimateDone u slot drop i interrupted) m
          ({ fields := [(u.base, TSK_CRK.SKIP_CNT slot)], units := (· == u) }) fun n =>
            (((n.unit u).phase slot).estimating = false) ∧
            (n.get u.base (TSK_CRK.SKIP_CNT slot) = min (2 ^ (TSK_CRK.SKIP_CNT slot).wid - 1) (m.get u.base (TSK_CRK.SKIP_CNT slot) + 1))) ∧
  -- BASELINE_CAPTURE
  (∀ (m : Wafer) (u : UnitId) (slot : Fin 4),
      (slotAbsent u slot = false) →
        Gives (.baselineCapture u slot) m
          ({ fields := [(u.base, TSK_CRKBASE.CAPT_PEND slot)] }) fun n =>
            n.on u.base (TSK_CRKBASE.CAPT_PEND slot) = true)

/-- A phase is retired by a write, and returns only in an open remap window in which its test has passed; a test fires 64 pulses on one phase at a time in REG, and passes when no fault was seen and its estimate lies below 1.80 × BASE; an adopted Tussock with a restored phase in the band is adopted no longer. The model's own readings in it: logs 43, 67. (R191, R192, R195, R198, R199, R200) -/
def Obligations.Retirement : Prop :=
  -- RETIRE_WRITE
  (∀ (m : Wafer) (u : UnitId) (slot : Fin 4),
      (slotAbsent u slot = false) →
      (m.on u.base (TSK_PHHLTH.RETIRE slot) = false) →
        Gives (.retireWrite u slot) m
          (unitArea u) fun n =>
            (n.on u.base (TSK_PHHLTH.RETIRE slot) = true) ∧
            (n.on u.base (TSK_PHSTAT.RETIRED slot) = true) ∧
            (n.on u.base (TSK_PHSTAT.SUSPENDED slot) = false) ∧
            (((n.unit u).phase slot).pulse = .none ∧ ((n.unit u).phase slot).bridge = .off) ∧
            (u.isVerge = false → slot = 2 → n.on u.base TSK_HSTAT.ARR_LOSS = true) ∧
            (u.isVerge = false → slot.val < 2 → m.on u.base (TSK_PHSTAT.RETIRED (1 - slot.val)) = true → n.on u.base TSK_HSTAT.ADOPTED = true) ∧
            (u.isVerge = true → slot.val < 2 → m.on u.base (TSK_PHSTAT.RETIRED (1 - slot.val)) = true → n.on u.base TSK_HSTAT.LINK_LOSS = true) ∧
            (u.isVerge = true → 2 ≤ slot.val → m.on u.base (TSK_PHSTAT.RETIRED (5 - slot.val)) = true → n.on u.base TSK_HSTAT.MIF_LOSS = true)) ∧
  -- RETIRE_WRITE: of a phase that is retired, or of slot 3 of a Tussock
  (∀ (m : Wafer) (u : UnitId) (slot : Fin 4),
      (slotAbsent u slot = true ∨ m.on u.base (TSK_PHHLTH.RETIRE slot) = true) →
        Gives (.retireWrite u slot) m
          ({}) fun n =>
            n.unit u = m.unit u) ∧
  -- UNRETIRE_WRITE: outside an open remap window in which a test has passed, it is rejected
  (∀ (m : Wafer) (u : UnitId) (slot : Fin 4),
      (slotAbsent u slot = false) →
      (m.on u.base (TSK_PHHLTH.RETIRE slot) = true) →
      (m.on 0 HTH_MAPCTL.OPEN = false ∨ m.on u.base (TSK_PHHLTH.TEST_PASS slot) = false ∨ ((m.unit u).phase slot).testWindow ≠ m.windowNo) →
        Gives (.unretireWrite u slot) m
          ({ fields := [(u.base, TSK_PHHLTH.UNRET_REJ slot)] }) fun n =>
            n.on u.base (TSK_PHHLTH.UNRET_REJ slot) = true) ∧
  -- UNRETIRE_WRITE: of a phase that is not retired
  (∀ (m : Wafer) (u : UnitId) (slot : Fin 4),
      (slotAbsent u slot = true ∨ m.on u.base (TSK_PHHLTH.RETIRE slot) = false) →
        Gives (.unretireWrite u slot) m
          ({}) fun n =>
            n.unit u = m.unit u) ∧
  -- UNRETIRE_WRITE: outside an open remap window it is rejected
  (∀ (m : Wafer) (u : UnitId) (slot : Fin 4),
      (slotAbsent u slot = false) →
      (m.on u.base (TSK_PHHLTH.RETIRE slot) = true) →
      (m.on 0 HTH_MAPCTL.OPEN = false) →
        Gives (.unretireWrite u slot) m
          ({ fields := [(u.base, TSK_PHHLTH.UNRET_REJ slot)] }) fun n =>
            n.on u.base (TSK_PHHLTH.UNRET_REJ slot) = true) ∧
  -- UNRETIRE_WRITE: after a test that passed in the open window
  (∀ (m : Wafer) (u : UnitId) (slot : Fin 4),
      (slotAbsent u slot = false) →
      (m.on u.base (TSK_PHHLTH.RETIRE slot) = true) →
      (m.on 0 HTH_MAPCTL.OPEN = true) →
      (m.on u.base (TSK_PHHLTH.TEST_PASS slot) = true) →
      (((m.unit u).phase slot).testWindow = m.windowNo) →
        Gives (.unretireWrite u slot) m
          ({ blocks := [(u.base, 0x1000), (0, 0x1000000)], units := (· == u), heath := true }) fun n =>
            (n.on u.base (TSK_PHHLTH.RETIRE slot) = false) ∧
            (n.on u.base (TSK_PHSTAT.RETIRED slot) = false) ∧
            (n.get u.base (causeField slot) = 0) ∧
            ((u.isVerge = false → slot = 2 → n.on u.base TSK_HSTAT.ARR_LOSS = false)) ∧
            ((Store.get zeroNat n.heath.retireMap (retireNibble u)).testBit slot = false)) ∧
  -- PHASE_TEST_START
  (∀ (m : Wafer) (u : UnitId) (slot : Fin 4),
      (slotAbsent u slot = false) →
      (railState u (slotRail slot) m = rREG) →
      (∀ k : Fin 4, m.on u.base (TSK_PHHLTH.TEST_BUSY k) = false) →
        Gives (.phaseTestStart u slot) m
          ({ fields := [(u.base, TSK_PHHLTH.TEST_BUSY slot), (u.base, TSK_PHPULSE.PULSES slot)], units := (· == u) }) fun n =>
            (n.on u.base (TSK_PHHLTH.TEST_BUSY slot) = true) ∧
            (((n.unit u).phase slot).testFault = false) ∧
            (((m.unit u).phase slot).pulse = .none → ((m.unit u).phase slot).offWait = false → ((n.unit u).phase slot).pulse = .test ∧ ((n.unit u).phase slot).testLeft = 63 ∧ ((n.unit u).phase slot).steps = max (m.get u.base (TSK_PHCTL.TON_MIN slot)) (onTime u (slotRail slot) slot m)) ∧
            (((m.unit u).phase slot).pulse ≠ .none → ((n.unit u).phase slot).testDue = true ∧ ((n.unit u).phase slot).testLeft = 64)) ∧
  -- PHASE_TEST_START: ignored
  (∀ (m : Wafer) (u : UnitId) (slot : Fin 4) (k : Fin 4),
      (slotAbsent u slot = true ∨ railState u (slotRail slot) m ≠ rREG ∨ m.on u.base (TSK_PHHLTH.TEST_BUSY k) = true) →
        Gives (.phaseTestStart u slot) m
          ({}) fun n =>
            n.on u.base (TSK_PHHLTH.TEST_BUSY slot) = m.on u.base (TSK_PHHLTH.TEST_BUSY slot)) ∧
  -- PHASE_TEST_DONE
  (∀ (m : Wafer) (u : UnitId) (slot : Fin 4) (pass : Bool),
      (m.on u.base (TSK_PHHLTH.TEST_BUSY slot) = true) →
      (pass = (!((m.unit u).phase slot).testFault && !(m.on u.base (TSK_CRK.VALID slot) && m.on u.base (TSK_CRKBASE.BASE slot) && decide (180 * m.get u.base (TSK_CRKBASE.BASE slot) ≤ 100 * m.get u.base (TSK_CRK.EST slot))))) →
        Gives (.phaseTestDone u slot) m
          ({ fields := [(u.base, TSK_PHHLTH.TEST_BUSY slot), (u.base, TSK_PHHLTH.TEST_PASS slot), (u.base, TSK_PHHLTH.TEST_FAIL slot)], units := (· == u) }) fun n =>
            (n.on u.base (TSK_PHHLTH.TEST_BUSY slot) = false) ∧
            (n.on u.base (TSK_PHHLTH.TEST_PASS slot) = pass) ∧
            (n.on u.base (TSK_PHHLTH.TEST_FAIL slot) = !pass) ∧
            (m.on 0 HTH_MAPCTL.OPEN = true → ((n.unit u).phase slot).testWindow = m.windowNo)) ∧
  -- ADOPTION_END
  (∀ (m : Wafer) (g : Fin 4096) (v : Int),
      (m.on (tus g) TSK_HSTAT.ADOPTED = true) →
      (m.on (tus g) (TSK_PHSTAT.RETIRED 0) = false ∨ m.on (tus g) (TSK_PHSTAT.RETIRED 1) = false) →
      (vSet (.tussock g) 0 m - halfBand (.tussock g) 0 m ≤ v) →
      (v ≤ vSet (.tussock g) 0 m + halfBand (.tussock g) 0 m) →
        Gives (.adoptionEnd g v) m
          ({ fields := [(tus g, TSK_HSTAT.ADOPTED), (tus g, TSK_TPK_V.VMIN 0)], units := (· == .tussock g) }) fun n =>
            (n.on (tus g) TSK_HSTAT.ADOPTED = false) ∧
            (∀ k : Fin 4, ((n.unit (.tussock g)).port k).reqOut = 0))

/-- The power-on reset takes the unit's registers to their reset values but for those that survive, and holds it, and a Sward's own takes its registers; VIB is then missing at the active Heath's presence comparator where the partition is its own (log 52); a release from RESTORE starts the enabled rails; the window length is written with its clamp and the window in progress becomes stale. The model's own readings in it: log 52. (R54, R66, R315, R320, R321, R324, R367, R368) -/
def Obligations.UnitResetAndWindow : Prop :=
  -- TVDD_POR_ASSERT: of a Tussock or Verge
  (∀ (m : Wafer) (u : UnitId),
        Gives (.tvddPorAssert (.unit u)) m
          ({ fields := [(0, HTH_PINSTAT.VIB_PRES), (0, HTH_BUSTAT.VIB_WAIT)], blocks := [(u.base, 0x1000)], units := (· == u), heath := true }) fun n =>
            ((n.unit u).rst = .powerOn) ∧
            (∀ q : Fin 2, railState u q n = rOFF ∧ railEnabled u q n = false) ∧
            (∀ s : Fin 4, n.on u.base (TSK_PHHLTH.RETIRE s) = m.on u.base (TSK_PHHLTH.RETIRE s) ∧ n.on u.base (TSK_PHSTAT.RETIRED s) = m.on u.base (TSK_PHHLTH.RETIRE s)) ∧
            (∀ k : Fin 4, ((n.unit u).port k).reqOut = 0) ∧
            (n.heath.vibHeld = (m.heath.vibHeld && decide (u.part ≠ if m.heath.activeId = 0 then 0 else 63)))) ∧
  -- TVDD_POR_ASSERT: of a Sward
  (∀ (m : Wafer) (p : Fin 64),
        Gives (.tvddPorAssert (.sward p)) m
          ({ fields := [(0, HTH_PINSTAT.VIB_PRES), (0, HTH_BUSTAT.VIB_WAIT)], blocks := [(swd p, 0x40000)], swards := (· == p.val), heath := true }) fun n =>
            ((n.sward p).por = true) ∧
            ((n.sward p).rst = true) ∧
            ((n.sward p).waitEnum = true) ∧
            (n.on (swd p) SWD_SCHED.RUN = false) ∧
            (n.on (swd p) SWD_BSTAT.FENCE = m.on (swd p) SWD_BSTAT.FENCE)) ∧
  -- RELEASE_WRITE
  (∀ (m : Wafer) (u : UnitId),
      ((m.unit u).rst = .restore) →
        Gives (.releaseWrite u) m
          (unitArea u) fun n =>
            ((n.unit u).rst = .run) ∧
            (n.on u.base TSK_RST.RESTORE = false) ∧
            (∀ q : Fin 2, railEnabled u q m = true → railState u q n = rDELAY) ∧
            (u.isVerge = false → ∀ k : Fin 4, ((n.unit u).port k).reqOut = (if m.on u.base TSK_HSTAT.ADOPTED = true ∧ m.on u.base (TSK_TIESTAT.TIED_OFF k) = false then 2 else 0))) ∧
  -- RELEASE_WRITE: outside RESTORE
  (∀ (m : Wafer) (u : UnitId),
      ((m.unit u).rst ≠ .restore) →
        Gives (.releaseWrite u) m
          ({}) fun n =>
            n.unit u = m.unit u) ∧
  -- TELEMETRY_WINDOW_WRITE
  (∀ (m : Wafer) (u : UnitId) (k : Fin 32),
        Gives (.telemetryWindowWrite u k) m
          ({ fields := [(u.base, ⟨0x600, 0, 32⟩), (u.base, TSK_TSTAT.WCLAMP)], units := (· == u) }) fun n =>
            (n.get u.base TSK_TCFG.WIN_N = min 20 k.val) ∧
            (20 < k.val → n.on u.base TSK_TSTAT.WCLAMP = true)) ∧
  -- MARK_STALE
  (∀ (m : Wafer) (u : UnitId),
        Gives (.markStale u) m
          ({ units := (· == u) }) fun n =>
            (n.unit u).telBad = true)

/-- A write of an engine register waits in its pending copy, which holds the last value written; INT_CLR, CLR and RESTART stay asked for until the boundary; a state word of a busy slot is refused and flagged, one of an idle slot is written, and INTEG_LO waits for INTEG_HI; a Sward that takes no access takes none of these. The model's own readings in it: log 25. (R13, R215, R216, R220, R225, R287) -/
def Obligations.EngineConfiguration : Prop :=
  -- SWARD_CONFIG_WRITE
  (∀ (m : Wafer) (p : Fin 64) (off : Nat) (data : Word),
      (isPendingConfig off = true) →
      ((lookupReg m.fuse (place (swd p + off))).isSome = true) →
        Gives (.swardConfigWrite p off data) m
          ({ fields := [(swd p, SWD_SCHED.HOLD_PEND)], swards := (· == p.val) }) fun n =>
            ((n.sward p).pendWrites = ((m.sward p).pendWrites.filter fun e => e.1 != off) ++ [(off, data ||| (((m.sward p).pendingCopy off).getD 0 &&& actionBit off))]) ∧
            (n.on (swd p) SWD_SCHED.HOLD_PEND = m.on (swd p) SWD_SCHED.HOLD)) ∧
  -- SLOT_STATE_WRITE: the slot is enabled, or its EN is pending to change
  (∀ (m : Wafer) (p : Fin 64) (k : Fin 256) (word : Fin 6) (data : Word),
      (swardAnswers p m = true) →
      (1 < word.val) →
      (slotBusy p k m = true) →
        Gives (.slotStateWrite p k word data) m
          ({ fields := [(swd p, SWD_ESTAT.STATE_WERR)] }) fun n =>
            n.on (swd p) SWD_ESTAT.STATE_WERR = true) ∧
  -- SLOT_STATE_WRITE: the output word of an idle slot
  (∀ (m : Wafer) (p : Fin 64) (k : Fin 256) (data : Word),
      (swardAnswers p m = true) →
      (slotBusy p k m = false) →
        Gives (.slotStateWrite p k 4 data) m
          ({ fields := [(swd p, SWD_SOUT.OUT k)] }) fun n =>
            n.get (swd p) (SWD_SOUT.OUT k) = data.toNat) ∧
  -- SLOT_STATE_WRITE: the low word of the integrator is held
  (∀ (m : Wafer) (p : Fin 64) (k : Fin 256) (data : Word),
      (swardAnswers p m = true) →
        Gives (.slotStateWrite p k 0 data) m
          ({ heath := true }) fun n =>
            Store.get noLatch n.heath.lowHeld 0 = some (swd p + 0x4028 + 0x40 * k.val, data)) ∧
  -- SLOT_STATE_WRITE: the high word of the integrator applies both
  (∀ (m : Wafer) (p : Fin 64) (k : Fin 256) (lo data : Word),
      (swardAnswers p m = true) →
      (slotBusy p k m = false) →
      (Store.get noLatch m.heath.lowHeld 0 = some (swd p + 0x4028 + 0x40 * k.val, lo)) →
        Gives (.slotStateWrite p k 1 data) m
          ({ fields := [(swd p, SWD_SINTLO.INTEG_LO k), (swd p, SWD_SINTHI.INTEG_HI k)], heath := true }) fun n =>
            (n.get (swd p) (SWD_SINTLO.INTEG_LO k) = lo.toNat) ∧
            (n.get (swd p) (SWD_SINTHI.INTEG_HI k) = data.toNat) ∧
            (Store.get noLatch n.heath.lowHeld 0 = none)) ∧
  -- SLOT_STATE_WRITE: a Sward that takes no access
  (∀ (m : Wafer) (p : Fin 64) (k : Fin 256) (word : Fin 6) (data : Word),
      (swardAnswers p m = false) →
        Gives (.slotStateWrite p k word data) m
          ({}) fun n =>
            n.sward p = m.sward p) ∧
  -- SLOT_INT_CLEAR
  (∀ (m : Wafer) (p : Fin 64) (k : Fin 256),
      ((lookupReg m.fuse (place (swd p + (0x4000 + 0x40 * k.val)))).isSome = true) →
        Gives (.slotIntClear p k) m
          ({ fields := [(swd p, SWD_SCHED.HOLD_PEND)], swards := (· == p.val) }) fun n =>
            (n.sward p).pendWrites = ((m.sward p).pendWrites.filter fun e => e.1 != 0x4000 + 0x40 * k.val) ++ [(0x4000 + 0x40 * k.val, pendingRead p (0x4000 + 0x40 * k.val) m ||| 0x40000000)]) ∧
  -- PREDICTOR_CLEAR
  (∀ (m : Wafer) (p : Fin 64) (k : Fin 16),
      ((lookupReg m.fuse (place (swd p + (0x9000 + 0x100 * k.val)))).isSome = true) →
        Gives (.predictorClear p k) m
          ({ fields := [(swd p, SWD_SCHED.HOLD_PEND)], swards := (· == p.val) }) fun n =>
            (n.sward p).pendWrites = ((m.sward p).pendWrites.filter fun e => e.1 != 0x9000 + 0x100 * k.val) ++ [(0x9000 + 0x100 * k.val, pendingRead p (0x9000 + 0x100 * k.val) m ||| 0x40000000)]) ∧
  -- CONTEXT_RESTART
  (∀ (m : Wafer) (p : Fin 64) (k : Fin 8),
      ((lookupReg m.fuse (place (swd p + (0x140 + 8 * k.val)))).isSome = true) →
        Gives (.contextRestart p k) m
          ({ fields := [(swd p, SWD_SCHED.HOLD_PEND)], swards := (· == p.val) }) fun n =>
            (n.sward p).pendWrites = ((m.sward p).pendWrites.filter fun e => e.1 != 0x140 + 8 * k.val) ++ [(0x140 + 8 * k.val, pendingRead p (0x140 + 8 * k.val) m ||| 0x40000000)])

/-- A due slot that completes in the window, after the predictor phase, adds the result of the slot law; a due predictor shifts its input into its history and puts out the weighted sum; the known-answer test starts only while RUN is 0 and records its lanes, and in bring-up a pass applies the RUN that waits and a failure is counted. (R219, R224, R226, R231, R316) -/
def Obligations.EngineExecution : Prop :=
  -- SLOT_EXECUTE
  (∀ (m : Wafer) (p : Fin 64) (k : Fin 256),
      ((m.sward p).rst = false) →
      ((m.sward p).committed = false) →
      (slotDue p k m = true) →
      (completes p k m = true) →
      (∀ j : Fin 16, predictorDue p j m = true → (m.sward p).predRan.contains j.val = true) →
      (((m.sward p).results.any fun r => r.1 == k.val) = false) →
        Gives (.slotExecute p k) m
          (swardArea p) fun n =>
            ((n.sward p).results = (m.sward p).results ++ [(k.val, slotLaw p k m)]) ∧
            ((n.sward p).lastExec = (false, k.val))) ∧
  -- PREDICTOR_EXECUTE
  (∀ (m : Wafer) (p : Fin 64) (k : Fin 16),
      ((m.sward p).rst = false) →
      ((m.sward p).committed = false) →
      (predictorDue p k m = true) →
      ((m.sward p).predRan.contains k.val = false) →
        Gives (.predictorExecute p k) m
          (swardArea p) fun n =>
            (Store.get noHist (n.sward p).hist k = (predictorInput p (m.get (swd p) (SWD_PRCTL.IN_SIG k)) m :: Store.get noHist (m.sward p).hist k).take 16) ∧
            (n.getI (swd p) (SWD_PROUT.Y k) = sat32 (round30 (((List.range 16).zip (Store.get noHist (n.sward p).hist k)).map fun e => m.getI (swd p) (SWD_PRTAP.C k e.1) * e.2).sum)) ∧
            ((n.sward p).predRan = (m.sward p).predRan ++ [k.val])) ∧
  -- LOAD_PEAK_CLEAR
  (∀ (m : Wafer) (p : Fin 64),
        Gives (.loadPeakClear p) m
          ({ fields := [(swd p, SWD_LOAD.PEAK)] }) fun n =>
            n.get (swd p) SWD_LOAD.PEAK = 0) ∧
  -- KAT_START
  (∀ (m : Wafer) (p : Fin 64),
      (m.on (swd p) SWD_SCHED.RUN = false) →
      (m.on (swd p) SWD_KAT.BUSY = false) →
        Gives (.katStart p) m
          (swardArea p) fun n =>
            n.on (swd p) SWD_KAT.BUSY = true) ∧
  -- KAT_START: rejected while the engine runs or a test is under way
  (∀ (m : Wafer) (p : Fin 64),
      (m.on (swd p) SWD_SCHED.RUN = true ∨ m.on (swd p) SWD_KAT.BUSY = true) →
        Gives (.katStart p) m
          ({ fields := [(swd p, SWD_KAT.KAT_REJ)] }) fun n =>
            n.on (swd p) SWD_KAT.KAT_REJ = true) ∧
  -- KAT_DONE: after bring-up
  (∀ (m : Wafer) (p : Fin 64) (lanes : BitVec 4),
      (m.on (swd p) SWD_KAT.BUSY = true) →
      (8 ≤ m.heath.bringUp) →
        Gives (.katDone p lanes) m
          (swardArea p) fun n =>
            (n.on (swd p) SWD_KAT.BUSY = false) ∧
            (n.on (swd p) SWD_KAT.PASS = (lanes == 0)) ∧
            (n.on (swd p) SWD_KAT.FAIL = (lanes != 0)) ∧
            (n.get (swd p) SWD_KAT.LANE_FAIL = lanes.toNat) ∧
            (n.on (swd p) SWD_SCHED.RUN = (m.on (swd p) SWD_SCHED.RUN || (lanes == 0 && (m.sward p).runPend)))) ∧
  -- KAT_DONE: in bring-up, another Sward's test still to come
  (∀ (m : Wafer) (p r : Fin 64) (lanes : BitVec 4),
      (m.on (swd p) SWD_KAT.BUSY = true) →
      (m.heath.bringUp < 8) →
      (r ≠ p) →
      (partLive r m = true) →
      (m.on (swd r) SWD_KAT.PASS = false) →
      (m.heath.katFailed.contains r.val = false) →
        Gives (.katDone p lanes) m
          ({ fields := [(0, HTH_BUSTAT.KAT_FAIL)], blocks := [(swd p, 0x40000)], swards := (· == p.val), heath := true, sends := true }) fun n =>
            (n.on (swd p) SWD_KAT.BUSY = false) ∧
            (n.on (swd p) SWD_KAT.PASS = (lanes == 0)) ∧
            (n.on (swd p) SWD_SCHED.RUN = (m.on (swd p) SWD_SCHED.RUN || (lanes == 0 && (m.sward p).runPend))) ∧
            (n.heath.katFailed.contains p.val = (m.heath.katFailed.contains p.val || lanes != 0)) ∧
            (n.get 0 HTH_BUSTAT.KAT_FAIL = (if lanes ≠ 0 ∧ m.heath.katFailed.contains p.val = false then (m.get 0 HTH_BUSTAT.KAT_FAIL + 1) % 2 ^ HTH_BUSTAT.KAT_FAIL.wid else m.get 0 HTH_BUSTAT.KAT_FAIL)))

/-- A returning unit whose epoch agrees has its record kept and its return ended; one whose epoch differs is flagged, counted and reported under source 28; one that was seen to reset, or of which no epoch is known, returns with no mismatch. (R329) -/
def Obligations.ReturnEpoch : Prop :=
  -- RETURN_EPOCH_CHECK: the epochs agree
  (∀ (m : Wafer) (p : Fin 64) (k : Fin 72) (epoch : BitVec 16),
      ((m.sward p).returning.contains k.val = true) →
      (m.on (swd p) (SWD_UEPOCH.VALID k) = true) →
      (m.on (swd p) (SWD_UEPOCH.RST_SEEN k) = false) →
      (m.get (swd p) (SWD_UEPOCH.EPOCH k) = epoch.toNat) →
        Gives (.returnEpochCheck p k epoch) m
          (swardArea p) fun n =>
            ((n.sward p).returning.contains k.val = false) ∧
            (n.on (swd p) (SWD_UEPOCH.VALID k) = true) ∧
            (n.get (swd p) (SWD_UEPOCH.EPOCH k) = epoch.toNat)) ∧
  -- RETURN_EPOCH_CHECK: the epochs differ
  (∀ (m : Wafer) (p : Fin 64) (k : Fin 72) (epoch : BitVec 16),
      ((m.sward p).returning.contains k.val = true) →
      (m.on (swd p) (SWD_UEPOCH.VALID k) = true) →
      (m.on (swd p) (SWD_UEPOCH.RST_SEEN k) = false) →
      (m.get (swd p) (SWD_UEPOCH.EPOCH k) ≠ epoch.toNat) →
        Gives (.returnEpochCheck p k epoch) m
          (swardArea p) fun n =>
            (n.on (swd p) SWD_RSTSTAT.EP_MISM = true) ∧
            (n.get (swd p) SWD_RSTSTAT.MISM_CNT = min (2 ^ SWD_RSTSTAT.MISM_CNT.wid - 1) (m.get (swd p) SWD_RSTSTAT.MISM_CNT + 1)) ∧
            (n.get (swd p) (SWD_UEPOCH.EPOCH k) = epoch.toNat) ∧
            ((n.sward p).returning.contains k.val = false)) ∧
  -- RETURN_EPOCH_CHECK: no epoch to compare
  (∀ (m : Wafer) (p : Fin 64) (k : Fin 72) (epoch : BitVec 16),
      ((m.sward p).returning.contains k.val = true) →
      (m.on (swd p) (SWD_UEPOCH.VALID k) = false ∨ m.on (swd p) (SWD_UEPOCH.RST_SEEN k) = true) →
        Gives (.returnEpochCheck p k epoch) m
          (swardArea p) fun n =>
            (n.get (swd p) SWD_RSTSTAT.MISM_CNT = m.get (swd p) SWD_RSTSTAT.MISM_CNT) ∧
            (n.on (swd p) (SWD_UEPOCH.VALID k) = true) ∧
            (n.on (swd p) (SWD_UEPOCH.RST_SEEN k) = false) ∧
            (n.get (swd p) (SWD_UEPOCH.EPOCH k) = epoch.toNat) ∧
            ((n.sward p).returning.contains k.val = false))

/-- A passed step lowers the walk by one code while its span and floor allow, and else ends it; a step that does not settle ends the walk; the end writes the result with the last passing code; a FULL walk whose rung is not reached goes to CHECK. The model's own readings in it: log 27. (R241, R250) -/
def Obligations.LadderWalks : Prop :=
  -- WALK_STEP_PASS
  (∀ (m : Wafer) (p : Fin 64) (w : Walk) (d : Nat),
      ((m.sward p).walk = some w) →
      (w.dwelt = some d) →
      (max 1 (m.get (swd p) SWD_LDCTL.DWELL) ≤ d) →
      (m.on (swd p) SWD_LDSTAT.FULL_BUSY = true ∨ w.k + 1 ≤ max 1 (m.get (swd p) SWD_LDCTL.SPAN)) →
      (200 + (w.k + 1) ≤ w.base) →
        Gives (.walkStepPass p) m
          (swardArea p) fun n =>
            ((n.sward p).walk = some { w with ok := w.base - w.k, k := w.k + 1, applied := (m.sward p).frame + 2, dwelt := none }) ∧
            (n.on (swd p) SWD_LDSTAT.WALKING = true)) ∧
  -- WALK_STEP_PASS: the next step lies beyond the span, or below the least code
  (∀ (m : Wafer) (p : Fin 64) (w : Walk) (d : Nat),
      ((m.sward p).walk = some w) →
      (w.dwelt = some d) →
      (max 1 (m.get (swd p) SWD_LDCTL.DWELL) ≤ d) →
      ((m.on (swd p) SWD_LDSTAT.FULL_BUSY = false ∧ max 1 (m.get (swd p) SWD_LDCTL.SPAN) < w.k + 1) ∨ w.base < 200 + (w.k + 1)) →
        Gives (.walkStepPass p) m
          (swardArea p) fun n =>
            ((n.sward p).walk = none) ∧
            (n.on (swd p) SWD_LDSTAT.WALKING = false) ∧
            (n.get (swd p) SWD_LDRES.VMIN = (w.base - w.k) % 2 ^ SWD_LDRES.VMIN.wid) ∧
            (n.on (swd p) SWD_LDRES.FLOOR = (m.on (swd p) SWD_LDSTAT.FULL_BUSY || decide (w.k + 1 ≤ max 1 (m.get (swd p) SWD_LDCTL.SPAN)))) ∧
            (n.get (swd p) SWD_LDCNT.WALKS = (m.get (swd p) SWD_LDCNT.WALKS + 1) % 2 ^ SWD_LDCNT.WALKS.wid)) ∧
  -- WALK_SETTLE_FAIL
  (∀ (m : Wafer) (p : Fin 64) (w : Walk),
      ((m.sward p).walk = some w) →
      (w.dwelt = none) →
      (w.applied + settleMax p m + 1 ≤ (m.sward p).frame) →
        Gives (.walkSettleFail p) m
          (swardArea p) fun n =>
            ((n.sward p).walk = none) ∧
            (n.on (swd p) SWD_LDSTAT.WALKING = false) ∧
            (n.get (swd p) SWD_LDRES.VMIN = w.ok % 2 ^ SWD_LDRES.VMIN.wid) ∧
            (n.get (swd p) SWD_LDCNT.WALKS = (m.get (swd p) SWD_LDCNT.WALKS + 1) % 2 ^ SWD_LDCNT.WALKS.wid)) ∧
  -- FULL_RUNG_TIMEOUT
  (∀ (m : Wafer) (p : Fin 64) (f : Nat),
      ((m.sward p).fullSince = some f) →
      (m.on (swd p) SWD_LDSTAT.FULL_BUSY = true) →
      ((m.sward p).fullEnd = false) →
      (f + 1024 ≤ (m.sward p).frame) →
        Gives (.fullRungTimeout p) m
          (swardArea p) fun n =>
            (shadow p n = shCHECK) ∧
            ((n.sward p).walk = none) ∧
            ((n.sward p).fullEnd = true) ∧
            ((n.sward p).fullSince = none))

/-- A shadow entry is written in FW only, its reserved bits apart; a shadow bank with an entry out of range, a CRC that differs or codes that fall is not swapped; COPY makes the banks equal; SWAP, RESYNC, FW_OPEN and FULL act in the states that Table 7.2 gives them and are rejected in the others; WALK_REQ and KA_FAIL name a Tussock. (R19, R234, R244, R246, R249, R250, R263) -/
def Obligations.LadderBanks : Prop :=
  -- LADDER_SHADOW_WRITE: outside FW it is rejected
  (∀ (m : Wafer) (p : Fin 64) (t : Fin 64) (i : Fin 16) (data : Word),
      (shadow p m ≠ shFW) →
        Gives (.ladderShadowWrite p t i data) m
          ({ fields := [(swd p, SWD_LDSTAT.WR_REJ)] }) fun n =>
            n.on (swd p) SWD_LDSTAT.WR_REJ = true) ∧
  -- LADDER_SHADOW_WRITE: in FW
  (∀ (m : Wafer) (p : Fin 64) (t : Fin 64) (i : Fin 16) (data : Word),
      (shadow p m = shFW) →
        Gives (.ladderShadowWrite p t i data) m
          ({ blocks := [(swd p + 0x3000 + 0x40 * t.val + 4 * i.val, 4)] }) fun n =>
            (∀ j : Fin 2, vcode (ladderEntry p 0x3000 t (2 * i.val + j) n) = data.toNat / 2 ^ (16 * j.val) % 2 ^ 9 ∧ ladderEntry p 0x3000 t (2 * i.val + j) n / 2 ^ 15 = data.toNat / 2 ^ (16 * j.val + 15) % 2 ∧ ladderEntry p 0x3000 t (2 * i.val + j) n / 2 ^ 9 % 2 ^ 6 = ladderEntry p 0x3000 t (2 * i.val + j) m / 2 ^ 9 % 2 ^ 6)) ∧
  -- LADDER_CHECK_DONE: an entry out of range, or with a reserved bit set, fails the bank
  (∀ (m : Wafer) (p : Fin 64) (t : Fin 64) (r : Fin 32),
      (shadow p m = shCHECK) →
      (vcode (ladderEntry p 0x3000 t r m) < 200 ∨ 360 < vcode (ladderEntry p 0x3000 t r m) ∨ ladderEntry p 0x3000 t r m / 2 ^ 9 % 2 ^ 6 ≠ 0) →
        Gives (.ladderCheckDone p) m
          (swardArea p) fun n =>
            (n.on (swd p) SWD_LDSTAT.RANGE_ERR = true) ∧
            (shadow p n = if (m.sward p).fromBuild then shCOPY else shFAIL) ∧
            ((m.sward p).fullEnd = true → n.on (swd p) SWD_LDSTAT.FULL_BUSY = false)) ∧
  -- LADDER_CHECK_DONE: codes that fall fail the bank
  (∀ (m : Wafer) (p : Fin 64) (t : Fin 64) (r : Fin 31),
      (shadow p m = shCHECK) →
      (vcode (ladderEntry p 0x3000 t (r.val + 1) m) < vcode (ladderEntry p 0x3000 t r m)) →
        Gives (.ladderCheckDone p) m
          (swardArea p) fun n =>
            (n.on (swd p) SWD_LDSTAT.MONO_ERR = true) ∧
            (shadow p n = if (m.sward p).fromBuild then shCOPY else shFAIL)) ∧
  -- LADDER_CHECK_DONE: a CRC that differs fails the bank
  (∀ (m : Wafer) (p : Fin 64),
      (shadow p m = shCHECK) →
      (bankCrc p 0x3000 m ≠ m.get (swd p) SWD_LDSHCRC.SH_CRC) →
        Gives (.ladderCheckDone p) m
          (swardArea p) fun n =>
            (n.on (swd p) SWD_LDSTAT.CRC_ERR = true) ∧
            (shadow p n = if (m.sward p).fromBuild then shCOPY else shFAIL)) ∧
  -- LADDER_CHECK_DONE: a bank with the expected CRC, in range and rising, waits for its swap
  (∀ (m : Wafer) (p : Fin 64),
      (shadow p m = shCHECK) →
      (bankCrc p 0x3000 m = m.get (swd p) SWD_LDSHCRC.SH_CRC) →
      (∀ (t : Fin 64) (r : Fin 32), 200 ≤ vcode (ladderEntry p 0x3000 t r m) ∧ vcode (ladderEntry p 0x3000 t r m) ≤ 360 ∧ ladderEntry p 0x3000 t r m / 2 ^ 9 % 2 ^ 6 = 0) →
      (∀ (t : Fin 64) (r : Fin 31), vcode (ladderEntry p 0x3000 t r m) ≤ vcode (ladderEntry p 0x3000 t (r + 1) m)) →
        Gives (.ladderCheckDone p) m
          ({ fields := [(swd p, SWD_LDSTAT.SH_STATE)] }) fun n =>
            shadow p n = shPEND) ∧
  -- LADDER_COPY_DONE
  (∀ (m : Wafer) (p : Fin 64),
      (shadow p m = shCOPY) →
        Gives (.ladderCopyDone p) m
          ({ fields := [(swd p, SWD_LDSTAT.SH_STATE), (swd p, SWD_LDSHCRC.SH_CRC)], blocks := [(swd p + 0x3000, 0x1000)] }) fun n =>
            (shadow p n = shSYNCED) ∧
            (∀ (t : Fin 64) (r : Fin 32), ladderEntry p 0x3000 t r n = ladderEntry p 0x2000 t r m) ∧
            (n.get (swd p) SWD_LDSHCRC.SH_CRC = m.get (swd p) SWD_LDCRC.CRC)) ∧
  -- SWAP
  (∀ (m : Wafer) (p : Fin 64),
      (m.on (swd p) SWD_LDSTAT.FULL_BUSY = false) →
      (shadow p m = shBUILD ∨ shadow p m = shFW) →
        Gives (.swap p) m
          ({ fields := [(swd p, SWD_LDSTAT.SH_STATE)], swards := (· == p.val) }) fun n =>
            (shadow p n = shCHECK) ∧
            ((n.sward p).fromBuild = (shadow p m == shBUILD))) ∧
  -- SWAP: rejected
  (∀ (m : Wafer) (p : Fin 64),
      (m.on (swd p) SWD_LDSTAT.FULL_BUSY = true ∨ (shadow p m ≠ shBUILD ∧ shadow p m ≠ shFW)) →
        Gives (.swap p) m
          ({ fields := [(swd p, SWD_LDSTAT.CMD_REJ)] }) fun n =>
            n.on (swd p) SWD_LDSTAT.CMD_REJ = true) ∧
  -- RESYNC
  (∀ (m : Wafer) (p : Fin 64),
      (m.on (swd p) SWD_LDSTAT.FULL_BUSY = false) →
      (shadow p m = shBUILD ∨ shadow p m = shFW ∨ shadow p m = shFAIL) →
        Gives (.resync p) m
          (swardArea p) fun n =>
            (shadow p n = shCOPY) ∧
            ((n.sward p).walk = none)) ∧
  -- FW_OPEN
  (∀ (m : Wafer) (p : Fin 64),
      (m.on (swd p) SWD_LDSTAT.FULL_BUSY = false) →
      (shadow p m = shSYNCED ∨ shadow p m = shBUILD) →
        Gives (.fwOpen p) m
          (swardArea p) fun n =>
            (shadow p n = shFW) ∧
            ((n.sward p).walk = none)) ∧
  -- FULL
  (∀ (m : Wafer) (p : Fin 64),
      (m.on (swd p) SWD_LDSTAT.FULL_BUSY = false) →
      (shadow p m = shSYNCED) →
      ((m.sward p).walk = none) →
        Gives (.full p) m
          ({ fields := [(swd p, SWD_LDSTAT.FULL_BUSY)], swards := (· == p.val) }) fun n =>
            (n.on (swd p) SWD_LDSTAT.FULL_BUSY = true) ∧
            ((n.sward p).fullRung = 0) ∧
            ((n.sward p).fullDone = []) ∧
            ((n.sward p).fullSince = some (m.sward p).frame) ∧
            ((n.sward p).fullEnd = false)) ∧
  -- FULL: rejected
  (∀ (m : Wafer) (p : Fin 64),
      (m.on (swd p) SWD_LDSTAT.FULL_BUSY = true ∨ shadow p m ≠ shSYNCED ∨ (m.sward p).walk ≠ none) →
        Gives (.full p) m
          ({ fields := [(swd p, SWD_LDSTAT.CMD_REJ)] }) fun n =>
            n.on (swd p) SWD_LDSTAT.CMD_REJ = true) ∧
  -- RESYNC: rejected
  (∀ (m : Wafer) (p : Fin 64),
      (m.on (swd p) SWD_LDSTAT.FULL_BUSY = true ∨ (shadow p m ≠ shBUILD ∧ shadow p m ≠ shFW ∧ shadow p m ≠ shFAIL)) →
        Gives (.resync p) m
          ({ fields := [(swd p, SWD_LDSTAT.CMD_REJ)] }) fun n =>
            n.on (swd p) SWD_LDSTAT.CMD_REJ = true) ∧
  -- FW_OPEN: rejected
  (∀ (m : Wafer) (p : Fin 64),
      (m.on (swd p) SWD_LDSTAT.FULL_BUSY = true ∨ (shadow p m ≠ shSYNCED ∧ shadow p m ≠ shBUILD)) →
        Gives (.fwOpen p) m
          ({ fields := [(swd p, SWD_LDSTAT.CMD_REJ)] }) fun n =>
            n.on (swd p) SWD_LDSTAT.CMD_REJ = true) ∧
  -- WALK_REQ
  (∀ (m : Wafer) (p : Fin 64) (t : Fin 64),
        Gives (.walkReq p t) m
          ({ swards := (· == p.val) }) fun n =>
            (n.sward p).walkPrio = (if (m.sward p).walkPrio.contains t.val = true then (m.sward p).walkPrio else (m.sward p).walkPrio ++ [t.val])) ∧
  -- KA_FAIL
  (∀ (m : Wafer) (p : Fin 64) (t : Fin 64),
        Gives (.kaFail p t) m
          ({ swards := (· == p.val) }) fun n =>
            (n.sward p).kaFail = t.val :: (m.sward p).kaFail)

/-- A raise that does not settle is cancelled and blocks raises for 1024 frames; a change of the pace mode is broadcast to the live Swards and applied at their boundary; the stretch window ends at each multiple of 819,200 ticks, is recorded and begins anew. The model's own readings in it: logs 22, 26 and 28. (R239, R254, R256, R257) -/
def Obligations.RungAndPace : Prop :=
  -- SETTLE_TIMEOUT
  (∀ (m : Wafer) (p : Fin 64),
      (m.get (swd p) SWD_RUNGSTAT.SEQ = 1) →
      ((m.sward p).raiseA + settleMax p m + 1 ≤ (m.sward p).frame) →
        Gives (.settleTimeout p) m
          (swardArea p) fun n =>
            (n.get (swd p) SWD_RUNGSTAT.SEQ = 0) ∧
            (n.on (swd p) SWD_LDSTAT.SETTLE_TO = true) ∧
            ((n.sward p).raiseBlock = some ((m.sward p).frame + 1024)) ∧
            ((n.sward p).rungVolt = (m.sward p).rungNext)) ∧
  -- RAISE_BLOCK_EXPIRE
  (∀ (m : Wafer) (p : Fin 64) (f : Nat),
      ((m.sward p).raiseBlock = some f) →
      (f ≤ (m.sward p).frame) →
        Gives (.raiseBlockExpire p) m
          ({ swards := (· == p.val) }) fun n =>
            (n.sward p).raiseBlock = none) ∧
  -- PACE_MODE_WRITE
  (∀ (m : Wafer) (mode : Bool),
      (m.on 0 HTH_PACECTL.MODE ≠ mode) →
        Gives (.paceModeWrite mode) m
          ({ fields := [(0, HTH_PACECTL.MODE)], swards := fun _ => true, sends := true }) fun n =>
            (n.on 0 HTH_PACECTL.MODE = mode) ∧
            (∀ p ∈ liveParts m, (m.sward p).rst = false → (n.sward p).paceNext = some mode)) ∧
  -- PACE_MODE_WRITE: the mode as it stands
  (∀ (m : Wafer) (mode : Bool),
      (m.on 0 HTH_PACECTL.MODE = mode) →
        Gives (.paceModeWrite mode) m
          ({}) fun n =>
            n.on 0 HTH_PACECTL.MODE = mode) ∧
  -- PACE_MODE_APPLY
  (∀ (m : Wafer) (p : Fin 64) (on : Bool),
      ((m.sward p).paceNext = some on) →
        Gives (.paceModeApply p) m
          ({ fields := [(swd p, SWD_RUNGSTAT.PACE), (0, HTH_PACESTAT.ON)], swards := (· == p.val), heath := true }) fun n =>
            (n.on (swd p) SWD_RUNGSTAT.PACE = on) ∧
            ((n.sward p).paceNext = none) ∧
            (n.heath.paceOn.contains p.val = on) ∧
            (∀ t : Fin 64, (((n.sward p).own t).getLast?.map fun a => (a.off, a.data.getLsbD 28, a.read)) = some (0x500, on, false))) ∧
  -- CANARY_STRETCH_WINDOW_END
  (∀ (m : Wafer) (g : Fin 4096) (w ticks : Nat),
      (w % 819200 = 0) →
      ((m.unit (.tussock g)).strWindow < w / 819200) →
      (ticks = (m.unit (.tussock g)).strTicks + (if m.on (tus g) TSK_STR.ACT = true then w - (m.unit (.tussock g)).strSince else 0)) →
        Gives (.canaryStretchWindowEnd g w) m
          ({ fields := [(tus g, TSK_PACE.STR_LAST), (tus g, TSK_CANARY.STR_L)], units := (· == .tussock g), time := true }) fun n =>
            (n.get (tus g) TSK_PACE.STR_LAST = min 2047 (ticks / 800)) ∧
            ((n.unit (.tussock g)).strTicks = 0) ∧
            (m.on (tus g) TSK_STR.ACT = true → (n.unit (.tussock g)).strSince = w ∧ (n.unit (.tussock g)).strRise = (m.unit (.tussock g)).strRise) ∧
            (m.on (tus g) TSK_CANARY.STR_EN = true → 800 * m.get (tus g) TSK_PACE.STR_LIM < ticks → n.on (tus g) TSK_CANARY.STR_L = true ∧ (n.unit (.tussock g)).canaryFrame = true)) ∧
  -- CANARY_STRETCH_WINDOW_END: at another time, or a second time in the window
  (∀ (m : Wafer) (g : Fin 4096) (w : Nat),
      (w % 819200 ≠ 0 ∨ w / 819200 ≤ (m.unit (.tussock g)).strWindow) →
        Gives (.canaryStretchWindowEnd g w) m
          ({ time := true }) fun n =>
            n.wtime = max m.wtime w)

/-- A report is acted on once and counted with its subsequent events; one of severity 2 or more sets its pending bit; its acknowledgement takes it from its Sward's queue, and until then it is sent again. The model's own readings in it: logs 32, 69. (R389, R393, R399) -/
def Obligations.FaultReports : Prop :=
  -- FAULT_REPORT_RECEIVE
  (∀ (m : Wafer) (sender : Fin 65) (seq : BitVec 16) (code : Fin 64) (unit dataA dataB : Word) (time : BitVec 64) (sub : BitVec 16) (injected : Bool) (w : Nat),
      (m.heath.active = true) →
      (m.heath.fault.seen.contains (sender.val, seq.toNat) = false) →
      (m.heath.dups.contains (64 + m.heath.activeId) = false) →
        Gives (.faultReportReceive sender seq code unit dataA dataB time sub injected w) m
          ({ heathArea with time := true }) fun n =>
            (n.heath.fault.seen = (sender.val, seq.toNat) :: m.heath.fault.seen) ∧
            (n.get 0 (HTH_FCNT.COUNT code) = min (2 ^ (HTH_FCNT.COUNT code).wid - 1) (m.get 0 (HTH_FCNT.COUNT code) + (1 + sub.toNat))) ∧
            (2 ≤ m.get 0 (HTH_FSEV.SEV code) → pending code n = true) ∧
            (3 ≤ m.get 0 (HTH_FSEV.SEV code) → m.get 0 (HTH_FSEV.SEV code) = 4 → n.on 0 HTH_FSTAT.PTRIP = true) ∧
            (m.get 0 (HTH_FSEV.SEV code) = 5 → n.on 0 HTH_FSTAT.WTRIP = true)) ∧
  -- FAULT_REPORT_RECEIVE: a report already acted on changes nothing
  (∀ (m : Wafer) (sender : Fin 65) (seq : BitVec 16) (code : Fin 64) (unit dataA dataB : Word) (time : BitVec 64) (sub : BitVec 16) (injected : Bool) (w : Nat),
      (m.heath.fault.seen.contains (sender.val, seq.toNat) = true) →
      (m.heath.dups.contains (64 + m.heath.activeId) = false) →
        Gives (.faultReportReceive sender seq code unit dataA dataB time sub injected w) m
          ({ time := true }) fun n =>
            n.wtime = max m.wtime w) ∧
  -- FAULT_REPORT_ACK
  (∀ (m : Wafer) (p : Fin 64) (seq : BitVec 16),
      (m.heath.fault.seen.contains (p.val, seq.toNat) = true) →
      ((m.sward p).passedBy = false) →
      (m.heath.dups.contains p.val = false) →
      (m.heath.active = true) →
      (mirrors m = false ∨ m.heath.mirror.fault.seen.contains (p.val, seq.toNat) = true) →
        Gives (.faultReportAck p seq) m
          ({ heath := true, swards := (· == p.val), sends := true }) fun n =>
            (n.heath.fault.seen.contains (p.val, seq.toNat) = false) ∧
            ((n.sward p).reports = (m.sward p).reports.filter fun r => r.seq != seq.toNat) ∧
            (n.out = ⟨.reportAck, p, [seq.toNat]⟩ :: m.out)) ∧
  -- FAULT_REPORT_ACK: the standby has not acknowledged it
  (∀ (m : Wafer) (p : Fin 64) (seq : BitVec 16),
      (m.on 0 HTH_HBSTAT.STBY_OK = true) →
      (m.heath.mirror.fault.seen.contains (p.val, seq.toNat) = false) →
      ((m.sward p).passedBy = false) →
      (m.heath.dups.contains p.val = false) →
        Gives (.faultReportAck p seq) m
          ({ swards := (· == p.val) }) fun n =>
            ((n.sward p).reports = (m.sward p).reports) ∧
            (n.heath.fault.seen = m.heath.fault.seen)) ∧
  -- FAULT_REPORT_RESEND
  (∀ (m : Wafer) (p : Fin 64) (seq : BitVec 16) (r : Report) (rest : List Report),
      ((m.sward p).reports = r :: rest) →
      (r.seq = seq.toNat) →
        Gives (.faultReportResend p seq) m
          ({ fields := [(swd p, SWD_FSTAT.RESENDS)], sends := true }) fun n =>
            (n.get (swd p) SWD_FSTAT.RESENDS = min (2 ^ SWD_FSTAT.RESENDS.wid - 1) (m.get (swd p) SWD_FSTAT.RESENDS + 1)) ∧
            (n.out = ⟨.report, p, [r.seq, r.event.code, r.event.unit, r.event.dataA, r.event.dataB, r.event.time, r.subsequent]⟩ :: m.out))

/-- ACK clears the pending bit, the grace timer and the episode of its source alone, ALL those of every source; a grace timer that expires escalates; FEC_CLEAR empties the first-error capture; FL_TRIP is released. (R398, R400, R403, R405) -/
def Obligations.FaultAcknowledge : Prop :=
  -- ACK
  (∀ (m : Wafer) (c : Fin 64),
        Gives (.ack c) m
          ({ fields := [(0, HTH_FPEND_LO.PEND), (0, HTH_FPEND_HI.PEND), (0, HTH_FGRACE_LO.GRACE), (0, HTH_FGRACE_HI.GRACE), (0, HTH_FCONT_LO.CONT), (0, HTH_FCONT_HI.CONT)], heath := true }) fun n =>
            (pending c n = false) ∧
            (∀ d : Fin 64, d ≠ c → pending d n = pending d m ∧ n.source d = m.source d) ∧
            (n.source c = {}) ∧
            (pairBit HTH_FGRACE_LO.GRACE HTH_FGRACE_HI.GRACE c n = false)) ∧
  -- ALL
  (∀ (m : Wafer),
        Gives (.all) m
          ({ fields := [(0, HTH_FPEND_LO.PEND), (0, HTH_FPEND_HI.PEND), (0, HTH_FGRACE_LO.GRACE), (0, HTH_FGRACE_HI.GRACE), (0, HTH_FCONT_LO.CONT), (0, HTH_FCONT_HI.CONT)], heath := true }) fun n =>
            ∀ c : Fin 64, pending c n = false ∧ n.source c = {}) ∧
  -- GRACE_TIMER_EXPIRE
  (∀ (m : Wafer) (c : Fin 64) (ep : Episode) (t w : Nat),
      ((m.source c).episode = some ep) →
      (ep.expiry = some t) →
      (t ≤ w) →
      (m.heath.active = true) →
        Gives (.graceTimerExpire c w) m
          ({ heathArea with time := true }) fun n =>
            (ep.esc = 3 → ∀ q ∈ ep.parts, q < 64 → contained q n = true) ∧
            (ep.esc = 4 → n.on 0 HTH_FSTAT.PTRIP = true) ∧
            (ep.esc = 5 → n.on 0 HTH_FSTAT.WTRIP = true) ∧
            (pairBit HTH_FESC_LO.ESC HTH_FESC_HI.ESC c n = true) ∧
            (pairBit HTH_FGRACE_LO.GRACE HTH_FGRACE_HI.GRACE c n = false) ∧
            (pending c n = true)) ∧
  -- FEC_CLEAR
  (∀ (m : Wafer),
        Gives (.fecClear) m
          ({ blocks := [(0x20030, 20)] }) fun n =>
            (n.on 0 HTH_FEC_INFO.VALID = false) ∧
            (∀ i : Fin 5, n.word (0x20030 + 4 * i.val) = 0)) ∧
  -- FL_TRIP_RELEASE
  (∀ (m : Wafer),
        Gives (.flTripRelease) m
          ({ heath := true }) fun n =>
            n.heath.fault.flTrip = false)

/-- The writer moves the oldest FIFO entry into the ring with its CRC and moves WP on, and in a full ring keeps only the newest; RP only moves forward and not past WP; CLR empties the last-fault records; an injected event counts only with the test mode on. The model's own readings in it: log 33. (R407, R408, R409, R413, R414) -/
def Obligations.FaultRecords : Prop :=
  -- FAULT_RECORD_WRITE: the ring has room for more than one
  (∀ (m : Wafer) (x : FifoEntry) (rest : List FifoEntry),
      (m.heath.fault.fifo = x :: rest) →
      ((m.get 0 HTH_FRING_WP.WP + 2 ^ 32 - m.get 0 HTH_FRING_RP.RP) % 2 ^ 32 < 1022) →
        Gives (.faultRecordWrite) m
          ({ fields := [(0, HTH_FRING_WP.WP), (0, HTH_FSUB.SUBSEQ x.event.code), (0, HTH_FTRC.DROP)], blocks := [(0x800000, 0x8000)], heath := true }) fun n =>
            (n.heath.fault.fifo = rest) ∧
            (n.get 0 HTH_FRING_WP.WP = (m.get 0 HTH_FRING_WP.WP + 1) % 2 ^ 32) ∧
            (∀ i : Fin 8, n.word (0x800000 + 0x20 * (m.get 0 HTH_FRING_WP.WP % 1024) + 4 * i.val) = BitVec.ofNat 32 ((withCrc (recordWords x (m.get 0 (HTH_FSUB.SUBSEQ x.event.code)) (m.get 0 HTH_FRING_WP.WP))).getD i 0))) ∧
  -- RING_RP_WRITE
  (∀ (m : Wafer) (data : Word),
      (m.get 0 HTH_FRING_RP.RP < data.toNat) →
      (data.toNat < m.get 0 HTH_FRING_RP.RP + 2 ^ 31) →
      (m.get 0 HTH_FRING_RP.RP < m.get 0 HTH_FRING_WP.WP) →
      (m.on 0 HTH_FRING_STAT.NEWEST = false) →
        Gives (.ringRpWrite data) m
          ({ fields := [(0, HTH_FRING_RP.RP), (0, HTH_FRING_STAT.FULL)] }) fun n =>
            n.get 0 HTH_FRING_RP.RP = min data.toNat (m.get 0 HTH_FRING_WP.WP)) ∧
  -- RING_RP_WRITE: the ring leaves the full state
  (∀ (m : Wafer) (data : Word),
      (ringAdvance data m ≠ 0) →
      (m.on 0 HTH_FRING_STAT.NEWEST = true) →
        Gives (.ringRpWrite data) m
          ({ fields := [(0, HTH_FRING_RP.RP), (0, HTH_FRING_WP.WP), (0, HTH_FRING_STAT.FULL), (0, HTH_FRING_STAT.NEWEST)] }) fun n =>
            (n.get 0 HTH_FRING_RP.RP = (m.get 0 HTH_FRING_RP.RP + ringAdvance data m) % 2 ^ 32) ∧
            (n.get 0 HTH_FRING_WP.WP = (m.get 0 HTH_FRING_WP.WP + 1) % 2 ^ 32) ∧
            (n.on 0 HTH_FRING_STAT.NEWEST = false)) ∧
  -- RING_RP_WRITE: a value not beyond RP is ignored
  (∀ (m : Wafer) (data : Word),
      (data.toNat ≤ m.get 0 HTH_FRING_RP.RP ∧ m.get 0 HTH_FRING_RP.RP ≤ data.toNat + 2 ^ 31 ∨ m.get 0 HTH_FRING_WP.WP = m.get 0 HTH_FRING_RP.RP) →
        Gives (.ringRpWrite data) m
          ({}) fun n =>
            n.get 0 HTH_FRING_RP.RP = m.get 0 HTH_FRING_RP.RP) ∧
  -- LAST_FAULT_CLEAR
  (∀ (m : Wafer),
        Gives (.lastFaultClear) m
          ({ blocks := [(0, 0x1000000)], heath := true }) fun n =>
            (n.get 0 HTH_LFCTL.NEXT = 0) ∧
            (n.get 0 HTH_LFCTL.TOTAL = 0) ∧
            (∀ i : Fin 256, n.word (0x21000 + 4 * i.val) = 0)) ∧
  -- FAULT_INJECT: without the test mode
  (∀ (m : Wafer) (origin : Bool) (part src : Fin 64),
      (m.on 0 HTH_PINSTAT.TEST_ON = false) →
        Gives (.faultInject origin part src) m
          ({}) fun n =>
            n.get 0 (HTH_FCNT.COUNT src) = m.get 0 (HTH_FCNT.COUNT src)) ∧
  -- FAULT_INJECT: at the Heath
  (∀ (m : Wafer) (part src : Fin 64),
      (m.on 0 HTH_PINSTAT.TEST_ON = true) →
        Gives (.faultInject false part src) m
          (heathArea) fun n =>
            n.get 0 (HTH_FCNT.COUNT src) = min (2 ^ (HTH_FCNT.COUNT src).wid - 1) (m.get 0 (HTH_FCNT.COUNT src) + 1)) ∧
  -- FAULT_INJECT: at a Sward
  (∀ (m : Wafer) (part src : Fin 64),
      (m.on 0 HTH_PINSTAT.TEST_ON = true) →
      ((m.sward part).rst = false) →
      ((m.sward part).reports.length < 32) →
        Gives (.faultInject true part src) m
          ({ swards := (· == part.val), sends := true }) fun n =>
            (n.sward part).reports = (m.sward part).reports ++ [⟨(m.sward part).reportSeq, ⟨src, m.get 0 HTH_FINJ_UNIT.UNIT, m.get 0 HTH_FINJ_DA.DATA_A, m.get 0 HTH_FINJ_DB.DATA_B, m.wtime, true⟩, Store.get zeroNat (m.sward part).uncounted src, true⟩]) ∧
  -- FAULT_INJECT: at a Sward whose queue is full
  (∀ (m : Wafer) (part src : Fin 64),
      (m.on 0 HTH_PINSTAT.TEST_ON = true) →
      ((m.sward part).rst = false) →
      (32 ≤ (m.sward part).reports.length) →
        Gives (.faultInject true part src) m
          ({ swards := (· == part.val) }) fun n =>
            ((n.sward part).reports = (m.sward part).reports) ∧
            (Store.get zeroNat (n.sward part).uncounted src = Store.get zeroNat (m.sward part).uncounted src + 1)) ∧
  -- FAULT_RECORD_WRITE: the ring becomes full
  (∀ (m : Wafer) (x : FifoEntry) (rest : List FifoEntry),
      (m.heath.fault.fifo = x :: rest) →
      ((m.get 0 HTH_FRING_WP.WP + 2 ^ 32 - m.get 0 HTH_FRING_RP.RP) % 2 ^ 32 = 1022) →
        Gives (.faultRecordWrite) m
          (heathArea) fun n =>
            (n.get 0 HTH_FRING_WP.WP = (m.get 0 HTH_FRING_WP.WP + 1) % 2 ^ 32) ∧
            (n.on 0 HTH_FRING_STAT.FULL = true) ∧
            (n.get 0 (HTH_FCNT.COUNT 62) = min (2 ^ (HTH_FCNT.COUNT 62).wid - 1) (m.get 0 (HTH_FCNT.COUNT 62) + 1))) ∧
  -- FAULT_RECORD_WRITE: in a full ring
  (∀ (m : Wafer) (x : FifoEntry) (rest : List FifoEntry),
      (m.heath.fault.fifo = x :: rest) →
      ((m.get 0 HTH_FRING_WP.WP + 2 ^ 32 - m.get 0 HTH_FRING_RP.RP) % 2 ^ 32 = 1023) →
        Gives (.faultRecordWrite) m
          ({ fields := [(0, HTH_FSUB.SUBSEQ x.event.code), (0, HTH_FTRC.DROP), (0, HTH_FRING_STAT.NEWEST), (0, HTH_FRING_STAT.DROP)], blocks := [(0x800000, 0x8000)], heath := true }) fun n =>
            (n.heath.fault.fifo = rest) ∧
            (n.on 0 HTH_FRING_STAT.NEWEST = true) ∧
            (n.get 0 HTH_FRING_STAT.DROP = (if m.on 0 HTH_FRING_STAT.NEWEST = true then min (2 ^ HTH_FRING_STAT.DROP.wid - 1) (m.get 0 HTH_FRING_STAT.DROP + 1) else m.get 0 HTH_FRING_STAT.DROP)) ∧
            (∀ i : Fin 8, n.word (0x800000 + 0x20 * (m.get 0 HTH_FRING_WP.WP % 1024) + 4 * i.val) = BitVec.ofNat 32 ((withCrc (recordWords x (m.get 0 (HTH_FSUB.SUBSEQ x.event.code)) (m.get 0 HTH_FRING_WP.WP))).getD i 0)))

/-- The requested cap is held at 5 kW or more and bounds the cap in force; a table that does not ascend is refused and flagged, a valid one is in force at once; with no inlet reading the lowest cap of the table applies. The model's own readings in it: log 29. (R264, R265, R266, R267) -/
def Obligations.CapInForce : Prop :=
  -- CAP_REQUEST_WRITE
  (∀ (m : Wafer) (cap : BitVec 16),
        Gives (.capRequestWrite cap) m
          ({ fields := [(0, HTH_CAPEFF.CAP_CLAMP), (0, HTH_CAPEFF.CAP_EFF), (0, HTH_CAPEFF.LIMIT_BY), (0, HTH_CMNGRANT.GRANT)], blocks := [(0x10000, 4)] }) fun n =>
            (n.get 0 HTH_CAPREQ.PMB_CAP = max 5000 cap.toNat) ∧
            (n.get 0 HTH_CAPEFF.CAP_EFF ≤ max 5000 cap.toNat) ∧
            (cap.toNat < 5000 → n.on 0 HTH_CAPEFF.CAP_CLAMP = true)) ∧
  -- DERATE_TABLE_WRITE: a table that does not ascend
  (∀ (m : Wafer) (k : Fin 8) (data : Word),
      (ascending (derateTable (plainWrite (0x10040 + 4 * k.val) data m)) = false) →
        Gives (.derateTableWrite k data) m
          ({ fields := [(0, HTH_CAPEFF.CAP_CLAMP), (0, HTH_DERSTAT.TBL_ERR)], blocks := [(0x10040 + 4 * k.val, 4)] }) fun n =>
            (n.on 0 HTH_DERSTAT.TBL_ERR = true) ∧
            (n.get 0 HTH_CAPEFF.CAP_EFF = m.get 0 HTH_CAPEFF.CAP_EFF)) ∧
  -- DERATE_TABLE_WRITE: a valid table
  (∀ (m : Wafer) (k : Fin 8) (data : Word),
      (ascending (derateTable (plainWrite (0x10040 + 4 * k.val) data m)) = true) →
        Gives (.derateTableWrite k data) m
          ({ blocks := [(0x10000, 0x10000)], heath := true }) fun n =>
            n.heath.derate = some (derateTable (plainWrite (0x10040 + 4 * k.val) data m))) ∧
  -- INLET_READING_TIMEOUT
  (∀ (m : Wafer),
        Gives (.inletReadingTimeout) m
          (heathArea) fun n =>
            (n.heath.inlet = none) ∧
            (n.on 0 HTH_DERSTAT.DER_FAIL = true) ∧
            (n.get 0 (HTH_FCNT.COUNT 47) = min (2 ^ 32 - 1) (m.get 0 (HTH_FCNT.COUNT 47) + 1)))

/-- A link's width is taken once it has stood for 1 µs and passed at the end of the training window, TRAIN_MS after it opened; each live Sward is sent its lease with the next sequence number; a Sward accepts a fresh lease in its time and falls back to its floor when the lease expires. The model's own readings in it: logs 34, 69. (R78, R271, R272, R273, R274, R308, R337) -/
def Obligations.LinksAndLeases : Prop :=
  -- LNK_STAT_CHANGE
  (∀ (m : Wafer) (p : Fin 64) (k v : Fin 4) (w : Nat),
      (isEdge p = true) →
      (Store.get zeroNat (m.sward p).lnkRaw k ≠ v.val) →
        Gives (.lnkStatChange p k v w) m
          ({ swards := (· == p.val), time := true }) fun n =>
            (Store.get zeroNat (n.sward p).lnkRaw k = v) ∧
            (Store.get noNat (n.sward p).lnkSince k = some w)) ∧
  -- LNK_STAT_TAKE
  (∀ (m : Wafer) (p : Fin 64) (k : Fin 4) (s w : Nat),
      (Store.get noNat (m.sward p).lnkSince k = some s) →
      (s + 800 ≤ w) →
      ((m.sward p).rst = false) →
      (Store.get zeroNat (m.sward p).lnkRaw k < 4) →
      (Store.get zeroNat (m.sward p).lnkRaw k ≠ m.get (swd p) (lnkField k)) →
        Gives (.lnkStatTake p k w) m
          ({ swardArea p with heath := true, time := true }) fun n =>
            (n.get (swd p) (lnkField k) = Store.get zeroNat (m.sward p).lnkRaw k) ∧
            (Store.get noNat (n.sward p).lnkSince k = none)) ∧
  -- TRAIN_WINDOW_END
  (∀ (m : Wafer) (p : Fin 64),
      (m.on (swd p) SWD_DOMSTAT.TRAIN = true) →
        Gives (.trainWindowEnd p) m
          ({ swardArea p with heath := true, time := true }) fun n =>
            (n.on (swd p) SWD_DOMSTAT.TRAIN = false) ∧
            (∀ k : Fin 4, (n.sward p).lnkPassed.contains k.val = true) ∧
            (n.wtime = max m.wtime (800 * (m.sward p).trainAt + 800000 * max 1 (m.get (swd p) SWD_DOMCFG.TRAIN_MS)))) ∧
  -- LEASE_PERIOD
  (∀ (m : Wafer) (w : Nat),
      (m.heath.active = true) →
      (9 ≤ m.heath.bringUp) →
        Gives (.leasePeriod w) m
          ({ heathArea with time := true }) fun n =>
            (∀ p ∈ liveParts m, n.get 0 (HTH_PLEASE.LEASE p) = (leaseOf (leaseTerms m) p m).1 % 2 ^ 32 ∧ Store.get zeroNat n.heath.leaseSeq p = (Store.get zeroNat m.heath.leaseSeq p + 1) % 2 ^ 16) ∧
            (∀ p : Fin 64, partLive p m = false → n.get 0 (HTH_PLEASE.LEASE p) = m.get 0 (HTH_PLEASE.LEASE p))) ∧
  -- LEASE_RECEIVE: accepted
  (∀ (m : Wafer) (p : Fin 64) (seq : BitVec 16) (issue : Word) (dur : BitVec 8) (budget floor : Word) (w : Nat),
      ((m.sward p).rst = false) →
      (dur ≠ 0) →
      (m.on (swd p) SWD_LEASE.FIRST = false ∨ newer16 seq.toNat (m.get (swd p) SWD_LEASE.SEQ) = true) →
      (((max m.wtime w : Nat) : Int) < extendIssue (max m.wtime w) issue.toNat + 800000 * (dur.toNat : Int)) →
      ((m.sward p).passedBy = false) →
      (m.heath.dups.contains p.val = false) →
        Gives (.leaseReceive p seq issue dur budget floor w) m
          ({ fields := [(0, HTH_UNREACH_LO.UNREACH), (0, HTH_UNREACH_HI.UNREACH)], blocks := [(swd p, 0x40000)], swards := (· == p.val), heath := true, sends := true, time := true }) fun n =>
            ((n.sward p).leasePend = some ⟨seq.toNat, dur.toNat, (extendIssue (max m.wtime w) issue.toNat).toNat, budget.toNat, floor.toNat⟩) ∧
            (n.on (swd p) SWD_LEASE.FIRST = true) ∧
            (n.get (swd p) SWD_LBUD.BUDGET = m.get (swd p) SWD_LBUD.BUDGET) ∧
            (Store.get zeroNat n.heath.leaseGot p = budget.toNat) ∧
            (pairBit HTH_UNREACH_LO.UNREACH HTH_UNREACH_HI.UNREACH p n = false)) ∧
  -- LEASE_RECEIVE: rejected
  (∀ (m : Wafer) (p : Fin 64) (seq : BitVec 16) (issue : Word) (dur : BitVec 8) (budget floor : Word) (w : Nat),
      ((m.sward p).rst = false) →
      (dur = 0 ∨ (m.on (swd p) SWD_LEASE.FIRST = true ∧ newer16 seq.toNat (m.get (swd p) SWD_LEASE.SEQ) = false) ∨ extendIssue (max m.wtime w) issue.toNat + 800000 * (dur.toNat : Int) ≤ ((max m.wtime w : Nat) : Int)) →
      ((m.sward p).passedBy = false) →
      (m.heath.dups.contains p.val = false) →
        Gives (.leaseReceive p seq issue dur budget floor w) m
          ({ fields := [(0, HTH_UNREACH_LO.UNREACH), (0, HTH_UNREACH_HI.UNREACH)], blocks := [(swd p, 0x40000)], swards := (· == p.val), heath := true, sends := true, time := true }) fun n =>
            ((n.sward p).leasePend = (m.sward p).leasePend) ∧
            (n.on (swd p) SWD_LEASE.LEASE_REJ = true)) ∧
  -- LEASE_RECEIVE: a Sward in reset, or one that is passed by
  (∀ (m : Wafer) (p : Fin 64) (seq : BitVec 16) (issue : Word) (dur : BitVec 8) (budget floor : Word) (w : Nat),
      ((m.sward p).rst = true ∨ (m.sward p).passedBy = true) →
      (m.heath.dups.contains p.val = false) →
        Gives (.leaseReceive p seq issue dur budget floor w) m
          ({ time := true }) fun n =>
            n.wtime = max m.wtime w) ∧
  -- LEASE_EXPIRE
  (∀ (m : Wafer) (p : Fin 64) (l : LeaseRec) (w : Nat),
      ((m.sward p).lease = some l) →
      (l.issue + 800000 * l.dur ≤ w) →
      ((m.sward p).leasePend = none) →
      (m.on (swd p) SWD_LEASE.EXPIRED = false) →
        Gives (.leaseExpire p w) m
          ({ swardArea p with time := true }) fun n =>
            (n.get (swd p) SWD_LBUD.BUDGET = m.get (swd p) SWD_LFLR.FLOOR) ∧
            (n.on (swd p) SWD_LEASE.EXPIRED = true) ∧
            (n.on (swd p) SWD_LEASE.LEASE_EXP = true))

/-- An open epoch with a result from every live partition closes on it and brakes when it lies over the cap, a result that lacks a live partition waits for the deadline, where the lease of each missing one is added and the epoch is partial, and a result after the close is late; a Sward counts a brake for its commit point and a release raises its limit by one rung. The model's own readings in it: logs 31, 69. (R279, R280, R281, R282, R283, R284) -/
def Obligations.EpochsAndBrakes : Prop :=
  -- REDUCTION_RESULT_RECEIVE
  (∀ (m : Wafer) (e : Nat) (power : Word) (mask : BitVec 64) (w : Nat),
      (m.heath.active = true) →
      (epochOpen e m = true) →
      (∀ p ∈ liveParts m, mask.toNat.testBit p = true) →
        Gives (.reductionResultReceive e power mask w) m
          ({ heathArea with time := true }) fun n =>
            (n.get 0 HTH_WSUM.SUM = power.toNat) ∧
            (n.get 0 HTH_WEST.EST = inputPower power.toNat m % 2 ^ 32) ∧
            (n.get 0 HTH_EPOCH.EPOCH = e % 2 ^ 32) ∧
            (n.heath.epochLast = some e) ∧
            (1000 * m.get 0 HTH_CAPEFF.CAP_EFF < inputPower power.toNat m → blanked e m = false → n.out.any (fun x => x == ⟨.brake, 64, [e]⟩) = true ∧ n.on 0 HTH_FASTSTAT.BRAKE_ACT = true ∧ n.heath.brakeEpoch = some e)) ∧
  -- REDUCTION_RESULT_RECEIVE: a live partition is missing
  (∀ (m : Wafer) (e : Nat) (power : Word) (mask : BitVec 64) (w : Nat) (p : Fin 64),
      (m.heath.active = true) →
      (epochOpen e m = true) →
      (partLive p m = true) →
      (mask.toNat.testBit p = false) →
        Gives (.reductionResultReceive e power mask w) m
          ({ heath := true, time := true }) fun n =>
            n.heath.epochGot = some (e, power.toNat, mask.toNat)) ∧
  -- REDUCTION_RESULT_RECEIVE: late
  (∀ (m : Wafer) (e f : Nat) (power : Word) (mask : BitVec 64) (w : Nat),
      (m.heath.active = true) →
      (m.heath.epochFrom = some f) →
      (f ≤ e) →
      (epochOpen e m = false) →
        Gives (.reductionResultReceive e power mask w) m
          ({ fields := [(0, HTH_FASTSTAT.LATE)], time := true }) fun n =>
            n.on 0 HTH_FASTSTAT.LATE = true) ∧
  -- EPOCH_DEADLINE: no result has come
  (∀ (m : Wafer) (e w : Nat),
      (m.heath.active = true) →
      (epochOpen e m = true) →
      (12800 * (e + 1) + 6400 ≤ w) →
      (m.heath.epochGot = none) →
        Gives (.epochDeadline e w) m
          ({ heathArea with time := true }) fun n =>
            (n.heath.epochLast = some e) ∧
            (n.get 0 HTH_WSUM.SUM = ((liveParts m).map fun p => m.get 0 (HTH_PLEASE.LEASE p)).sum % 2 ^ 32) ∧
            (n.on 0 HTH_FASTSTAT.PARTIAL_SUM = true) ∧
            (n.get 0 HTH_FASTCNT.PARTIALS = min (2 ^ HTH_FASTCNT.PARTIALS.wid - 1) (m.get 0 HTH_FASTCNT.PARTIALS + 1))) ∧
  -- EPOCH_DEADLINE: on a result that lacks a live partition
  (∀ (m : Wafer) (e s k w : Nat) (p : Fin 64),
      (m.heath.active = true) →
      (epochOpen e m = true) →
      (12800 * (e + 1) + 6400 ≤ w) →
      (m.heath.epochGot = some (e, s, k)) →
      (partLive p m = true) →
      (k.testBit p = false) →
        Gives (.epochDeadline e w) m
          ({ heathArea with time := true }) fun n =>
            (n.heath.epochLast = some e) ∧
            (n.get 0 HTH_WSUM.SUM = (s + (((liveParts m).filter fun i => !k.testBit i).map fun i => m.get 0 (HTH_PLEASE.LEASE i)).sum) % 2 ^ 32) ∧
            (n.on 0 HTH_FASTSTAT.PARTIAL_SUM = true)) ∧
  -- BRAKE_RECEIVE
  (∀ (m : Wafer) (p : Fin 64),
      ((m.sward p).rst = false) →
      ((m.sward p).passedBy = false) →
      (m.heath.dups.contains p.val = false) →
        Gives (.brakeReceive p) m
          (swardArea p) fun n =>
            (n.sward p).brakes = (m.sward p).brakes + 1) ∧
  -- RELEASE_RECEIVE
  (∀ (m : Wafer) (p : Fin 64),
      ((m.sward p).rst = false) →
      ((m.sward p).passedBy = false) →
      (m.heath.dups.contains p.val = false) →
        Gives (.releaseReceive p) m
          (swardArea p) fun n =>
            (n.get (swd p) SWD_BRAKE.BRK_LIM = min 31 (m.get (swd p) SWD_BRAKE.BRK_LIM + 1)) ∧
            (30 ≤ m.get (swd p) SWD_BRAKE.BRK_LIM → n.on (swd p) SWD_BRAKE.BRK_HELD = false)) ∧
  -- BRAKE_RECEIVE: the second copy of one message
  (∀ (m : Wafer) (p : Fin 64),
      ((m.sward p).passedBy = false) →
      (m.heath.dups.contains p.val = true) →
        Gives (.brakeReceive p) m
          ({ heath := true }) fun n =>
            ((n.sward p).brakes = (m.sward p).brakes) ∧
            (n.heath.dups.contains p.val = false)) ∧
  -- BRAKE_HELD_REPORT
  (∀ (m : Wafer) (p : Fin 64) (held : Bool),
      (m.heath.dups.contains (64 + m.heath.activeId) = false) →
        Gives (.brakeHeldReport p held) m
          ({ fields := [(0, HTH_FASTSTAT.BRAKE_ACT)], heath := true }) fun n =>
            (n.heath.held.contains p.val = held) ∧
            (n.on 0 HTH_FASTSTAT.BRAKE_ACT = n.heath.held.any fun k => partLive k m))

/-- An entry that has stood for its DUR gives way to the next one with a DUR; a write of SWD_SWDATA waits in the pending copy, a read answers it, and with AINC the entry number moves on. (R215, R290) -/
def Obligations.SwathTables : Prop :=
  -- SWATH_ENTRY_TIMEOUT
  (∀ (m : Wafer) (p : Fin 64) (c e : Nat),
      (m.get (swd p) SWD_CTXSTAT.CUR = c) →
      (m.get (swd p) SWD_SWSTAT.PTR = e) →
      (0 < swathDur p c e m) →
      (swathDur p c e m < 2047) →
      ((m.sward p).swathSince + 16 * swathDur p c e m ≤ (m.sward p).frame) →
        Gives (.swathEntryTimeout p) m
          (swardArea p) fun n =>
            (n.get (swd p) SWD_SWSTAT.PTR = swathSteps p c m 1 e) ∧
            (n.get (swd p) SWD_SWSTAT.TMO_CNT = min (2 ^ SWD_SWSTAT.TMO_CNT.wid - 1) (m.get (swd p) SWD_SWSTAT.TMO_CNT + 1)) ∧
            ((n.sward p).swathSince = (m.sward p).frame)) ∧
  -- SWATH_ENTRY_TIMEOUT: the entry has time left, or no end
  (∀ (m : Wafer) (p : Fin 64) (c e : Nat),
      (m.get (swd p) SWD_CTXSTAT.CUR = c) →
      (m.get (swd p) SWD_SWSTAT.PTR = e) →
      (swathDur p c e m = 0 ∨ swathDur p c e m = 2047 ∨ (m.sward p).frame < (m.sward p).swathSince + 16 * swathDur p c e m) →
        Gives (.swathEntryTimeout p) m
          ({}) fun n =>
            n.get (swd p) SWD_SWSTAT.PTR = e) ∧
  -- SWATH_DATA_ACCESS: a write
  (∀ (m : Wafer) (p : Fin 64) (data : Word),
        Gives (.swathDataAccess p (some data)) m
          ({ fields := [(swd p, SWD_SCHED.HOLD_PEND), (swd p, SWD_SWIDX.ENTRY)], swards := (· == p.val) }) fun n =>
            ((n.sward p).pendSwath = (m.sward p).pendSwath ++ [(swathKey p m, data)]) ∧
            (n.get (swd p) SWD_SWIDX.ENTRY = if m.on (swd p) SWD_SWIDX.AINC then (m.get (swd p) SWD_SWIDX.ENTRY + 1) % 256 else m.get (swd p) SWD_SWIDX.ENTRY)) ∧
  -- SWATH_DATA_ACCESS: a read
  (∀ (m : Wafer) (p : Fin 64),
        Gives (.swathDataAccess p none) m
          ({ fields := [(swd p, SWD_SWIDX.ENTRY)], sends := true }) fun n =>
            (n.out = ⟨.readData, 64, [(swathRead p m).toNat]⟩ :: m.out) ∧
            (n.get (swd p) SWD_SWIDX.ENTRY = if m.on (swd p) SWD_SWIDX.AINC then (m.get (swd p) SWD_SWIDX.ENTRY + 1) % 256 else m.get (swd p) SWD_SWIDX.ENTRY))

/-- Enabling or disabling starts the Commons afresh; a REPORT closes the millisecond's sums and takes a report buffer, or is counted and waits for one; waits add up; a GRANT of the coordinator is in force for 40 ms and one of another member is counted; a frame that is not whole is counted; a REPORT makes its sender live for 3 ms, and one under the own ID ends the part taken. The model's own readings in it: logs 30, 70. (R294, R295, R296, R297, R300, R301, R411, R412) -/
def Obligations.CommonsMember : Prop :=
  -- COMMONS_ENABLE
  (∀ (m : Wafer) (on : Bool),
      (m.on 0 HTH_CMNCFG.EN ≠ on) →
        Gives (.commonsEnable on) m
          ({ blocks := [(0x10000, 0x1000)], heath := true }) fun n =>
            (n.on 0 HTH_CMNCFG.EN = on) ∧
            (n.heath.commons.grant = none) ∧
            (n.on 0 HTH_CMNSTAT.FALLBACK = on)) ∧
  -- COMMONS_REPORT_SEND
  (∀ (m : Wafer),
      (m.heath.active = true) →
      (takesPart m = true) →
      (m.heath.commons.frames = []) →
      (0 < freeBuffers m) →
        Gives (.commonsReportSend) m
          ({ heath := true, sends := true }) fun n =>
            (n.heath.commons.seq = (m.heath.commons.seq + 1) % 2 ^ 16) ∧
            (n.heath.commons.waitN = 0 ∧ n.heath.commons.waitSum = 0 ∧ n.heath.commons.powN = 0 ∧ n.heath.commons.powSum = 0) ∧
            (n.out.tail = m.out ∧ (n.out.head?.map fun x => (x.kind, x.dest, x.data.length)) = some (.commonsReport, 64, 32)) ∧
            (freeBuffers n = freeBuffers m - 1)) ∧
  -- COMMONS_REPORT_SEND: no report buffer is free
  (∀ (m : Wafer),
      (m.heath.active = true) →
      (takesPart m = true) →
      (freeBuffers m = 0) →
        Gives (.commonsReportSend) m
          ({ fields := [(0, HTH_FBUFCNT.RETRY_CMN)], heath := true }) fun n =>
            (n.get 0 HTH_FBUFCNT.RETRY_CMN = min (2 ^ HTH_FBUFCNT.RETRY_CMN.wid - 1) (m.get 0 HTH_FBUFCNT.RETRY_CMN + 1)) ∧
            (n.heath.commons.frames.length = m.heath.commons.frames.length + 1)) ∧
  -- COMMONS_REPORT_SEND: a wafer that takes no part
  (∀ (m : Wafer),
      (m.heath.active = true) →
      (takesPart m = false) →
        Gives (.commonsReportSend) m
          ({ heath := true }) fun n =>
            n.heath.commons.waitN = 0 ∧ n.heath.commons.waitSum = 0 ∧ n.heath.commons.powN = 0 ∧ n.heath.commons.powSum = 0) ∧
  -- BARRIER_WAIT_WRITE
  (∀ (m : Wafer) (wait : BitVec 16),
        Gives (.barrierWaitWrite wait) m
          ({ heath := true }) fun n =>
            (n.heath.commons.waitSum = m.heath.commons.waitSum + wait.toNat) ∧
            (n.heath.commons.waitN = m.heath.commons.waitN + 1)) ∧
  -- GRANT_RECEIVE
  (∀ (m : Wafer) (src : Fin 64) (seq : BitVec 16) (grant cap : Word) (k : BitVec 8) (w : Nat),
      (takesPart m = true) →
      ((match (m.member src).seqGrant with | some s => newer16 seq.toNat s | none => true) = true) →
      (m.get 0 HTH_CMNSTAT.COORD_ID = src.val) →
      (m.get 0 HTH_CMNCAP.GROUP_CAP = cap.toNat) →
      (m.get 0 HTH_CMNCFG.N = k.toNat) →
        Gives (.grantReceive src seq grant cap k w) m
          ({ blocks := [(0x10000, 0x1000)], heath := true, time := true }) fun n =>
            (n.heath.commons.grant = some (grant.toNat, max m.wtime w + 32000000)) ∧
            ((n.member src).seqGrant = some seq.toNat)) ∧
  -- GRANT_RECEIVE: under another configuration
  (∀ (m : Wafer) (src : Fin 64) (seq : BitVec 16) (grant cap : Word) (k : BitVec 8) (w : Nat),
      (takesPart m = true) →
      ((match (m.member src).seqGrant with | some s => newer16 seq.toNat s | none => true) = true) →
      (m.get 0 HTH_CMNSTAT.COORD_ID = src.val) →
      (m.get 0 HTH_CMNCAP.GROUP_CAP ≠ cap.toNat ∨ m.get 0 HTH_CMNCFG.N ≠ k.toNat) →
        Gives (.grantReceive src seq grant cap k w) m
          ({ heathArea with time := true }) fun n =>
            (n.on 0 HTH_CMNSTAT.CFG_MISM = true) ∧
            (n.get 0 (HTH_FCNT.COUNT 49) = min (2 ^ (HTH_FCNT.COUNT 49).wid - 1) (m.get 0 (HTH_FCNT.COUNT 49) + 1)) ∧
            (n.heath.commons.grant = some (grant.toNat, max m.wtime w + 32000000))) ∧
  -- GRANT_RECEIVE: not from the coordinator
  (∀ (m : Wafer) (src : Fin 64) (seq : BitVec 16) (grant cap : Word) (k : BitVec 8) (w : Nat),
      (takesPart m = true) →
      ((match (m.member src).seqGrant with | some s => newer16 seq.toNat s | none => true) = true) →
      (m.get 0 HTH_CMNSTAT.COORD_ID ≠ src.val) →
        Gives (.grantReceive src seq grant cap k w) m
          ({ fields := [(0, HTH_CMNCNT.FOREIGN)], time := true }) fun n =>
            n.get 0 HTH_CMNCNT.FOREIGN = min (2 ^ HTH_CMNCNT.FOREIGN.wid - 1) (m.get 0 HTH_CMNCNT.FOREIGN + 1)) ∧
  -- GRANT_RECEIVE: old, or to a wafer that takes no part
  (∀ (m : Wafer) (src : Fin 64) (seq : BitVec 16) (grant cap : Word) (k : BitVec 8) (w : Nat),
      (takesPart m = false ∨ (match (m.member src).seqGrant with | some s => newer16 seq.toNat s | none => true) = false) →
        Gives (.grantReceive src seq grant cap k w) m
          ({ time := true }) fun n =>
            n.heath.commons.grant = m.heath.commons.grant) ∧
  -- COMMONS_FRAME_RECEIVE: a frame of another length
  (∀ (m : Wafer) (bytes : List (BitVec 8)) (w : Nat),
      (m.heath.active = true) →
      (m.on 0 HTH_CMNCFG.EN = true) →
      (bytes.length ≠ 32) →
        Gives (.commonsFrameReceive bytes w) m
          ({ fields := [(0, HTH_CMNCNT.BAD_FRM)], time := true }) fun n =>
            n.get 0 HTH_CMNCNT.BAD_FRM = min (2 ^ HTH_CMNCNT.BAD_FRM.wid - 1) (m.get 0 HTH_CMNCNT.BAD_FRM + 1)) ∧
  -- COMMONS_FRAME_RECEIVE: a REPORT of another member
  (∀ (m : Wafer) (bytes : List (BitVec 8)) (src : Fin 64) (w : Nat) (s : BitVec 16),
      (m.heath.active = true) →
      (m.on 0 HTH_CMNCFG.EN = true) →
      (bytes.length = 32) →
      ((bytes.drop 28).map BitVec.toNat = bytesMsb 4 (crc32 ((bytes.take 28).map BitVec.toNat))) →
      ((bytes.take 2).map BitVec.toNat = bytesMsb 2 (m.get 0 HTH_CMNCFG.GROUP)) →
      (((bytes.drop 2).take 2).map BitVec.toNat = [1, src.val]) →
      (src.val < cmnN m) →
      (src.val ≠ cmnId m) →
      (((bytes.drop 6).take 2).map BitVec.toNat = bytesMsb 2 s.toNat) →
      ((match (m.member src).seqReport with | some r => newer16 s.toNat r | none => true) = true) →
        Gives (.commonsFrameReceive bytes w) m
          ({ blocks := [(0x10000, 0x1000)], heath := true, time := true }) fun n =>
            ((n.member src).heard = some w) ∧
            ((n.member src).seqReport = some s.toNat)) ∧
  -- COMMONS_FRAME_RECEIVE: a REPORT under the own ID
  (∀ (m : Wafer) (bytes : List (BitVec 8)) (src : Fin 64) (w : Nat) (s : BitVec 16),
      (m.heath.active = true) →
      (m.on 0 HTH_CMNCFG.EN = true) →
      (bytes.length = 32) →
      ((bytes.drop 28).map BitVec.toNat = bytesMsb 4 (crc32 ((bytes.take 28).map BitVec.toNat))) →
      ((bytes.take 2).map BitVec.toNat = bytesMsb 2 (m.get 0 HTH_CMNCFG.GROUP)) →
      (((bytes.drop 2).take 2).map BitVec.toNat = [1, src.val]) →
      (src.val < cmnN m) →
      (cmnId m = src.val) →
      (((bytes.drop 6).take 2).map BitVec.toNat = bytesMsb 2 s.toNat) →
      ((match (m.member src).seqReport with | some r => newer16 s.toNat r | none => true) = true) →
      (m.on 0 HTH_CMNSTAT.DUP_ID = false) →
        Gives (.commonsFrameReceive bytes w) m
          ({ heathArea with time := true }) fun n =>
            (n.on 0 HTH_CMNSTAT.DUP_ID = true) ∧
            (n.heath.commons.grant = none) ∧
            (n.get 0 (HTH_FCNT.COUNT 49) = min (2 ^ (HTH_FCNT.COUNT 49).wid - 1) (m.get 0 (HTH_FCNT.COUNT 49) + 1))) ∧
  -- MEMBER_LIVENESS_EXPIRE
  (∀ (m : Wafer) (i : Fin 64) (t w : Nat),
      ((m.member i).heard = some t) →
      (t + 2400000 ≤ w) →
        Gives (.memberLivenessExpire i w) m
          ({ blocks := [(0x10000, 0x1000)], heath := true, time := true }) fun n =>
            (n.member i).heard = none) ∧
  -- GRANT_STEP
  (∀ (m : Wafer) (w : Nat),
      (m.heath.active = true) →
      (m.on 0 HTH_CMNSTAT.COORD = true) →
      (takesPart m = true) →
        Gives (.grantStep w) m
          ({ heathArea with time := true }) fun n =>
            (n.heath.commons.seq = (m.heath.commons.seq + 1) % 2 ^ 16) ∧
            (n.heath.commons.grant.map Prod.snd = some (max m.wtime w + 32000000)) ∧
            (∀ i : Fin 64, i.val < cmnN m → i.val ≠ cmnId m → m.heath.commons.frames = [] → m.heath.commons.bufAt < max m.wtime w → n.out.any (fun x => x.kind == .commonsGrant && x.dest == i.val) = true)) ∧
  -- GRANT_EXPIRE
  (∀ (m : Wafer) (g t w : Nat),
      (m.heath.commons.grant = some (g, t)) →
      (t ≤ w) →
        Gives (.grantExpire w) m
          ({ heathArea with time := true }) fun n =>
            (n.heath.commons.grant = none) ∧
            (n.on 0 HTH_CMNSTAT.GRANT_LOST = true))

/-- A selected edge 15 ms to 22.5 ms after the last is a start event and gives the period, one 22.5 ms to 25 ms after it is one that is flagged, an earlier one is ignored, the first one after tracking starts afresh measures nothing; 25 ms without one starts free run, whose start events come at the free-run period and which the next edge ends. The other edge only shows its level. The model's own readings in it: log 42. (R87, R338, R339, R341, R342) -/
def Obligations.MainsTracking : Prop :=
  -- MAINS_SYNC_LOST
  (∀ (m : Wafer) (w : Nat),
      (m.heath.active = true) →
      (m.on 0 MTR_STAT.FREE = false) →
      (m.heath.meter.lastEdge.getD m.heath.meter.since + 20000000 ≤ w) →
        Gives (.mainsSyncLost w) m
          ({ heathArea with time := true }) fun n =>
            (n.on 0 HTH_PINSTAT.MSYNC_LOST = true) ∧
            (n.on 0 MTR_STAT.FREE = true) ∧
            (n.heath.meter.starts = m.heath.meter.starts + 1) ∧
            (n.heath.meter.lastStart = w) ∧
            (n.heath.etaBad = true)) ∧
  -- MAINS_SYNC_LOST: within 25 ms of the last edge
  (∀ (m : Wafer) (w : Nat),
      (m.heath.active = true) →
      (w < m.heath.meter.lastEdge.getD m.heath.meter.since + 20000000) →
        Gives (.mainsSyncLost w) m
          ({ time := true }) fun n =>
            n.heath.meter.starts = m.heath.meter.starts) ∧
  -- MAINS_SYNC_EDGE: below the frequency range
  (∀ (m : Wafer) (rising : Bool) (t w : Nat),
      (m.heath.active = true) →
      (rising ≠ m.on 0 MTR_CFG.EDGE) →
      (m.on 0 MTR_STAT.FREE = false) →
      (m.heath.meter.lastEdge = some t) →
      (t + 18000000 < w) →
      (w ≤ t + 20000000) →
        Gives (.mainsSyncEdge rising w) m
          ({ fields := [(0, HTH_PINSTAT.MSYNC_LVL)], blocks := [(0x30000, 0x10000)], heath := true, time := true }) fun n =>
            (n.get 0 MTR_PERIOD.PERIOD = w - t) ∧
            (n.on 0 MTR_STAT.FREQ_OOR = true) ∧
            (n.heath.meter.lastEdge = some w) ∧
            (n.heath.meter.starts = m.heath.meter.starts + 1)) ∧
  -- MAINS_SYNC_EDGE: more than 25 ms after the last
  (∀ (m : Wafer) (rising : Bool) (t w : Nat),
      (m.heath.active = true) →
      (rising ≠ m.on 0 MTR_CFG.EDGE) →
      (m.on 0 MTR_STAT.FREE = false) →
      (m.heath.meter.lastEdge = some t) →
      (t + 20000000 < w) →
        Gives (.mainsSyncEdge rising w) m
          ({ heathArea with time := true }) fun n =>
            (n.on 0 HTH_PINSTAT.MSYNC_LOST = true) ∧
            (n.on 0 MTR_STAT.FREE = false) ∧
            (n.get 0 MTR_PERIOD.PERIOD = m.get 0 MTR_PERIOD.PERIOD) ∧
            (n.heath.meter.lastEdge = some w) ∧
            (n.heath.meter.starts = m.heath.meter.starts + 2)) ∧
  -- MAINS_SYNC_EDGE: the first since tracking started afresh, or in free run
  (∀ (m : Wafer) (rising : Bool) (w : Nat),
      (m.heath.active = true) →
      (rising ≠ m.on 0 MTR_CFG.EDGE) →
      (m.on 0 MTR_STAT.FREE = true ∨ m.heath.meter.lastEdge = none) →
        Gives (.mainsSyncEdge rising w) m
          ({ fields := [(0, HTH_PINSTAT.MSYNC_LVL)], blocks := [(0x30000, 0x10000)], heath := true, time := true }) fun n =>
            (n.on 0 MTR_STAT.FREE = false) ∧
            (n.get 0 MTR_PERIOD.PERIOD = m.get 0 MTR_PERIOD.PERIOD) ∧
            (n.heath.meter.lastEdge = some w) ∧
            (n.heath.meter.starts = m.heath.meter.starts + 1)) ∧
  -- MAINS_SYNC_EDGE: the other edge, or no Heath active
  (∀ (m : Wafer) (rising : Bool) (w : Nat),
      (m.heath.active = false ∨ rising = m.on 0 MTR_CFG.EDGE) →
        Gives (.mainsSyncEdge rising w) m
          ({ fields := [(0, HTH_PINSTAT.MSYNC_LVL)], time := true }) fun n =>
            n.on 0 HTH_PINSTAT.MSYNC_LVL = rising) ∧
  -- FREE_RUN_START_EVENT: not due
  (∀ (m : Wafer) (w : Nat),
      (m.heath.active = false ∨ m.on 0 MTR_STAT.FREE = false ∨ w < m.heath.meter.lastStart + 800000 * freePeriod m) →
        Gives (.freeRunStartEvent w) m
          ({ time := true }) fun n =>
            n.heath.meter.starts = m.heath.meter.starts) ∧
  -- MAINS_SYNC_EDGE: within the frequency range
  (∀ (m : Wafer) (rising : Bool) (t w : Nat),
      (m.heath.active = true) →
      (rising ≠ m.on 0 MTR_CFG.EDGE) →
      (m.on 0 MTR_STAT.FREE = false) →
      (m.heath.meter.lastEdge = some t) →
      (t + 12000000 ≤ w) →
      (w ≤ t + 18000000) →
        Gives (.mainsSyncEdge rising w) m
          ({ fields := [(0, HTH_PINSTAT.MSYNC_LVL)], blocks := [(0x30000, 0x10000)], heath := true, time := true }) fun n =>
            (n.on 0 HTH_PINSTAT.MSYNC_LVL = rising) ∧
            (n.get 0 MTR_PERIOD.PERIOD = w - t) ∧
            (n.heath.meter.lastEdge = some w) ∧
            (n.heath.meter.starts = m.heath.meter.starts + 1)) ∧
  -- MAINS_SYNC_EDGE: too early
  (∀ (m : Wafer) (rising : Bool) (t w : Nat),
      (m.heath.active = true) →
      (rising ≠ m.on 0 MTR_CFG.EDGE) →
      (m.on 0 MTR_STAT.FREE = false) →
      (m.heath.meter.lastEdge = some t) →
      (w < t + 12000000) →
        Gives (.mainsSyncEdge rising w) m
          ({ fields := [(0, HTH_PINSTAT.MSYNC_LVL), (0, MTR_STAT.EDGE_IGN)], heath := true, time := true }) fun n =>
            (n.get 0 MTR_STAT.EDGE_IGN = min (2 ^ MTR_STAT.EDGE_IGN.wid - 1) (m.get 0 MTR_STAT.EDGE_IGN + 1)) ∧
            (n.heath.meter.lastEdge = some t) ∧
            (n.heath.meter.starts = m.heath.meter.starts)) ∧
  -- FREE_RUN_START_EVENT
  (∀ (m : Wafer) (w : Nat),
      (m.heath.active = true) →
      (m.on 0 MTR_STAT.FREE = true) →
      (m.heath.meter.lastStart + 800000 * freePeriod m ≤ w) →
        Gives (.freeRunStartEvent w) m
          ({ blocks := [(0x30000, 0x10000)], heath := true, time := true }) fun n =>
            (n.heath.meter.starts = m.heath.meter.starts + 1) ∧
            (n.heath.meter.lastStart = w))

/-- A result loads the data register with the code of its voltage, and the channel's value where its pin was not pulled; a window that it newly lies outside of is flagged; a feed's two results of one start event give its power; diagnostic and calibration conversions load nothing; a round that has lasted 256 start events is given up; RUN starts tracking afresh and its fall gives up the round; RESTART takes every converter to entry 0; an urgent request waits for its converter or is rejected. The model's own readings in it: log 42. (R340, R343, R344, R345, R346, R347, R352, R353, R354, R355, R359, R360) -/
def Obligations.MeterResults : Prop :=
  -- CONVERSION_RESULT
  (∀ (m : Wafer) (c : Fin 4) (v : Int) (k : Conv),
      (m.heath.active = true) →
      ((m.heath.meter.conv c).ended = some k) →
      (k.kind = .entry ∨ k.kind = .urgent) →
      (k.pulled = false) →
      (k.ch < 44) →
      (k.entry < 32) →
      (m.heath.meter.openCh.contains k.ch = false) →
        Gives (.conversionResult c v) m
          (heathArea) fun n =>
            (n.on 0 (MTR_DATA.VALID c) = true) ∧
            (n.on 0 (MTR_DATA.OVR c) = (m.on 0 (MTR_DATA.OVR c) || m.on 0 (MTR_DATA.VALID c))) ∧
            (n.get 0 (MTR_DATA.CH c) = k.ch) ∧
            (n.get 0 (MTR_DATA.CODE c) = (clampI 0 0xFFFFFF (roundDiv (v * 2 ^ 24) 1250000000)).toNat) ∧
            (n.on 0 (MTR_DSTAT.OVRNG c) = decide (resultCode v = 0 ∨ resultCode v = 0xFFFFFF)) ∧
            (n.getI 0 (MTR_VAL.VAL k.ch) = channelValue k.ch (resultCode v) m) ∧
            ((n.heath.meter.conv c).ended = none)) ∧
  -- CONVERSION_RESULT: of a pulled pin
  (∀ (m : Wafer) (c : Fin 4) (v : Int) (k : Conv),
      (m.heath.active = true) →
      ((m.heath.meter.conv c).ended = some k) →
      (k.kind = .entry ∨ k.kind = .urgent) →
      (k.pulled = true) →
      (k.ch < 44) →
      (k.entry < 32) →
        Gives (.conversionResult c v) m
          ({ blocks := [(0x30040 + 8 * c.val, 8)], heath := true }) fun n =>
            (n.on 0 (MTR_DATA.VALID c) = true) ∧
            (n.get 0 (MTR_DATA.CODE c) = resultCode v) ∧
            (n.on 0 (MTR_DSTAT.PULLED c) = true)) ∧
  -- CONVERSION_RESULT: newly outside its entry's window
  (∀ (m : Wafer) (c : Fin 4) (v : Int) (k : Conv),
      (m.heath.active = true) →
      ((m.heath.meter.conv c).ended = some k) →
      (k.kind = .entry) →
      (k.win = true) →
      (k.pulled = false) →
      (k.ch < 44) →
      (k.entry < 32) →
      ((m.heath.meter.conv c).outside.contains k.entry = false) →
      (m.getI 0 (MTR_WLO.LO c k.entry) ≤ m.getI 0 (MTR_WHI.HI c k.entry)) →
      (channelValue k.ch (resultCode v) m < m.getI 0 (MTR_WLO.LO c k.entry) ∨ m.getI 0 (MTR_WHI.HI c k.entry) < channelValue k.ch (resultCode v) m) →
        Gives (.conversionResult c v) m
          (heathArea) fun n =>
            ((n.word (0x33000 + 4 * c.val)).getLsbD k.entry = true) ∧
            (n.on 0 MTR_STAT.WIN_ANY = true) ∧
            ((n.heath.meter.conv c).outside.contains k.entry = true)) ∧
  -- CONVERSION_RESULT: the current of a feed whose voltage has its result
  (∀ (m : Wafer) (c : Fin 4) (v : Int) (k : Conv) (i : Fin 16) (x : MeterResult),
      (m.heath.active = true) →
      ((m.heath.meter.conv c).ended = some k) →
      (k.kind = .entry ∨ k.kind = .urgent) →
      (k.pulled = false) →
      (k.second = false) →
      (k.ch = 16 + i.val) →
      (k.entry < 32) →
      (m.heath.meter.openCh.contains k.ch = false) →
      (resultOf m.heath.meter.results i k.start = some x) →
      (resultOf m.heath.meter.results (16 + i.val) k.start = none) →
      ((m.get 0 MTR_FEEDCFG.FEN).testBit i = true) →
      (m.on 0 (MTR_CALZ.VALID i) = true) →
      (m.on 0 (MTR_CALZ.VALID (16 + i.val)) = true) →
      (-(2 ^ 31) ≤ roundDiv (x.value * channelValue k.ch (resultCode v) m) 1000000) →
      (roundDiv (x.value * channelValue k.ch (resultCode v) m) 1000000 < 2 ^ 31) →
        Gives (.conversionResult c v) m
          (heathArea) fun n =>
            n.getI 0 (MTR_FPWR.PWR i) = roundDiv (x.value * channelValue k.ch (resultCode v) m) 1000000) ∧
  -- CONVERSION_RESULT: a diagnostic conversion with the pin pulled up
  (∀ (m : Wafer) (c : Fin 4) (v : Int) (k : Conv),
      (m.heath.active = true) →
      ((m.heath.meter.conv c).ended = some k) →
      (k.kind = .pullUp) →
        Gives (.conversionResult c v) m
          ({ heath := true }) fun n =>
            (n.heath.meter.conv c).upCode = some (resultCode v)) ∧
  -- CONVERSION_RESULT: a diagnostic conversion with the pin pulled down
  (∀ (m : Wafer) (c : Fin 4) (v : Int) (k : Conv) (up : Nat),
      (m.heath.active = true) →
      ((m.heath.meter.conv c).ended = some k) →
      (k.kind = .pullDown) →
      ((m.heath.meter.conv c).upCode = some up) →
      (k.ch < 40) →
        Gives (.conversionResult c v) m
          (heathArea) fun n =>
            ((n.heath.meter.conv c).upCode = none) ∧
            (n.heath.meter.openCh.contains k.ch = decide (transfer (10000000 * (clampN 5 125 (m.get 0 MTR_CFG.OW_DELTA) : Int)) < (up : Int) - (resultCode v : Int))) ∧
            (transfer (10000000 * (clampN 5 125 (m.get 0 MTR_CFG.OW_DELTA) : Int)) < (up : Int) - (resultCode v : Int) → n.on 0 MTR_STAT.OW_ANY = true ∧ (n.word (if k.ch < 32 then 0x30028 else 0x3002C)).getLsbD (k.ch % 32) = true)) ∧
  -- CONVERSION_RESULT: of a calibration
  (∀ (m : Wafer) (c : Fin 4) (v : Int) (k : Conv) (r : CalRun),
      (m.heath.active = true) →
      ((m.heath.meter.conv c).ended = some k) →
      (k.kind = .cal) →
      (m.heath.meter.cal = some r) →
        Gives (.conversionResult c v) m
          ({ heath := true }) fun n =>
            n.heath.meter.cal = some { r with done := r.done + 1, sum := r.sum + resultCode v, bad := (r.bad || decide (resultCode v = 0 ∨ resultCode v = 0xFFFFFF)) }) ∧
  -- CONVERSION_RESULT: none has ended
  (∀ (m : Wafer) (c : Fin 4) (v : Int),
      ((m.heath.meter.conv c).ended = none) →
        Gives (.conversionResult c v) m
          ({}) fun n =>
            n = m) ∧
  -- METER_ROUND_TIMEOUT: not due
  (∀ (m : Wafer),
      ((m.heath.meter.roundFrom.all fun e => decide (m.heath.meter.starts < e.2 + 256)) = true) →
        Gives (.meterRoundTimeout) m
          ({}) fun n =>
            n = m) ∧
  -- METER_ROUND_TIMEOUT
  (∀ (m : Wafer) (t s : Nat),
      (m.heath.meter.roundFrom = some (t, s)) →
      (s + 256 ≤ m.heath.meter.starts) →
      (m.on 0 MTR_CFG.RUN = true) →
      (m.get 0 MTR_FEEDCFG.FEN ≠ 0) →
        Gives (.meterRoundTimeout) m
          (heathArea) fun n =>
            (n.on 0 MTR_STAT.ROUND_TO = true) ∧
            (n.heath.meter.roundFrom = some (m.heath.meter.lastStart, m.heath.meter.starts)) ∧
            (n.heath.meter.roundFeeds = [])) ∧
  -- METER_RUN_WRITE: on
  (∀ (m : Wafer) (w : Nat),
      (m.on 0 MTR_CFG.RUN = false) →
        Gives (.meterRunWrite true w) m
          ({ blocks := [(0x30000, 0x10000)], heath := true, time := true }) fun n =>
            (n.on 0 MTR_CFG.RUN = true) ∧
            (n.on 0 MTR_STAT.FREE = false) ∧
            (n.heath.meter.lastEdge = none) ∧
            (∀ c : Fin 4, (n.heath.meter.conv c).entry = 0 ∧ (n.heath.meter.conv c).begun = false)) ∧
  -- METER_RUN_WRITE: off
  (∀ (m : Wafer) (w : Nat),
      (m.on 0 MTR_CFG.RUN = true) →
        Gives (.meterRunWrite false w) m
          ({ blocks := [(0x30000, 0x10000)], heath := true, time := true }) fun n =>
            (n.on 0 MTR_CFG.RUN = false) ∧
            (n.heath.meter.roundFrom = none) ∧
            (∀ c : Fin 4, (n.heath.meter.conv c).running = none)) ∧
  -- METER_RESTART
  (∀ (m : Wafer),
        Gives (.meterRestart) m
          ({ blocks := [(0x30000, 0x10000)], heath := true }) fun n =>
            (n.heath.meter.roundFrom = none) ∧
            (∀ c : Fin 4, (n.heath.meter.conv c).entry = 0 ∧ (n.heath.meter.conv c).begun = false ∧ (n.heath.meter.conv c).running = none) ∧
            (∀ c : Fin 4, (n.heath.meter.conv c).outside = [])) ∧
  -- METER_URGENT_REQUEST
  (∀ (m : Wafer) (c : Fin 4) (ch : Fin 64),
      (ch < 44) →
      ((m.heath.meter.conv c).urgent = none) →
      ((m.heath.meter.cal.all fun r => r.conv != c.val) = true) →
        Gives (.meterUrgentRequest c ch) m
          ({ fields := [(0, ⟨MTR_STAT.URG_PEND.off, 24 + c.val, 1⟩)], heath := true }) fun n =>
            ((n.heath.meter.conv c).urgent = some ch.val) ∧
            (n.get 0 ⟨MTR_STAT.URG_PEND.off, 24 + c.val, 1⟩ = 1)) ∧
  -- METER_URGENT_REQUEST: rejected
  (∀ (m : Wafer) (c : Fin 4) (ch : Fin 64),
      (44 ≤ ch ∨ (m.heath.meter.conv c).urgent.isSome = true ∨ (m.heath.meter.cal.any fun r => r.conv == c.val) = true) →
        Gives (.meterUrgentRequest c ch) m
          ({ fields := [(0, MTR_URG.URG_REJ)] }) fun n =>
            n.on 0 MTR_URG.URG_REJ = true) ∧
  -- METER_DATA_READ
  (∀ (m : Wafer) (c : Fin 4),
        Gives (.meterDataRead c) m
          ({ fields := [(0, MTR_DATA.VALID c), (0, MTR_DATA.OVR c)], heath := true, sends := true }) fun n =>
            (n.out = ⟨.readData, 64, [0x30040 + 8 * c.val, (m.word (0x30040 + 8 * c.val)).toNat]⟩ :: m.out) ∧
            (n.on 0 (MTR_DATA.VALID c) = false) ∧
            (n.on 0 (MTR_DATA.OVR c) = false) ∧
            (Store.get noWord n.heath.meter.dstat c = some (m.word (0x30044 + 8 * c.val))))

/-- ZERO and FS begin 16 conversions unless the meter is calibrating or in free run; a ZERO that ends keeps its mean and reference; an FS that ends takes the pending zero of its channel, or the one in its registers, and with a usable difference and gain sets the gain, the zero point and VALID; with an out-of-range code, too small a difference or too great a gain the command is in error. The model's own readings in it: log 42. (R356, R357) -/
def Obligations.MeterCalibration : Prop :=
  -- ZERO
  (∀ (m : Wafer) (ch : Fin 64) (c : Fin 4),
      (ch < 40) →
      (m.heath.meter.cal = none) →
      (m.on 0 MTR_STAT.FREE = false) →
        Gives (.zero ch c) m
          ({ fields := [(0, MTR_STAT.CAL_BUSY)], blocks := [(0x30010, 4)], heath := true }) fun n =>
            (n.heath.meter.cal = some ⟨true, ch, c, m.getI 0 MTR_CALREF.REF, 0, 0, 0, false⟩) ∧
            (n.on 0 MTR_STAT.CAL_BUSY = true)) ∧
  -- ZERO: rejected
  (∀ (m : Wafer) (ch : Fin 64) (c : Fin 4),
      (40 ≤ ch ∨ m.heath.meter.cal.isSome = true ∨ m.on 0 MTR_STAT.FREE = true) →
        Gives (.zero ch c) m
          ({ blocks := [(0x30010, 4)] }) fun n =>
            n.on 0 MTR_CALCMD.CAL_REJ = true) ∧
  -- FS
  (∀ (m : Wafer) (ch : Fin 64) (c : Fin 4),
      (ch < 40) →
      (m.heath.meter.cal = none) →
      (m.on 0 MTR_STAT.FREE = false) →
        Gives (.fs ch c) m
          ({ fields := [(0, MTR_STAT.CAL_BUSY)], blocks := [(0x30010, 4)], heath := true }) fun n =>
            (n.heath.meter.cal = some ⟨false, ch, c, m.getI 0 MTR_CALREF.REF, 0, 0, 0, false⟩) ∧
            (n.on 0 MTR_STAT.CAL_BUSY = true)) ∧
  -- METER_CAL_COMPLETE: a zero
  (∀ (m : Wafer) (r : CalRun),
      (m.heath.meter.cal = some r) →
      (16 ≤ r.done) →
      (r.zero = true) →
      (r.bad = false) →
        Gives (.meterCalComplete) m
          ({ fields := [(0, MTR_STAT.CAL_BUSY)], heath := true }) fun n =>
            (n.heath.meter.cal = none) ∧
            (n.heath.meter.calZero = some (r.ch, (roundDiv r.sum 16).toNat, r.ref)) ∧
            (n.on 0 MTR_STAT.CAL_BUSY = false)) ∧
  -- METER_CAL_COMPLETE: a full scale
  (∀ (m : Wafer) (r : CalRun) (z : Nat × Int),
      (m.heath.meter.cal = some r) →
      (16 ≤ r.done) →
      (r.zero = false) →
      (r.bad = false) →
      (r.ch < 40) →
      (((m.heath.meter.calZero.filter fun e => e.1 == r.ch).map fun e => e.2).getD (m.get 0 (MTR_CALZ.CODE_Z r.ch), m.getI 0 (MTR_CALRZ.REF_Z r.ch)) = z) →
      (z.1 < 2 ^ 24) →
      (-(2 ^ 31) ≤ z.2) →
      (z.2 < 2 ^ 31) →
      (65536 ≤ ((roundDiv r.sum 16).toNat : Int) - (z.1 : Int) ∨ ((roundDiv r.sum 16).toNat : Int) - (z.1 : Int) ≤ -65536) →
      (-(2 ^ 31) ≤ calGain (r.ref - z.2) (((roundDiv r.sum 16).toNat : Int) - z.1)) →
      (calGain (r.ref - z.2) (((roundDiv r.sum 16).toNat : Int) - z.1) < 2 ^ 31) →
        Gives (.meterCalComplete) m
          ({ fields := [(0, MTR_STAT.CAL_BUSY), (0, MTR_CALG.GAIN r.ch), (0, MTR_CALZ.CODE_Z r.ch), (0, MTR_CALZ.VALID r.ch), (0, MTR_CALRZ.REF_Z r.ch), (0, MTR_CALCMD.CAL_DONE)], heath := true }) fun n =>
            (n.getI 0 (MTR_CALG.GAIN r.ch) = calGain (r.ref - z.2) (((roundDiv r.sum 16).toNat : Int) - z.1)) ∧
            (n.get 0 (MTR_CALZ.CODE_Z r.ch) = z.1) ∧
            (n.getI 0 (MTR_CALRZ.REF_Z r.ch) = z.2) ∧
            (n.on 0 (MTR_CALZ.VALID r.ch) = true) ∧
            (n.on 0 MTR_CALCMD.CAL_DONE = true) ∧
            (n.heath.meter.cal = none ∧ n.heath.meter.calZero = none)) ∧
  -- METER_CAL_COMPLETE: a full scale in error
  (∀ (m : Wafer) (r : CalRun) (z : Nat × Int),
      (m.heath.meter.cal = some r) →
      (16 ≤ r.done) →
      (r.zero = false) →
      (((m.heath.meter.calZero.filter fun e => e.1 == r.ch).map fun e => e.2).getD (m.get 0 (MTR_CALZ.CODE_Z r.ch), m.getI 0 (MTR_CALRZ.REF_Z r.ch)) = z) →
      (r.bad = true ∨ (-65536 < ((roundDiv r.sum 16).toNat : Int) - (z.1 : Int) ∧ ((roundDiv r.sum 16).toNat : Int) - (z.1 : Int) < 65536) ∨ calGain (r.ref - z.2) (((roundDiv r.sum 16).toNat : Int) - z.1) < -(2 ^ 31) ∨ 2 ^ 31 ≤ calGain (r.ref - z.2) (((roundDiv r.sum 16).toNat : Int) - z.1)) →
        Gives (.meterCalComplete) m
          ({ fields := [(0, MTR_STAT.CAL_BUSY), (0, MTR_CALCMD.CAL_ERR)], heath := true }) fun n =>
            (n.on 0 MTR_CALCMD.CAL_ERR = true) ∧
            (n.heath.meter.cal = none ∧ n.heath.meter.calZero = none)) ∧
  -- METER_CAL_COMPLETE: not all conversions have ended
  (∀ (m : Wafer),
      ((m.heath.meter.cal.all fun r => decide (r.done < 16)) = true) →
        Gives (.meterCalComplete) m
          ({}) fun n =>
            n = m) ∧
  -- METER_CAL_COMPLETE: a zero with a code out of range
  (∀ (m : Wafer) (r : CalRun),
      (m.heath.meter.cal = some r) →
      (16 ≤ r.done) →
      (r.zero = true) →
      (r.bad = true) →
        Gives (.meterCalComplete) m
          ({ fields := [(0, MTR_STAT.CAL_BUSY), (0, MTR_CALCMD.CAL_ERR)], heath := true }) fun n =>
            (n.heath.meter.cal = none) ∧
            (n.heath.meter.calZero = m.heath.meter.calZero) ∧
            (n.on 0 MTR_CALCMD.CAL_ERR = true))

/-- DOMCTL is written with its adjustment and rejection flags; a partition trip holds CORE off until it is cleared with no shutdown latched; a wafer trip takes every target down; a forwarded FL_TRIP edge is the same trip; a message has no effect in a second copy or at a stop that is passed by; a rising FENCE drops the mesh buffer and a falling one with SPINE off is an error that switches SPINE on at once. The model's own readings in it: log 37, 38 and 69. (R47, R48, R77, R303, R307, R309, R396, R397, R398) -/
def Obligations.DomainTrips : Prop :=
  -- DOMCTL_WRITE
  (∀ (m : Wafer) (p : Fin 64) (data : Word),
        Gives (.domctlWrite p data) m
          ({ fields := [(swd p, SWD_DOMSTAT.DOM_ADJ), (swd p, SWD_DOMSTAT.SPINE_REJ)], blocks := [(swd p + SWD_DOMCTL.CORE.off, 4)] }) fun n =>
            (n.get (swd p) SWD_DOMCTL.CORE = getBits data 1 1) ∧
            (n.get (swd p) SWD_DOMCTL.ARR = getBits data 2 2) ∧
            (data.getLsbD 4 = true → m.on (swd p) SWD_BSTAT.FENCE = false → n.on (swd p) SWD_DOMSTAT.SPINE_REJ = true) ∧
            (data.getLsbD 1 = true → getBits data 2 2 < 2 → n.on (swd p) SWD_DOMSTAT.DOM_ADJ = true) ∧
            (n.get (swd p) SWD_DOMCTL.LINK = if isEdge p then getBits data SWD_DOMCTL.LINK.lo 1 else 0) ∧
            (n.get (swd p) SWD_DOMCTL.MIF = if isEdge p then getBits data SWD_DOMCTL.MIF.lo 1 else 0) ∧
            (n.get (swd p) SWD_DOMCTL.SPINE_OFF = getBits data SWD_DOMCTL.SPINE_OFF.lo 1 ∧ n.get (swd p) SWD_DOMCTL.LOGIC_OFF = getBits data SWD_DOMCTL.LOGIC_OFF.lo 1) ∧
            (data.getLsbD 1 = true → (data.getLsbD 4 || data.getLsbD 5) = true → n.on (swd p) SWD_DOMSTAT.DOM_ADJ = true)) ∧
  -- CORE_HOLD_CLEAR
  (∀ (m : Wafer) (p : Fin 64),
      (shutdownLatched p m = false) →
        Gives (.coreHoldClear p) m
          ({ fields := [(swd p, SWD_DOMSTAT.CORE_HOLD)] }) fun n =>
            n.on (swd p) SWD_DOMSTAT.CORE_HOLD = false) ∧
  -- CORE_HOLD_CLEAR: held while a Tussock's shutdown is latched
  (∀ (m : Wafer) (p : Fin 64),
      (shutdownLatched p m = true) →
        Gives (.coreHoldClear p) m
          ({}) fun n =>
            n.on (swd p) SWD_DOMSTAT.CORE_HOLD = m.on (swd p) SWD_DOMSTAT.CORE_HOLD) ∧
  -- PARTITION_TRIP_RECEIVE
  (∀ (m : Wafer) (p : Fin 64),
      ((m.sward p).passedBy = false) →
      (m.heath.dups.contains p.val = false) →
      ((m.sward p).rst = false) →
        Gives (.partitionTripReceive p) m
          ({ fields := [(0, HTH_UNREACH_LO.UNREACH), (0, HTH_UNREACH_HI.UNREACH)], blocks := [(swd p, 0x40000)], swards := (· == p.val), heath := true, sends := true }) fun n =>
            (n.on (swd p) SWD_DOMSTAT.CORE_HOLD = true) ∧
            ((n.sward p).afterTrip = true)) ∧
  -- PARTITION_TRIP_RECEIVE: a second copy, or the stop is passed by
  (∀ (m : Wafer) (p : Fin 64),
      ((m.sward p).passedBy = true ∨ m.heath.dups.contains p.val = true) →
        Gives (.partitionTripReceive p) m
          ({ heath := true }) fun n =>
            n.on (swd p) SWD_DOMSTAT.CORE_HOLD = m.on (swd p) SWD_DOMSTAT.CORE_HOLD) ∧
  -- WTRIP_RECEIVE
  (∀ (m : Wafer) (p : Fin 64),
      ((m.sward p).passedBy = false) →
      (m.heath.dups.contains p.val = false) →
      ((m.sward p).rst = false) →
        Gives (.wtripReceive p) m
          (swardArea p) fun n =>
            (n.on (swd p) SWD_DOMSTAT.CORE_HOLD = true) ∧
            ((n.sward p).afterTrip = true) ∧
            (n.get (swd p) SWD_DOMCTL.CORE = 0 ∧ n.get (swd p) SWD_DOMCTL.ARR = 0 ∧ n.get (swd p) SWD_DOMCTL.LINK = 0 ∧ n.get (swd p) SWD_DOMCTL.MIF = 0)) ∧
  -- WTRIP_RECEIVE: a second copy, or the stop is passed by, or its Sward is in reset
  (∀ (m : Wafer) (p : Fin 64),
      ((m.sward p).passedBy = true ∨ m.heath.dups.contains p.val = true ∨ (m.sward p).rst = true) →
        Gives (.wtripReceive p) m
          ({ heath := true }) fun n =>
            n.get (swd p) SWD_DOMCTL.CORE = m.get (swd p) SWD_DOMCTL.CORE) ∧
  -- FL_TRIP_EDGE
  (∀ (m : Wafer) (p : Fin 64) (w : Nat),
      ((m.sward p).rst = false) →
      (((m.sward p).flAt.all fun t => decide (t + 3200 ≤ w)) = true) →
        Gives (.flTripEdge p w) m
          ({ swardArea p with time := true }) fun n =>
            (n.on (swd p) SWD_FSTAT.FL_SEEN = true) ∧
            (n.on (swd p) SWD_DOMSTAT.CORE_HOLD = true) ∧
            (n.get (swd p) SWD_DOMCTL.CORE = 0) ∧
            ((n.sward p).flAt = some w) ∧
            (n.out = ⟨.faultLine, p, []⟩ :: m.out)) ∧
  -- FL_TRIP_EDGE: in a Sward's reset
  (∀ (m : Wafer) (p : Fin 64) (w : Nat),
      ((m.sward p).rst = true) →
        Gives (.flTripEdge p w) m
          ({ time := true }) fun n =>
            n.get (swd p) SWD_DOMCTL.CORE = m.get (swd p) SWD_DOMCTL.CORE) ∧
  -- FL_TRIP_EDGE: within 4 µs of the last one
  (∀ (m : Wafer) (p : Fin 64) (t w : Nat),
      ((m.sward p).flAt = some t) →
      (w < t + 3200) →
        Gives (.flTripEdge p w) m
          ({ time := true }) fun n =>
            n.get (swd p) SWD_DOMCTL.CORE = m.get (swd p) SWD_DOMCTL.CORE) ∧
  -- FENCE_CHANGE: rising
  (∀ (m : Wafer) (p : Fin 64),
      (m.on (swd p) SWD_BSTAT.FENCE = false) →
        Gives (.fenceChange p true) m
          (swardArea p) fun n =>
            (n.on (swd p) SWD_BSTAT.FENCE = true) ∧
            ((n.sward p).mesh = []) ∧
            ((m.sward p).mesh ≠ [] → n.on (swd p) SWD_BSTAT.MESH_DROP = true)) ∧
  -- FENCE_CHANGE: falling with SPINE off
  (∀ (m : Wafer) (p : Fin 64),
      (m.on (swd p) SWD_BSTAT.FENCE = true) →
      ((m.sward p).hdrSpine = false) →
        Gives (.fenceChange p false) m
          (swardArea p) fun n =>
            (n.on (swd p) SWD_BSTAT.FENCE = false) ∧
            (n.on (swd p) SWD_BSTAT.FENCE_ERR = true) ∧
            ((m.sward p).rst = false → m.get (swd p) SWD_DOMSTAT.LOGIC_ST = 2 → (n.sward p).hdrSpine = true ∧ n.get (swd p) SWD_DOMSTAT.SPINE_ST = 1)) ∧
  -- FENCE_CHANGE: falling with SPINE on
  (∀ (m : Wafer) (p : Fin 64),
      (m.on (swd p) SWD_BSTAT.FENCE = true) →
      ((m.sward p).hdrSpine = true) →
        Gives (.fenceChange p false) m
          ({ fields := [(swd p, SWD_BSTAT.FENCE)], sends := true }) fun n =>
            (n.on (swd p) SWD_BSTAT.FENCE = false) ∧
            (n.out = ⟨.fence, p, [0]⟩ :: m.out)) ∧
  -- FENCE_CHANGE: no change
  (∀ (m : Wafer) (p : Fin 64) (level : Bool),
      (m.on (swd p) SWD_BSTAT.FENCE = level) →
        Gives (.fenceChange p level) m
          ({}) fun n =>
            n = m)

/-- A falling PRST is a return of the whole partition and closes an open remap window; a partition that would start a rail from OFF asks for a grant; the Heath grants first in the table's order and then in the order asked, each at least its gap after the last, and a stop that is passed by takes none; a table that names a partition twice is flagged. The model's own readings in it: log 24 and 37. (R33, R48, R76, R310, R311, R312, R330) -/
def Obligations.SwitchOn : Prop :=
  -- PRST_CHANGE: rising
  (∀ (m : Wafer) (p : Fin 64),
      (m.on (swd p) SWD_BSTAT.PRST = false) →
        Gives (.prstChange p true) m
          ({ fields := [(swd p, SWD_BSTAT.PRST)], heath := true, sends := true }) fun n =>
            (n.on (swd p) SWD_BSTAT.PRST = true) ∧
            (n.heath.prst.contains p.val = true) ∧
            (n.out = ⟨.prst, p, [1]⟩ :: m.out)) ∧
  -- PRST_CHANGE: falling
  (∀ (m : Wafer) (p : Fin 64),
      (m.on (swd p) SWD_BSTAT.PRST = true) →
        Gives (.prstChange p false) m
          ({ fields := [(0, HTH_MAPCTL.OPEN), (0, HTH_MAPCTL.OPEN_REJ)], blocks := [(swd p, 0x40000)], swards := (· == p.val), heath := true, sends := true }) fun n =>
            (n.on (swd p) SWD_BSTAT.PRST = false) ∧
            (∀ u ∈ unitsOf p, (n.sward p).returning.contains u = true) ∧
            (n.on 0 HTH_MAPCTL.OPEN = false) ∧
            (n.heath.prst.contains p.val = false)) ∧
  -- SWITCH_ON_REQUEST
  (∀ (m : Wafer) (p : Fin 64),
      ((m.sward p).rst = false) →
      ((m.sward p).waitEnum = false) →
      (m.on (swd p) SWD_DOMSTAT.GRANTED = false) →
      (m.on (swd p) SWD_DOMSTAT.SON_WAIT = false) →
      (needsGrant p (nextDomStep p m) m = true) →
        Gives (.switchOnRequest p) m
          ({ fields := [(swd p, SWD_DOMSTAT.SON_WAIT)], heath := true, sends := true }) fun n =>
            (n.on (swd p) SWD_DOMSTAT.SON_WAIT = true) ∧
            (n.heath.sonQ = m.heath.sonQ ++ [p.val]) ∧
            (n.out = ⟨.switchOnRequest, p, []⟩ :: m.out)) ∧
  -- SWITCH_ON_GRANT
  (∀ (m : Wafer) (p : Fin 64) (w : Nat),
      (m.heath.active = true) →
      (9 ≤ m.heath.bringUp) →
      (m.heath.sonOrder = false) →
      ((m.heath.sonQ.find? fun q => !m.heath.katFailed.contains q) = some p.val) →
      ((m.heath.sonLast.all fun t => decide (t + 800000 ≤ max m.wtime w)) = true) →
      ((m.sward p).passedBy = false) →
      ((m.sward p).rst = false) →
        Gives (.switchOnGrant w) m
          ({ fields := [(0, HTH_UNREACH_LO.UNREACH), (0, HTH_UNREACH_HI.UNREACH)], blocks := [(swd p, 0x40000)], swards := (· == p.val), heath := true, sends := true, time := true }) fun n =>
            (n.on (swd p) SWD_DOMSTAT.GRANTED = true) ∧
            (n.on (swd p) SWD_DOMSTAT.SON_WAIT = false) ∧
            (n.heath.sonQ = m.heath.sonQ.erase p.val) ∧
            (n.heath.sonLast = some (max m.wtime w))) ∧
  -- SWITCH_ON_GRANT: in the order of the table
  (∀ (m : Wafer) (p : Fin 64) (i : Nat) (rest : List Nat) (w : Nat),
      (m.heath.active = true) →
      (9 ≤ m.heath.bringUp) →
      (m.heath.sonOrder = true) →
      (seqLeft m = i :: rest) →
      ((seqEntry i m).1 = p.val) →
      ((m.heath.sonLast.all fun t => decide (t + 800000 * (seqEntry i m).2.1 ≤ max m.wtime w)) = true) →
      ((m.sward p).passedBy = false) →
      ((m.sward p).rst = false) →
        Gives (.switchOnGrant w) m
          ({ fields := [(0, HTH_UNREACH_LO.UNREACH), (0, HTH_UNREACH_HI.UNREACH)], blocks := [(swd p, 0x40000)], swards := (· == p.val), heath := true, sends := true, time := true }) fun n =>
            (n.on (swd p) SWD_DOMSTAT.GRANTED = true) ∧
            (n.heath.sonNext = i + 1) ∧
            (n.heath.sonOrder = !rest.isEmpty) ∧
            (n.heath.sonLast = some (max m.wtime w))) ∧
  -- SWITCH_ON_GRANT: too soon after the last, or before step 9, or with no active Heath
  (∀ (m : Wafer) (w : Nat),
      (m.heath.active = false ∨ m.heath.bringUp < 9 ∨ (m.heath.sonOrder = false ∧ (m.heath.sonLast.any fun t => decide (max m.wtime w < t + 800000)) = true)) →
        Gives (.switchOnGrant w) m
          ({ time := true }) fun n =>
            n.heath.sonQ = m.heath.sonQ) ∧
  -- SWITCH_ON_GRANT: the stop is passed by
  (∀ (m : Wafer) (p : Fin 64) (w : Nat),
      (m.heath.active = true) →
      (9 ≤ m.heath.bringUp) →
      (m.heath.sonOrder = false) →
      ((m.heath.sonQ.find? fun q => !m.heath.katFailed.contains q) = some p.val) →
      ((m.heath.sonLast.all fun t => decide (t + 800000 ≤ max m.wtime w)) = true) →
      ((m.sward p).passedBy = true) →
        Gives (.switchOnGrant w) m
          ({ heath := true, sends := true, time := true }) fun n =>
            (n.on (swd p) SWD_DOMSTAT.GRANTED = m.on (swd p) SWD_DOMSTAT.GRANTED) ∧
            (n.heath.sonQ = m.heath.sonQ.erase p.val)) ∧
  -- SEQ_TABLE_WRITE
  (∀ (m : Wafer) (i : Fin 64) (data : Word),
        Gives (.seqTableWrite i data) m
          ({ fields := [(0, HTH_BUSTAT.SEQ_ERR)], blocks := [(0x100 + 4 * i.val, 4)] }) fun n =>
            (n.get 0 (HTH_SEQ.PART i) = getBits data (HTH_SEQ.PART i).lo 6) ∧
            (n.get 0 (HTH_SEQ.GAP i) = getBits data (HTH_SEQ.GAP i).lo (HTH_SEQ.GAP i).wid) ∧
            (seqValid n = false → n.on 0 HTH_BUSTAT.SEQ_ERR = true)) ∧
  -- PRST_CHANGE: no change
  (∀ (m : Wafer) (p : Fin 64) (level : Bool),
      (m.on (swd p) SWD_BSTAT.PRST = level) →
        Gives (.prstChange p level) m
          ({}) fun n =>
            n = m) ∧
  -- SWITCH_ON_REQUEST: none is due
  (∀ (m : Wafer) (p : Fin 64),
      ((m.sward p).rst = true ∨ (m.sward p).waitEnum = true ∨ m.on (swd p) SWD_DOMSTAT.GRANTED = true ∨ m.on (swd p) SWD_DOMSTAT.SON_WAIT = true ∨ needsGrant p (nextDomStep p m) m = false) →
        Gives (.switchOnRequest p) m
          ({}) fun n =>
            n = m)

/-- A unit reset starts CLEAR with the unit at its reset values and is counted and flagged, once while it lasts, or is rejected; a power-on reset ends in CLEAR; CLEAR ends in RESTORE, which shows the tie wires; a Sward reset marks itself, and its end, with its supply there, resumes frames with every unit returning. The model's own readings in it: log 23, 35 and 36. (R54, R320, R323, R324, R325, R326, R334) -/
def Obligations.UnitAndSwardReset : Prop :=
  -- URST
  (∀ (m : Wafer) (p : Fin 64) (u : Fin 128),
      (u.val < 64 ∨ (u.val < 72 ∧ isEdge p = true)) →
      ((m.unit (unitOf p u)).rst = .run) →
        Gives (.urst p u) m
          ({ blocks := [((unitOf p u).base, 0x1000), (swd p, 0x40000)], units := (· == unitOf p u), swards := (· == p.val), sends := true }) fun n =>
            ((n.unit (unitOf p u)).rst = .clear) ∧
            (∀ q : Fin 2, railState (unitOf p u) q n = rOFF ∧ railEnabled (unitOf p u) q n = false) ∧
            ((n.sward p).own u = []) ∧
            (n.get (swd p) SWD_RSTSTAT.UNIT = u.val) ∧
            (n.on (swd p) (SWD_UEPOCH.RST_SEEN u) = true) ∧
            (n.get (swd p) SWD_RSTSTAT.URST_CNT = min 255 (m.get (swd p) SWD_RSTSTAT.URST_CNT + 1))) ∧
  -- URST: in CLEAR or RESTORE
  (∀ (m : Wafer) (p : Fin 64) (u : Fin 128),
      (u.val < 64 ∨ (u.val < 72 ∧ isEdge p = true)) →
      ((m.unit (unitOf p u)).rst = .clear ∨ (m.unit (unitOf p u)).rst = .restore) →
        Gives (.urst p u) m
          ({ blocks := [((unitOf p u).base, 0x1000)], units := (· == unitOf p u), swards := (· == p.val) }) fun n =>
            ((n.unit (unitOf p u)).rst = .clear) ∧
            ((n.sward p).own u = [])) ∧
  -- URST: in its power-on reset
  (∀ (m : Wafer) (p : Fin 64) (u : Fin 128),
      (u.val < 64 ∨ (u.val < 72 ∧ isEdge p = true)) →
      ((m.unit (unitOf p u)).rst = .powerOn) →
        Gives (.urst p u) m
          ({ swards := (· == p.val) }) fun n =>
            (n.sward p).own u = []) ∧
  -- URST: no such unit
  (∀ (m : Wafer) (p : Fin 64) (u : Fin 128),
      (72 ≤ u.val ∨ (64 ≤ u.val ∧ isEdge p = false)) →
        Gives (.urst p u) m
          ({ fields := [(swd p, SWD_RSTSTAT.URST_REJ)] }) fun n =>
            n.on (swd p) SWD_RSTSTAT.URST_REJ = true) ∧
  -- TVDD_POR_RELEASE: of a Tussock or Verge
  (∀ (m : Wafer) (u : UnitId),
      ((m.unit u).rst = .powerOn) →
        Gives (.tvddPorRelease (.unit u)) m
          ({ blocks := [(u.base, 0x1000), (swd u.part, 0x40000)], units := (· == u), swards := (· == u.part), sends := true }) fun n =>
            ((n.unit u).rst = .clear) ∧
            (n.on (swd u.part) (SWD_UEPOCH.RST_SEEN u.loc) = true) ∧
            ((n.sward u.part).own u.loc = [])) ∧
  -- TVDD_POR_RELEASE: of a unit that is not held
  (∀ (m : Wafer) (u : UnitId),
      ((m.unit u).rst ≠ .powerOn) →
        Gives (.tvddPorRelease (.unit u)) m
          ({}) fun n =>
            n = m) ∧
  -- TVDD_POR_RELEASE: of a Sward
  (∀ (m : Wafer) (p : Fin 64),
        Gives (.tvddPorRelease (.sward p)) m
          ({ swards := (· == p.val) }) fun n =>
            ((n.sward p).por = false) ∧
            ((n.sward p).rst = (m.sward p).rst)) ∧
  -- UNIT_CLEAR_END
  (∀ (m : Wafer) (u : UnitId),
      ((m.unit u).rst = .clear) →
        Gives (.unitClearEnd u) m
          ({ blocks := [(u.base, 0x1000), (swd u.part, 0x40000)], units := (· == u), swards := (· == u.part), sends := true }) fun n =>
            ((n.unit u).rst = .restore) ∧
            (n.on u.base TSK_RST.RESTORE = true) ∧
            (u.isVerge = false → ∀ k : Fin 4, n.get u.base (TSK_TIESTAT.REQ_IN k) = ((m.unit u).port k).reqWire % 4 ∧ n.on u.base (TSK_TIESTAT.ACK_IN k) = ((m.unit u).port k).ackWire) ∧
            (mayRestore u.part m = true → (n.sward u.part).returning.contains u.loc = true ∧ (n.sward u.part).own u.loc ≠ [])) ∧
  -- UNIT_CLEAR_END: not in CLEAR
  (∀ (m : Wafer) (u : UnitId),
      ((m.unit u).rst ≠ .clear) →
        Gives (.unitClearEnd u) m
          ({}) fun n =>
            n = m) ∧
  -- SWARD_WATCHDOG
  (∀ (m : Wafer) (p : Fin 64),
      ((m.sward p).rst = false) →
        Gives (.swardWatchdog p) m
          (swardArea p) fun n =>
            ((n.sward p).rst = true) ∧
            (n.on (swd p) SWD_CSTAT.RST_GAP = true) ∧
            (n.get (swd p) SWD_RUNGSTAT.TGT = (m.sward p).rungSent % 2 ^ SWD_RUNGSTAT.TGT.wid) ∧
            ((n.sward p).frame = (m.sward p).frame) ∧
            ((n.sward p).walk = none) ∧
            (n.get (swd p) SWD_RSTSTAT.SRST_CNT = min (2 ^ SWD_RSTSTAT.SRST_CNT.wid - 1) (m.get (swd p) SWD_RSTSTAT.SRST_CNT + 1))) ∧
  -- SWARD_WATCHDOG: in reset already
  (∀ (m : Wafer) (p : Fin 64),
      ((m.sward p).rst = true) →
        Gives (.swardWatchdog p) m
          ({}) fun n =>
            n = m) ∧
  -- SWARD_RESET_END: before enumeration
  (∀ (m : Wafer) (p : Fin 64),
      ((m.sward p).rst = true) →
      ((m.sward p).por = false) →
      ((m.sward p).waitEnum = true) →
        Gives (.swardResetEnd p) m
          (swardArea p) fun n =>
            ((n.sward p).rst = false) ∧
            ((n.sward p).waitEnum = true)) ∧
  -- SWARD_RESET_END
  (∀ (m : Wafer) (p : Fin 64),
      ((m.sward p).rst = true) →
      ((m.sward p).por = false) →
      ((m.sward p).waitEnum = false) →
        Gives (.swardResetEnd p) m
          ({ blocks := [(swd p, 0x40000)], swards := (· == p.val), heath := true, sends := true }) fun n =>
            ((n.sward p).rst = false) ∧
            (∀ u ∈ unitsOf p, (n.sward p).returning.contains u = true) ∧
            ((n.sward p).dom = .resume) ∧
            ((n.sward p).schedDue = !m.heath.active) ∧
            (shadow p n = if shadow p m = shFW ∨ shadow p m = shFAIL then shadow p m else shCOPY)) ∧
  -- SWARD_RESET_END: not in reset, or without its supply
  (∀ (m : Wafer) (p : Fin 64),
      ((m.sward p).rst = false ∨ (m.sward p).por = true) →
        Gives (.swardResetEnd p) m
          ({}) fun n =>
            n = m)

/-- Each cause of a wafer reset leaves its code in RST_CAUSE, the first one while it lasts, and ends the Heaths' activity; a Sward with its supply resets itself and its units on the silence, and on the message unless it is a second copy or passed by; the release samples the straps; the active Heath that resets boots again and releases its reference. The model's own readings in it: log 21 and 36. (R47, R48, R54, R82, R84, R88, R319, R334) -/
def Obligations.WaferReset : Prop :=
  -- AUX_OK_LOW
  (∀ (m : Wafer),
      ((m.heath.auxLow || m.heath.sysLow || m.heath.cmdRst || m.heath.vstbyLost) = false) →
        Gives (.auxOkLow) m
          (heathArea) fun n =>
            (n.get 0 HTH_PINSTAT.RST_CAUSE = 0) ∧
            (n.heath.active = false) ∧
            (m.heath.active = true → n.out = ⟨.waferReset, 64, []⟩ :: m.out) ∧
            (n.get 0 HTH_PINSTAT.MSYNC_LVL = m.get 0 HTH_PINSTAT.MSYNC_LVL) ∧
            (n.heath.auxLow = true)) ∧
  -- AUX_OK_LOW: within a wafer reset
  (∀ (m : Wafer),
      (m.heath.vstbyLost = false) →
      ((m.heath.auxLow || m.heath.sysLow || m.heath.cmdRst) = true) →
        Gives (.auxOkLow) m
          (heathArea) fun n =>
            (n.get 0 HTH_PINSTAT.RST_CAUSE = m.get 0 HTH_PINSTAT.RST_CAUSE) ∧
            (n.heath.auxLow = true) ∧
            (n.heath.cmdRst = m.heath.cmdRst)) ∧
  -- SYS_RST_ASSERT
  (∀ (m : Wafer),
      ((m.heath.auxLow || m.heath.sysLow || m.heath.cmdRst || m.heath.vstbyLost) = false) →
        Gives (.sysRstAssert) m
          (heathArea) fun n =>
            (n.get 0 HTH_PINSTAT.RST_CAUSE = 1) ∧
            (n.heath.active = false) ∧
            (n.heath.sysLow = true)) ∧
  -- VSTBY_LOSS
  (∀ (m : Wafer),
        Gives (.vstbyLoss) m
          ({ heathArea with sends := false }) fun n =>
            (n.get 0 HTH_PINSTAT.RST_CAUSE = 0) ∧
            (n.heath.active = false) ∧
            (n.heath.vstbyLost = true)) ∧
  -- WAFER_RST
  (∀ (m : Wafer),
      ((m.heath.auxLow || m.heath.sysLow || m.heath.cmdRst || m.heath.vstbyLost) = false) →
        Gives (.waferRst) m
          (heathArea) fun n =>
            (n.get 0 HTH_PINSTAT.RST_CAUSE = 2) ∧
            (n.heath.active = false) ∧
            (n.get 0 HTH_HBSTAT.GEN = 0) ∧
            (n.heath.cmdRst = true)) ∧
  -- HEATH_RESET_RELEASE: with a Heath active, or after step 1
  (∀ (m : Wafer) (straps : Fin 4) (test : Bool),
      (m.heath.bringUp ≠ 0 ∨ m.heath.active = true) →
        Gives (.heathResetRelease straps test) m
          ({}) fun n =>
            n = m) ∧
  -- HEATH_RESET_RELEASE
  (∀ (m : Wafer) (straps : Fin 4) (test : Bool),
      (m.heath.bringUp = 0) →
      (m.heath.active = false) →
        Gives (.heathResetRelease straps test) m
          ({ heathArea with time := true }) fun n =>
            (n.get 0 HTH_PINSTAT.SMB_ADDR = straps.val) ∧
            (n.on 0 HTH_PINSTAT.TEST_ON = (test && m.heath.testFuse)) ∧
            (m.heath.vstbyLost = true → n.wtime = 0) ∧
            (m.heath.vstbyLost = false → n.wtime = m.wtime)) ∧
  -- WAFER_RESET_MESSAGE
  (∀ (m : Wafer) (p : Fin 64),
      ((m.sward p).passedBy = false) →
      (m.heath.dups.contains p.val = false) →
        Gives (.waferResetMessage p) m
          ({ partArea p with sends := false }) fun n =>
            ((n.sward p).rst = true) ∧
            ((n.sward p).waitEnum = true) ∧
            (∀ u ∈ unitsOf p, (n.unit (unitOf p u)).rst = .clear ∨ (n.unit (unitOf p u)).rst = .powerOn) ∧
            (n.word (swd p + 0x1000) = resetWord m.fuse (swd p + 0x1000))) ∧
  -- WAFER_RESET_MESSAGE: a second copy, or the stop is passed by
  (∀ (m : Wafer) (p : Fin 64),
      ((m.sward p).passedBy = true ∨ m.heath.dups.contains p.val = true) →
        Gives (.waferResetMessage p) m
          ({ heath := true }) fun n =>
            (n.sward p).rst = (m.sward p).rst) ∧
  -- SWARD_HEARTBEAT_TIMEOUT
  (∀ (m : Wafer) (p : Fin 64),
      ((m.sward p).por = false) →
        Gives (.swardHeartbeatTimeout p) m
          ({ partArea p with sends := false }) fun n =>
            ((n.sward p).rst = true) ∧
            ((n.sward p).waitEnum = true) ∧
            (∀ u ∈ unitsOf p, (n.unit (unitOf p u)).rst = .clear ∨ (n.unit (unitOf p u)).rst = .powerOn)) ∧
  -- SWARD_HEARTBEAT_TIMEOUT: without its supply
  (∀ (m : Wafer) (p : Fin 64),
      ((m.sward p).por = true) →
        Gives (.swardHeartbeatTimeout p) m
          ({}) fun n =>
            n = m) ∧
  -- HEATH_RST
  (∀ (m : Wafer),
      (m.heath.active = true) →
        Gives (.heathRst) m
          ({ heath := true }) fun n =>
            (n.heath.active = false) ∧
            (n.heath.vref = none) ∧
            (m.heath.halted.contains m.heath.activeId = false → m.heath.halting ≠ some m.heath.activeId → n.heath.booting.contains m.heath.activeId = true)) ∧
  -- HEATH_RST: none is active
  (∀ (m : Wafer),
      (m.heath.active = false) →
        Gives (.heathRst) m
          ({}) fun n =>
            n = m) ∧
  -- SWD_RST
  (∀ (m : Wafer) (p : Fin 64),
      ((m.sward p).passedBy = false) →
      ((m.sward p).rst = false) →
        Gives (.swdRst p) m
          (swardArea p) fun n =>
            ((n.sward p).rst = true) ∧
            (n.on (swd p) SWD_CSTAT.RST_GAP = true)) ∧
  -- SWD_RST: in reset already, or passed by
  (∀ (m : Wafer) (p : Fin 64),
      ((m.sward p).passedBy = true ∨ (m.sward p).rst = true) →
        Gives (.swdRst p) m
          ({}) fun n =>
            n = m) ∧
  -- SYS_RST_ASSERT: within a wafer reset
  (∀ (m : Wafer),
      (m.heath.vstbyLost = false) →
      ((m.heath.auxLow || m.heath.sysLow || m.heath.cmdRst) = true) →
        Gives (.sysRstAssert) m
          (heathArea) fun n =>
            (n.get 0 HTH_PINSTAT.RST_CAUSE = m.get 0 HTH_PINSTAT.RST_CAUSE) ∧
            (n.heath.sysLow = true) ∧
            (n.heath.auxLow = m.heath.auxLow))

/-- The first copy of a message is noted, and of a later one the command that follows has no effect; a stop that closes its bypass is passed by, and its partition is no longer live; an unanswered unicast is sent again, reaches its Sward again, and is given up after 1 ms; sixteen marks that each reach every live Sward align the time base while its reference is there. The model's own readings in it: log 69 and 72. (R47, R48, R51, R52, R271, R327, R331) -/
def Obligations.HedgerowAndTimeBase : Prop :=
  -- HEDGEROW_MESSAGE_RECEIVE: first copy
  (∀ (m : Wafer) (stop sender : Fin 66) (seq : BitVec 16),
      ((m.sward stop).passedBy = false ∨ 64 ≤ stop.val) →
      (m.heath.heard.contains (stop.val, sender.val, seq.toNat) = false) →
        Gives (.hedgerowMessageReceive stop sender seq) m
          ({ heath := true }) fun n =>
            (n.heath.heard.contains (stop.val, sender.val, seq.toNat) = true) ∧
            (n.heath.dups = m.heath.dups)) ∧
  -- HEDGEROW_MESSAGE_RECEIVE: second copy
  (∀ (m : Wafer) (stop sender : Fin 66) (seq : BitVec 16),
      ((m.sward stop).passedBy = false ∨ 64 ≤ stop.val) →
      (m.heath.heard.contains (stop.val, sender.val, seq.toNat) = true) →
        Gives (.hedgerowMessageReceive stop sender seq) m
          ({ heath := true }) fun n =>
            (n.heath.dups.contains stop.val = true) ∧
            (n.heath.heard = m.heath.heard)) ∧
  -- HEDGEROW_MESSAGE_RECEIVE: passed by
  (∀ (m : Wafer) (stop sender : Fin 66) (seq : BitVec 16),
      ((m.sward stop).passedBy = true) →
      (stop.val < 64) →
        Gives (.hedgerowMessageReceive stop sender seq) m
          ({}) fun n =>
            n = m) ∧
  -- STOP_BYPASS_CLOSE: a Sward
  (∀ (m : Wafer) (i : Fin 66),
      (ringStop i < 64) →
      (partLive (ringStop i) m = false) →
        Gives (.stopBypassClose i) m
          ({ swards := (· == ringStop i) }) fun n =>
            (n.sward (ringStop i)).bypass = true) ∧
  -- STOP_BYPASS_CLOSE: a live Sward
  (∀ (m : Wafer) (i : Fin 66),
      (ringStop i < 64) →
      (partLive (ringStop i) m = true) →
        Gives (.stopBypassClose i) m
          ({ fields := [(0, HTH_LIVE_LO.LIVE), (0, HTH_LIVE_HI.LIVE), (0, HTH_PLEASE.LEASE (ringStop i)), (0, HTH_FASTSTAT.BRAKE_ACT)], swards := (· == ringStop i) }) fun n =>
            ((n.sward (ringStop i)).bypass = true) ∧
            (partLive (ringStop i) n = false) ∧
            (n.get 0 (HTH_PLEASE.LEASE (ringStop i)) = Store.get zeroNat m.heath.leaseGot (ringStop i) % 2 ^ (HTH_PLEASE.LEASE (ringStop i)).wid) ∧
            (n.on 0 HTH_FASTSTAT.BRAKE_ACT = m.heath.held.any fun k => k != ringStop i && partLive k m)) ∧
  -- STOP_BYPASS_CLOSE: the active Heath
  (∀ (m : Wafer) (i : Fin 66),
      (ringStop i = 64 + m.heath.activeId) →
      (m.heath.active = true) →
        Gives (.stopBypassClose i) m
          ({ heath := true }) fun n =>
            (n.heath.active = false) ∧
            (n.heath.vref = none)) ∧
  -- STOP_BYPASS_CLOSE: the standby Heath
  (∀ (m : Wafer) (i : Fin 66),
      (64 ≤ ringStop i) →
      (ringStop i ≠ 64 + m.heath.activeId) →
      (m.heath.standby = true) →
        Gives (.stopBypassClose i) m
          ({ fields := [(0, HTH_HBSTAT.STBY_OK)], heath := true }) fun n =>
            (n.heath.standby = false) ∧
            (n.on 0 HTH_HBSTAT.STBY_OK = false) ∧
            (n.heath.active = m.heath.active)) ∧
  -- HEDGEROW_RETRY
  (∀ (m : Wafer) (p : Fin 64) (k : UnicastKind) (x : Unicast) (w : Nat),
      (m.heath.active = true) →
      ((m.heath.unicasts.find? (isUnicast p k x.addr)) = some x) →
      (x.kind = .lease ∨ x.kind = .trip) →
      (x.first + 16000 * x.sends ≤ w) →
      (w < x.first + 800000) →
        Gives (.hedgerowRetry p k x.addr w) m
          ({ heath := true, sends := true, time := true }) fun n =>
            (n.out = ⟨unicastOut k, p, x.data⟩ :: m.out) ∧
            ({ x with sends := x.sends + 1 } ∈ n.heath.unicasts)) ∧
  -- HEDGEROW_RETRY: a grant that its Sward takes
  (∀ (m : Wafer) (p : Fin 64) (x : Unicast) (w : Nat),
      (m.heath.active = true) →
      ((m.heath.unicasts.find? (isUnicast p .grant x.addr)) = some x) →
      (x.part = p.val) →
      (x.kind = .grant) →
      (x.first + 16000 * x.sends ≤ w) →
      (w < x.first + 800000) →
      ((m.sward p).passedBy = false) →
      ((m.sward p).rst = false) →
        Gives (.hedgerowRetry p .grant x.addr w) m
          ({ fields := [(0, HTH_UNREACH_LO.UNREACH), (0, HTH_UNREACH_HI.UNREACH)], blocks := [(swd p, 0x40000)], swards := (· == p.val), heath := true, sends := true, time := true }) fun n =>
            (n.on (swd p) SWD_DOMSTAT.GRANTED = true) ∧
            (n.heath.unicasts.any (fun y => y.part == p.val && y.kind == .grant) = false)) ∧
  -- HEDGEROW_RETRY: a setting whose stop is passed by
  (∀ (m : Wafer) (p : Fin 64) (x : Unicast) (w : Nat),
      (m.heath.active = true) →
      ((m.heath.unicasts.find? (isUnicast p .config x.addr)) = some x) →
      (x.part = p.val) →
      (x.kind = .config) →
      (placePart (place x.addr) = some p.val) →
      (x.first + 16000 * x.sends ≤ w) →
      (w < x.first + 800000) →
      ((m.sward p).passedBy = true) →
        Gives (.hedgerowRetry p .config x.addr w) m
          ({ heath := true, sends := true, time := true }) fun n =>
            (n.out = ⟨.config, p, x.data⟩ :: m.out) ∧
            ({ x with sends := x.sends + 1 } ∈ n.heath.unicasts)) ∧
  -- HEDGEROW_RETRY: a setting for a unit that its Sward takes
  (∀ (m : Wafer) (u : UnitId) (off : Fin 1024) (x : Unicast) (w : Nat),
      (m.heath.active = true) →
      (x.addr = u.base + 4 * off.val) →
      ((m.heath.unicasts.find? (isUnicast u.part .config x.addr)) = some x) →
      (x.part = u.part) →
      (x.kind = .config) →
      (x.first + 16000 * x.sends ≤ w) →
      (w < x.first + 800000) →
      (swardAnswers u.part m = true) →
      (((m.sward u.part).access u.loc).length < 16) →
        Gives (.hedgerowRetry ⟨u.part % 64, by omega⟩ .config x.addr w) m
          ({ fields := [(0, HTH_UNREACH_LO.UNREACH), (0, HTH_UNREACH_HI.UNREACH)], blocks := [(swd u.part, 0x40000)], swards := (· == u.part), heath := true, sends := true, time := true }) fun n =>
            ((n.sward u.part).access u.loc = (m.sward u.part).access u.loc ++ [⟨4 * off.val, BitVec.ofNat 32 (x.data.getD 1 0), false, .own⟩]) ∧
            (n.heath.unicasts.any (isUnicast u.part .config x.addr) = false)) ∧
  -- HEDGEROW_RETRY: a read that the service window waits for
  (∀ (m : Wafer) (p : Fin 64) (x : Unicast) (w : Nat),
      (m.heath.active = true) →
      (x.addr = swd p + SWD_TACFG.WIN_N.off) →
      ((m.heath.unicasts.find? (isUnicast p .access x.addr)) = some x) →
      (x.part = p.val) →
      (x.kind = .access) →
      (x.data = [2, 1, 1, 0]) →
      (x.first + 16000 * x.sends ≤ w) →
      (w < x.first + 800000) →
      (swardAnswers p m = true) →
      ((Store.get noLatch m.heath.latches 0).map Prod.fst ≠ some x.addr) →
        Gives (.hedgerowRetry p .access x.addr w) m
          ({ fields := [(0, HTH_UNREACH_LO.UNREACH), (0, HTH_UNREACH_HI.UNREACH)], blocks := [(swd p, 0x40000)], swards := (· == p.val), heath := true, sends := true, time := true }) fun n =>
            (n.out.contains ⟨.windowData, 64, [x.addr, (m.word x.addr).toNat]⟩ = true) ∧
            (n.heath.swOut = none) ∧
            (n.heath.unicasts.any (isUnicast p .access x.addr) = false)) ∧
  -- HEDGEROW_RETRY: before the next 20 µs point
  (∀ (m : Wafer) (p : Fin 64) (k : UnicastKind) (x : Unicast) (w : Nat),
      (m.heath.unicasts.find? (isUnicast p k x.addr) = some x) →
      (w < x.first + 16000 * x.sends) →
        Gives (.hedgerowRetry p k x.addr w) m
          ({ time := true }) fun n =>
            n.out = m.out) ∧
  -- HEDGEROW_ABANDON
  (∀ (m : Wafer) (p : Fin 64) (k : UnicastKind) (x : Unicast) (w : Nat),
      (m.heath.active = true) →
      (m.heath.unicasts.find? (isUnicast p k x.addr) = some x) →
      (x.first + 800000 ≤ w) →
        Gives (.hedgerowAbandon p k x.addr w) m
          ({ heathArea with time := true }) fun n =>
            (n.get 0 (if p.val < 32 then ⟨HTH_UNREACH_LO.UNREACH.off, p.val, 1⟩ else ⟨HTH_UNREACH_HI.UNREACH.off, p.val - 32, 1⟩) = 1) ∧
            (n.heath.unicasts.any (isUnicast p k x.addr) = false)) ∧
  -- HEDGEROW_ABANDON: within 1 ms
  (∀ (m : Wafer) (p : Fin 64) (k : UnicastKind) (x : Unicast) (w : Nat),
      (m.heath.unicasts.find? (isUnicast p k x.addr) = some x) →
      (w < x.first + 800000) →
        Gives (.hedgerowAbandon p k x.addr w) m
          ({ time := true }) fun n =>
            n.heath.unicasts = m.heath.unicasts) ∧
  -- ALIGNMENT_MARK
  (∀ (m : Wafer) (w : Nat),
      (m.heath.active = true) →
        Gives (.alignmentMark w) m
          ({ fields := [(0, HTH_TBSTAT.ALIGNED), (0, HTH_TBSTAT.MARK_MISS)], heath := true, sends := true, time := true }) fun n =>
            (n.heath.markAt = some []) ∧
            (n.out = ⟨.mark, 64, [w]⟩ :: m.out) ∧
            (markMissed m = true → n.on 0 HTH_TBSTAT.ALIGNED = false ∧ n.on 0 HTH_TBSTAT.MARK_MISS = true)) ∧
  -- ALIGNMENT_MARK_RECEIVE
  (∀ (m : Wafer) (p : Fin 64) (l : List Nat) (w : Nat),
      (m.heath.markAt = some l) →
      (partLive p m = true) →
      (l.contains p.val = false) →
        Gives (.alignmentMarkReceive p w) m
          ({ fields := [(0, HTH_TBSTAT.ALIGNED)], heath := true, time := true }) fun n =>
            (n.heath.markAt = some (p.val :: l)) ∧
            (n.heath.marks = if m.heath.markDone = false ∧ ((liveParts m).all fun q => (p.val :: l).contains q) = true then min 16 (m.heath.marks + 1) else m.heath.marks) ∧
            (m.heath.markDone = false → ((liveParts m).all fun q => (p.val :: l).contains q) = true → 15 ≤ m.heath.marks → m.on 0 HTH_TBSTAT.REF_OK = true → n.on 0 HTH_TBSTAT.ALIGNED = true)) ∧
  -- ALIGNMENT_MARK_RECEIVE: a Sward that has had it, or is not live
  (∀ (m : Wafer) (p : Fin 64) (l : List Nat) (w : Nat),
      (m.heath.markAt = some l) →
      (partLive p m = false ∨ l.contains p.val = true) →
        Gives (.alignmentMarkReceive p w) m
          ({ time := true }) fun n =>
            n.heath.marks = m.heath.marks) ∧
  -- MESH_REF_LOSS
  (∀ (m : Wafer),
        Gives (.meshRefLoss) m
          ({ fields := [(0, HTH_TBSTAT.REF_OK), (0, HTH_TBSTAT.ALIGNED), (0, HTH_TBSTAT.REF_LOST)], heath := true }) fun n =>
            (n.on 0 HTH_TBSTAT.REF_OK = false) ∧
            (n.on 0 HTH_TBSTAT.ALIGNED = false) ∧
            (n.on 0 HTH_TBSTAT.REF_LOST = true) ∧
            (n.heath.marks = 0)) ∧
  -- MESH_REF_RETURN
  (∀ (m : Wafer),
        Gives (.meshRefReturn) m
          ({ fields := [(0, HTH_TBSTAT.REF_OK)] }) fun n =>
            n.on 0 HTH_TBSTAT.REF_OK = true)

/-- The active Heath sends its generation; the standby that takes over goes on from its mirror with the generation one higher, counts it, reports source 44 and answers an access in flight with an error; the Heath with the lower priority gives way; mirror records are taken in order and acknowledged; a lost standby is reported. The model's own readings in it: log 8 and 73. (R47, R85, R88, R279, R318, R331, R332, R333, R335, R336) -/
def Obligations.HeathPair : Prop :=
  -- HEARTBEAT_SEND
  (∀ (m : Wafer) (w : Nat),
      (m.heath.active = true) →
        Gives (.heartbeatSend w) m
          ({ sends := true, time := true }) fun n =>
            n.out = ⟨.heartbeat, 64, [m.heath.activeId, m.get 0 HTH_HBSTAT.GEN]⟩ :: m.out) ∧
  -- HEATH_TAKEOVER
  (∀ (m : Wafer) (w : Nat),
      (m.heath.standby = true) →
      (m.heath.ready = true) →
        Gives (.heathTakeover w) m
          ({ blocks := [(0, 0x1000000)], swards := fun _ => true, heath := true, sends := true, time := true }) fun n =>
            (n.heath.active = true) ∧
            (n.heath.activeId = 1 - m.heath.activeId) ∧
            (n.heath.standby = false) ∧
            (n.heath.vref = some (1 - m.heath.activeId)) ∧
            (n.get 0 HTH_HBSTAT.GEN = ((takeMirrored m).get 0 HTH_HBSTAT.GEN + 1) % 256) ∧
            (n.get 0 HTH_HBSTAT.TAKEOVERS = min (2 ^ HTH_HBSTAT.TAKEOVERS.wid - 1) ((takeMirrored m).get 0 HTH_HBSTAT.TAKEOVERS + 1)) ∧
            (n.on 0 HTH_HBSTAT.HB_LOST = true) ∧
            (n.on 0 HTH_HBSTAT.STBY_OK = false) ∧
            (n.heath.retireMap = m.heath.mirror.retireMap ∧ n.heath.mapPend = m.heath.mirror.mapPend ∧ n.heath.leaseSeq = m.heath.mirror.leaseSeq) ∧
            (∀ k : Fin 4096, n.word (0x101000 + 4 * k.val) = (takeMirrored m).word (0x101000 + 4 * k.val)) ∧
            (n.heath.epochFrom = none ∧ n.heath.epochGot = none) ∧
            (n.heath.swOut = none ∧ n.heath.smbBusy = false)) ∧
  -- HEATH_TAKEOVER: before POWER_READY
  (∀ (m : Wafer) (w : Nat),
      (m.heath.standby = true) →
      (m.heath.ready = false) →
        Gives (.heathTakeover w) m
          ({ heathArea with time := true }) fun n =>
            (n.heath.cmdRst = true) ∧
            (n.heath.active = false) ∧
            (n.out = ⟨.waferReset, 64, []⟩ :: m.out)) ∧
  -- HEATH_TAKEOVER: there is no standby
  (∀ (m : Wafer) (w : Nat),
      (m.heath.standby = false) →
        Gives (.heathTakeover w) m
          ({ time := true }) fun n =>
            n.heath.active = m.heath.active) ∧
  -- HEARTBEAT_RECEIVE: the other Heath has priority
  (∀ (m : Wafer) (gen : BitVec 8),
      (m.heath.active = true) →
      (m.heath.dups.contains (64 + m.heath.activeId) = false) →
      (genHigher gen.toNat (m.get 0 HTH_HBSTAT.GEN) = true ∨ ((gen.toNat = m.get 0 HTH_HBSTAT.GEN ∨ (gen.toNat + 128) % 256 = m.get 0 HTH_HBSTAT.GEN) ∧ m.heath.activeId = 1)) →
        Gives (.heartbeatReceive gen) m
          (heathArea) fun n =>
            (n.heath.activeId = 1 - m.heath.activeId) ∧
            (n.heath.active = true) ∧
            (n.heath.standby = false) ∧
            (n.get 0 HTH_HBSTAT.GEN = gen.toNat) ∧
            (n.on 0 HTH_HBSTAT.STBY_OK = false) ∧
            (n.heath.swOut = none ∧ n.heath.smbBusy = false)) ∧
  -- HEARTBEAT_RECEIVE: a lower generation
  (∀ (m : Wafer) (gen : BitVec 8),
      (m.heath.dups.contains (64 + m.heath.activeId) = false) →
      (genHigher gen.toNat (m.get 0 HTH_HBSTAT.GEN) = false) →
      ((gen.toNat ≠ m.get 0 HTH_HBSTAT.GEN ∧ (gen.toNat + 128) % 256 ≠ m.get 0 HTH_HBSTAT.GEN) ∨ m.heath.activeId = 0) →
        Gives (.heartbeatReceive gen) m
          ({}) fun n =>
            n = m) ∧
  -- HEARTBEAT_RECEIVE: a second copy
  (∀ (m : Wafer) (gen : BitVec 8),
      (m.heath.dups.contains (64 + m.heath.activeId) = true) →
        Gives (.heartbeatReceive gen) m
          ({ heath := true }) fun n =>
            (n.heath.activeId = m.heath.activeId) ∧
            (n.heath.dups.contains (64 + m.heath.activeId) = false)) ∧
  -- MIRROR_RECORD_RECEIVE
  (∀ (m : Wafer) (seq : BitVec 16) (x : Mirrored),
      (m.heath.dups.contains (65 - m.heath.activeId) = false) →
      (m.heath.standby = true) →
      ((m.heath.mirrorQ.find? fun e => e.1 == seq.toNat) = some (seq.toNat, x)) →
      (seq.toNat = (m.heath.mirrorSeen + 1) % 2 ^ 16) →
        Gives (.mirrorRecordReceive seq) m
          (heathArea) fun n =>
            (n.heath.mirrorSeen = seq.toNat) ∧
            (n.heath.mirror = x) ∧
            (⟨.mirrorAck, m.heath.activeId, [seq.toNat]⟩ ∈ n.out)) ∧
  -- MIRROR_RECORD_RECEIVE: out of order, or not sent
  (∀ (m : Wafer) (seq : BitVec 16),
      (m.heath.dups.contains (65 - m.heath.activeId) = false) →
      (seq.toNat ≠ (m.heath.mirrorSeen + 1) % 2 ^ 16 ∨ (m.heath.mirrorQ.find? fun e => e.1 == seq.toNat) = none) →
        Gives (.mirrorRecordReceive seq) m
          ({}) fun n =>
            n = m) ∧
  -- STANDBY_LOST: none is there
  (∀ (m : Wafer),
      (m.heath.active = false ∨ m.on 0 HTH_HBSTAT.STBY_OK = false) →
        Gives (.standbyLost) m
          ({}) fun n =>
            n = m) ∧
  -- MIRROR_COPY_DONE: there is no copy under way
  (∀ (m : Wafer),
      (m.on 0 HTH_HBSTAT.MIRROR_SYNC = false) →
        Gives (.mirrorCopyDone) m
          ({}) fun n =>
            n = m) ∧
  -- a command's mirror record
 (∀ m n : Wafer, Within { heath := true, sends := true } n (mirrorStep m n) ∧
   (mirrors n = false → mirrorStep m n = n) ∧
   (mirrors n = true → mirrors m = true → mirrored n ≠ mirrored m →
     (mirrorStep m n).heath.mirrorQ = n.heath.mirrorQ ++ [((n.heath.mirrorSent + 1) % 2 ^ 16, mirrored n)] ∧
     (mirrorStep m n).out = ⟨.mirror, 1 - n.heath.activeId, [(n.heath.mirrorSent + 1) % 2 ^ 16]⟩ :: n.out)) ∧
  -- STANDBY_LOST
  (∀ (m : Wafer),
      (m.heath.active = true) →
      (m.on 0 HTH_HBSTAT.STBY_OK = true) →
        Gives (.standbyLost) m
          (heathArea) fun n =>
            (n.on 0 HTH_HBSTAT.STBY_OK = false) ∧
            (n.heath.standby = false)) ∧
  -- MIRROR_COPY_DONE
  (∀ (m : Wafer),
      (m.on 0 HTH_HBSTAT.MIRROR_SYNC = true) →
        Gives (.mirrorCopyDone) m
          ({ fields := [(0, HTH_HBSTAT.MIRROR_SYNC), (0, HTH_HBSTAT.STBY_OK)], heath := true }) fun n =>
            (n.on 0 HTH_HBSTAT.MIRROR_SYNC = false) ∧
            (n.on 0 HTH_HBSTAT.STBY_OK = true) ∧
            (n.heath.mirrorSeen = m.heath.mirrorSent)) ∧
  -- HEARTBEAT_SEND: none is active
  (∀ (m : Wafer) (w : Nat),
      (m.heath.active = false) →
        Gives (.heartbeatSend w) m
          ({ time := true }) fun n =>
            n.out = m.out)

/-- At the boundary of frame f a Sward takes f, its rung in force, its load and its records and sends a stop record naming f + 1 to every unit; in reset it only counts the frame; the commit point comes once a frame; an adopted patch whose mean tie power has been over its share for 1 ms is reported, and again after each further 1 ms. The model's own readings in it: log 9, 40 and 71. (R197, R203, R205, R209, R219, R236) -/
def Obligations.Boundary : Prop :=
  -- FRAME_BOUNDARY
  (∀ (m : Wafer) (p : Fin 64) (f : Nat),
      ((m.sward p).rst = false) →
        Gives (.frameBoundary p f) m
          ({ blocks := [(swd p, 0x40000), (0, 0x1000000)], swards := (· == p.val), heath := true, sends := true, time := true }) fun n =>
            ((n.sward p).frame = f) ∧
            ((n.sward p).committed = false) ∧
            ((n.sward p).inbox = []) ∧
            (∀ u ∈ unitsOf p, ∃ d, Store.get noFrame (n.sward p).down u = some d ∧ d.fnum = (f + 1) % 2 ^ 16) ∧
            (n.wtime = max m.wtime (800 * f))) ∧
  -- FRAME_BOUNDARY: in reset
  (∀ (m : Wafer) (p : Fin 64) (f : Nat),
      ((m.sward p).rst = true) →
        Gives (.frameBoundary p f) m
          ({ swards := (· == p.val), time := true }) fun n =>
            (n.sward p).frame = f) ∧
  -- COMMIT_POINT
  (∀ (m : Wafer) (p : Fin 64),
      ((m.sward p).rst = false) →
      ((m.sward p).committed = false) →
        Gives (.commitPoint p) m
          ({ blocks := [(swd p, 0x40000), (0, 0x1000000)], swards := (· == p.val), heath := true, sends := true, time := true }) fun n =>
            ((n.sward p).committed = true) ∧
            (n.wtime = max m.wtime (800 * (m.sward p).frame + 768))) ∧
  -- COMMIT_POINT: made already
  (∀ (m : Wafer) (p : Fin 64),
      ((m.sward p).committed = true) →
        Gives (.commitPoint p) m
          ({}) fun n =>
            n = m) ∧
  -- NBR_COUNT_CHANGE
  (∀ (m : Wafer) (g : Fin 4096),
        Gives (.nbrCountChange g) m
          ({ swards := fun _ => true, sends := true }) fun n =>
            ∀ k ∈ (List.range 4).filterMap (fun i => neighbour g i), (m.sward (k / 64)).rst = false → Store.get zeroNat (n.sward (k / 64)).nbr (k % 64) = (((List.range 4).filterMap fun i => neighbour k i).map fun i => reportedPhases i m).sum) ∧
  -- ADOPTION_OVER_CAP
  (∀ (m : Wafer) (g : Fin 4096) (w k : Nat),
      ((m.sward (g.val / 64)).rst = false) →
      (Store.get noNat (m.sward (g.val / 64)).tieOver (g.val % 64) = some k) →
      (k + 1000 ≤ (m.sward (g.val / 64)).frame) →
        Gives (.adoptionOverCap g w) m
          ({ swardArea (g.val / 64) with time := true }) fun n =>
            (n = reportEvent (g.val / 64) 29 (UnitId.tussock g).ref (freeDiv (m.get (swd (g.val / 64)) SWD_LBUD.BUDGET) 160).toNat (freeDiv (tieSum (g.val / 64) (g.val % 64) m) (10 ^ 9)).toNat ((m.at w).modSward (g.val / 64) fun x => { x with tieOver := Store.set noNat x.tieOver (g.val % 64) (some x.frame) })) ∧
            (Store.get noNat (n.sward (g.val / 64)).tieOver (g.val % 64) = some (m.sward (g.val / 64)).frame)) ∧
  -- ADOPTION_OVER_CAP: within its share, or not for 1 ms
  (∀ (m : Wafer) (g : Fin 4096) (w : Nat),
      (((Store.get noNat (m.sward (g.val / 64)).tieOver (g.val % 64)).all fun k => decide ((m.sward (g.val / 64)).frame < k + 1000)) = true) →
        Gives (.adoptionOverCap g w) m
          ({ time := true }) fun n =>
            n.out = m.out)

/-- The first good copy of a downlink is held for its boundary, as it reads after the CRC-16, and a frame with no good copy counts bad; the frame applies where its number names the boundary; a bad uplink copy flags the spoke and a good one, by its CRC-8, enters the Sward's inbox; a window ends by latching; the mesh takes the oldest power packet first, then telemetry, then trace, and none under FENCE. The model's own readings in it: log 5, 15, 39 and 40. (R77, R80, R203, R205, R206, R208, R366, R374, R377) -/
def Obligations.SpokeFrames : Prop :=
  -- DOWNLINK_FRAME_RECEIVE: no good copy
  (∀ (m : Wafer) (u : UnitId) (a c : Option (BitVec 1064)),
      (swathRuns u m = true) →
      ((((spokeFrame u.part (spokeOf u.loc) m).all fun b => (a.all fun x => !frameGood (b ^^^ x)) && (c.all fun x => !frameGood (b ^^^ x)))) = true) →
        Gives (.downlinkFrameReceive u (a, c)) m
          ({ swardArea u.part with fields := [(u.base, TSK_SWATH.BAD_CNT)] }) fun n =>
            (n.get u.base TSK_SWATH.BAD_CNT = min 65535 (m.get u.base TSK_SWATH.BAD_CNT + 1)) ∧
            ((n.unit u).frame = (m.unit u).frame)) ∧
  -- DOWNLINK_FRAME_RECEIVE: the unit does not receive
  (∀ (m : Wafer) (u : UnitId) (c : Option (BitVec 1064) × Option (BitVec 1064)),
      (swathRuns u m = false) →
        Gives (.downlinkFrameReceive u c) m
          ({}) fun n =>
            n = m) ∧
  -- DOWNLINK_APPLY
  (∀ (m : Wafer) (u : UnitId) (f : Nat) (s : Sample) (d : DownFrame),
      ((m.unit u).rst = .run) →
      ((m.unit u).frame = some d) →
      (d.fnum = f % 2 ^ 16) →
      (d.record = {}) →
        Gives (.downlinkApply u f s) m
          ({ unitArea u with blocks := [(u.base, 0x1000), (swd u.part, 0x40000)], swards := (· == u.part), sends := true, time := true }) fun n =>
            ((n.unit u).rung = d.rung) ∧
            (u.isVerge = false → (n.unit u).pgSpine = d.pgSpine) ∧
            (u.isVerge = false → (n.unit u).sentArrRet = d.arrRet) ∧
            (∃ r, (n.unit u).uplink = some r ∧ r.i0 = signedCode 16 (roundDiv s.i0 10)) ∧
            ((n.unit u).frame = none)) ∧
  -- DOWNLINK_APPLY: with a trim
  (∀ (m : Wafer) (u : UnitId) (f : Nat) (s : Sample) (d : DownFrame) (c : Int),
      ((m.unit u).rst = .run) →
      ((m.unit u).frame = some d) →
      (d.fnum = f % 2 ^ 16) →
      (d.record = { vtrim0 := some c }) →
      (-64 ≤ c) →
      (c ≤ 64) →
        Gives (.downlinkApply u f s) m
          ({ unitArea u with blocks := [(u.base, 0x1000), (swd u.part, 0x40000)], swards := (· == u.part), sends := true, time := true }) fun n =>
            n.getI u.base (TSK_VTRIM.VTRIM 0) = 625 * c) ∧
  -- DOWNLINK_APPLY: a frame for another boundary
  (∀ (m : Wafer) (u : UnitId) (f : Nat) (s : Sample) (d : DownFrame),
      ((m.unit u).rst = .run) →
      ((m.unit u).frame = some d) →
      (d.fnum ≠ f % 2 ^ 16) →
        Gives (.downlinkApply u f s) m
          ({ unitArea u with time := true }) fun n =>
            ((n.unit u).rung = (m.unit u).rung) ∧
            ((n.unit u).pgSpine = (m.unit u).pgSpine) ∧
            ((n.unit u).frame = none)) ∧
  -- DOWNLINK_APPLY: in CLEAR
  (∀ (m : Wafer) (u : UnitId) (f : Nat) (s : Sample),
      ((m.unit u).rst = .clear) →
        Gives (.downlinkApply u f s) m
          ({ units := (· == u), time := true }) fun n =>
            (n.unit u).uplink = none) ∧
  -- UPLINK_RECORD_RECEIVE
  (∀ (m : Wafer) (u : UnitId) (a b : Option (BitVec 200)) (r : UpRecord),
      ((m.unit u).uplink = some r) →
      ((m.sward u.part).rst = false) →
      (readRecord (recordBits r) = r) →
      (a = some 0 ∨ (b = some 0 ∧ (a.all fun c => !recordOk (recordBits r ^^^ c)) = true)) →
        Gives (.uplinkRecordReceive u a b) m
          (swardArea u.part) fun n =>
            (Store.get noRec (n.sward u.part).inbox u.loc = r) ∧
            ((n.sward u.part).got.contains u.loc = true) ∧
            ((a.any fun c => !recordOk (recordBits r ^^^ c)) = true ∨ (b.any fun c => !recordOk (recordBits r ^^^ c)) = true → (n.get (swd u.part) SWD_SWERR.CRC_ERR).testBit (spokeOf u.loc) = true)) ∧
  -- UPLINK_RECORD_RECEIVE: no good copy
  (∀ (m : Wafer) (u : UnitId) (a b : Option (BitVec 200)) (r : UpRecord),
      ((m.unit u).uplink = some r) →
      ((m.sward u.part).rst = false) →
      ((a.all fun c => !recordOk (recordBits r ^^^ c)) = true) →
      ((b.all fun c => !recordOk (recordBits r ^^^ c)) = true) →
        Gives (.uplinkRecordReceive u a b) m
          (swardArea u.part) fun n =>
            (Store.get noRec (n.sward u.part).inbox u.loc = Store.get noRec (m.sward u.part).inbox u.loc) ∧
            ((n.sward u.part).got = (m.sward u.part).got) ∧
            (a.isSome = true ∨ b.isSome = true → (n.get (swd u.part) SWD_SWERR.CRC_ERR).testBit (spokeOf u.loc) = true)) ∧
  -- UPLINK_RECORD_RECEIVE: none was sent, or the Sward is in reset
  (∀ (m : Wafer) (u : UnitId) (a b : Option (BitVec 200)),
      ((m.unit u).uplink = none ∨ (m.sward u.part).rst = true) →
        Gives (.uplinkRecordReceive u a b) m
          ({}) fun n =>
            n = m) ∧
  -- TELEMETRY_WINDOW_LATCH
  (∀ (m : Wafer) (u : UnitId) (f : Nat),
      ((m.unit u).telWait = false) →
      ((m.unit u).telN ≠ 0) →
      ((m.unit u).telFrom < f) →
      (f % 2 ^ m.get u.base TSK_TSTAT.WIN_N = 0) →
        Gives (.telemetryWindowLatch u f) m
          ({ unitArea u with time := true }) fun n =>
            (n.get u.base TSK_TSTAT.WSEQ = (m.get u.base TSK_TSTAT.WSEQ + 1) % 2 ^ 16) ∧
            (n.on u.base TSK_TSTAT.STALE = ((m.unit u).telBad || decide ((m.unit u).telN < 2 ^ m.get u.base TSK_TSTAT.WIN_N))) ∧
            ((n.unit u).telN = 0) ∧
            (n.getI u.base (TSK_TPK_V.VMIN 0) = m.getI u.base (TSK_TPK_V.VMIN 0))) ∧
  -- MESH_PACKET_SENT: no power packet waits
  (∀ (m : Wafer) (p : Fin 64) (k : MeshPacket),
      (m.on (swd p) SWD_BSTAT.FENCE = false) →
      (((m.sward p).mesh.find? (fun x => x.cls == .power)) = none) →
      (((m.sward p).mesh.find? (fun x => x.cls == .telemetry)).or (m.sward p).mesh.head? = some k) →
        Gives (.meshPacketSent ⟨p.val, by omega⟩) m
          (swardArea p) fun n =>
            (n.out.contains ⟨(meshEvent k.cls).2, p, k.epoch :: k.addr :: k.payload⟩ = true) ∧
            ((n.sward p).mesh = dropOldest k.cls (m.sward p).mesh)) ∧
  -- MESH_PACKET_SENT: none waits
  (∀ (m : Wafer) (p : Fin 64),
      ((m.sward p).mesh = []) →
        Gives (.meshPacketSent ⟨p.val, by omega⟩) m
          ({}) fun n =>
            n = m) ∧
  -- MESH_PACKET_SENT: from the Heath
  (∀ (m : Wafer) (k : MeshPacket) (rest : List MeshPacket),
      (m.heath.fault.sendBuf = k :: rest) →
        Gives (.meshPacketSent 64) m
          ({ heath := true, sends := true }) fun n =>
            (n.out = ⟨.faultCopy, 64, k.epoch :: k.addr :: k.payload⟩ :: m.out) ∧
            (n.heath.fault.sendBuf = rest)) ∧
  -- AGGREGATE_WINDOW_LATCH
  (∀ (m : Wafer) (p : Fin 64) (f : Nat),
      ((m.sward p).rst = false) →
      ((m.sward p).agg.running = true) →
      ((m.sward p).agg.n ≠ 0) →
      ((m.sward p).agg.start < f) →
      (f % 2 ^ (m.sward p).agg.winN = 0) →
        Gives (.aggregateWindowLatch p f) m
          ({ swardArea p with time := true }) fun n =>
            (n.get (swd p) SWD_TASTAT.WSEQ = (m.get (swd p) SWD_TASTAT.WSEQ + 1) % 2 ^ 16) ∧
            ((n.sward p).agg.start = f) ∧
            ((n.sward p).agg.n = 0)) ∧
  -- MESH_PACKET_SENT
  (∀ (m : Wafer) (p : Fin 64) (k : MeshPacket),
      (m.on (swd p) SWD_BSTAT.FENCE = false) →
      ((m.sward p).mesh.find? (fun x => x.cls == .power) = some k) →
        Gives (.meshPacketSent ⟨p.val, by omega⟩) m
          (swardArea p) fun n =>
            (n.out.contains ⟨.power, p, k.epoch :: k.addr :: k.payload⟩ = true) ∧
            ((n.sward p).mesh = dropOldest .power (m.sward p).mesh)) ∧
  -- MESH_PACKET_SENT: under FENCE
  (∀ (m : Wafer) (p : Fin 64),
      (m.on (swd p) SWD_BSTAT.FENCE = true) →
        Gives (.meshPacketSent ⟨p.val, by omega⟩) m
          ({}) fun n =>
            n.out = m.out) ∧
  -- DOWNLINK_FRAME_RECEIVE: a copy without an error
  (∀ (m : Wafer) (u : UnitId) (d : DownFrame) (b : BitVec 1064) (c : Option (BitVec 1064)),
      (swathRuns u m = true) →
      (Store.get noFrame (m.sward u.part).down u.loc = some d) →
      (spokeFrame u.part (spokeOf u.loc) m = some b) →
      (readFrame (stopOf u.loc) b = d) →
        Gives (.downlinkFrameReceive u (some 0, c)) m
          ({ units := (· == u) }) fun n =>
            (n.unit u).frame = some d) ∧
  -- DOWNLINK_FRAME_RECEIVE: the copy from one end in error or lost, the other good
  (∀ (m : Wafer) (u : UnitId) (b : BitVec 1064) (a : Option (BitVec 1064)) (e : BitVec 1064),
      (swathRuns u m = true) →
      (spokeFrame u.part (spokeOf u.loc) m = some b) →
      ((a.all fun c => !frameGood (b ^^^ c)) = true) →
      (frameGood (b ^^^ e) = true) →
        Gives (.downlinkFrameReceive u (a, some e)) m
          ({ units := (· == u) }) fun n =>
            (n.unit u).frame = some (readFrame (stopOf u.loc) (b ^^^ e))) ∧
  -- DOWNLINK_APPLY: the peaks of a rail that was not in REG
  (∀ (m : Wafer) (u : UnitId) (q : Fin 2) (f : Nat) (s : Sample),
      ((m.unit u).rst = .run) →
      ((m.unit u).frame = none) →
      (railState u q m ≠ rREG) →
      (((m.unit u).rail q).regSeen = false) →
        Gives (.downlinkApply u f s) m
          ({ unitArea u with time := true }) fun n =>
            (n.getI u.base (TSK_TPK_V.VMIN q) = m.getI u.base (TSK_TPK_V.VMIN q)) ∧
            (n.getI u.base (TSK_TPK_I.IMAX q) = m.getI u.base (TSK_TPK_I.IMAX q))) ∧
  -- DOWNLINK_APPLY: the peaks of a rail in REG
  (∀ (m : Wafer) (u : UnitId) (q : Fin 2) (f : Nat) (s : Sample) (i : Int),
      ((m.unit u).rst = .run) →
      ((m.unit u).frame = none) →
      (railState u q m = rREG) →
      ((if q = 0 then s.top0 else s.top1) = some i) →
      (-2 ^ 31 ≤ i ∧ i < 2 ^ 31) →
        Gives (.downlinkApply u f s) m
          ({ unitArea u with time := true }) fun n =>
            (n.getI u.base (TSK_TPK_I.IMAX q) = max (m.getI u.base (TSK_TPK_I.IMAX q)) i))

/-- OPEN opens the window with every PRST reported and is else rejected; a write to the map enters the pending copy of an open window and is else an error; COMMIT puts a copy with no number twice in force and raises MAP_GEN, and discards another; OPEN = 0 discards. (R31, R32, R33) -/
def Obligations.RemapWindow : Prop :=
  -- MAP_OPEN
  (∀ (m : Wafer),
      (m.on 0 HTH_MAPCTL.OPEN = false) →
      (prstAll m = true) →
        Gives (.mapOpen) m
          ({ fields := [(0, HTH_MAPCTL.OPEN)], heath := true }) fun n =>
            (n.on 0 HTH_MAPCTL.OPEN = true) ∧
            (n.heath.mapPend = []) ∧
            (n.heath.windows = m.heath.windows + 1)) ∧
  -- MAP_OPEN: open already
  (∀ (m : Wafer),
      (m.on 0 HTH_MAPCTL.OPEN = true) →
        Gives (.mapOpen) m
          ({}) fun n =>
            n.heath.mapPend = m.heath.mapPend) ∧
  -- MAP_DISCARD: window closed
  (∀ (m : Wafer),
      (m.on 0 HTH_MAPCTL.OPEN = false) →
        Gives (.mapDiscard) m
          ({}) fun n =>
            n.on 0 HTH_MAPCTL.OPEN = false) ∧
  -- MAP_OPEN: rejected
  (∀ (m : Wafer),
      (m.on 0 HTH_MAPCTL.OPEN = false) →
      (prstAll m = false) →
        Gives (.mapOpen) m
          ({ fields := [(0, HTH_MAPCTL.OPEN_REJ)] }) fun n =>
            n.on 0 HTH_MAPCTL.OPEN_REJ = true) ∧
  -- MAP_COMMIT
  (∀ (m : Wafer) (opens : Bool),
      (m.on 0 HTH_MAPCTL.OPEN = true) →
        Gives (.mapCommit opens) m
          ({ blocks := [(0x101000, 0x4000)], fields := [(0, HTH_MAPCTL.MAP_GEN), (0, HTH_MAPCTL.MAP_ERR), (0, HTH_MAPCTL.OPEN)], heath := true }) fun n =>
            (n.on 0 HTH_MAPCTL.OPEN = false) ∧
            (n.heath.mapPend = []) ∧
            (mapUnique m = true → n.get 0 HTH_MAPCTL.MAP_GEN = (m.get 0 HTH_MAPCTL.MAP_GEN + 1) % 256) ∧
            (mapUnique m = true → ∀ k : Fin 4096, n.word (0x101000 + 4 * k.val) = mapPending k m) ∧
            (mapUnique m = false → n.on 0 HTH_MAPCTL.MAP_ERR = true ∧ ∀ k : Fin 4096, n.word (0x101000 + 4 * k.val) = m.word (0x101000 + 4 * k.val))) ∧
  -- MAP_COMMIT: window closed
  (∀ (m : Wafer) (opens : Bool),
      (m.on 0 HTH_MAPCTL.OPEN = false) →
        Gives (.mapCommit opens) m
          ({ fields := [(0, HTH_MAPCTL.MAP_WERR)] }) fun n =>
            n.on 0 HTH_MAPCTL.MAP_WERR = true) ∧
  -- MAP_DISCARD
  (∀ (m : Wafer),
      (m.on 0 HTH_MAPCTL.OPEN = true) →
        Gives (.mapDiscard) m
          ({ fields := [(0, HTH_MAPCTL.OPEN)], heath := true }) fun n =>
            (n.on 0 HTH_MAPCTL.OPEN = false) ∧
            (n.heath.mapPend = [])) ∧
  -- LMAP_WRITE
  (∀ (m : Wafer) (k : Fin 4096) (data : Word),
      (m.on 0 HTH_MAPCTL.OPEN = true) →
        Gives (.lmapWrite k data) m
          ({ heath := true }) fun n =>
            mapPending k n = mapWord data) ∧
  -- LMAP_WRITE: window closed
  (∀ (m : Wafer) (k : Fin 4096) (data : Word),
      (m.on 0 HTH_MAPCTL.OPEN = false) →
        Gives (.lmapWrite k data) m
          ({ fields := [(0, HTH_MAPCTL.MAP_WERR)] }) fun n =>
            n.on 0 HTH_MAPCTL.MAP_WERR = true)

/-- A read of the low word latches the high word, which the next read of it returns, through the service window as through the user aperture; a write of the low word is held and applies with the write of the high word. The model's own readings in it: log 49. (R13) -/
def Obligations.SplitWords : Prop :=
  -- LOW_WORD_READ
  (∀ (m : Wafer) (super : Bool),
      (m.heath.active = true) →
      (m.on 0 HTH_BUSTAT.HALT = false) →
      (m.heath.swOut = none) →
        Gives (.lowWordRead (.window super) 0x60000) m
          ({ heath := true, sends := true }) fun n =>
            (n.out = ⟨.windowData, 64, [0x60000, m.wtime % 2 ^ 32]⟩ :: m.out) ∧
            (Store.get noLatch n.heath.latches 0 = some (0x60004, BitVec.ofNat 32 (m.wtime / 2 ^ 32)))) ∧
  -- HIGH_WORD_READ
  (∀ (m : Wafer) (super : Bool) (v : Word),
      (m.heath.active = true) →
      (m.on 0 HTH_BUSTAT.HALT = false) →
      (m.heath.swOut = none) →
      (Store.get noLatch m.heath.latches 0 = some (0x60004, v)) →
        Gives (.highWordRead (.window super) 0x60004) m
          ({ sends := true }) fun n =>
            n.out = ⟨.windowData, 64, [0x60004, v.toNat]⟩ :: m.out) ∧
  -- LOW_WORD_WRITE
  (∀ (m : Wafer) (p : Fin 64) (super : Bool) (data : Word),
      (m.heath.active = true) →
      (m.on 0 HTH_BUSTAT.HALT = false) →
      (m.on 0 HTH_HBSTAT.STBY_OK = false) →
      (m.heath.swOut = none) →
      (swardAnswers p m = true) →
      ((m.sward p).bypass = false) →
        Gives (.lowWordWrite (.window super) (BitVec.ofNat 30 (swd p + 0xB048)) data) m
          ({ fields := [(0, HTH_UNREACH_LO.UNREACH), (0, HTH_UNREACH_HI.UNREACH)], blocks := [(swd p, 0x40000)], swards := (· == p.val), heath := true, sends := true }) fun n =>
            (Store.get noLatch n.heath.lowHeld 0 = some (swd p + 0xB048, data)) ∧
            (n.word (swd p + 0xB048) = m.word (swd p + 0xB048))) ∧
  -- HIGH_WORD_WRITE
  (∀ (m : Wafer) (p : Fin 64) (super : Bool) (low data : Word),
      (m.heath.active = true) →
      (m.on 0 HTH_BUSTAT.HALT = false) →
      (m.on 0 HTH_HBSTAT.STBY_OK = false) →
      (m.heath.swOut = none) →
      (swardAnswers p m = true) →
      ((m.sward p).bypass = false) →
      (Store.get noLatch m.heath.lowHeld 0 = some (swd p + 0xB048, low)) →
        Gives (.highWordWrite (.window super) (BitVec.ofNat 30 (swd p + 0xB04C)) data) m
          ({ fields := [(0, HTH_UNREACH_LO.UNREACH), (0, HTH_UNREACH_HI.UNREACH)], blocks := [(swd p, 0x40000)], swards := (· == p.val), heath := true, sends := true }) fun n =>
            (n.word (swd p + 0xB048) = low ∧ n.word (swd p + 0xB04C) = data) ∧
            (Store.get noLatch n.heath.lowHeld 0 = none)) ∧
  -- HIGH_WORD_READ: no low word has been read
  (∀ (m : Wafer) (super : Bool),
      (m.heath.active = true) →
      (m.on 0 HTH_BUSTAT.HALT = false) →
      (m.heath.swOut = none) →
      (Store.get noLatch m.heath.latches 0 = none) →
        Gives (.highWordRead (.window super) 0x60004) m
          ({ sends := true }) fun n =>
            n.out = ⟨.windowData, 64, [0x60004, m.wtime / 2 ^ 32 % 2 ^ 32]⟩ :: m.out) ∧
  -- LOW_WORD_READ: at the user aperture
  (∀ (m : Wafer) (p : Fin 64) (g : Fin 4096),
      ((m.sward p).rst = false) →
        Gives (.lowWordRead (.aperture g true) (BitVec.ofNat 30 (swd p + 0xA704))) m
          ({ swardArea p with heath := true }) fun n =>
            (n.out.contains ⟨.apertureData, g, [0x704, m.wtime % 2 ^ 32]⟩ = true) ∧
            (Store.get noLatch n.heath.latches (2 + 4096 * p.val + g.val) = some (0x60004, BitVec.ofNat 32 (m.wtime / 2 ^ 32)))) ∧
  -- HIGH_WORD_READ: at the user aperture
  (∀ (m : Wafer) (p : Fin 64) (g : Fin 4096) (v : Word),
      ((m.sward p).rst = false) →
      (Store.get noLatch m.heath.latches (2 + 4096 * p.val + g.val) = some (0x60004, v)) →
        Gives (.highWordRead (.aperture g true) (BitVec.ofNat 30 (swd p + 0xA708))) m
          (swardArea p) fun n =>
            (n.out.contains ⟨.apertureData, g, [0x708, v.toNat]⟩ = true)) ∧
  -- LOW_WORD_READ: not the low word of a pair
  (∀ (m : Wafer) (i : Issuer) (a : BitVec 30),
      (isPairLow (issuedReg i a.toNat m) = false) →
        Gives (.lowWordRead i a) m
          ({}) fun n =>
            n = m)

/-- A window write sets the register and is answered, after the standby's acknowledgement where there is one; one that is not a whole aligned word is refused with ERR 2, one through a stop passed by with ERR 3, one through an invalid map entry with ERR 4, and a second one is told to retry; an access for a unit joins its stop's queue of 16 and waits for the channel; one whose Sward does not answer waits; a peak read answers the peak and resets it to its sentinel; the block bridge has its own LSEL; the user aperture shows the frame number and nothing to a user without USER_EN, and takes no write. The model's own readings in it: log 20, 45, 46 and 47. (R19, R30, R48, R56, R57, R207, R333, R371, R385, R426, R427, R428) -/
def Obligations.WindowAccess : Prop :=
  -- REGISTER_WRITE
  (∀ (m : Wafer) (super : Bool) (data : Word),
      (m.heath.active = true) →
      (m.on 0 HTH_BUSTAT.HALT = false) →
      (m.on 0 HTH_HBSTAT.STBY_OK = false) →
      (m.heath.swOut = none) →
        Gives (.registerWrite (.window super) 15 0x100004 data) m
          ({ fields := [(0, HTH_LSEL.LOG)], sends := true }) fun n =>
            (n.get 0 HTH_LSEL.LOG = getBits data 0 12) ∧
            (n.out = ⟨.windowOk, 64, [0x100004]⟩ :: m.out)) ∧
  -- REGISTER_WRITE: a Sward's register
  (∀ (m : Wafer) (p : Fin 64) (super : Bool) (data : Word),
      (m.heath.active = true) →
      (m.on 0 HTH_BUSTAT.HALT = false) →
      (m.on 0 HTH_HBSTAT.STBY_OK = false) →
      (m.heath.swOut = none) →
      (swardAnswers p m = true) →
      ((m.sward p).bypass = false) →
        Gives (.registerWrite (.window super) 15 (BitVec.ofNat 30 (swd p + 0xB000)) data) m
          ({ fields := [(0, HTH_UNREACH_LO.UNREACH), (0, HTH_UNREACH_HI.UNREACH)], blocks := [(swd p, 0x40000)], swards := (· == p.val), heath := true, sends := true }) fun n =>
            (n.get (swd p) SWD_TACFG.WIN_N = getBits data 0 5) ∧
            (20 < getBits data 0 5 → n.on (swd p) SWD_TASTAT.WCLAMP = true) ∧
            (n.out.contains ⟨.windowOk, 64, [swd p + 0xB000]⟩ = true)) ∧
  -- REGISTER_WRITE: not a whole word
  (∀ (m : Wafer) (super : Bool) (be : BitVec 4) (a : BitVec 30) (data : Word),
      (m.heath.active = true) →
      (m.on 0 HTH_BUSTAT.HALT = false) →
      (m.heath.swOut = none) →
      (be ≠ 15) →
        Gives (.registerWrite (.window super) be a data) m
          (heathArea) fun n =>
            (n.get 0 HTH_SWSTAT.LAST_ERR = 2) ∧
            (n.out.contains ⟨.windowError, 64, [2, a.toNat]⟩ = true)) ∧
  -- REGISTER_WRITE: a misaligned address
  (∀ (m : Wafer) (super : Bool) (a : BitVec 30) (data : Word),
      (m.heath.active = true) →
      (m.on 0 HTH_BUSTAT.HALT = false) →
      (m.heath.swOut = none) →
      (a.toNat % 4 ≠ 0) →
        Gives (.registerWrite (.window super) 15 a data) m
          (heathArea) fun n =>
            (n.get 0 HTH_SWSTAT.LAST_ERR = 2) ∧
            (n.out.contains ⟨.windowError, 64, [2, a.toNat]⟩ = true)) ∧
  -- REGISTER_WRITE: one outstanding
  (∀ (m : Wafer) (super : Bool) (be : BitVec 4) (a : BitVec 30) (data : Word),
      (m.heath.swOut.isSome = true) →
        Gives (.registerWrite (.window super) be a data) m
          ({ sends := true }) fun n =>
            n.out = ⟨.windowRetry, 64, [a.toNat]⟩ :: m.out) ∧
  -- LOGICAL_WINDOW_ACCESS
  (∀ (m : Wafer) (super : Bool) (g : Fin 4096) (o : Fin 1024),
      (m.heath.active = true) →
      (m.on 0 HTH_BUSTAT.HALT = false) →
      (m.heath.swOut = none) →
      (m.on 0 (HTH_LMAP.VALID (m.get 0 HTH_LSEL.LOG)) = true) →
      (m.get 0 (HTH_LMAP.PHYS (m.get 0 HTH_LSEL.LOG)) = g) →
      (mapped (tus g + 4 * o.val) = true) →
      (swardAnswers (g.val / 64) m = true) →
      (((m.sward (g.val / 64)).access (g.val % 64)).length < 16) →
        Gives (.logicalWindowAccess (.window super) 15 o none) m
          ({ blocks := [(swd (g.val / 64), 0x40000)], swards := (· == g.val / 64), heath := true, sends := true }) fun n =>
            ((n.sward (g.val / 64)).access (g.val % 64) = (m.sward (g.val / 64)).access (g.val % 64) ++ [⟨4 * o.val, 0, true, .window super⟩]) ∧
            (n.heath.swOut = some (tus g + 4 * o.val, none))) ∧
  -- LOGICAL_WINDOW_ACCESS: a write
  (∀ (m : Wafer) (super : Bool) (g : Fin 4096) (o : Fin 1024) (data : Word),
      (m.heath.active = true) →
      (m.on 0 HTH_BUSTAT.HALT = false) →
      (m.heath.swOut = none) →
      (m.on 0 (HTH_LMAP.VALID (m.get 0 HTH_LSEL.LOG)) = true) →
      (m.get 0 (HTH_LMAP.PHYS (m.get 0 HTH_LSEL.LOG)) = g) →
      (mapped (tus g + 4 * o.val) = true) →
      (swardAnswers (g.val / 64) m = true) →
      (((m.sward (g.val / 64)).access (g.val % 64)).length < 16) →
        Gives (.logicalWindowAccess (.window super) 15 o (some data)) m
          ({ fields := [(0, HTH_UNREACH_LO.UNREACH), (0, HTH_UNREACH_HI.UNREACH)], blocks := [(swd (g.val / 64), 0x40000)], swards := (· == g.val / 64), heath := true, sends := true }) fun n =>
            ((n.sward (g.val / 64)).access (g.val % 64) = (m.sward (g.val / 64)).access (g.val % 64) ++ [⟨4 * o.val, data, false, .window super⟩]) ∧
            (n.out.contains ⟨.windowOk, 64, [0x108000 + 4 * o.val]⟩ = true) ∧
            (n.heath.swOut = none)) ∧
  -- LOGICAL_WINDOW_ACCESS: an invalid entry
  (∀ (m : Wafer) (super : Bool) (o : Fin 1024) (write : Option Word),
      (m.heath.active = true) →
      (m.on 0 HTH_BUSTAT.HALT = false) →
      (m.heath.swOut = none) →
      (m.on 0 (HTH_LMAP.VALID (m.get 0 HTH_LSEL.LOG)) = false) →
        Gives (.logicalWindowAccess (.window super) 15 o write) m
          (heathArea) fun n =>
            (n.get 0 HTH_SWSTAT.LAST_ERR = 4) ∧
            (n.out.contains ⟨.windowError, 64, [4, 0x108000 + 4 * o.val]⟩ = true)) ∧
  -- PEAK_READ
  (∀ (m : Wafer) (i : Issuer) (u : UnitId) (k : PeakReg) (v : Nat),
      (swathRuns u m = true) →
      (peakSentinel u k.off = some v) →
        Gives (.peakRead i u k) m
          ({ blocks := [(u.base + k.off, 4)], sends := true }) fun n =>
            (n.word (u.base + k.off) = BitVec.ofNat 32 v) ∧
            (n.out = ⟨.readData, u.part, [u.base + k.off, (m.word (u.base + k.off)).toNat, (issuerAttr i (u.base + k.off)).mkind]⟩ :: m.out)) ∧
  -- PEAK_READ: the unit does not receive
  (∀ (m : Wafer) (i : Issuer) (u : UnitId) (k : PeakReg),
      (swathRuns u m = false) →
        Gives (.peakRead i u k) m
          ({}) fun n =>
            n = m) ∧
  -- ACCESS_CHANNEL_ENQUEUE
  (∀ (m : Wafer) (u : UnitId) (off : Fin 1024) (data : Word) (read : Bool),
      (m.heath.dups.contains u.part = false) →
      (swardAnswers u.part m = true) →
      (((m.sward u.part).access u.loc).length < 16) →
        Gives (.accessChannelEnqueue u off data read .own) m
          ({ swardArea u.part with fields := [(0, HTH_UNREACH_LO.UNREACH), (0, HTH_UNREACH_HI.UNREACH)], heath := true }) fun n =>
            ((n.sward u.part).access u.loc = (m.sward u.part).access u.loc ++ [⟨4 * off.val, data, read, .own⟩]) ∧
            (n.heath.unicasts.any (isUnicast u.part .config (u.base + 4 * off.val)) = false)) ∧
  -- ACCESS_CHANNEL_ENQUEUE: a write that the service window waits for
  (∀ (m : Wafer) (u : UnitId) (off : Fin 1024) (data : Word) (super : Bool),
      (m.heath.active = true) →
      (m.heath.dups.contains u.part = false) →
      (m.heath.swOut.isSome = true) →
      (swardAnswers u.part m = true) →
      (((m.sward u.part).access u.loc).length < 16) →
        Gives (.accessChannelEnqueue u off data false (.window super)) m
          ({ swardArea u.part with fields := [(0, HTH_UNREACH_LO.UNREACH), (0, HTH_UNREACH_HI.UNREACH)], heath := true }) fun n =>
            ((n.sward u.part).access u.loc = (m.sward u.part).access u.loc ++ [⟨4 * off.val, data, false, .window super⟩]) ∧
            (n.heath.swOut = none) ∧
            (n.out.contains ⟨.windowOk, 64, [u.base + 4 * off.val]⟩ = true)) ∧
  -- ACCESS_CHANNEL_ENQUEUE: the queue is full
  (∀ (m : Wafer) (u : UnitId) (off : Fin 1024) (data : Word) (read : Bool),
      (m.heath.dups.contains u.part = false) →
      (16 ≤ ((m.sward u.part).access u.loc).length) →
        Gives (.accessChannelEnqueue u off data read .own) m
          (swardArea u.part) fun n =>
            (n.sward u.part).access u.loc = (m.sward u.part).access u.loc) ∧
  -- ACCESS_CHANNEL_ENQUEUE: a second copy, or the stop is passed by
  (∀ (m : Wafer) (u : UnitId) (off : Fin 1024) (data : Word) (read : Bool) (i : Issuer),
      ((m.sward u.part).passedBy = true ∨ m.heath.dups.contains u.part = true) →
        Gives (.accessChannelEnqueue u off data read i) m
          ({ heath := true }) fun n =>
            (n.sward u.part).access u.loc = (m.sward u.part).access u.loc) ∧
  -- APERTURE_READ: a write
  (∀ (m : Wafer) (p : Fin 64) (g : Fin 4096) (super : Bool) (o : Fin 1024),
      ((m.sward p).rst = false) →
        Gives (.apertureRead p g super true o) m
          (swardArea p) fun n =>
            n = count p 66 1 (issuerAttr (.aperture g super) (swd p + 0xA000 + 4 * o.val)) m) ∧
  -- APERTURE_READ: in the Sward's reset
  (∀ (m : Wafer) (p : Fin 64) (g : Fin 4096) (super write : Bool) (o : Fin 1024),
      ((m.sward p).rst = true) →
        Gives (.apertureRead p g super write o) m
          ({}) fun n =>
            n = m) ∧
  -- APERTURE_READ
  (∀ (m : Wafer) (p : Fin 64) (g : Fin 4096) (super : Bool),
      ((m.sward p).rst = false) →
      (super = true ∨ m.on (swd p) SWD_UAPCTL.USER_EN = true) →
      ((Store.get noLatch m.heath.latches (2 + 4096 * p.val + g.val)).map Prod.fst ≠ some (swd p + 0x800C)) →
        Gives (.apertureRead p g super false 0x1C0) m
          (swardArea p) fun n =>
            n.out.contains ⟨.apertureData, g, [0x700, (m.sward p).frame % 2 ^ 32]⟩ = true) ∧
  -- APERTURE_READ: a user without USER_EN
  (∀ (m : Wafer) (p : Fin 64) (g : Fin 4096) (o : Fin 1024),
      ((m.sward p).rst = false) →
      (m.on (swd p) SWD_UAPCTL.USER_EN = false) →
        Gives (.apertureRead p g false false o) m
          (swardArea p) fun n =>
            n.out.contains ⟨.apertureData, g, [4 * o.val, 0]⟩ = true) ∧
  -- REGISTER_WRITE: with a standby
  (∀ (m : Wafer) (super : Bool) (data : Word),
      (mirrors m = true) →
      (m.on 0 HTH_BUSTAT.HALT = false) →
      (m.heath.swOut = none) →
        Gives (.registerWrite (.window super) 15 0x100004 data) m
          ({ fields := [(0, HTH_LSEL.LOG)], heath := true }) fun n =>
            (n.get 0 HTH_LSEL.LOG = getBits data 0 12) ∧
            (n.heath.swOut = some (0x100004, some ((m.heath.mirrorSent + 1) % 2 ^ 16)))) ∧
  -- REGISTER_WRITE: through the block bridge
  (∀ (m : Wafer) (data : Word),
      (m.heath.active = true) →
      (m.on 0 HTH_BUSTAT.HALT = false) →
        Gives (.registerWrite .smbus 15 0x100004 data) m
          ({ fields := [(0, HTH_SMBCNT.TXN_OK)], heath := true }) fun n =>
            (n.heath.lselSmb = data &&& 0xFFF) ∧
            (n.get 0 HTH_LSEL.LOG = m.get 0 HTH_LSEL.LOG) ∧
            (n.get 0 HTH_SMBCNT.TXN_OK = (m.get 0 HTH_SMBCNT.TXN_OK + 1) % 2 ^ HTH_SMBCNT.TXN_OK.wid)) ∧
  -- REGISTER_WRITE: through the user aperture
  (∀ (m : Wafer) (p : Fin 64) (g : Fin 4096) (super : Bool) (be : BitVec 4) (o : Fin 1024) (data : Word),
      ((m.sward p).rst = false) →
        Gives (.registerWrite (.aperture g super) be (BitVec.ofNat 30 (swd p + 0xA000 + 4 * o.val)) data) m
          (swardArea p) fun n =>
            n = count p 66 1 (issuerAttr (.aperture g super) (swd p + 0xA000 + 4 * o.val)) m) ∧
  -- REGISTER_WRITE: a Sward that does not answer
  (∀ (m : Wafer) (p : Fin 64) (super : Bool) (data : Word),
      (m.heath.active = true) →
      (m.on 0 HTH_BUSTAT.HALT = false) →
      (m.heath.swOut = none) →
      ((m.sward p).passedBy = false) →
      (swardAnswers p m = false) →
        Gives (.registerWrite (.window super) 15 (BitVec.ofNat 30 (swd p + 0xB000)) data) m
          ({ heath := true, sends := true }) fun n =>
            (n.heath.swOut = some (swd p + 0xB000, none)) ∧
            (n.heath.unicasts.any (isUnicast p .access (swd p + 0xB000)) = true)) ∧
  -- REGISTER_WRITE: refused
  (∀ (m : Wafer) (super : Bool) (a : BitVec 30) (data : Word) (e b : Nat),
      (m.heath.active = true) →
      (m.on 0 HTH_BUSTAT.HALT = false) →
      (m.heath.swOut = none) →
      (target (.window super) a.toNat m = (e, b)) →
      (e ≠ 0) →
      (readsRecord b = false) →
        Gives (.registerWrite (.window super) 15 a data) m
          (heathArea) fun n =>
            (n.get 0 HTH_SWSTAT.LAST_ERR = e) ∧
            (n.out.contains ⟨.windowError, 64, [e, b]⟩ = true)) ∧
  -- REGISTER_WRITE: no Heath is active
  (∀ (m : Wafer) (super : Bool) (be : BitVec 4) (a : BitVec 30) (data : Word),
      (m.heath.active = false) →
      (m.on 0 HTH_BUSTAT.HALT = false) →
      (m.heath.swOut = none) →
        Gives (.registerWrite (.window super) be a data) m
          ({}) fun n =>
            n = m)

/-- Each read command answers the bytes of its quantity, low byte first: readings in Linear11, the status bits of Table 13.3, the identity strings and the cap in force; nothing else changes but the count of transactions. A block takes a report buffer or stretches; a read command that is written, and any on a halted wafer, is an invalid command. The model's own readings in it: log 13, 16, 48 and 70. (R314, R411, R412, R416, R417, R421, R422, R423, R425) -/
def Obligations.SmbusReads : Prop :=
  -- READ_VIN
  (∀ (m : Wafer),
      (m.heath.active = true) →
      (page m < 16) →
      (m.on 0 HTH_BUSTAT.HALT = false) →
        Gives (.readVin false) m
          ({ fields := [(0, HTH_SMBCNT.TXN_OK)], sends := true }) fun n =>
            n.out = ⟨.smbus, 64, wordLow (linear11 (channel (page m) m) 1000000)⟩ :: m.out) ∧
  -- READ_VIN: of the wafer
  (∀ (m : Wafer),
      (m.heath.active = true) →
      (16 ≤ page m ∧ enabledFeeds m ≠ []) →
      (m.on 0 HTH_BUSTAT.HALT = false) →
        Gives (.readVin false) m
          ({ fields := [(0, HTH_SMBCNT.TXN_OK)], sends := true }) fun n =>
            n.out = ⟨.smbus, 64, wordLow (linear11 ((((enabledFeeds m).map fun k => channel k m).sum) / (enabledFeeds m).length) 1000000)⟩ :: m.out) ∧
  -- READ_VIN: of the wafer, with no feed enabled
  (∀ (m : Wafer),
      (m.heath.active = true) →
      (16 ≤ page m ∧ enabledFeeds m = []) →
      (m.on 0 HTH_BUSTAT.HALT = false) →
        Gives (.readVin false) m
          ({ fields := [(0, HTH_SMBCNT.TXN_OK)], sends := true }) fun n =>
            n.out = ⟨.smbus, 64, wordLow (linear11 (Config.meanOfNone (m.fresh + 1)) 1000000)⟩ :: m.out) ∧
  -- READ_IIN
  (∀ (m : Wafer),
      (m.heath.active = true) →
      (m.on 0 HTH_BUSTAT.HALT = false) →
        Gives (.readIin false) m
          ({ fields := [(0, HTH_SMBCNT.TXN_OK)], sends := true }) fun n =>
            n.out = ⟨.smbus, 64, wordLow (linear11 (if page m < 16 then channel (16 + page m) m else ((enabledFeeds m).map fun k => channel (16 + k) m).sum) 1000)⟩ :: m.out) ∧
  -- READ_PIN
  (∀ (m : Wafer),
      (m.heath.active = true) →
      (m.on 0 HTH_BUSTAT.HALT = false) →
        Gives (.readPin false) m
          ({ fields := [(0, HTH_SMBCNT.TXN_OK)], sends := true }) fun n =>
            n.out = ⟨.smbus, 64, wordLow (linear11 (if page m < 16 then (if (m.get 0 MTR_FEEDCFG.FEN).testBit (page m) then m.getI 0 (MTR_FPWR.PWR (page m)) else 0) else m.getI 0 MTR_PIN.PIN) 1000)⟩ :: m.out) ∧
  -- READ_TEMPERATURE_1
  (∀ (m : Wafer),
      (m.heath.active = true) →
      (m.on 0 HTH_BUSTAT.HALT = false) →
        Gives (.readTemperature1 false) m
          ({ fields := [(0, HTH_SMBCNT.TXN_OK)], sends := true }) fun n =>
            n.out = ⟨.smbus, 64, wordLow (linear11 (m.getI 0 (MTR_VAL.VAL 32)) 1000)⟩ :: m.out) ∧
  -- READ_TEMPERATURE_2
  (∀ (m : Wafer),
      (m.heath.active = true) →
      (m.on 0 HTH_BUSTAT.HALT = false) →
        Gives (.readTemperature2 false) m
          ({ fields := [(0, HTH_SMBCNT.TXN_OK)], sends := true }) fun n =>
            n.out = ⟨.smbus, 64, wordLow (linear11 (m.getI 0 (MTR_VAL.VAL 33)) 1000)⟩ :: m.out) ∧
  -- READ_TEMPERATURE_3
  (∀ (m : Wafer),
      (m.heath.active = true) →
      (m.on 0 HTH_BUSTAT.HALT = false) →
        Gives (.readTemperature3 false) m
          ({ fields := [(0, HTH_SMBCNT.TXN_OK)], sends := true }) fun n =>
            n.out = ⟨.smbus, 64, wordLow (linear11 (m.getI 0 (MTR_VAL.VAL 42)) 1000)⟩ :: m.out) ∧
  -- STATUS_BYTE
  (∀ (m : Wafer),
      (m.heath.active = true) →
      (m.on 0 HTH_BUSTAT.HALT = false) →
        Gives (.statusByte false) m
          ({ fields := [(0, HTH_SMBCNT.TXN_OK)], sends := true }) fun n =>
            n.out = ⟨.smbus, 64, [statusByte m]⟩ :: m.out) ∧
  -- STATUS_WORD
  (∀ (m : Wafer),
      (m.heath.active = true) →
      (m.on 0 HTH_BUSTAT.HALT = false) →
        Gives (.statusWord false) m
          ({ fields := [(0, HTH_SMBCNT.TXN_OK)], sends := true }) fun n =>
            n.out = ⟨.smbus, 64, wordLow (statusWord m)⟩ :: m.out) ∧
  -- STATUS_INPUT
  (∀ (m : Wafer),
      (m.heath.active = true) →
      (m.on 0 HTH_BUSTAT.HALT = false) →
        Gives (.statusInput false) m
          ({ fields := [(0, HTH_SMBCNT.TXN_OK)], sends := true }) fun n =>
            n.out = ⟨.smbus, 64, [128 * bit (pending 5 m) + 32 * bit (pending 4 m) + 16 * bit (pending 3 m) + 8 * m.get 0 HTH_BUSTAT.VIB_WAIT + bit (pending 46 m)]⟩ :: m.out) ∧
  -- STATUS_TEMPERATURE
  (∀ (m : Wafer),
      (m.heath.active = true) →
      (m.on 0 HTH_BUSTAT.HALT = false) →
        Gives (.statusTemperature false) m
          ({ fields := [(0, HTH_SMBCNT.TXN_OK)], sends := true }) fun n =>
            n.out = ⟨.smbus, 64, [128 * bit (pending 10 m || pending 58 m) + 64 * bit (pending 9 m)]⟩ :: m.out) ∧
  -- STATUS_CML
  (∀ (m : Wafer),
      (m.heath.active = true) →
      (m.on 0 HTH_BUSTAT.HALT = false) →
        Gives (.statusCml false) m
          ({ fields := [(0, HTH_SMBCNT.TXN_OK)], sends := true }) fun n =>
            n.out = ⟨.smbus, 64, [128 * m.get 0 HTH_SMBSTAT.INV_CMD + 64 * m.get 0 HTH_SMBSTAT.INV_DATA + 32 * m.get 0 HTH_SMBSTAT.PEC_FAIL + 2 * bit (m.on 0 HTH_SMBSTAT.STALL || m.on 0 HTH_SMBSTAT.STRETCH_TO)]⟩ :: m.out) ∧
  -- STATUS_MFR_SPECIFIC
  (∀ (m : Wafer),
      (m.heath.active = true) →
      (m.on 0 HTH_BUSTAT.HALT = false) →
        Gives (.statusMfrSpecific false) m
          ({ fields := [(0, HTH_SMBCNT.TXN_OK)], sends := true }) fun n =>
            n.out = ⟨.smbus, 64, [128 * m.get 0 HTH_FSTAT.WTRIP + 4 * bit (pending 56 m) + 2 * bit (m.on 0 HTH_FPEND_HI.PEND) + bit (m.on 0 HTH_FPEND_LO.PEND)]⟩ :: m.out) ∧
  -- CAPABILITY
  (∀ (m : Wafer),
      (m.heath.active = true) →
      (m.on 0 HTH_BUSTAT.HALT = false) →
        Gives (.capability false) m
          ({ fields := [(0, HTH_SMBCNT.TXN_OK)], sends := true }) fun n =>
            n.out = ⟨.smbus, 64, [0xD0]⟩ :: m.out) ∧
  -- PMBUS_REVISION
  (∀ (m : Wafer),
      (m.heath.active = true) →
      (m.on 0 HTH_BUSTAT.HALT = false) →
        Gives (.pmbusRevision false) m
          ({ fields := [(0, HTH_SMBCNT.TXN_OK)], sends := true }) fun n =>
            n.out = ⟨.smbus, 64, [0x33]⟩ :: m.out) ∧
  -- MFR_ID
  (∀ (m : Wafer),
      (m.heath.active = true) →
      (m.on 0 HTH_BUSTAT.HALT = false) →
      (m.heath.commons.frames = []) →
      (0 < freeBuffers m) →
        Gives (.mfrId false) m
          ({ fields := [(0, HTH_SMBCNT.TXN_OK)], heath := true, sends := true }) fun n =>
            (n.out = ⟨.smbus, 64, (4 :: [80, 79, 82, 90])⟩ :: m.out) ∧
            (n.heath.smbBusy = false)) ∧
  -- MFR_MODEL
  (∀ (m : Wafer),
      (m.heath.active = true) →
      (m.on 0 HTH_BUSTAT.HALT = false) →
      (m.heath.commons.frames = []) →
      (0 < freeBuffers m) →
        Gives (.mfrModel false) m
          ({ fields := [(0, HTH_SMBCNT.TXN_OK)], heath := true, sends := true }) fun n =>
            (n.out = ⟨.smbus, 64, (9 :: [89, 79, 76, 79, 82, 45, 68, 82, 67])⟩ :: m.out) ∧
            (n.heath.smbBusy = false)) ∧
  -- MFR_REVISION
  (∀ (m : Wafer),
      (m.heath.active = true) →
      (m.on 0 HTH_BUSTAT.HALT = false) →
      (m.heath.commons.frames = []) →
      (0 < freeBuffers m) →
        Gives (.mfrRevision false) m
          ({ fields := [(0, HTH_SMBCNT.TXN_OK)], heath := true, sends := true }) fun n =>
            (n.out = ⟨.smbus, 64, [2, m.get 0 HTH_IDENT.SIL_MAJOR, m.get 0 HTH_IDENT.SIL_MINOR]⟩ :: m.out) ∧
            (n.heath.smbBusy = false)) ∧
  -- MFR_MODEL: no report buffer is free
  (∀ (m : Wafer),
      (m.heath.active = true) →
      (m.on 0 HTH_BUSTAT.HALT = false) →
      (m.heath.commons.bufAt = m.wtime) →
      (63 ≤ m.heath.commons.bufHeld) →
        Gives (.mfrModel false) m
          ({ fields := [(0, HTH_FBUFCNT.RETRY_SMB)], heath := true }) fun n =>
            (n.heath.smbBusy = true) ∧
            (n.get 0 HTH_FBUFCNT.RETRY_SMB = min (2 ^ HTH_FBUFCNT.RETRY_SMB.wid - 1) (m.get 0 HTH_FBUFCNT.RETRY_SMB + 1))) ∧
  -- MFR_CAP_EFF
  (∀ (m : Wafer),
      (m.heath.active = true) →
      (m.on 0 HTH_BUSTAT.HALT = false) →
        Gives (.mfrCapEff false) m
          ({ fields := [(0, HTH_SMBCNT.TXN_OK)], sends := true }) fun n =>
            n.out = ⟨.smbus, 64, [m.get 0 HTH_CAPEFF.CAP_EFF % 256, m.get 0 HTH_CAPEFF.CAP_EFF / 256 % 256]⟩ :: m.out) ∧
  -- READ_VIN: written
  (∀ (m : Wafer),
      (m.heath.active = true) →
      (m.on 0 HTH_BUSTAT.HALT = false) →
        Gives (.readVin true) m
          (heathArea) fun n =>
            (n.on 0 HTH_SMBSTAT.INV_CMD = true) ∧
            (n.get 0 HTH_SMBCNT.DISCARD = min 65535 (m.get 0 HTH_SMBCNT.DISCARD + 1))) ∧
  -- each of them written
 (∀ (m : Wafer) (w : Bool), w = true → m.heath.active = true → m.on 0 HTH_BUSTAT.HALT = false →
   ∀ c ∈ ([.readVin w, .readIin w, .readPin w, .readTemperature1 w, .readTemperature2 w, .readTemperature3 w, .statusByte w, .statusWord w, .statusInput w, .statusTemperature w, .statusCml w, .statusMfrSpecific w, .capability w, .pmbusRevision w, .mfrId w, .mfrModel w, .mfrRevision w, .mfrCapEff w] : List Instr), Gives c m heathArea fun n =>
     n.on 0 HTH_SMBSTAT.INV_CMD = true ∧ n.get 0 HTH_SMBCNT.DISCARD = min 65535 (m.get 0 HTH_SMBCNT.DISCARD + 1)) ∧
  -- each of them on a halted wafer
 (∀ (m : Wafer) (w : Bool), m.on 0 HTH_BUSTAT.HALT = true →
   ∀ c ∈ ([.readVin w, .readIin w, .readPin w, .readTemperature1 w, .readTemperature2 w, .readTemperature3 w, .statusByte w, .statusWord w, .statusInput w, .statusTemperature w, .statusCml w, .statusMfrSpecific w, .capability w, .pmbusRevision w, .mfrId w, .mfrModel w, .mfrRevision w, .mfrCapEff w] : List Instr), Gives c m heathArea fun n => n.on 0 HTH_SMBSTAT.INV_CMD = true) ∧
  -- each of them with no Heath active
 (∀ (m : Wafer) (w : Bool), m.heath.active = false → m.on 0 HTH_BUSTAT.HALT = false →
   ∀ c ∈ ([.readVin w, .readIin w, .readPin w, .readTemperature1 w, .readTemperature2 w, .readTemperature3 w, .statusByte w, .statusWord w, .statusInput w, .statusTemperature w, .statusCml w, .statusMfrSpecific w, .capability w, .pmbusRevision w, .mfrId w, .mfrModel w, .mfrRevision w, .mfrCapEff w] : List Instr), Gives c m {} fun n => n.out = m.out) ∧
  -- READ_PIN: on a halted wafer
  (∀ (m : Wafer) (w : Bool),
      (m.on 0 HTH_BUSTAT.HALT = true) →
        Gives (.readPin w) m
          (heathArea) fun n =>
            n.on 0 HTH_SMBSTAT.INV_CMD = true)

/-- PAGE, CLEAR_FAULTS and MFR_WAFER_CAP take effect with a right PEC, or with none where PEC_REQ is 0, and with a wrong or a missing one set PEC_FAIL; CLEAR_FAULTS acknowledges every source; an unknown command, a command on a halted wafer, an abandoned transaction and a stretch timeout set their flags; the block bridge reads a register with status 0; an alert response names the address. The model's own readings in it: log 16, 48 and 55. (R314, R417, R418, R419, R420, R421, R424, R425, R426) -/
def Obligations.SmbusWrites : Prop :=
  -- PAGE
  (∀ (m : Wafer) (v : BitVec 8),
      (m.heath.active = true) →
      (v.toNat ≤ 16) →
      (m.on 0 HTH_BUSTAT.HALT = false) →
        Gives (.page (some v) .good) m
          ({ fields := [(0, HTH_SMBCFG.PAGE), (0, HTH_SMBCNT.TXN_OK)] }) fun n =>
            n.get 0 HTH_SMBCFG.PAGE = v.toNat) ∧
  -- PAGE: with no PEC
  (∀ (m : Wafer) (v : BitVec 8),
      (m.heath.active = true) →
      (m.on 0 HTH_BUSTAT.HALT = false) →
      (m.on 0 HTH_SMBCFG.PEC_REQ = false) →
      (v.toNat ≤ 16) →
        Gives (.page (some v) .none) m
          ({ fields := [(0, HTH_SMBCFG.PAGE), (0, HTH_SMBCNT.TXN_OK)] }) fun n =>
            n.get 0 HTH_SMBCFG.PAGE = v.toNat) ∧
  -- PAGE: read
  (∀ (m : Wafer),
      (m.heath.active = true) →
      (m.on 0 HTH_BUSTAT.HALT = false) →
        Gives (.page none .none) m
          ({ fields := [(0, HTH_SMBCNT.TXN_OK)], sends := true }) fun n =>
            n.out = ⟨.smbus, 64, [m.get 0 HTH_SMBCFG.PAGE]⟩ :: m.out) ∧
  -- PAGE: no such page
  (∀ (m : Wafer) (v : BitVec 8),
      (m.heath.active = true) →
      (16 < v.toNat) →
      (m.on 0 HTH_BUSTAT.HALT = false) →
        Gives (.page (some v) .good) m
          (heathArea) fun n =>
            (n.on 0 HTH_SMBSTAT.INV_DATA = true) ∧
            (n.get 0 HTH_SMBCFG.PAGE = m.get 0 HTH_SMBCFG.PAGE)) ∧
  -- PAGE: a wrong PEC, or none where it is required
  (∀ (m : Wafer) (v : BitVec 8) (pec : Pec),
      (m.heath.active = true) →
      (m.on 0 HTH_BUSTAT.HALT = false) →
      (pec = .bad ∨ (pec = .none ∧ m.on 0 HTH_SMBCFG.PEC_REQ = true)) →
        Gives (.page (some v) pec) m
          (heathArea) fun n =>
            (n.on 0 HTH_SMBSTAT.PEC_FAIL = true) ∧
            (n.get 0 HTH_SMBCFG.PAGE = m.get 0 HTH_SMBCFG.PAGE) ∧
            (n.get 0 HTH_SMBCNT.DISCARD = min 65535 (m.get 0 HTH_SMBCNT.DISCARD + 1))) ∧
  -- CLEAR_FAULTS
  (∀ (m : Wafer),
      (m.heath.active = true) →
      (m.on 0 HTH_BUSTAT.HALT = false) →
        Gives (.clearFaults .good) m
          (heathArea) fun n =>
            (∀ c : Fin 64, pending c n = false) ∧
            (n.on 0 HTH_SMBSTAT.INV_CMD = false) ∧
            (n.on 0 HTH_SMBSTAT.STRETCH_TO = false)) ∧
  -- MFR_WAFER_CAP
  (∀ (m : Wafer) (v : BitVec 16),
      (m.heath.active = true) →
      (5000 ≤ v.toNat) →
      (m.on 0 HTH_BUSTAT.HALT = false) →
        Gives (.mfrWaferCap (some v) .good) m
          (heathArea) fun n =>
            n.get 0 HTH_CAPREQ.PMB_CAP = v.toNat) ∧
  -- MFR_WAFER_CAP: below the least cap
  (∀ (m : Wafer) (v : BitVec 16),
      (m.heath.active = true) →
      (v.toNat < 5000) →
      (m.on 0 HTH_BUSTAT.HALT = false) →
        Gives (.mfrWaferCap (some v) .good) m
          (heathArea) fun n =>
            (n.get 0 HTH_CAPREQ.PMB_CAP = 5000) ∧
            (n.on 0 HTH_CAPEFF.CAP_CLAMP = true)) ∧
  -- MFR_WAFER_CAP: read
  (∀ (m : Wafer),
      (m.heath.active = true) →
      (m.on 0 HTH_BUSTAT.HALT = false) →
        Gives (.mfrWaferCap none .none) m
          ({ fields := [(0, HTH_SMBCNT.TXN_OK)], sends := true }) fun n =>
            n.out = ⟨.smbus, 64, wordLow (m.get 0 HTH_CAPREQ.PMB_CAP)⟩ :: m.out) ∧
  -- MFR_WAFER_CAP: a wrong PEC, or none where it is required
  (∀ (m : Wafer) (v : BitVec 16) (pec : Pec),
      (m.heath.active = true) →
      (m.on 0 HTH_BUSTAT.HALT = false) →
      (pec = .bad ∨ (pec = .none ∧ m.on 0 HTH_SMBCFG.PEC_REQ = true)) →
        Gives (.mfrWaferCap (some v) pec) m
          (heathArea) fun n =>
            (n.on 0 HTH_SMBSTAT.PEC_FAIL = true) ∧
            (n.get 0 HTH_CAPREQ.PMB_CAP = m.get 0 HTH_CAPREQ.PMB_CAP)) ∧
  -- CLEAR_FAULTS: a wrong PEC
  (∀ (m : Wafer),
      (m.heath.active = true) →
      (m.on 0 HTH_BUSTAT.HALT = false) →
        Gives (.clearFaults .bad) m
          (heathArea) fun n =>
            (n.on 0 HTH_SMBSTAT.PEC_FAIL = true) ∧
            (∀ c : Fin 64, pending c m = true → pending c n = true)) ∧
  -- MFR_WAFER_CAP: on a halted wafer
  (∀ (m : Wafer) (v : Option (BitVec 16)) (pec : Pec),
      (m.on 0 HTH_BUSTAT.HALT = true) →
        Gives (.mfrWaferCap v pec) m
          (heathArea) fun n =>
            (n.on 0 HTH_SMBSTAT.INV_CMD = true) ∧
            (n.get 0 HTH_CAPREQ.PMB_CAP = m.get 0 HTH_CAPREQ.PMB_CAP)) ∧
  -- MFR_REG_WRITE
  (∀ (m : Wafer) (data : Word),
      (m.heath.active = true) →
      (m.on 0 HTH_BUSTAT.HALT = false) →
      (m.on 0 HTH_HBSTAT.STBY_OK = false) →
        Gives (.mfrRegWrite [0x04, 0x00, 0x10, 0x00, BitVec.ofNat 8 (getBits data 0 8), BitVec.ofNat 8 (getBits data 8 8), BitVec.ofNat 8 (getBits data 16 8), BitVec.ofNat 8 (getBits data 24 8)] .good) m
          ({ fields := [(0, HTH_SMBCNT.TXN_OK)], heath := true }) fun n =>
            n.heath.lselSmb = data &&& 0xFFF) ∧
  -- MFR_REG_WRITE: a block of another length
  (∀ (m : Wafer) (bytes : List (BitVec 8)),
      (m.heath.active = true) →
      (bytes.length ≠ 0) →
      (bytes.length ≠ 8) →
      (m.on 0 HTH_BUSTAT.HALT = false) →
        Gives (.mfrRegWrite bytes .good) m
          (heathArea) fun n =>
            n.on 0 HTH_SMBSTAT.INV_DATA = true) ∧
  -- MFR_REG_READ
  (∀ (m : Wafer),
      (m.heath.active = true) →
      (m.on 0 HTH_BUSTAT.HALT = false) →
      (m.heath.commons.frames = []) →
      (0 < freeBuffers m) →
      ((Store.get noLatch m.heath.latches 1).map Prod.fst ≠ some 0x100004) →
        Gives (.mfrRegRead [0x04, 0x00, 0x10, 0x00]) m
          ({ fields := [(0, HTH_SMBCNT.TXN_OK)], heath := true, sends := true }) fun n =>
            n.out = ⟨.smbus, 64, [5, getBits m.heath.lselSmb 0 8, getBits m.heath.lselSmb 8 4, 0, 0, 0]⟩ :: m.out) ∧
  -- MFR_REG_READ: through an invalid map entry
  (∀ (m : Wafer) (o : Fin 64),
      (m.heath.active = true) →
      (m.on 0 HTH_BUSTAT.HALT = false) →
      (m.heath.commons.frames = []) →
      (0 < freeBuffers m) →
      (m.on 0 (HTH_LMAP.VALID (getBits m.heath.lselSmb 0 12)) = false) →
        Gives (.mfrRegRead [BitVec.ofNat 8 (4 * o.val), 0x80, 0x10, 0x00]) m
          (heathArea) fun n =>
            n.out.contains ⟨.smbus, 64, [5, 0, 0, 0, 0, 4]⟩ = true) ∧
  -- MFR_REG_READ: a block of another length
  (∀ (m : Wafer) (bytes : List (BitVec 8)),
      (m.heath.active = true) →
      (bytes.length ≠ 0) →
      (bytes.length ≠ 4) →
        Gives (.mfrRegRead bytes) m
          (heathArea) fun n =>
            n.on 0 HTH_SMBSTAT.INV_DATA = true) ∧
  -- SMBUS_INVALID_COMMAND
  (∀ (m : Wafer) (code : BitVec 8),
      (m.heath.active = true) →
      (smbusCodes.contains code.toNat = false) →
        Gives (.smbusInvalidCommand code) m
          (heathArea) fun n =>
            n.on 0 HTH_SMBSTAT.INV_CMD = true) ∧
  -- ALERT_RESPONSE: won
  (∀ (m : Wafer),
      (smbAlert m = true) →
        Gives (.alertResponse true) m
          ({ fields := [(0, HTH_SMBCNT.TXN_OK)], heath := true, sends := true }) fun n =>
            (n.out = ⟨.smbus, 64, [2 * (0x3A + m.get 0 HTH_PINSTAT.SMB_ADDR)]⟩ :: m.out) ∧
            (smbAlert n = false)) ∧
  -- ALERT_RESPONSE: lost
  (∀ (m : Wafer),
        Gives (.alertResponse false) m
          ({}) fun n =>
            n = m) ∧
  -- SMBUS_ABANDON
  (∀ (m : Wafer) (write : Bool),
      (m.heath.active = true) →
        Gives (.smbusAbandon write) m
          (heathArea) fun n =>
            (n.on 0 HTH_SMBSTAT.STALL = true) ∧
            (n.get 0 HTH_SMBSTAT.ABANDON_CNT = min (2 ^ HTH_SMBSTAT.ABANDON_CNT.wid - 1) (m.get 0 HTH_SMBSTAT.ABANDON_CNT + 1)) ∧
            (n.get 0 HTH_SMBCNT.DISCARD = if write then min 65535 (m.get 0 HTH_SMBCNT.DISCARD + 1) else m.get 0 HTH_SMBCNT.DISCARD) ∧
            (n.heath.smbBusy = false)) ∧
  -- SMBUS_STRETCH_TIMEOUT
  (∀ (m : Wafer) (k : Fin 256),
      (m.heath.active = true) →
      (m.heath.smbBusy = true) →
        Gives (.smbusStretchTimeout k) m
          (heathArea) fun n =>
            (n.on 0 HTH_SMBSTAT.STRETCH_TO = true) ∧
            (n.out.contains ⟨.smbus, 64, List.replicate k.val 255⟩ = true) ∧
            (n.heath.smbBusy = false)) ∧
  -- SMBUS_STRETCH_TIMEOUT: nothing stretches
  (∀ (m : Wafer) (k : Fin 256),
      (m.heath.active = false ∨ m.heath.smbBusy = false) →
        Gives (.smbusStretchTimeout k) m
          ({}) fun n =>
            n = m) ∧
  -- ALERT_RESPONSE: none asserted
  (∀ (m : Wafer) (win : Bool),
      (smbAlert m = false) →
        Gives (.alertResponse win) m
          ({}) fun n =>
            n = m)

/-- SPI_REL puts the pins at high impedance; a STORE of idle regions begins one and keeps the others pending, and one of region 0 outside test mode, or on a halted wafer, is rejected; a page read back well goes on to the next, one that fails is written again and then abandons the region; a standby copy too late sets STBY_LAG. The model's own readings in it: log 51 and 54. (R86, R436, R437, R438, R440) -/
def Obligations.StorageWrites : Prop :=
  -- SPI_RELEASE_WRITE
  (∀ (m : Wafer) (release : Bool),
      (m.heath.bringUp ≠ 3) →
      (m.heath.lone ≠ 3) →
        Gives (.spiReleaseWrite release) m
          ({ fields := [(0, HTH_IMGCFG.SPI_REL)], heath := true }) fun n =>
            (n.on 0 HTH_IMGCFG.SPI_REL = release) ∧
            (release = true → n.heath.spi = ⟨none, none, none, none⟩) ∧
            (release = false → n.heath.spi.cs = some true ∧ n.heath.spi.sck = some false)) ∧
  -- SPI_RELEASE_WRITE: during an image read
  (∀ (m : Wafer) (release : Bool),
      (m.heath.bringUp = 3 ∨ m.heath.lone = 3) →
        Gives (.spiReleaseWrite release) m
          ({ fields := [(0, HTH_IMGCFG.SPI_REL)] }) fun n =>
            (n.on 0 HTH_IMGCFG.SPI_REL = release) ∧
            (n.heath.spi = m.heath.spi)) ∧
  -- STORE: on a halted wafer
  (∀ (m : Wafer) (regions : BitVec 6),
      (m.on 0 HTH_BUSTAT.HALT = true) →
        Gives (.store regions) m
          ({ fields := [(0, HTH_NVMSTAT.REJ)] }) fun n =>
            n.on 0 HTH_NVMSTAT.REJ = true) ∧
  -- NVM_PAGE_WRITE_DONE: no write is in progress
  (∀ (m : Wafer) (h bank : Fin 2) (good : Bool),
      (m.heath.nvm.job h bank = none) →
        Gives (.nvmPageWriteDone h bank good) m
          ({}) fun n =>
            n = m) ∧
  -- NVM_STANDBY_LAG: the standby has its copy
  (∀ (m : Wafer) (r : Fin 6),
      (m.heath.active = false ∨ m.heath.nvm.lag.contains r.val = false) →
        Gives (.nvmStandbyLag r) m
          ({}) fun n =>
            n = m) ∧
  -- STORE
  (∀ (m : Wafer) (r : Fin 6),
      (m.on 0 HTH_BUSTAT.HALT = false) →
      (r.val ≠ 0) →
      (regionPending r m = false) →
        Gives (.store (BitVec.ofNat 6 (2 ^ r.val))) m
          ({ fields := [(0, HTH_LFCTL.WR_BUSY), (0, HTH_NVMSTAT.PEND), (0, HTH_NVMSTAT.BUSY0), (0, HTH_NVMSTAT.BUSY1)] ++ (List.range 6).map (fun k => (0, HTH_NVMREG.STBY_OK k)), heath := true }) fun n =>
            (regionPending r n = true) ∧
            (m.get 0 HTH_NVMSTAT.PEND = 0 → (m.heath.nvm.job m.heath.activeId (regionBank r)).isNone = true → Store.get noJobs m.heath.nvm.stopped m.heath.activeId = [] → ∃ j, n.heath.nvm.job m.heath.activeId (regionBank r) = some j ∧ j.region = r.val ∧ j.page = 0)) ∧
  -- STORE: region 0 outside test mode
  (∀ (m : Wafer),
      (m.on 0 HTH_PINSTAT.TEST_ON = false) →
        Gives (.store 3) m
          ({ fields := [(0, HTH_NVMSTAT.REJ)] }) fun n =>
            n.on 0 HTH_NVMSTAT.REJ = true) ∧
  -- NVM_PAGE_WRITE_DONE
  (∀ (m : Wafer) (h : Fin 2) (j : NvmJob),
      (m.heath.nvm.job h 1 = some j) →
      (j.page + 1 < regionPages j.region) →
        Gives (.nvmPageWriteDone h 1 true) m
          ({ heath := true }) fun n =>
            n.heath.nvm.job h 1 = some { j with page := j.page + 1, retried := false }) ∧
  -- NVM_PAGE_WRITE_DONE: the first failure
  (∀ (m : Wafer) (h bank : Fin 2) (j : NvmJob),
      (m.heath.nvm.job h bank = some j) →
      (j.retried = false) →
        Gives (.nvmPageWriteDone h bank false) m
          ({ heath := true }) fun n =>
            n.heath.nvm.job h bank = some { j with retried := true }) ∧
  -- NVM_PAGE_WRITE_DONE: the last page at the standby
  (∀ (m : Wafer) (h : Fin 2) (j : NvmJob),
      (m.heath.nvm.job h 1 = some j) →
      (j.region = 5) →
      (regionPages 5 ≤ j.page + 1) →
      (h.val ≠ m.heath.activeId) →
        Gives (.nvmPageWriteDone h 1 true) m
          (heathArea) fun n =>
            n.heath.nvm.slotAt h 5 j.slot = some ⟨j.seq, j.data⟩) ∧
  -- NVM_PAGE_WRITE_DONE: the second failure
  (∀ (m : Wafer) (h : Fin 2) (j : NvmJob),
      (m.heath.nvm.job h 1 = some j) →
      (j.region = 5) →
      (j.retried = true) →
      (h.val = m.heath.activeId) →
        Gives (.nvmPageWriteDone h 1 false) m
          (heathArea) fun n =>
            n.on 0 HTH_NVMSTAT.WR_ERR = true) ∧
  -- NVM_STANDBY_LAG
  (∀ (m : Wafer) (r : Fin 6),
      (m.heath.active = true) →
      (m.heath.nvm.lag.contains r.val = true) →
        Gives (.nvmStandbyLag r) m
          ({ fields := [(0, HTH_NVMSTAT.STBY_LAG)], heath := true }) fun n =>
            (n.on 0 HTH_NVMSTAT.STBY_LAG = true) ∧
            (n.heath.nvm.lag.contains r.val = false))

/-- H_A that passes is active and at step 3, H_B where H_A fails or is silent, and with neither the wafer halts; the flash read ends with step 4, the NVM load with step 5, enumeration with step 6 and the stops that answer in the live map; the three passes are sent, and step 7 is complete once they have arrived; the last known-answer test completes step 8; a phase that fails its test is retired; step 11 raises POWER_READY; a Heath that halts does not come back. The model's own readings in it: log 50, 52, 53 and 59. (R3, R90, R313, R314, R315, R316, R317, R336, R430, R432, R441, R444) -/
def Obligations.BringUp : Prop :=
  -- HEATH_SELF_TEST_DONE
  (∀ (m : Wafer),
      (m.heath.booting = []) →
      (m.heath.bringUp = 1) →
      (m.heath.active = false) →
      (m.heath.testA = none) →
        Gives (.heathSelfTestDone 0 true) m
          (heathArea) fun n =>
            (n.heath.active = true) ∧
            (n.heath.activeId = 0) ∧
            (n.get 0 HTH_BUSTAT.STEP = 3) ∧
            (n.on 0 HTH_HBSTAT.STBY_OK = decide (m.heath.testB = some true))) ∧
  -- HEATH_SELF_TEST_DONE: neither passes
  (∀ (m : Wafer),
      (m.heath.booting = []) →
      (m.heath.bringUp = 1) →
      (m.heath.active = false) →
      (m.heath.testA = some false) →
      (m.heath.testB = none) →
        Gives (.heathSelfTestDone 1 false) m
          ({ fields := [(0, HTH_BUSTAT.HALT)], heath := true }) fun n =>
            (n.on 0 HTH_BUSTAT.HALT = true) ∧
            (n.heath.active = false)) ∧
  -- SELF_TEST_REPORT_TIMEOUT
  (∀ (m : Wafer),
      (m.heath.bringUp = 1) →
      (m.heath.active = false) →
      (m.heath.testA = none) →
      (m.heath.testB = some true) →
        Gives (.selfTestReportTimeout) m
          (heathArea) fun n =>
            (n.heath.active = true) ∧
            (n.heath.activeId = 1) ∧
            (n.get 0 HTH_BUSTAT.STEP = 3)) ∧
  -- FLASH_IMAGE_READ: no good copy
  (∀ (m : Wafer) (a b : List (BitVec 8)),
      (m.heath.active = true) →
      (m.heath.bringUp = 3) →
      (m.heath.lone ≠ 3) →
      (headerGood a = false) →
      (headerGood b = false) →
        Gives (.flashImageRead none a b) m
          (heathArea) fun n =>
            (n.get 0 HTH_BUSTAT.STEP = 4) ∧
            (n.on 0 HTH_IMGSTAT.NONE = true) ∧
            (n.on 0 HTH_IMGSTAT.A_BAD = true ∧ n.on 0 HTH_IMGSTAT.B_BAD = true) ∧
            (n.on 0 HTH_FLSTAT.SFDP_OK = false) ∧
            (n.heath.image = [])) ∧
  -- FLASH_IMAGE_READ
  (∀ (m : Wafer) (a b : List (BitVec 8)) (t : Sfdp),
      (m.heath.active = true) →
      (m.heath.bringUp = 3) →
      (m.heath.lone ≠ 3) →
        Gives (.flashImageRead (some t) a b) m
          ({ heathArea with swards := fun _ => true }) fun n =>
            (n.heath.bringUp = 4) ∧
            (n.heath.spi = if n.on 0 HTH_IMGCFG.SPI_REL then ⟨none, none, none, none⟩ else if t.quad then ⟨some true, some false, none, none⟩ else ⟨some true, some false, some true, some true⟩)) ∧
  -- FLASH_IMAGE_READ: copy A is the newer
  (∀ (m : Wafer) (a b : List (BitVec 8)),
      (m.heath.active = true) →
      (m.heath.bringUp = 3) →
      (m.heath.lone ≠ 3) →
      (headerGood a = true) →
      (copyFaults m.fuse (requiredDigest m) a = (false, false, false)) →
      (headerCrc b = false) →
      (leField a 8 4 < 2 ^ 31) →
      (leField a 8 4 ≠ 0) →
      (((imageRecords (imageBody a)).filter fun r => decide (r.1 < 0x1000000)) = []) →
        Gives (.flashImageRead none a b) m
          (heathArea) fun n =>
            (n.on 0 HTH_IMGSTAT.LOADED = true ∧ n.on 0 HTH_IMGSTAT.COPY = false) ∧
            (n.heath.image = imageRecords (imageBody a)) ∧
            (n.get 0 HTH_IMGSEQ_A.SEQ = leField a 8 4 ∧ n.get 0 HTH_IMGSEQ_B.SEQ = 0) ∧
            (n.get 0 HTH_BUSTAT.STEP = 4)) ∧
  -- NVM_OVERLAY_LOAD
  (∀ (m : Wafer),
      (m.heath.active = true) →
      (m.heath.bringUp = 4) →
      (m.heath.lone ≠ 2) →
        Gives (.nvmOverlayLoad) m
          (heathArea) fun n =>
            (n.heath.bringUp = 5) ∧
            (n.on 0 HTH_BUSTAT.VIB_WAIT = !m.heath.vibHeld)) ∧
  -- VIB_PRESENCE_HELD
  (∀ (m : Wafer),
      (m.heath.bringUp ≠ 0) →
        Gives (.vibPresenceHeld) m
          ({ fields := [(0, HTH_PINSTAT.VIB_PRES), (0, HTH_BUSTAT.VIB_WAIT)], heath := true }) fun n =>
            (n.on 0 HTH_PINSTAT.VIB_PRES = true) ∧
            (n.on 0 HTH_BUSTAT.VIB_WAIT = false) ∧
            (n.heath.vibHeld = true)) ∧
  -- HEDGEROW_ENUMERATE
  (∀ (m : Wafer),
      (m.heath.active = true) →
      (m.heath.bringUp = 5) →
      (m.heath.vibHeld = true) →
        Gives (.hedgerowEnumerate) m
          ({ heathArea with swards := fun _ => true }) fun n =>
            (n.heath.bringUp = 6) ∧
            (∀ p : Fin 64, partLive p n = !(m.sward p).passedBy) ∧
            (∀ p : Fin 64, (m.sward p).passedBy = false → (n.sward p).waitEnum = false) ∧
            (∀ p : Fin 64, (m.sward p).passedBy = true → n.sward p = m.sward p)) ∧
  -- HEDGEROW_ENUMERATE: VIB has not held, or not at step 6
  (∀ (m : Wafer),
      (m.heath.active = false ∨ m.heath.bringUp ≠ 5 ∨ m.heath.vibHeld = false) →
        Gives (.hedgerowEnumerate) m
          ({}) fun n =>
            n = m) ∧
  -- CONFIG_BROADCAST
  (∀ (m : Wafer),
      (m.heath.active = true) →
      (m.heath.bringUp = 6) →
      (m.heath.configSent = false) →
      (m.heath.lone ≠ 1) →
      (m.heath.image = []) →
      (m.heath.retireMap = []) →
      (m.on 0 HTH_PACECTL.MODE = false) →
      (m.heath.unicasts = []) →
      (newestSlot 2 (decide (m.heath.lone ≠ 0)) m = none) →
        Gives (.configBroadcast) m
          ({ fields := [(0, HTH_BUSTAT.STEP)], heath := true }) fun n =>
            (n.heath.configSent = true) ∧
            (n.heath.bringUp = if ((liveParts m).all fun p => (unitsOf p).all fun u => ((m.sward p).own u).isEmpty && ((m.sward p).access u).isEmpty) = true then 7 else 6)) ∧
  -- CONFIG_BROADCAST: sent already, or not at step 7
  (∀ (m : Wafer),
      (m.heath.active = false ∨ (m.heath.lone ≠ 1 ∧ (m.heath.bringUp ≠ 6 ∨ m.heath.configSent = true))) →
        Gives (.configBroadcast) m
          ({}) fun n =>
            n = m) ∧
  -- KAT_DONE: the last Sward's
  (∀ (m : Wafer) (p : Fin 64),
      (m.heath.bringUp = 7) →
      (m.on (swd p) SWD_KAT.BUSY = true) →
      (((liveParts m).all fun q => q == p.val || m.on (swd q) SWD_KAT.PASS || m.heath.katFailed.contains q) = true) →
        Gives (.katDone p 0) m
          ({ fields := [(0, HTH_BUSTAT.STEP)], swards := fun _ => true, blocks := (List.range 64).map (fun q => (swd q, 0x40000)), heath := true, sends := true }) fun n =>
            (n.heath.bringUp = 8) ∧
            (n.on (swd p) SWD_KAT.PASS = true) ∧
            (n.on (swd p) SWD_KAT.BUSY = false)) ∧
  -- UNIT_SELF_TEST
  (∀ (m : Wafer) (u : UnitId),
      (m.heath.bringUp = 8) →
      (partLive u.part m = true) →
      ((m.unit u).rst = .run) →
      (m.heath.tested.contains u.key = false) →
        Gives (.unitSelfTest u 0 0 0 0) m
          ({ fields := [(0, HTH_BUSTAT.STEP)], heath := true }) fun n =>
            (n.heath.tested.contains u.key = true) ∧
            (n.heath.bringUp = if ((liveParts m).all fun p => (unitsOf p).all fun v => unitOf p v == u || m.heath.tested.contains (unitOf p v).key || (m.unit (unitOf p v)).rst == .powerOn) = true then 9 else 8)) ∧
  -- UNIT_SELF_TEST: a failing phase
  (∀ (m : Wafer) (u : UnitId) (c : BitVec 6),
      (m.heath.bringUp = 8) →
      (partLive u.part m = true) →
      (m.heath.tested.contains u.key = false) →
      (m.on u.base (TSK_PHHLTH.RETIRE 0) = false) →
      (c ≠ 0) →
      ((m.unit u).rst = .run) →
        Gives (.unitSelfTest u c 0 0 0) m
          ({ blocks := [(u.base, 0x1000), (0, 0x1000000)], units := (· == u), heath := true, sends := true }) fun n =>
            (n.on u.base (TSK_PHHLTH.RETIRE 0) = true) ∧
            (n.get 0 HTH_BUSTAT.PT_RET = (m.get 0 HTH_BUSTAT.PT_RET + 1) % 2 ^ HTH_BUSTAT.PT_RET.wid)) ∧
  -- UNIT_SELF_TEST: before its release, or at another step
  (∀ (m : Wafer) (u : UnitId) (c : BitVec 6),
      (m.heath.bringUp ≠ 8 ∨ partLive u.part m = false ∨ (m.unit u).rst ≠ .run) →
        Gives (.unitSelfTest u c 0 0 0) m
          ({}) fun n =>
            n = m) ∧
  -- HEATH_SELF_TEST_DONE: of the standby that comes back
  (∀ (m : Wafer) (h : Fin 2),
      (m.heath.booting.contains h.val = true) →
      (m.heath.active = true) →
        Gives (.heathSelfTestDone h true) m
          ({ fields := [(0, HTH_HBSTAT.MIRROR_SYNC)], heath := true }) fun n =>
            (n.on 0 HTH_HBSTAT.MIRROR_SYNC = true) ∧
            (n.heath.booting.contains h.val = false)) ∧
  -- HEATH_SELF_TEST_DONE: of a Heath that comes back alone
  (∀ (m : Wafer) (h : Fin 2),
      (m.heath.booting.contains h.val = true) →
      (m.heath.active = false) →
      (m.heath.standby = false) →
        Gives (.heathSelfTestDone h true) m
          (heathArea) fun n =>
            (n.heath.active = true) ∧
            (n.heath.activeId = h.val) ∧
            (n.heath.lone = 3) ∧
            (n.on 0 HTH_BUSTAT.LONE_RST = true) ∧
            (n.heath.live = m.heath.live ∧ n.heath.retireMap = m.heath.retireMap) ∧
            (n.on 0 HTH_PINSTAT.THERMTRIP = m.on 0 HTH_PINSTAT.THERMTRIP)) ∧
  -- POWER_READY
  (∀ (m : Wafer),
      (m.heath.active = true) →
      (m.heath.bringUp = 10) →
      (((liveParts m).all fun p => !m.on (swd p) SWD_LDSTAT.FULL_BUSY) = true) →
        Gives (.powerReady) m
          (heathArea) fun n =>
            (n.heath.ready = true) ∧
            (n.on 0 HTH_BUSTAT.POWER_READY = true) ∧
            (n.get 0 HTH_BUSTAT.STEP = 11)) ∧
  -- HEATH_DIE_OVER_TEMP
  (∀ (m : Wafer) (h : Fin 2) (t : Int),
      (m.heath.halted.contains h.val = false) →
      (m.heath.halting = none) →
      (m.heath.bringUp ≠ 0) →
      (m.heath.active = true) →
      (m.heath.activeId = h.val) →
        Gives (.heathDieOverTemp h t) m
          (heathArea) fun n =>
            (n.heath.active = false) ∧
            (n.heath.vref = none) ∧
            (n.heath.halting = some h.val) ∧
            (n.on 0 HTH_NVMSTAT.DEFER = true) ∧
            (n.on 0 HTH_PINSTAT.THERMTRIP = true)) ∧
  -- HEATH_DIE_OVER_TEMP: not the active one
  (∀ (m : Wafer) (h : Fin 2) (t : Int),
      (m.heath.halted.contains h.val = false) →
      (m.heath.halting = none) →
      (m.heath.bringUp ≠ 0) →
      (m.heath.active = true) →
      (m.heath.activeId ≠ h.val) →
        Gives (.heathDieOverTemp h t) m
          (heathArea) fun n =>
            (n.heath.active = true) ∧
            (n.heath.halting = some h.val) ∧
            (n.on 0 HTH_PINSTAT.THERMTRIP = true) ∧
            (pending 58 n = true)) ∧
  -- HEATH_HALT: none is about to
  (∀ (m : Wafer) (h : Fin 2),
      (m.heath.halting ≠ some h.val) →
        Gives (.heathHalt h) m
          ({}) fun n =>
            n = m) ∧
  -- HEATH_HALT
  (∀ (m : Wafer) (h : Fin 2),
      (m.heath.halting = some h.val) →
        Gives (.heathHalt h) m
          ({ fields := [(0, HTH_NVMSTAT.DEFER), (0, HTH_HBSTAT.STBY_OK)], heath := true }) fun n =>
            (n.heath.halted = h.val :: m.heath.halted) ∧
            (n.heath.halting = none) ∧
            (m.heath.activeId ≠ h.val → n.on 0 HTH_HBSTAT.STBY_OK = false))

/-- A PMB_CAP write below 5,000 W is stored as 5,000 W and sets CAP_CLAMP; any other is stored as written, and the cap in force never exceeds the variant's. (R265) -/
def Obligations.LowCapStored : Prop :=
  -- CAP_REQUEST_WRITE: below 5,000 W
  (∀ (m : Wafer) (cap : BitVec 16),
      (cap.toNat < 5000) →
        Gives (.capRequestWrite cap) m
          ({ fields := [(0, HTH_CAPEFF.CAP_CLAMP), (0, HTH_CAPEFF.CAP_EFF), (0, HTH_CAPEFF.LIMIT_BY), (0, HTH_CMNGRANT.GRANT), (0, HTH_CAPREQ.PMB_CAP)] }) fun n =>
            (n.get 0 HTH_CAPREQ.PMB_CAP = 5000) ∧
            (n.on 0 HTH_CAPEFF.CAP_CLAMP = true)) ∧
  -- CAP_REQUEST_WRITE: 5,000 W or more
  (∀ (m : Wafer) (cap : BitVec 16),
      (5000 ≤ cap.toNat) →
        Gives (.capRequestWrite cap) m
          ({ fields := [(0, HTH_CAPEFF.CAP_EFF), (0, HTH_CAPEFF.LIMIT_BY), (0, HTH_CMNGRANT.GRANT), (0, HTH_CAPREQ.PMB_CAP)] }) fun n =>
            (n.get 0 HTH_CAPREQ.PMB_CAP = cap.toNat) ∧
            (n.get 0 HTH_CAPEFF.CAP_EFF ≤ variantCapW m.fuse))

/-- A write of HTH_RSTCTL without the key changes nothing, one that names more than one action only sets RST_REJ, and WAFER_RST alone resets the wafer with RST_CAUSE 0b10. (R319) -/
def Obligations.ResetCommandKey : Prop :=
  -- REGISTER_WRITE: HTH_RSTCTL without the key
  (∀ (m : Wafer) (data : Word),
      (getBits data 24 8 ≠ 0x5A) →
        Gives (.registerWrite .own 15 0x44 data) m
          ({}) fun n =>
            n = m) ∧
  -- REGISTER_WRITE: HTH_RSTCTL with the key and no action
  (∀ (m : Wafer) (data : Word),
      (getBits data 24 8 = 0x5A) →
      (getBits data 21 3 = 0) →
        Gives (.registerWrite .own 15 0x44 data) m
          ({}) fun n =>
            n = m) ∧
  -- REGISTER_WRITE: HTH_RSTCTL with more than one action
  (∀ (m : Wafer) (data : Word),
      (getBits data 24 8 = 0x5A) →
      (getBits data 21 3 = 3 ∨ getBits data 21 3 = 5 ∨ getBits data 21 3 = 6 ∨ getBits data 21 3 = 7) →
        Gives (.registerWrite .own 15 0x44 data) m
          ({ fields := [(0, HTH_BUSTAT.RST_REJ)] }) fun n =>
            n.on 0 HTH_BUSTAT.RST_REJ = true) ∧
  -- REGISTER_WRITE: HTH_RSTCTL.WAFER_RST
  (∀ (m : Wafer) (data : Word),
      (getBits data 24 8 = 0x5A) →
      (getBits data 21 3 = 4) →
      ((m.heath.auxLow || m.heath.sysLow || m.heath.cmdRst || m.heath.vstbyLost) = false) →
        Gives (.registerWrite .own 15 0x44 data) m
          (heathArea) fun n =>
            (n.get 0 HTH_PINSTAT.RST_CAUSE = 2) ∧
            (n.heath.active = false ∧ n.heath.bringUp = 0) ∧
            (m.heath.active = true → n.out = ⟨.waferReset, 64, []⟩ :: m.out) ∧
            (∀ e ∈ n.regs, e.1 < 0x1000000 → e.1 = 8))

/-- CLEAR_FAULTS leaves the Heath's hidden state and the alarms as ALL does and the five SMBus flags at 0, and undoes nothing else. (R424) -/
def Obligations.ClearFaultsAcknowledges : Prop :=
  -- CLEAR_FAULTS
  (∀ (m : Wafer),
      (m.heath.active = true) →
      (m.on 0 HTH_BUSTAT.HALT = false) →
        Gives (.clearFaults .good) m
          ({ fields := [(0, HTH_FPEND_LO.PEND), (0, HTH_FPEND_HI.PEND), (0, HTH_FGRACE_LO.GRACE), (0, HTH_FGRACE_HI.GRACE), (0, HTH_FCONT_LO.CONT), (0, HTH_FCONT_HI.CONT), (0, HTH_SMBCNT.TXN_OK), (0, HTH_SMBSTAT.INV_CMD), (0, HTH_SMBSTAT.INV_DATA), (0, HTH_SMBSTAT.PEC_FAIL), (0, HTH_SMBSTAT.STALL), (0, HTH_SMBSTAT.STRETCH_TO)], heath := true }) fun n =>
            (n.heath = (doAll m).heath) ∧
            (∀ a ∈ [HTH_FPEND_LO.PEND.off, HTH_FPEND_HI.PEND.off, HTH_FGRACE_LO.GRACE.off, HTH_FGRACE_HI.GRACE.off, HTH_FCONT_LO.CONT.off, HTH_FCONT_HI.CONT.off], n.word a = (doAll m).word a) ∧
            (∀ c : Fin 64, pending c n = false ∧ n.source c = {}) ∧
            (n.on 0 HTH_SMBSTAT.INV_CMD = false ∧ n.on 0 HTH_SMBSTAT.INV_DATA = false ∧ n.on 0 HTH_SMBSTAT.PEC_FAIL = false ∧ n.on 0 HTH_SMBSTAT.STALL = false ∧ n.on 0 HTH_SMBSTAT.STRETCH_TO = false))

/-- With SPLIT bits set, POWER_READY leaves those regions waiting to be written or in progress; the last page of a region at the active Heath clears the region's SPLIT bit. (R445) -/
def Obligations.SplitRegionsStored : Prop :=
  -- POWER_READY
  (∀ (m : Wafer),
      (m.heath.active = true) →
      (m.heath.bringUp = 10) →
      (((liveParts m).all fun p => !m.on (swd p) SWD_LDSTAT.FULL_BUSY) = true) →
        Gives (.powerReady) m
          (heathArea) fun n =>
            ∀ r : Fin 6, (m.get 0 HTH_NVMSTAT.SPLIT).testBit r = true → regionPending r n = true) ∧
  -- NVM_PAGE_WRITE_DONE: the last page at the active Heath
  (∀ (m : Wafer) (h bank : Fin 2) (j : NvmJob),
      (m.heath.nvm.job h bank = some j) →
      (j.region < 6) →
      (regionPages j.region ≤ j.page + 1) →
      (h.val = m.heath.activeId) →
        Gives (.nvmPageWriteDone h bank true) m
          (heathArea) fun n =>
            (n.get 0 HTH_NVMSTAT.SPLIT).testBit j.region = false)

/-- After the boundary of a frame, signal 488 of the Sward is the least of the variant's top rung, BRK_LIM and RUNG_LIM of the context in force. (R285) -/
def Obligations.RungLimitSignal : Prop :=
  -- FRAME_BOUNDARY
  (∀ (m : Wafer) (p : Fin 64) (f : Nat),
      ((m.sward p).rst = false) →
        Gives (.frameBoundary p f) m
          ({ blocks := [(swd p, 0x40000), (0, 0x1000000)], swards := (· == p.val), heath := true, sends := true, time := true }) fun n =>
            (n.sward p).signal 488 = ((min (variantTopRung m.fuse) (min (n.get (swd p) SWD_BRAKE.BRK_LIM) (n.get (swd p) (SWD_CTX.RUNG_LIM (n.get (swd p) SWD_CTXSTAT.CUR)))) : Nat) : Int))
end

