-- ==== Sys2Proof/Laws/Effects.lean ====
section
/-! SUPPORT.  What the shared operations do, once each: `Keeps A m m'` says that from `m`
to `m'` nothing outside the area changed, the canonical form was kept and WTIME did not
step back.  A command's frame follows from these by its steps in turn. -/

namespace Sys2Proof.Machine

/-- Nothing changed outside the area, canonical images stayed canonical, and WTIME did not
step back. -/
structure Keeps (A : Area) (m m' : Wafer) : Prop where
  within : Within A m m'
  canonical : m.Canonical → m'.Canonical
  time : m.wtime ≤ m'.wtime

/-- An area takes in a unit's registers and hidden state. -/
structure UnitIn (A : Area) (u : UnitId) : Prop where
  block : (u.base, 0x1000) ∈ A.blocks
  hidden : A.units u = true

/-- An area takes in a Sward's own registers, its hidden state and its messages. -/
structure SwardIn (A : Area) (p : Nat) : Prop where
  block : (swd p, 0x40000) ∈ A.blocks
  hidden : A.swards p = true
  sends : A.sends = true

/-- An area takes in the Heaths' registers, their hidden state and their messages. -/
structure HeathIn (A : Area) : Prop where
  block : (0, 0x1000000) ∈ A.blocks
  hidden : A.heath = true
  sends : A.sends = true

theorem unitArea_unitIn (u : UnitId) : UnitIn (unitArea u) u := ⟨by simp [unitArea], by simp [unitArea]⟩
theorem swardArea_swardIn (p : Nat) : SwardIn (swardArea p) p := ⟨by simp [swardArea], by simp [swardArea], rfl⟩
theorem heathArea_heathIn : HeathIn heathArea := ⟨by simp [heathArea], rfl, rfl⟩

variable {A : Area} {m₀ m : Wafer} {u : UnitId} {p : Nat}

/-! ### Basic operations -/

@[refl] theorem Keeps.refl (A : Area) (m : Wafer) : Keeps A m m := ⟨.refl A m, id, le_refl _⟩

theorem Keeps.trans {m₁ m₂ m₃ : Wafer} (h : Keeps A m₁ m₂) (k : Keeps A m₂ m₃) : Keeps A m₁ m₃ :=
  ⟨h.within.trans k.within, k.canonical ∘ h.canonical, h.time.trans k.time⟩

theorem Keeps.putWord (h : Keeps A m₀ m) (a : Nat) (v : Word) (ha : ∃ b ∈ A.blocks, b.1 ≤ a ∧ a < b.1 + b.2) :
    Keeps A m₀ (m.putWord a v) :=
  ⟨h.within.putWord a v fun _ _ => .inr ha, fun c => (h.canonical c).putWord a v, h.time⟩

theorem Keeps.set (h : Keeps A m₀ m) (b : Nat) (f : Fld) (v : Nat)
    (hf : (b, f) ∈ A.fields ∨ ∃ k ∈ A.blocks, k.1 ≤ b + f.off ∧ b + f.off < k.1 + k.2) : Keeps A m₀ (m.set b f v) :=
  ⟨h.within.set b f v hf, fun c => (h.canonical c).set b f v, h.time⟩

theorem Keeps.modUnit (h : Keeps A m₀ m) (u : UnitId) (f : UnitSt → UnitSt) (hu : A.units u = true) :
    Keeps A m₀ (m.modUnit u f) :=
  ⟨h.within.modUnit u f hu, fun c => (h.canonical c).modUnit u f, h.time⟩

theorem Keeps.modSward (h : Keeps A m₀ m) (p : Nat) (f : SwardSt → SwardSt) (hp : A.swards p = true) :
    Keeps A m₀ (m.modSward p f) :=
  ⟨h.within.modSward p f hp, fun c => (h.canonical c).modSward p f, h.time⟩

theorem Keeps.modHeath (h : Keeps A m₀ m) (f : HeathSt → HeathSt) (e : A.heath = true) : Keeps A m₀ (m.modHeath f) :=
  ⟨h.within.modHeath f e, fun c => (h.canonical c).modHeath f, h.time⟩

theorem Keeps.send (h : Keeps A m₀ m) (k : OutKind) (d : Nat) (l : List Nat) (e : A.sends = true) :
    Keeps A m₀ (m.send k d l) :=
  ⟨h.within.send k d l e, fun c => (h.canonical c).send k d l, h.time⟩

theorem Keeps.at (h : Keeps A m₀ m) (w : Nat) (e : A.time = true) : Keeps A m₀ (m.at w) :=
  ⟨h.within.at w e, fun c => (h.canonical c).at w, h.time.trans (Nat.le_max_left _ _)⟩

theorem Keeps.fresh (h : Keeps A m₀ m) (n : Nat) : Keeps A m₀ { m with fresh := n } :=
  ⟨h.within.fresh n, fun c => h.canonical c, h.time⟩

theorem Keeps.fold {α : Type} (h : Keeps A m₀ m) (l : List α) (f : Wafer → α → Wafer)
    (hf : ∀ m x, x ∈ l → Keeps A m₀ m → Keeps A m₀ (f m x)) : Keeps A m₀ (l.foldl f m) := by
  induction l generalizing m with
  | nil => exact h
  | cons x t ih => exact ih (hf m x (by simp) h) fun m y hy => hf m y (by simp [hy])

theorem Keeps.each (h : Keeps A m₀ m) (l : List Nat) (f : Nat → Wafer → Wafer)
    (hf : ∀ m x, x ∈ l → Keeps A m₀ m → Keeps A m₀ (f x m)) : Keeps A m₀ (m.each l f) := h.fold l _ hf

theorem Keeps.incSat (h : Keeps A m₀ m) (b : Nat) (f : Fld)
    (hf : (b, f) ∈ A.fields ∨ ∃ k ∈ A.blocks, k.1 ≤ b + f.off ∧ b + f.off < k.1 + k.2) : Keeps A m₀ (m.incSat b f) := by
  unfold Wafer.incSat
  split
  · exact h.set b f _ hf
  · exact h

theorem Keeps.set64 (h : Keeps A m₀ m) (b : Nat) (lo hi : Fld) (v : Nat)
    (hl : (b, lo) ∈ A.fields ∨ ∃ k ∈ A.blocks, k.1 ≤ b + lo.off ∧ b + lo.off < k.1 + k.2)
    (hh : (b, hi) ∈ A.fields ∨ ∃ k ∈ A.blocks, k.1 ≤ b + hi.off ∧ b + hi.off < k.1 + k.2) :
    Keeps A m₀ (m.set64 b lo hi v) := (h.set b lo _ hl).set b hi _ hh

/-! ### Fields of a unit, a Sward and the Heath -/

theorem UnitIn.has (hu : UnitIn A u) {f : Fld} (hf : f.off < 0x1000) :
    (u.base, f) ∈ A.fields ∨ ∃ k ∈ A.blocks, k.1 ≤ u.base + f.off ∧ u.base + f.off < k.1 + k.2 :=
  .inr ⟨_, hu.block, by simp, by simpa using hf⟩

theorem SwardIn.has (hp : SwardIn A p) {f : Fld} (hf : f.off < 0x40000) :
    (swd p, f) ∈ A.fields ∨ ∃ k ∈ A.blocks, k.1 ≤ swd p + f.off ∧ swd p + f.off < k.1 + k.2 :=
  .inr ⟨_, hp.block, by simp, by simpa using hf⟩

theorem HeathIn.has (hh : HeathIn A) {f : Fld} (hf : f.off < 0x1000000) :
    (0, f) ∈ A.fields ∨ ∃ k ∈ A.blocks, k.1 ≤ 0 + f.off ∧ 0 + f.off < k.1 + k.2 :=
  .inr ⟨_, hh.block, by simp, by simpa using hf⟩

/-- A field of a unit changes; setI, setB, inc and addSat are such changes. -/
theorem Keeps.unitSet (h : Keeps A m₀ m) (hu : UnitIn A u) {f : Fld} (v : Nat) (hf : f.off < 0x1000) :
    Keeps A m₀ (m.set u.base f v) := h.set _ _ _ (hu.has hf)

theorem Keeps.swardSet (h : Keeps A m₀ m) (hp : SwardIn A p) {f : Fld} (v : Nat) (hf : f.off < 0x40000) :
    Keeps A m₀ (m.set (swd p) f v) := h.set _ _ _ (hp.has hf)

theorem Keeps.heathSet (h : Keeps A m₀ m) (hh : HeathIn A) {f : Fld} (v : Nat) (hf : f.off < 0x1000000) :
    Keeps A m₀ (m.set 0 f v) := h.set _ _ _ (hh.has hf)

theorem Keeps.unitMod (h : Keeps A m₀ m) (hu : UnitIn A u) (f : UnitSt → UnitSt) : Keeps A m₀ (m.modUnit u f) :=
  h.modUnit u f hu.hidden

theorem Keeps.swardMod (h : Keeps A m₀ m) (hp : SwardIn A p) (f : SwardSt → SwardSt) : Keeps A m₀ (m.modSward p f) :=
  h.modSward p f hp.hidden

theorem Keeps.heathMod (h : Keeps A m₀ m) (hh : HeathIn A) (f : HeathSt → HeathSt) : Keeps A m₀ (m.modHeath f) :=
  h.modHeath f hh.hidden

/-- What a condition guards keeps what it keeps. -/
theorem Keeps.ite {c : Prop} [Decidable c] {a b : Wafer} (ha : c → Keeps A m₀ a) (hb : ¬ c → Keeps A m₀ b) :
    Keeps A m₀ (if c then a else b) := by
  split
  · exact ha ‹_›
  · exact hb ‹_›

end Sys2Proof.Machine
end

