-- ==== Sys2Proof/Laws/HeathEffects.lean ====
section
/-! SUPPORT.  What the operations that the Heath's rules share do: each stays within the
Heaths' registers, their hidden state and their messages. -/

namespace Sys2Proof.Machine

variable {A : Area} {m₀ m : Wafer}

theorem modFault_keeps (h : Keeps A m₀ m) (hh : HeathIn A) (f : FaultSt → FaultSt) : Keeps A m₀ (m.modFault f) :=
  h.heathMod hh _

theorem modNvm_keeps (h : Keeps A m₀ m) (hh : HeathIn A) (f : NvmSt → NvmSt) : Keeps A m₀ (m.modNvm f) :=
  h.heathMod hh _

theorem setSource_keeps (h : Keeps A m₀ m) (hh : HeathIn A) (c : Nat) (x : SourceSt) : Keeps A m₀ (m.setSource c x) :=
  modFault_keeps h hh _

theorem setStep_keeps (h : Keeps A m₀ m) (hh : HeathIn A) (n : Nat) : Keeps A m₀ (setStep n m) :=
  (h.heathMod hh _).heathSet hh n (by decide)

theorem setPairBit_keeps (h : Keeps A m₀ m) (hh : HeathIn A) {lo hi : Fld} (hl : lo.off < 0x1000000)
    (hi' : hi.off < 0x1000000) (c : Nat) (v : Bool) : Keeps A m₀ (setPairBit lo hi c v m) :=
  h.putWord _ _ ⟨_, hh.block, by simp, by dsimp only; split <;> omega⟩

theorem putWords_keeps (h : Keeps A m₀ m) (hh : HeathIn A) (a : Nat) (l : List Nat)
    (ha : a + 4 * l.length < 0x1000000) : Keeps A m₀ (putWords a l m) :=
  h.fold _ _ fun _ e he k => by
    have : e.1 < l.length := by simpa using (List.of_mem_zip he).1
    exact k.putWord _ _ ⟨_, hh.block, by simp, by simp; omega⟩

theorem unicast_keeps (h : Keeps A m₀ m) (hh : HeathIn A) (p : Nat) (k : UnicastKind) (addr : Nat) (data : List Nat) :
    Keeps A m₀ (unicast p k addr data m) := h.heathMod hh _

theorem answered_keeps (h : Keeps A m₀ m) (hh : HeathIn A) (p : Nat) (k : UnicastKind) : Keeps A m₀ (answered p k m) :=
  setPairBit_keeps (h.heathMod hh _) hh (by decide) (by decide) _ _

theorem contEval_keeps (h : Keeps A m₀ m) (hh : HeathIn A) : Keeps A m₀ (contEval m) :=
  (h.heathSet hh _ (by decide)).heathSet hh _ (by decide)

theorem contain_keeps (h : Keeps A m₀ m) (hh : HeathIn A) (c : Nat) (parts : List Nat) : Keeps A m₀ (contain c parts m) :=
  contEval_keeps (setSource_keeps h hh _ _) hh

theorem partitionTrip_keeps (h : Keeps A m₀ m) (hh : HeathIn A) (parts : List Nat) : Keeps A m₀ (partitionTrip parts m) :=
  Keeps.fold (h.heathSet hh 1 (by decide)) _ _ fun _ _ _ k => unicast_keeps (k.send _ _ _ hh.sends) hh _ _ _ _

/-! ### Region writes -/

theorem beginRegion_keeps (h : Keeps A m₀ m) (hh : HeathIn A) {r : Nat} (hr : r < 6) : Keeps A m₀ (beginRegion r m) := by
  unfold beginRegion
  extract_lets a seq slot j m1 m2 m3
  have k1 : Keeps A m₀ m1 := modNvm_keeps h hh _
  have k2 : Keeps A m₀ m2 := .ite (fun _ => modNvm_keeps k1 hh _) fun _ => k1
  have k3 : Keeps A m₀ m3 := k2.heathSet hh 0 (by simp; omega)
  exact .ite (fun _ => (k3.heathSet hh 1 (by decide)).heathSet hh 1 (by decide)) fun _ => k3.heathSet hh 1 (by decide)

theorem nvmNext_keeps (h : Keeps A m₀ m) (hh : HeathIn A) : Keeps A m₀ (nvmNext m) := by
  unfold nvmNext
  extract_lets a m1
  have k1 : Keeps A m₀ m1 := .ite (fun _ => beginRegion_keeps h hh (by decide)) fun _ => h
  refine .ite (fun _ => k1) fun _ => ?_
  split
  · rename_i r hr
    have hm := List.mem_of_mem_filter (List.mem_of_mem_head? hr)
    have : r < 6 := by simp at hm; omega
    exact .ite (fun _ => k1) fun _ => beginRegion_keeps k1 hh this
  · exact k1

theorem nvmQueue_keeps (h : Keeps A m₀ m) (hh : HeathIn A) (r : Nat) : Keeps A m₀ (nvmQueue r m) :=
  .ite (fun _ => .ite (fun _ => h.heathSet hh 1 (by decide)) fun _ => h) fun _ =>
    nvmNext_keeps (h.heathSet hh _ (by decide)) hh

theorem retireDiffers_keeps (h : Keeps A m₀ m) (hh : HeathIn A) : Keeps A m₀ (retireDiffers m) := by
  unfold retireDiffers
  exact (h.heathSet hh _ (by decide)).heathSet hh _ (by decide)

theorem liveRetire_keeps (h : Keeps A m₀ m) (hh : HeathIn A) (u : UnitId) (s : Nat) (on : Bool) :
    Keeps A m₀ (m.liveRetire u s on) := by
  unfold Wafer.liveRetire
  extract_lets was k v m1
  have k1 : Keeps A m₀ m1 := retireDiffers_keeps (h.heathMod hh _) hh
  exact .ite (fun _ => nvmQueue_keeps k1 hh 1) fun _ => k1

/-! ### Events at the active Heath -/

theorem alarm_keeps (h : Keeps A m₀ m) (hh : HeathIn A) (c : Nat) : Keeps A m₀ (alarm c m) :=
  .ite (fun _ => h) fun _ => modFault_keeps (setPairBit_keeps h hh (by decide) (by decide) _ _) hh _

theorem capture_keeps (h : Keeps A m₀ m) (hh : HeathIn A) (x : FifoEntry) (hc : x.event.code < 64) :
    Keeps A m₀ (capture x m) :=
  .ite (fun _ => h.incSat _ _ (hh.has (by simp; omega))) fun _ => (modFault_keeps h hh _).heathSet hh _ (by decide)

theorem firstError_keeps (h : Keeps A m₀ m) (hh : HeathIn A) (e : FaultEvent) : Keeps A m₀ (firstError e m) :=
  .ite (fun _ => h.incSat _ _ (hh.has (by decide))) fun _ => putWords_keeps h hh _ _ (by simp)

theorem lastFault_keeps (h : Keeps A m₀ m) (hh : HeathIn A) (x : FifoEntry) : Keeps A m₀ (lastFault x m) := by
  have hn : m.get 0 HTH_LFCTL.NEXT < 2 ^ 4 := getBits_lt _ _ _
  exact nvmQueue_keeps (putWords_keeps ((h.heathSet hh _ (by decide)).incSat _ _ (hh.has (by decide))) hh _ _
    (by simp [withCrc, recordWords]; omega)) hh 5

theorem waferTrip_keeps (h : Keeps A m₀ m) (hh : HeathIn A) (x : FifoEntry) : Keeps A m₀ (waferTrip x m) :=
  have k := Keeps.heathSet ((modFault_keeps h hh _).send .waferTrip 64 [] hh.sends) hh 1 (by decide)
  lastFault_keeps (.ite (fun _ => k.heathSet hh 1 (by decide)) fun _ => k) hh x

theorem severityAction_keeps (h : Keeps A m₀ m) (hh : HeathIn A) (x : FifoEntry) (parts : List Nat) :
    Keeps A m₀ (severityAction x parts m) := by
  unfold severityAction
  split
  · exact contain_keeps h hh _ _
  · exact partitionTrip_keeps h hh _
  · exact waferTrip_keeps h hh _
  · exact h

theorem episodeEvent_keeps (h : Keeps A m₀ m) (hh : HeathIn A) (x : FifoEntry) (parts : List Nat) (was : Bool) :
    Keeps A m₀ (episodeEvent x parts was m) := by
  unfold episodeEvent
  dsimp only
  split
  · exact setSource_keeps h hh _ _
  · exact .ite (fun _ => setPairBit_keeps (setSource_keeps h hh _ _) hh (by decide) (by decide) _ _) fun _ => h

theorem retireReport_keeps (h : Keeps A m₀ m) (hh : HeathIn A) (e : FaultEvent) : Keeps A m₀ (retireReport e m) := by
  unfold retireReport
  refine .ite (fun _ => ?_) fun _ => h
  dsimp only
  split
  · exact liveRetire_keeps h hh _ _ _
  · exact .ite (fun _ => liveRetire_keeps h hh _ _ _) fun _ => h
  · exact h

/-- An event, whatever severity it has, stays with the Heath: its reactions are messages. -/
theorem heathEvent_keeps (h : Keeps A m₀ m) (hh : HeathIn A) (e : FaultEvent) (hc : e.code < 64) (sub : Nat) :
    Keeps A m₀ (heathEvent e sub m) := by
  unfold heathEvent
  extract_lets c m1 sev x parts was m2 m3 m4
  have k1 : Keeps A m₀ m1 := retireReport_keeps (Keeps.heathSet h hh _ (by simp [c]; omega)) hh e
  have k2 : Keeps A m₀ m2 := .ite (fun _ => alarm_keeps k1 hh _) fun _ => k1
  have k3 : Keeps A m₀ m3 := episodeEvent_keeps k2 hh _ _ _
  have k4 : Keeps A m₀ m4 := .ite (fun _ => firstError_keeps k3 hh e) fun _ => k3
  exact .ite (fun _ => .ite (fun _ => firstError_keeps k1 hh e) fun _ => k1) fun _ =>
    capture_keeps (severityAction_keeps k4 hh _ _) hh _ hc

theorem heathFault_keeps (h : Keeps A m₀ m) (hh : HeathIn A) {c : Nat} (hc : c < 64) (dataA dataB : Nat) :
    Keeps A m₀ (heathFault c dataA dataB m) := heathEvent_keeps h hh _ hc _

theorem smbusError_keeps (h : Keeps A m₀ m) (hh : HeathIn A) {f : Fld} (hf : f.off < 0x1000000) (kind : Nat) :
    Keeps A m₀ (smbusError f kind m) := heathFault_keeps (h.heathSet hh 1 hf) hh (by decide) _ _

/-! ### The cap in force -/

theorem capEval_keeps (h : Keeps A m₀ m) (hh : HeathIn A) : Keeps A m₀ (capEval m) :=
  ((h.heathSet hh _ (by decide)).heathSet hh _ (by decide)).heathSet hh _ (by decide)

theorem derateEval_keeps (h : Keeps A m₀ m) (hh : HeathIn A) : Keeps A m₀ (derateEval m) := by
  unfold derateEval
  dsimp only
  split
  · exact capEval_keeps (((h.heathSet hh 0 (by decide)).heathSet hh _ (by decide)).heathSet hh _ (by decide)) hh
  · exact capEval_keeps ((h.heathSet hh 1 (by decide)).heathSet hh _ (by decide)) hh

theorem brake_keeps (h : Keeps A m₀ m) (hh : HeathIn A) (e est : Nat) : Keeps A m₀ (brake e est m) :=
  .ite (fun _ => h) fun _ =>
    heathFault_keeps (Keeps.heathSet (((h.heathMod hh _).send _ _ _ hh.sends).incSat _ _ (hh.has (by decide))) hh 1 (by decide))
      hh (by decide) _ _

end Sys2Proof.Machine
end

