-- ==== Sys2Proof/Laws/RegMap.lean ====
section
/-! SUPPORT.  The register map at symbolic addresses: the registers of a list that lie
elsewhere are passed over, and a word of a ladder bank holds the default curve at reset. -/

namespace Sys2Proof.Machine

/-- The last offset an array of registers may take. -/
abbrev RegDesc.last (d : RegDesc) : Nat := d.base + (d.count0 - 1) * d.stride0 + (d.count1 - 1) * d.stride1

theorem RegDesc.find_low {d : RegDesc} {o : Nat} (h : o < d.base) : d.find o = none := by
  simp only [RegDesc.find]
  rw [if_neg]; omega

theorem RegDesc.find_high {d : RegDesc} {o : Nat} (h : d.last < o) : d.find o = none := by
  simp only [RegDesc.find]
  rw [if_neg]
  rintro ⟨hb, hi, hj, hr⟩
  have h1 := Nat.mul_le_mul_right d.stride0 (Nat.le_sub_one_of_lt hi)
  have h2 := Nat.mul_le_mul_right d.stride1 (Nat.le_sub_one_of_lt hj)
  simp only [RegDesc.last] at h
  omega

/-- Registers that are not at an offset are passed over. -/
theorem findReg_append {l k : List RegDesc} {o : Nat} (h : ∀ d ∈ l, d.find o = none) :
    findReg (l ++ k) o = findReg k o := by
  induction l with
  | nil => rfl
  | cons d t ih =>
    have hd := h d (by simp)
    simp only [List.cons_append, findReg, hd]
    exact ih fun e he => h e (by simp [he])

/-- The place of a Sward's own register. -/
theorem place_sward {p o : Nat} (hp : p < 64) (ho : o < 0x40000) : place (swd p + o) = .sward p o := by
  have hs : swd p = 0x1000000 + p * 0x100000 := rfl
  have h0 : ¬ swd p + o < 0x1000000 := by omega
  have h3 : swd p + o < 0x5000000 := by omega
  have h1 : (swd p + o - 0x1000000) / 0x100000 = p := by omega
  have h2 : (swd p + o - 0x1000000) % 0x100000 = o := by omega
  clear hs
  generalize swd p + o = a at *
  subst h1 h2
  rw [place, if_neg h0, if_pos h3]
  exact if_pos ho

/-- A word of a Sward's own registers. -/
theorem resetWord_sward (fuse : Nat) {p o : Nat} (hp : p < 64) (ho : o < 0x40000) :
    resetWord fuse (swd p + o) = match findReg swardRegs o with
      | some (d, i, j) => BitVec.ofNat 32 (d.reset ⟨fuse, p, false⟩ i j)
      | none => 0 := by
  rw [resetWord, place_sward hp ho, lookupReg]
  cases findReg swardRegs o <;> rfl

theorem swardRegs_ladder {o : Nat} (h : 0x2000 ≤ o) :
    findReg swardRegs o = findReg (swardRegs.drop (swardRegs1.length + 4)) o := by
  have hs : swardRegs = swardRegs.take (swardRegs1.length + 4) ++ swardRegs.drop (swardRegs1.length + 4) :=
    (List.take_append_drop _ _).symm
  rw [hs, findReg_append, ← hs]
  intro d hd
  have hl : ∀ e ∈ swardRegs.take (swardRegs1.length + 4), e.last < 0x2000 := by decide
  exact RegDesc.find_high (Nat.lt_of_lt_of_le (hl d hd) h)

/-- Both banks of the ladder hold the default curve at reset. -/
theorem resetWord_ladder (fuse : Nat) {p t j bank : Nat} (hp : p < 64) (ht : t < 64) (hj : j < 16)
    (hb : bank = 0x2000 ∨ bank = 0x3000) :
    resetWord fuse (swd p + (bank + 0x40 * t + 4 * j)) = BitVec.ofNat 32 (curveWord j) := by
  rw [resetWord_sward fuse hp (by omega), swardRegs_ladder (by omega)]
  have he : swardRegs.drop (swardRegs1.length + 4) =
      ⟨0x2000, 0x40, 64, 4, 16, 0, 0, 0, 0, 5000, false, fun _ _ j => curveWord j⟩ ::
      ⟨0x3000, 0x40, 64, 4, 16, 0x81FF81FF, 0, 0, 0, 5000, false, fun _ _ j => curveWord j⟩ ::
      swardRegs.drop (swardRegs1.length + 6) := rfl
  have hd : (4 * j) / 4 = j := by omega
  rcases hb with rfl | rfl
  · have h1 : (0x40 * t + 4 * j) / 0x40 = t := by omega
    have h2 : 0x40 * t + 4 * j - t * 0x40 = 4 * j := by omega
    have h0 : 0x2000 + 0x40 * t + 4 * j - 0x2000 = 0x40 * t + 4 * j := by omega
    rw [he]
    simp only [findReg, RegDesc.find, h0, h1]
    simp only [Nat.reduceEqDiff, if_false, h2, hd]
    rw [if_pos (by omega)]
  · have h1 : (0x40 * t + 4 * j) / 0x40 = t := by omega
    have h2 : 0x40 * t + 4 * j - t * 0x40 = 4 * j := by omega
    have h0 : 0x3000 + 0x40 * t + 4 * j - 0x3000 = 0x40 * t + 4 * j := by omega
    rw [he, findReg, RegDesc.find_high (by simp only [RegDesc.last]; omega)]
    simp only [findReg, RegDesc.find, h0, h1]
    simp only [Nat.reduceEqDiff, if_false, h2, hd]
    rw [if_pos (by omega)]

/-- An entry of a bank whose word nothing has changed. -/
theorem ladderEntry_reset {m : Wafer} {p t n bank : Nat} (hp : p < 64) (ht : t < 64) (hn : n < 32)
    (hb : bank = 0x2000 ∨ bank = 0x3000)
    (hw : m.word (swd p + (bank + 0x40 * t + 4 * (n / 2))) = resetWord m.fuse (swd p + (bank + 0x40 * t + 4 * (n / 2)))) :
    ladderEntry p bank t n m = 256 + 3 * n := by
  rw [ladderEntry, Wafer.get]
  simp only [ladderField]
  rw [hw, resetWord_ladder _ hp ht (by omega) hb]
  have : ∀ n : Fin 32, getBits (BitVec.ofNat 32 (curveWord (n / 2))) (16 * (n % 2)) 16 = 256 + 3 * n := by decide
  exact this ⟨n, hn⟩

end Sys2Proof.Machine
end

