-- ==== Sys2Proof/Laws/SwardEffects.lean ====
section
/-! SUPPORT.  What the operations that a Sward's rules share do: each stays within the
Sward's own registers, its hidden state and its messages. -/

namespace Sys2Proof.Machine

variable {A : Area} {m₀ m : Wafer} {p : Nat}

theorem setCounter_keeps (h : Keeps A m₀ m) (hp : SwardIn A p) {k : Nat} (hk : k < 128) (v : Nat) :
    Keeps A m₀ (setCounter p k v m) := h.set64 _ _ _ _ (hp.has (by simp; omega)) (hp.has (by simp; omega))

theorem queueReport_keeps (h : Keeps A m₀ m) (hp : SwardIn A p) (e : FaultEvent) : Keeps A m₀ (queueReport p e m) :=
  .ite (fun _ => (h.swardMod hp _).send _ _ _ hp.sends) fun _ => h.swardMod hp _

theorem reportEvent_keeps (h : Keeps A m₀ m) (hp : SwardIn A p) (code unit dataA dataB : Nat) :
    Keeps A m₀ (reportEvent p code unit dataA dataB m) := queueReport_keeps h hp _

theorem swardFault_keeps (h : Keeps A m₀ m) (hp : SwardIn A p) (code dataA dataB : Nat) :
    Keeps A m₀ (swardFault p code dataA dataB m) := reportEvent_keeps h hp _ _ _ _

theorem snapCounters_keeps (h : Keeps A m₀ m) (hp : SwardIn A p) : Keeps A m₀ (snapCounters p m) :=
  Keeps.swardSet (h.fold _ _ fun _ k hk a => by
    have : k < 96 := by simpa using hk
    exact a.set64 _ _ _ _ (hp.has (by simp; omega)) (hp.has (by simp; omega))) hp _ (by decide)

theorem overflowMark_keeps (h : Keeps A m₀ m) (hp : SwardIn A p) {k : Nat} (hk : k < 128) :
    Keeps A m₀ (overflowMark p k m) := by
  unfold overflowMark
  extract_lets b m1 m3 m4 m5 m6 m7
  have k1 : Keeps A m₀ m1 := h.putWord _ _ ⟨_, hp.block, by simp [b], by simp [b]; omega⟩
  have k3 : Keeps A m₀ m3 := .ite (fun _ => swardFault_keeps k1 hp _ _ _) fun _ => k1
  have k4 : Keeps A m₀ m4 := .ite (fun _ => k3.swardSet hp 1 (by decide)) fun _ => k3
  have k5 : Keeps A m₀ m5 := (k4.swardSet hp 1 (by decide)).swardSet hp k (by decide)
  have k6 : Keeps A m₀ m6 := k5.swardSet hp _ (by decide)
  have k7 : Keeps A m₀ m7 := (k6.swardSet hp _ (by decide)).swardSet hp _ (by decide)
  exact .ite (fun _ => (k7.swardSet hp _ (by decide)).swardMod hp _) fun _ => k3

theorem bumpOverflows_keeps (h : Keeps A m₀ m) (hp : SwardIn A p) : Keeps A m₀ (bumpOverflows p m).2 :=
  setCounter_keeps h hp (by decide) _

theorem overflowActions_keeps (h : Keeps A m₀ m) (hp : SwardIn A p) {k : Nat} (hk : k < 128) :
    Keeps A m₀ (overflowActions p k m) := by
  have a := overflowMark_keeps h hp hk
  exact .ite (fun _ => .ite
    (fun _ => overflowMark_keeps (bumpOverflows_keeps (bumpOverflows_keeps a hp) hp) hp (by decide))
    fun _ => bumpOverflows_keeps a hp) fun _ => a

/-- Counting stays with its Sward, whatever overflows. -/
theorem count_keeps (h : Keeps A m₀ m) (hp : SwardIn A p) {k : Nat} (hk : k < 128) (n : Nat) (e : EventAttr) :
    Keeps A m₀ (count p k n e m) := by
  have c (v : Nat) := setCounter_keeps h hp hk v
  exact .ite (fun _ => h) fun _ => .ite (fun _ => c _) fun _ => overflowActions_keeps (c _) hp hk

theorem tally_keeps (h : Keeps A m₀ m) (hp : SwardIn A p) {k : Nat} (hk : k < 128) : Keeps A m₀ (tally p k m) :=
  count_keeps h hp hk _ _

theorem counterCommand_keeps (h : Keeps A m₀ m) (hp : SwardIn A p) (data : Word) :
    Keeps A m₀ (counterCommand p data m) := by
  unfold counterCommand
  extract_lets load m1 m2 m3
  have kl (m : Wafer) (j : Nat) (hj : j < 128) (a : Keeps A m₀ m) : Keeps A m₀ (load j m) := setCounter_keeps a hp hj _
  have k1 : Keeps A m₀ m1 := .ite (fun _ => snapCounters_keeps h hp) fun _ => h
  have k2 : Keeps A m₀ m2 := .ite (fun _ => .ite
    (fun _ => k1.fold _ _ fun m j hj a => kl m j (by have : j < 70 := by simpa using hj
                                                     omega) a)
    fun _ => .ite (fun hk => kl _ _ (by omega) k1) fun _ => k1) fun _ => k1
  have k3 : Keeps A m₀ m3 := .ite (fun _ => tally_keeps k2 hp (by decide)) fun _ => k2
  exact .ite (fun _ => tally_keeps k3 hp (by decide)) fun _ => k3

theorem setShadow_keeps (h : Keeps A m₀ m) (hp : SwardIn A p) (st : Nat) : Keeps A m₀ (setShadow p st m) :=
  h.swardSet hp _ (by decide)

theorem setHeader_keeps (h : Keeps A m₀ m) (hp : SwardIn A p) (f : SwardSt → SwardSt) :
    Keeps A m₀ (setHeader p f m) :=
  have k := h.swardMod hp f
  .ite (fun _ => k) fun _ => tally_keeps k hp (by decide)

theorem pendConfig_keeps (h : Keeps A m₀ m) (hp : SwardIn A p) (off : Nat) (data : Word) :
    Keeps A m₀ (pendConfig p off data m) :=
  .ite (fun _ => h) fun _ => Keeps.swardSet (h.swardMod hp _) hp _ (by decide)

end Sys2Proof.Machine
end

