-- ==== Sys2Proof/Laws/UnitEffects.lean ====
section
/-! SUPPORT.  What the operations that a unit's rules share do: each stays within the
unit's own registers and hidden state. -/

namespace Sys2Proof.Machine

variable {A : Area} {m₀ m : Wafer} {u : UnitId}

theorem unitEvent_keeps (h : Keeps A m₀ m) (hu : UnitIn A u) (code slot data : Nat) :
    Keeps A m₀ (unitEvent u code slot data m) := by
  unfold unitEvent
  refine .ite (fun _ => h.unitMod hu _) fun _ => ?_
  have k : Keeps A m₀ (m.incSat u.base TSK_SWATH.EVQ_OVF) := h.incSat _ _ (hu.has (by decide))
  exact .ite (fun _ => k.unitMod hu _) fun _ => k

theorem flagEvent_keeps (h : Keeps A m₀ m) (hu : UnitIn A u) {f : Fld} (hf : f.off < 0x1000) (code slot data : Nat) :
    Keeps A m₀ (flagEvent u f code slot data m) :=
  .ite (fun _ => h) fun _ => unitEvent_keeps (h.unitSet hu 1 hf) hu _ _ _

theorem intentLog_keeps (h : Keeps A m₀ m) (hu : UnitIn A u) (outcome ty tag : Nat) :
    Keeps A m₀ (intentLog u outcome ty tag m) := by
  unfold intentLog
  refine .ite (fun _ => h) fun _ => ?_
  have hi : m.get u.base TSK_ILOGIDX.NEXT < 2 ^ TSK_ILOGIDX.NEXT.wid := getBits_lt _ _ _
  have hi : m.get u.base TSK_ILOGIDX.NEXT < 64 := Nat.lt_of_lt_of_le hi (by decide)
  exact ((((h.unitSet hu _ (by simp; omega)).unitSet hu _ (by simp; omega)).unitSet hu _
    (by simp; omega)).unitSet hu _ (by simp; omega)).unitSet hu _ (by decide)

theorem logEntries_keeps (h : Keeps A m₀ m) (hu : UnitIn A u) (outcome : Nat) (l : List IntentEntry) :
    Keeps A m₀ (logEntries u outcome l m) :=
  h.fold l _ fun _ _ _ k => intentLog_keeps k hu _ _ _

theorem cfgWritten_keeps (h : Keeps A m₀ m) (hu : UnitIn A u) : Keeps A m₀ (cfgWritten u m) := h.unitSet hu _ (by decide)

theorem dropWindow_keeps (h : Keeps A m₀ m) (hu : UnitIn A u) (s : Nat) : Keeps A m₀ (dropWindow u s m) := by
  unfold dropWindow Wafer.modPhase
  exact h.unitMod hu _

theorem strFall_keeps (h : Keeps A m₀ m) (hu : UnitIn A u) : Keeps A m₀ (strFall u m) :=
  .ite (fun _ => (h.unitMod hu _).unitSet hu 0 (by decide)) fun _ => h

theorem leaveVset_keeps (h : Keeps A m₀ m) (hu : UnitIn A u) (q : Nat) : Keeps A m₀ (leaveVset u q m) := by
  unfold leaveVset Wafer.modRail
  exact h.unitMod hu _

theorem liftClampEval_keeps (h : Keeps A m₀ m) (hu : UnitIn A u) {q : Nat} (hq : q < 2) :
    Keeps A m₀ (liftClampEval u q m) := .ite (fun _ => h.unitSet hu 1 (by simp; omega)) fun _ => h

theorem vibStopFlag_keeps (h : Keeps A m₀ m) (hu : UnitIn A u) : Keeps A m₀ (vibStopFlag u m) :=
  h.unitSet hu _ (by decide)

theorem ovlEval_keeps (h : Keeps A m₀ m) (hu : UnitIn A u) : Keeps A m₀ (ovlEval u m) := by
  unfold ovlEval Wafer.modRail
  exact h.unitMod hu _

theorem setLift_keeps (h : Keeps A m₀ m) (hu : UnitIn A u) (q : Nat) (v : Int) : Keeps A m₀ (setLift u q v m) := by
  unfold setLift Wafer.modRail
  extract_lets m1 code
  exact Keeps.unitSet ((leaveVset_keeps h hu q).unitMod hu _) hu _ (by split <;> decide)

theorem liftEval_keeps (h : Keeps A m₀ m) (hu : UnitIn A u) {q : Nat} (hq : q < 2) : Keeps A m₀ (liftEval u q m) := by
  unfold liftEval
  exact .ite (fun _ => liftClampEval_keeps (setLift_keeps h hu q _) hu hq) fun _ => h

theorem observeIntents_keeps (h : Keeps A m₀ m) (hu : UnitIn A u) (seen : IntentEntry → Bool) :
    Keeps A m₀ (observeIntents u seen m) :=
  liftEval_keeps (liftEval_keeps (((logEntries_keeps h hu _ _).unitSet hu _ (by decide)).unitMod hu _) hu (by decide)) hu
    (by decide)

theorem retentionEval_keeps (h : Keeps A m₀ m) (hu : UnitIn A u) : Keeps A m₀ (retentionEval u m) :=
  .ite (fun _ => h) fun _ => .ite (fun _ => h.unitMod hu _) fun _ => .ite (fun _ => h.unitMod hu _) fun _ => h

theorem peakVoltage_keeps (h : Keeps A m₀ m) (hu : UnitIn A u) {q : Nat} (hq : q < 2) (v : Int) :
    Keeps A m₀ (peakVoltage u q v m) :=
  .ite (fun _ => h.unitSet hu _ (by simp; omega)) fun _ => h

theorem peakMax_keeps (h : Keeps A m₀ m) (hu : UnitIn A u) {f : Fld} (hf : f.off < 0x1000) (v : Int) :
    Keeps A m₀ (peakMax u f v m) :=
  .ite (fun _ => h.unitSet hu _ hf) fun _ => h

theorem railOff_keeps (h : Keeps A m₀ m) (hu : UnitIn A u) {q : Nat} (hq : q < 2) : Keeps A m₀ (railOff u q m) :=
  Keeps.unitSet (Keeps.unitMod (h.fold _ _ fun _ _ _ k => k.unitMod hu _) hu _) hu 0 (by simp; omega)

theorem openSide_keeps (h : Keeps A m₀ m) (hu : UnitIn A u) (n : Nat) : Keeps A m₀ (openSide u n m) :=
  ((h.modUnit u _ hu.hidden).unitSet hu 0 (by simp)).unitSet hu 0 (by simp)

theorem openAllSides_keeps (h : Keeps A m₀ m) (hu : UnitIn A u) : Keeps A m₀ (openAllSides u m) :=
  h.fold _ _ fun _ _ _ k => openSide_keeps (.ite (fun _ => k.unitMod hu _) fun _ => k) hu _

theorem freeIntents_keeps (h : Keeps A m₀ m) (hu : UnitIn A u) (gone : IntentEntry → Bool) :
    Keeps A m₀ (freeIntents u gone m) := by
  unfold freeIntents
  exact (logEntries_keeps h hu _ _).unitMod hu _

theorem coreEval_keeps (h : Keeps A m₀ m) (hu : UnitIn A u) : Keeps A m₀ (coreEval u m) :=
  .ite (fun _ => freeIntents_keeps (h.unitMod hu _) hu _) fun _ => h

theorem closeForHold_keeps (h : Keeps A m₀ m) (hu : UnitIn A u) (n : Nat) : Keeps A m₀ (closeForHold u n m) := by
  unfold closeForHold Wafer.modPort
  extract_lets x m1
  have k : Keeps A m₀ m1 := .ite (fun _ => h) fun _ => h.incSat _ _ (hu.has (by decide))
  exact k.unitMod hu _

theorem serveStanding_keeps (h : Keeps A m₀ m) (hu : UnitIn A u) : Keeps A m₀ (serveStanding u m) :=
  h.fold _ _ fun _ _ _ k => .ite (fun _ => closeForHold_keeps k hu _) fun _ => k

theorem leaveReg_keeps (h : Keeps A m₀ m) (hu : UnitIn A u) (q : Nat) : Keeps A m₀ (leaveReg u q m) := by
  unfold leaveReg Wafer.modRail
  extract_lets m1 m2
  have k2 : Keeps A m₀ m2 := (freeIntents_keeps h hu _).unitMod hu _
  exact .ite (fun _ => openAllSides_keeps ((k2.unitMod hu _).unitSet hu 0 (by decide)) hu) fun _ => k2

theorem burstOver_keeps (h : Keeps A m₀ m) (hu : UnitIn A u) : Keeps A m₀ (burstOver u m) := by
  unfold burstOver Wafer.modPort
  refine .ite (fun _ => ?_) fun _ => h
  exact Keeps.fold ((h.unitSet hu 0 (by decide)).unitSet hu 1 (by decide)) _ _ fun _ _ _ k =>
    .ite (fun _ => k.unitMod hu _) fun _ => k

/-- Whatever follows from a rail's new state stays with its unit. -/
theorem enterState_keeps (h : Keeps A m₀ m) (hu : UnitIn A u) {q : Nat} (hq : q < 2) (st : Nat) :
    Keeps A m₀ (enterState u q st m) := by
  unfold enterState
  extract_lets m1 m2 m3 off m4 m5 halted old m6 m7 m8
  have k1 : Keeps A m₀ m1 := .ite (fun _ => leaveReg_keeps h hu q) fun _ => h
  have k2 : Keeps A m₀ m2 := .ite (fun _ => k1.modUnit u _ hu.hidden) fun _ => k1
  have k3 : Keeps A m₀ m3 := .ite (fun _ => Keeps.fold (k2.unitSet hu 0 (by simp; omega)) _ _ fun _ _ _ k =>
    dropWindow_keeps k hu _) fun _ => k2
  have koff : Keeps A m₀ off := railOff_keeps k3 hu hq
  have k4 : Keeps A m₀ m4 := .ite (fun _ => k3) fun _ => .ite (fun _ => strFall_keeps (burstOver_keeps koff hu) hu) fun _ => koff
  have k5 : Keeps A m₀ m5 := k4.modUnit u _ hu.hidden
  have k6 : Keeps A m₀ m6 := .ite (fun _ => k5.unitMod hu _) fun _ => k5
  have k7 : Keeps A m₀ m7 := .ite (fun _ => k6.modUnit u _ hu.hidden) fun _ => k6
  have k8 : Keeps A m₀ m8 := coreEval_keeps (vibStopFlag_keeps (k7.unitSet hu st (by simp; omega)) hu) hu
  exact .ite (fun _ => serveStanding_keeps k8 hu) fun _ => k8

theorem beginRamp_keeps (h : Keeps A m₀ m) (hu : UnitIn A u) {q : Nat} (hq : q < 2) (fromV toV : Int) (edges : Nat) :
    Keeps A m₀ (beginRamp u q fromV toV edges m) := by
  unfold beginRamp Wafer.modRail Wafer.setI Wafer.setB
  extract_lets m1 m2
  have k1 : Keeps A m₀ m1 := (leaveVset_keeps h hu q).unitMod hu _
  exact (k1.unitSet hu _ (by simp; omega)).unitSet hu _ (by simp; omega)

theorem startRampUp_keeps (h : Keeps A m₀ m) (hu : UnitIn A u) {q : Nat} (hq : q < 2) (v : Int) :
    Keeps A m₀ (startRampUp u q v m) := beginRamp_keeps (enterState_keeps h hu hq _) hu hq _ _ _

theorem retarget_keeps (h : Keeps A m₀ m) (hu : UnitIn A u) {q : Nat} (hq : q < 2) : Keeps A m₀ (retarget u q m) :=
  .ite (fun _ => .ite (fun _ => h) fun _ => beginRamp_keeps h hu hq _ _ _) fun _ =>
    .ite (fun _ => .ite (fun _ => h) fun _ => .ite (fun _ => beginRamp_keeps h hu hq _ _ _) fun _ => beginRamp_keeps h hu hq _ _ _)
      fun _ => h


theorem senseVib_keeps (h : Keeps A m₀ m) (hu : UnitIn A u) (code : Nat) : Keeps A m₀ (senseVib u code m) :=
  h.unitSet hu _ (by decide)

theorem senseRail_keeps (h : Keeps A m₀ m) (hu : UnitIn A u) {q : Nat} (hq : q < 2) (v : Int) :
    Keeps A m₀ (senseRail u q v m) := by
  unfold senseRail Wafer.modRail
  extract_lets m1 m2
  have k2 : Keeps A m₀ m2 := (h.unitMod hu _).unitMod hu _
  exact peakVoltage_keeps (.ite (fun _ => ovlEval_keeps k2 hu) fun _ => k2) hu hq v

theorem senseMean_keeps (h : Keeps A m₀ m) (hu : UnitIn A u) {q : Nat} (hq : q < 2) (v : Int) :
    Keeps A m₀ (senseMean u q v m) := by
  unfold senseMean Wafer.modRail
  exact senseRail_keeps (h.unitMod hu _) hu hq v

theorem railEnable_keeps (h : Keeps A m₀ m) (hu : UnitIn A u) {q : Nat} (hq : q < 2) : Keeps A m₀ (railEnable u q m) := by
  have k : Keeps A m₀ (m.set u.base (enField q) 1) := h.unitSet hu 1 (by unfold enField; split <;> decide)
  exact .ite (fun _ => h) fun _ => .ite (fun _ => h.unitSet hu 1 (by decide)) fun _ => .ite (fun _ => k) fun _ =>
    .ite (fun _ => enterState_keeps k hu hq _) fun _ => .ite (fun _ => startRampUp_keeps k hu hq _) fun _ => k

theorem railDisable_keeps (h : Keeps A m₀ m) (hu : UnitIn A u) {q : Nat} (hq : q < 2) : Keeps A m₀ (railDisable u q m) := by
  have k : Keeps A m₀ (m.set u.base (enField q) 0) := h.unitSet hu 0 (by unfold enField; split <;> decide)
  exact .ite (fun _ => beginRamp_keeps (enterState_keeps k hu hq _) hu hq _ _ _) fun _ =>
    .ite (fun _ => enterState_keeps k hu hq _) fun _ => k

theorem railSlots_lt (verge : Bool) (q : Nat) {s : Nat} (hs : s ∈ railSlots verge q) : s < 4 := by
  unfold railSlots at hs
  cases verge <;> (repeat' split at hs) <;> simp at hs <;> omega

theorem restoreShed_keeps (h : Keeps A m₀ m) (hu : UnitIn A u) {q : Nat} (hq : q < 2) :
    Keeps A m₀ (restoreShed u q m) := by
  unfold restoreShed Wafer.modRail Wafer.modPhase
  refine .ite (fun _ => ?_) fun _ => h
  refine Keeps.unitSet (Keeps.unitMod (h.fold _ _ fun _ s hs k => ?_) hu _) hu 0 (by simp; omega)
  exact .ite (fun _ => (k.unitSet hu 0 (by have := railSlots_lt _ _ hs; simp; omega)).unitMod hu _) fun _ => k

theorem startPulse_keeps (h : Keeps A m₀ m) (hu : UnitIn A u) {s : Nat} (hs : s < 4) (kind : Pulse) (n : Nat) :
    Keeps A m₀ (startPulse u s kind n m) := by
  unfold startPulse Wafer.modPhase Wafer.inc
  exact (h.unitMod hu _).unitSet hu _ (by simp; omega)

theorem issuePulse_keeps (h : Keeps A m₀ m) (hu : UnitIn A u) (q : Nat) {s : Nat} (hs : s < 4) (n : Nat) :
    Keeps A m₀ (issuePulse u q s n m) := by
  unfold issuePulse Wafer.modRail
  exact startPulse_keeps (h.unitMod hu _) hu hs _ _

theorem nextPhase_lt {q s : Nat} (h : nextPhase u q m = some s) : s < 4 := by
  have hm := List.mem_of_find?_eq_some h
  rcases List.mem_append.1 hm with k | k
  · exact railSlots_lt _ _ (List.mem_of_mem_drop k)
  · exact railSlots_lt _ _ (List.mem_of_mem_take k)

/-- A request of the modulator stays with its unit. -/
theorem modulate_keeps (h : Keeps A m₀ m) (hu : UnitIn A u) {q : Nat} (hq : q < 2) : Keeps A m₀ (modulate u q m) := by
  unfold modulate
  split
  · exact h.modUnit u _ hu.hidden
  · rename_i s hs
    have hl := nextPhase_lt hs
    unfold Wafer.modRail
    extract_lets r n tmin c m1 m2
    have k1 : Keeps A m₀ m1 := h.unitMod hu _
    exact .ite (fun _ => .ite (fun _ => issuePulse_keeps ((k1.unitMod hu _).unitSet hu 1 (by simp; omega)) hu q hl _) fun _ =>
      k1.unitMod hu _) fun _ => issuePulse_keeps (h.unitMod hu _) hu q hl _

theorem retryRequest_keeps (h : Keeps A m₀ m) (hu : UnitIn A u) {q : Nat} (hq : q < 2) :
    Keeps A m₀ (retryRequest u q m) := .ite (fun _ => modulate_keeps h hu hq) fun _ => h

theorem fireTie_keeps (h : Keeps A m₀ m) (hu : UnitIn A u) {s : Nat} (hs : s < 4) : Keeps A m₀ (fireTie u s m) := by
  unfold fireTie Wafer.inc
  exact ((startPulse_keeps h hu hs _ _).unitMod hu _).unitSet hu _ (by decide)

theorem fireTest_keeps (h : Keeps A m₀ m) (hu : UnitIn A u) {s : Nat} (hs : s < 4) : Keeps A m₀ (fireTest u s m) := by
  unfold fireTest Wafer.modPhase
  exact (startPulse_keeps h hu hs _ _).unitMod hu _

theorem testEval_keeps (h : Keeps A m₀ m) (hu : UnitIn A u) {s : Nat} (hs : s < 4) : Keeps A m₀ (testEval u s m) :=
  .ite (fun _ => fireTest_keeps h hu hs) fun _ => h

theorem slotRail_lt {s : Nat} (hs : s < 4) : slotRail s < 2 := by unfold slotRail; omega

/-- Whatever takes a phase that has become available stays with its unit. -/
theorem offerPhase_keeps (h : Keeps A m₀ m) (hu : UnitIn A u) {s : Nat} (hs : s < 4) : Keeps A m₀ (offerPhase u s m) := by
  unfold offerPhase Wafer.modPhase
  extract_lets m1 q
  have k1 : Keeps A m₀ m1 := testEval_keeps h hu hs
  refine .ite (fun _ => k1) fun _ => .ite (fun _ => k1.unitMod hu _) fun _ => ?_
  split
  · exact .ite (fun _ => fireTie_keeps k1 hu hs) fun _ => retryRequest_keeps (k1.unitMod hu _) hu (slotRail_lt hs)
  · exact retryRequest_keeps k1 hu (slotRail_lt hs)

theorem backInService_keeps (h : Keeps A m₀ m) (hu : UnitIn A u) {s : Nat} (hs : s < 4) :
    Keeps A m₀ (backInService u s m) := by
  unfold backInService Wafer.modPhase
  exact offerPhase_keeps (h.unitMod hu _) hu hs

theorem offerRail_keeps (h : Keeps A m₀ m) (hu : UnitIn A u) (q : Nat) : Keeps A m₀ (offerRail u q m) :=
  h.fold _ _ fun _ _ hs k => offerPhase_keeps k hu (railSlots_lt _ _ hs)

theorem stopSink_keeps (h : Keeps A m₀ m) (hu : UnitIn A u) {q : Nat} (hq : q < 2) : Keeps A m₀ (stopSink u q m) :=
  Keeps.unitSet (h.fold _ _ fun _ _ _ k => k.modUnit u _ hu.hidden) hu 0 (by simp; omega)

theorem testTick_keeps (h : Keeps A m₀ m) (hu : UnitIn A u) : Keeps A m₀ (testTick u m) :=
  h.fold _ _ fun _ _ hs k => .ite (fun _ => testEval_keeps (k.modUnit u _ hu.hidden) hu (by simpa using hs)) fun _ => k

theorem vibStop_keeps (h : Keeps A m₀ m) (hu : UnitIn A u) (uv : Bool) : Keeps A m₀ (vibStop u uv m) :=
  h.fold _ _ fun _ _ hq k =>
    .ite (fun _ => (enterState_keeps k hu (by simpa using hq) _).modUnit u _ hu.hidden) fun _ =>
      .ite (fun _ => k.modUnit u _ hu.hidden) fun _ => k

theorem endPulse_keeps (h : Keeps A m₀ m) (hu : UnitIn A u) (s : Nat) (limited : Bool) :
    Keeps A m₀ (endPulse u s limited m) := by
  unfold endPulse Wafer.modPhase
  exact .ite (fun _ => h) fun _ => .ite (fun _ => h.unitMod hu _) fun _ => burstOver_keeps (h.unitMod hu _) hu

theorem phaseOff_keeps (h : Keeps A m₀ m) (hu : UnitIn A u) (s : Nat) : Keeps A m₀ (phaseOff u s m) := by
  unfold phaseOff Wafer.modPhase
  extract_lets m1 m2
  have k2 : Keeps A m₀ m2 := (endPulse_keeps h hu s false).unitMod hu _
  exact .ite (fun _ => k2) fun _ => burstOver_keeps k2 hu

theorem faultOff_keeps (h : Keeps A m₀ m) (hu : UnitIn A u) (s : Nat) : Keeps A m₀ (faultOff u s m) := by
  unfold faultOff Wafer.modRail
  exact phaseOff_keeps (.ite (fun _ => h.unitMod hu _) fun _ => h) hu s

theorem railLoss_keeps (h : Keeps A m₀ m) (hu : UnitIn A u) (s : Nat) : Keeps A m₀ (railLoss u s m) := by
  unfold railLoss Wafer.modPort
  cases u with
  | tussock g =>
    refine .ite (fun _ => .ite (fun _ => ?_) fun _ => h) fun _ => unitEvent_keeps (h.unitSet hu 1 (by decide)) hu _ _ _
    exact unitEvent_keeps (Keeps.unitSet (h.fold _ _ fun _ _ _ k => .ite (fun _ => k.unitMod hu _) fun _ => k) hu 1 (by decide))
      hu _ _ _
  | verge n =>
    exact .ite (fun _ => .ite (fun _ => unitEvent_keeps (h.unitSet hu 1 (by decide)) hu _ _ _) fun _ => h) fun _ =>
      .ite (fun _ => unitEvent_keeps (h.unitSet hu 1 (by decide)) hu _ _ _) fun _ => h

/-- A phase's retirement stays with its unit. -/
theorem retirePhase_keeps (h : Keeps A m₀ m) (hu : UnitIn A u) {s : Nat} (hs : s < 4) : Keeps A m₀ (retirePhase u s m) :=
  .ite (fun _ => h) fun _ =>
    railLoss_keeps (unitEvent_keeps ((((phaseOff_keeps h hu s).unitSet hu 1 (by simp; omega)).unitSet hu 1
      (by simp; omega)).unitSet hu 0 (by simp; omega)) hu _ _ _) hu s

theorem ovClampEval_keeps (h : Keeps A m₀ m) (hu : UnitIn A u) {q : Nat} (hq : q < 2) :
    Keeps A m₀ (ovClampEval u q m) := .ite (fun _ => h.unitSet hu 1 (by simp; omega)) fun _ => h

/-- An over-temperature shutdown stays with its unit. -/
theorem otShutdown_keeps (h : Keeps A m₀ m) (hu : UnitIn A u) : Keeps A m₀ (otShutdown u m) := by
  unfold otShutdown Wafer.modPort Wafer.modRail
  extract_lets m1 m2 m3 m4
  have k2 : Keeps A m₀ m2 := Keeps.fold (h.unitSet hu 1 (by decide)) _ _ fun _ _ hq k =>
    .ite (fun _ => k) fun _ => (enterState_keeps k hu (by simpa using hq) _).unitMod hu _
  have k3 : Keeps A m₀ m3 := k2.fold _ _ fun _ _ _ k => k.unitMod hu _
  have k4 : Keeps A m₀ m4 := .ite (fun _ => k3) fun _ => strFall_keeps (openAllSides_keeps k3 hu) hu
  exact unitEvent_keeps k4 hu _ _ _

theorem sensorFailed_keeps (h : Keeps A m₀ m) (hu : UnitIn A u) : Keeps A m₀ (sensorFailed u m) := by
  unfold sensorFailed
  exact .ite (fun _ => h) fun _ =>
    unitEvent_keeps (Keeps.unitSet (unitEvent_keeps ((h.unitMod hu _).unitSet hu 1 (by decide)) hu _ _ _) hu 1 (by decide)) hu
      _ _ _

theorem tempTests_keeps (h : Keeps A m₀ m) (hu : UnitIn A u) (mean : Int) : Keeps A m₀ (tempTests u mean m) := by
  unfold tempTests
  extract_lets warn sd m1 m2
  have k1 : Keeps A m₀ m1 :=
    .ite (fun _ => .ite (fun _ => h) fun _ => unitEvent_keeps (h.unitSet hu 1 (by decide)) hu _ _ _) fun _ =>
      .ite (fun _ => h.unitSet hu 0 (by decide)) fun _ => h
  have k2 : Keeps A m₀ m2 := k1.unitSet hu 0 (by decide)
  exact .ite (fun _ => .ite (fun _ => k1) fun _ => otShutdown_keeps k1 hu) fun _ =>
    .ite (fun _ => .ite (fun _ => k2) fun _ => serveStanding_keeps k2 hu) fun _ => k1

end Sys2Proof.Machine
end

