-- ==== Sys2Proof/Laws/Wire.lean ====
section
/-! SUPPORT.  Laws of the words on a spoke: what was sent undisturbed passes its check, and
which of two copies is taken. -/

namespace Sys2Proof.Laws

open Sys2Proof.Machine

/-- The upper part of two joined words. -/
theorem extract_append_high {n k : Nat} (x : BitVec n) (y : BitVec k) : (x ++ y).extractLsb' k n = x := by
  ext i hi
  simp only [BitVec.getElem_extractLsb', BitVec.getLsbD_append]
  simp [BitVec.getLsbD_eq_getElem hi]

/-- The lower part of two joined words. -/
theorem extract_append_low {n k : Nat} (x : BitVec n) (y : BitVec k) : (x ++ y).extractLsb' 0 k = y := by
  ext i hi
  simp only [BitVec.getElem_extractLsb', BitVec.getLsbD_append]
  simp [hi]

/-- A record that arrives as it was sent passes its CRC-8 (R208). -/
theorem recordOk_recordBits (r : UpRecord) : recordOk (recordBits r) = true := by
  unfold recordOk recordBits
  rw [extract_append_high, extract_append_low]
  simp

/-- A frame that arrives as it was sent passes its CRC-16 (R205). -/
theorem frameGood_frameBits (h : BitVec 40) (r : Nat → BitVec 112) : frameGood (frameBits h r) = true := by
  unfold frameGood frameBits
  rw [extract_append_high, extract_append_low]
  simp

/-- A copy with no bit flipped is what was sent. -/
theorem copyOf_undisturbed {n : Nat} (sent : BitVec n) : copyOf sent (some 0) = some sent := by
  simp [copyOf]

/-- The first copy is taken where it is good. -/
theorem firstGood_first {n : Nat} (good : BitVec n → Bool) (x : BitVec n) (b : Option (BitVec n)) (h : good x = true) :
    firstGood good (some x) b = some x := by
  simp [firstGood, Option.filter, h]

/-- Where the first copy is not good, the second decides. -/
theorem firstGood_second {n : Nat} (good : BitVec n → Bool) (a b : Option (BitVec n)) (h : (a.all fun c => !good c) = true) :
    firstGood good a b = b.filter good := by
  cases a <;> simp_all [firstGood, Option.filter]

end Sys2Proof.Laws
end

