-- ==== Sys2Proof/WellFormed.lean ====
section
/-! DEFINITION.  Well-formed commands: operands that stand for something the hardware
has. -/

namespace Sys2Proof

open Sys2Proof.Machine

/-- WTIME is a 64-bit count (R50). -/
def timeOk (w : Nat) : Bool := decide (w < 2 ^ 64)

/-- A frame whose boundary WTIME can name (R202). -/
def frameOk (f : Nat) : Bool := decide (800 * f < 2 ^ 64)

/-- A sample epoch that WTIME can name (R276). -/
def epochOk (e : Nat) : Bool := decide (12800 * e < 2 ^ 64)

/-- A word of a Sward's block (Table 1.15). -/
def offsetOk (off : Nat) : Bool := decide (off < 0x40000) && off % 4 == 0

/-- An address of the register space (R427). -/
def addressOk (a : Nat) : Bool := decide (a < 2 ^ 30)

/-- A count or measured magnitude of 32 bits. -/
def countOk (n : Nat) : Bool := decide (n < 2 ^ 32)

/-- A measured value within int32 (Table 0.5). -/
def intOk (v : Int) : Bool := decide (-(2 ^ 31) ≤ v ∧ v < 2 ^ 31)

/-- The byte count of an SMBus block or a Commons frame. -/
def blockOk (l : List (BitVec 8)) : Bool := decide (l.length ≤ 255)

/-- A phase slot with a power stage (R27). -/
def slotOk (u : UnitId) (s : Fin 4) : Bool := u.isVerge || s != 3

/-- A set-point that the unit has: a Verge has no retention voltage. -/
def setPointOk (u : UnitId) (sp : SetPoint) : Bool := !u.isVerge || sp != .vret

/-- An edge partition, which alone has links (R22). -/
def edgeOk (p : Fin 64) : Bool := isEdge p

/-- The values of a phase's reading within int32. -/
def readingOk (r : PhaseReading) : Bool :=
  r.offRise.all intOk && r.sw.all intOk && intOk r.current && r.rises.all fun e => intOk e.1 && countOk e.2

/-- The values of a sample within int32. -/
def sampleOk (x : Sample) : Bool :=
  [x.v0, x.v1, x.i0, x.i1, x.ph0, x.ph1, x.ph2, x.ph3, x.tie0, x.tie1, x.tie2, x.tie3].all intOk && countOk x.canary
    && [x.low0, x.low1, x.top0, x.top1, x.topPh0, x.topPh1, x.topPh2, x.topPh3].all fun o => o.all intOk

/-- Whether a command's operands are well-formed. -/
def Instr.wf : Instr → Bool
  | .lowWordRead _ _ => true
  | .highWordRead _ _ => true
  | .lowWordWrite _ _ _ => true
  | .highWordWrite _ _ _ => true
  | .registerWrite _ _ _ _ => true
  | .vstbyLoss => true
  | .auxOkLow => true
  | .sysRstAssert => true
  | .heathResetRelease _ _ => true
  | .heathSelfTestDone _ _ => true
  | .flashImageRead _ _ _ => true
  | .nvmOverlayLoad => true
  | .vibPresenceHeld => true
  | .hedgerowEnumerate => true
  | .configBroadcast => true
  | .unitSelfTest _ _ _ _ _ => true
  | .powerReady => true
  | .tvddPorAssert _ => true
  | .tvddPorRelease _ => true
  | .mapOpen => true
  | .mapCommit _ => true
  | .mapDiscard => true
  | .lmapWrite _ _ => true
  | .logicalWindowAccess _ _ _ _ => true
  | .prstChange _ _ => true
  | .fenceChange _ _ => true
  | .hedgerowMessageReceive _ _ _ => true
  | .stopBypassClose _ => true
  | .alignmentMark w => timeOk w
  | .alignmentMarkReceive _ w => timeOk w
  | .meshRefLoss => true
  | .senseOpenDetect _ _ v => intOk v
  | .vibUnderVoltage _ vib => countOk vib
  | .vibRecover _ vib v0 v1 => countOk vib && intOk v0 && intOk v1
  | .vibOutOfRange _ vib => countOk vib
  | .vibSinkInhibit _ vib => countOk vib
  | .vibOverVoltage _ vib => countOk vib
  | .demandBegin _ _ v => intOk v
  | .demandEnd _ _ v => intOk v
  | .modulatorRequest _ _ vib => countOk vib
  | .pulseEnd u slot => slotOk u slot
  | .offTimeExpire u slot w => slotOk u slot && timeOk w
  | .phaseCurrentZero u slot => slotOk u slot
  | .fllWindowEnd _ => true
  | .syncEdge _ err => intOk err
  | .syncEdgeMissing _ => true
  | .syncLoss _ => true
  | .syncReturn _ => true
  | .refMoveComplete _ => true
  | .ownOscWrite _ _ => true
  | .shedEnter _ _ i8 => intOk i8
  | .shedExit _ _ i1 => intOk i1
  | .shedHoldExpire _ _ => true
  | .sinkEnter _ _ v => intOk v
  | .sinkExit _ _ v => intOk v
  | .railEnable _ _ => true
  | .railDisable _ _ => true
  | .onDelayExpire _ _ v => intOk v
  | .rampStep _ _ v => intOk v
  | .setpointWrite u sp _ v => setPointOk u sp && intOk v
  | .retentionSelect _ _ v => intOk v
  | .phctlWrite u slot _ => slotOk u slot
  | .intentRecord _ _ w i0 i1 => timeOk w && intOk i0 && intOk i1
  | .iportIsolationEnd _ w i0 i1 => timeOk w && intOk i0 && intOk i1
  | .intentLift _ w i0 i1 => timeOk w && intOk i0 && intOk i1
  | .intentStepObserved _ _ i40 => intOk i40
  | .intentExpire _ w => timeOk w
  | .preliftDecayStep _ _ => true
  | .gorseTrigger _ v fall => intOk v && intOk fall
  | .gorseBurstEnd _ => true
  | .gorseBurstEarlyEnd _ v e0 e1 => intOk v && countOk e0 && countOk e1
  | .gorseRearm _ before v => intOk before && intOk v
  | .nbrCountChange _ => true
  | .tieRequestReceive _ _ _ w => timeOk w
  | .tieSideClosed _ _ => true
  | .tieAckReceive _ _ _ => true
  | .tieRequestRelease _ _ => true
  | .tieHoldExpire _ _ => true
  | .tieGuardOpen _ _ v => intOk v
  | .tieGuardReclose _ _ v => intOk v
  | .tieAckTimeout _ _ => true
  | .stretchAssert _ v w => intOk v && timeOk w
  | .stretchRelease _ v w => intOk v && timeOk w
  | .patchOverloadClassify _ v => intOk v
  | .currentLimitHit u slot i => slotOk u slot && intOk i
  | .phaseFaultDetect u slot r => slotOk u slot && readingOk r
  | .suspensionEnd u slot => slotOk u slot
  | .railOvTrip _ _ v => intOk v
  | .tripRetryExpire _ _ v => intOk v
  | .railUnderVoltage _ _ v => intOk v
  | .tempSample _ t => intOk t.value
  | .tempSensorFail _ _ => true
  | .columnEstimate u slot i _ _ => slotOk u slot && intOk i
  | .columnEstimateDone u slot drop i _ => slotOk u slot && intOk drop && intOk i
  | .baselineCapture u slot => slotOk u slot
  | .retireWrite u slot => slotOk u slot
  | .unretireWrite u slot => slotOk u slot
  | .phaseTestStart u slot => slotOk u slot
  | .phaseTestDone u slot => slotOk u slot
  | .adoptionEnd _ v => intOk v
  | .adoptionOverCap _ w => timeOk w
  | .frameBoundary _ f => frameOk f
  | .downlinkFrameReceive _ _ => true
  | .downlinkApply _ f sample => frameOk f && sampleOk sample
  | .uplinkRecordReceive _ _ _ => true
  | .accessChannelEnqueue _ _ _ _ _ => true
  | .commitPoint _ => true
  | .settleTimeout _ => true
  | .raiseBlockExpire _ => true
  | .walkStepPass _ => true
  | .walkSettleFail _ => true
  | .fullRungTimeout _ => true
  | .slotExecute _ _ => true
  | .predictorExecute _ _ => true
  | .swardConfigWrite _ off _ => offsetOk off
  | .slotStateWrite _ _ _ _ => true
  | .slotIntClear _ _ => true
  | .predictorClear _ _ => true
  | .loadPeakClear _ => true
  | .katStart _ => true
  | .katDone _ _ => true
  | .ladderShadowWrite _ _ _ _ => true
  | .ladderCheckDone _ => true
  | .ladderCopyDone _ => true
  | .swap _ => true
  | .resync _ => true
  | .fwOpen _ => true
  | .full _ => true
  | .walkReq _ _ => true
  | .kaFail _ _ => true
  | .canaryStretchWindowEnd _ w => timeOk w
  | .paceModeWrite _ => true
  | .paceModeApply _ => true
  | .capRequestWrite _ => true
  | .derateTableWrite _ _ => true
  | .inletReadingTimeout => true
  | .leasePeriod w => timeOk w
  | .leaseReceive _ _ _ _ _ _ w => timeOk w
  | .leaseExpire _ w => timeOk w
  | .reductionResultReceive e _ _ w => epochOk e && timeOk w
  | .epochDeadline e w => epochOk e && timeOk w
  | .brakeReceive _ => true
  | .releaseReceive _ => true
  | .brakeHeldReport _ _ => true
  | .contextRestart _ _ => true
  | .swathEntryTimeout _ => true
  | .swathDataAccess _ _ => true
  | .lnkStatTake p _ w => edgeOk p && timeOk w
  | .trainWindowEnd p => edgeOk p
  | .commonsEnable _ => true
  | .commonsReportSend => true
  | .barrierWaitWrite _ => true
  | .commonsFrameReceive bytes w => blockOk bytes && timeOk w
  | .memberLivenessExpire _ w => timeOk w
  | .grantStep w => timeOk w
  | .grantReceive _ _ _ _ _ w => timeOk w
  | .grantExpire w => timeOk w
  | .domctlWrite _ _ => true
  | .coreHoldClear _ => true
  | .switchOnRequest _ => true
  | .switchOnGrant w => timeOk w
  | .seqTableWrite _ _ => true
  | .waferRst => true
  | .heathRst => true
  | .swdRst _ => true
  | .waferResetMessage _ => true
  | .swardHeartbeatTimeout _ => true
  | .urst _ _ => true
  | .unitClearEnd _ => true
  | .releaseWrite _ => true
  | .swardWatchdog _ => true
  | .swardResetEnd _ => true
  | .hedgerowRetry _ _ addr w => addressOk addr && timeOk w
  | .hedgerowAbandon _ _ addr w => addressOk addr && timeOk w
  | .returnEpochCheck _ _ _ => true
  | .heartbeatSend w => timeOk w
  | .heathTakeover w => timeOk w
  | .heartbeatReceive _ => true
  | .mirrorRecordReceive _ => true
  | .standbyLost => true
  | .mirrorCopyDone => true
  | .mainsSyncEdge _ w => timeOk w
  | .mainsSyncLost w => timeOk w
  | .freeRunStartEvent w => timeOk w
  | .conversionResult _ v => intOk v
  | .meterRoundTimeout => true
  | .meterRunWrite _ w => timeOk w
  | .meterRestart => true
  | .meterUrgentRequest _ _ => true
  | .meterDataRead _ => true
  | .zero _ _ => true
  | .fs _ _ => true
  | .meterCalComplete => true
  | .telemetryWindowLatch _ f => frameOk f
  | .telemetryWindowWrite _ _ => true
  | .markStale _ => true
  | .peakRead _ _ _ => true
  | .aggregateWindowLatch _ f => frameOk f
  | .snap _ => true
  | .clr _ _ _ => true
  | .counterOverflow _ _ n => countOk n
  | .overflowSnapshot _ _ _ => true
  | .apertureRead _ _ _ _ _ => true
  | .faultReportReceive _ _ _ _ _ _ _ _ _ w => timeOk w
  | .partitionTripReceive _ => true
  | .flTripEdge _ w => timeOk w
  | .wtripReceive _ => true
  | .faultReportAck _ _ => true
  | .faultReportResend _ _ => true
  | .ack _ => true
  | .all => true
  | .graceTimerExpire _ w => timeOk w
  | .fecClear => true
  | .faultRecordWrite => true
  | .ringRpWrite _ => true
  | .lastFaultClear => true
  | .faultInject _ _ _ => true
  | .page _ _ => true
  | .clearFaults _ => true
  | .capability _ => true
  | .statusByte _ => true
  | .statusWord _ => true
  | .statusInput _ => true
  | .statusTemperature _ => true
  | .statusCml _ => true
  | .statusMfrSpecific _ => true
  | .readVin _ => true
  | .readIin _ => true
  | .readPin _ => true
  | .readTemperature1 _ => true
  | .readTemperature2 _ => true
  | .readTemperature3 _ => true
  | .pmbusRevision _ => true
  | .mfrId _ => true
  | .mfrModel _ => true
  | .mfrRevision _ => true
  | .mfrWaferCap _ _ => true
  | .mfrCapEff _ => true
  | .mfrRegWrite bytes _ => blockOk bytes
  | .mfrRegRead bytes => blockOk bytes
  | .smbusInvalidCommand _ => true
  | .alertResponse _ => true
  | .smbusAbandon _ => true
  | .smbusStretchTimeout _ => true
  | .spiReleaseWrite _ => true
  | .store _ => true
  | .nvmPageWriteDone _ _ _ => true
  | .nvmStandbyLag _ => true
  | .heathDieOverTemp _ t => intOk t
  | .heathHalt _ => true
  | .meshRefReturn => true
  | .selfTestReportTimeout => true
  | .flTripRelease => true
  | .meshPacketSent _ => true
  | .lnkStatChange p _ _ w => edgeOk p && timeOk w

end Sys2Proof
end

