-- ==== Sys2Proof/Tests/Slice0.lean ====
section
/-! SUPPORT.  Tests: each check of well-formedness refuses an ill-formed command, the
spec's worked examples and the test vectors of the standards it names come out, and the
hypotheses of every statement are met by a small state. -/

namespace Sys2Proof.Machine

set_option maxRecDepth 100000
set_option Elab.async false

/-! ### Well-formedness -/

theorem test_wf_time : Instr.wf (.alignmentMark (2 ^ 64)) = false ∧ Instr.wf (.alignmentMark (2 ^ 64 - 1)) = true := by
  decide +kernel

theorem test_wf_frame : Instr.wf (.frameBoundary 3 (2 ^ 64)) = false ∧ Instr.wf (.frameBoundary 3 5) = true := by
  decide +kernel

theorem test_wf_epoch : Instr.wf (.reductionResultReceive (2 ^ 60) 0 0 5) = false ∧ Instr.wf (.reductionResultReceive 5 0 0 5) = true := by
  decide +kernel

theorem test_wf_offset : Instr.wf (.swardConfigWrite 3 0x42 0) = false ∧ Instr.wf (.swardConfigWrite 3 0x40 0) = true := by
  decide +kernel

theorem test_wf_count : Instr.wf (.adoptionOverCap 3 (2 ^ 64)) = false ∧ Instr.wf (.adoptionOverCap 3 5) = true := by
  decide +kernel

theorem test_wf_int : Instr.wf (.tempSample (.tussock 3) ⟨2 ^ 31, true⟩) = false ∧ Instr.wf (.tempSample (.tussock 3) ⟨60000, true⟩) = true := by
  decide +kernel

theorem test_wf_block : Instr.wf (.commonsFrameReceive (List.replicate 256 0) 5) = false ∧ Instr.wf (.commonsFrameReceive [] 5) = true := by
  decide +kernel

theorem test_wf_slot : Instr.wf (.pulseEnd (.tussock 3) 3) = false ∧ Instr.wf (.pulseEnd (.verge 3) 3) = true := by
  decide +kernel

theorem test_wf_edge : Instr.wf (.trainWindowEnd 9) = false ∧ Instr.wf (.trainWindowEnd 7) = true := by
  decide +kernel

theorem test_wf_setPoint : Instr.wf (.setpointWrite (.verge 3) .vret 0 0) = false ∧ Instr.wf (.setpointWrite (.tussock 3) .vret 0 0) = true := by
  decide +kernel

abbrev sample0 : Sample :=
  { v0 := 700000, i0 := 1234, v1 := 400000, i1 := 0, ph0 := 0, ph1 := 0, ph2 := 0, ph3 := 0, tie0 := 0, tie1 := 0, tie2 := 0,
    tie3 := 0, low0 := none, low1 := none, top0 := none, top1 := none, topPh0 := none, topPh1 := none, topPh2 := none,
    topPh3 := none, canary := 0 }

theorem test_wf_sample : Instr.wf (.downlinkApply (.tussock 3) 5 { sample0 with i1 := 2 ^ 31 }) = false ∧ Instr.wf (.downlinkApply (.tussock 3) 5 sample0) = true := by
  decide +kernel

/-! ### Worked examples of the spec and vectors of the standards -/

/-- T1216 on a field corner (chapter 01). -/
theorem test_neighbours : (List.range 4).map (fun n => neighbour 1216 n) = [some 760, some 1217, some 1224, some 1159] := by
  decide +kernel

/-- Register blocks of T1159 and T1216 (chapter 01). -/
theorem test_blocks : tus 1159 = 0x02247000 ∧ tus 1216 = 0x02340000 := by
  decide +kernel

/-- Unit references of Table 1.3. -/
theorem test_references : phaseRef (.tussock 1216) 1 = 0x04C00005 ∧ phaseRef (.verge 59) 2 = 0x403B0006 ∧ (UnitId.verge 59).part = 7 := by
  decide +kernel

/-- The derated cap at 38.400 °C (chapter 08). -/
theorem test_derating : derateAt 38400 [(30, 3000), (35, 2950), (40, 2850)] = 2882 := by
  decide +kernel

/-- The readings of feed 3 (chapter 13). -/
theorem test_linear11 : linear11 29941000 1000 = 0x2BA8 ∧ linear11 52999692 1000000 = 0xE350 ∧ linear11 36000 1000 = 0xE240 ∧
    linear11 1907989 1000 = 0x0BBA := by
  decide +kernel

/-- The check value of CRC-32 over the digits 1 to 9. -/
theorem test_crc32 : crc32 [49, 50, 51, 52, 53, 54, 55, 56, 57] = 0xCBF43926 := by
  decide +kernel

/-- FIPS 180-4's example of SHA-256 over "abc". -/
theorem test_sha256 : sha256 [0x61, 0x62, 0x63] = [0xba7816bf, 0x8f01cfea, 0x414140de, 0x5dae2223, 0xb00361a3, 0x96177a9c, 0xb410ff61, 0xf20015ad] := by
  decide +kernel

abbrev tu : UnitId := .tussock 73

/-- The reset wafer, or another one, with fields of the block at a base set. -/
def onB (b : Nat) (l : List (Fld × Nat)) (m : Wafer := Wafer.reset) : Wafer := l.foldl (fun m e => m.set b e.1 e.2) m

def onU (l : List (Fld × Nat)) (m : Wafer := Wafer.reset) : Wafer := onB tu.base l m

def onS (l : List (Fld × Nat)) (m : Wafer := Wafer.reset) : Wafer := onB (swd 1) l m

def onH (l : List (Fld × Nat)) (m : Wafer := Wafer.reset) : Wafer := onB 0 l m

/-- On-time of the typical point: VIB 4.000 V, VSET 0.720 V, K_TON 1.0 (chapter 03). -/
theorem test_onTime : onTime tu 0 0 (onU [(TSK_KTON.K_TON 0, 0x8000), (TSK_VIB.VIB, 4000000), (TSK_VNOW.VNOW 0, 720000)]) = 184 := by
  decide +kernel

/-- The last message after a step. -/
def lastOut (r : Host.Outcome State Fault Refusal) : Option Out :=
  match r with
  | .next t => t.w.out.head?
  | _ => none

/-- Reading the cap in force back through the block bridge (chapter 13). -/
theorem test_bridgeRead : lastOut (step ⟨onH [(HTH_CAPEFF.CAP_EFF, 24500), (HTH_CAPEFF.LIMIT_BY, 1)]
    (Wafer.reset.modHeath fun h => { h with active := true }), [.mfrRegRead [0x04, 0x00, 0x01, 0x00]]⟩) =
    some ⟨.smbus, 64, [5, 0xB4, 0x5F, 0x10, 0x00, 0]⟩ := by
  decide +kernel

/-- The identity word of an active H_B on a WS-24 wafer (chapter 00). -/
theorem test_identity : (heathRead (.window true) 0 { Wafer.reset.modHeath (fun h => { h with activeId := 1 }) with fuse := 2 }).1 = 0xD510267B := by
  decide +kernel

/-! ### Hypotheses met -/

theorem test_witness_CanonicalFormKept : Wafer.reset.Canonical ∧ step ⟨Wafer.reset, []⟩ = .next ⟨Wafer.reset, []⟩ := by
  exact ⟨⟨⟨List.Pairwise.nil, by simp [Wafer.reset]⟩, ⟨List.Pairwise.nil, by simp [Wafer.reset]⟩, ⟨List.Pairwise.nil, by simp [Wafer.reset]⟩⟩, rfl⟩

theorem test_witness_TimeNeverStepsBack : ∃ t, step ⟨{ Wafer.reset.modHeath (fun h => { h with vstbyLost := true }) with wtime := 9 }, [.heathResetRelease 0 false]⟩ = .next t ∧ t.w.wtime = 0 := by
  exact ⟨_, rfl, by decide +kernel⟩

theorem test_witness_VariantNeverChanges : ∃ t, step ⟨Wafer.reset, [.meshRefLoss]⟩ = .next t ∧ t.w.fuse = 1 := by
  exact ⟨_, rfl, by decide +kernel⟩

theorem test_witness_Linear11Reading : (0 : Int) < 1 ∧ (7 : Int) ≠ 0 ∧ -1024 * 2 ^ 15 * 1 ≤ (7 : Int) ∧ (7 : Int) ≤ 1023 * 2 ^ 15 * 1 := by
  decide

theorem test_witness_SmbusReads_each :
  (let m : Wafer := Wafer.reset.modHeath fun h => { h with active := true }; m.heath.active = true ∧ m.on 0 HTH_BUSTAT.HALT = false) ∧
  (onH [(HTH_BUSTAT.HALT, 1)]).on 0 HTH_BUSTAT.HALT = true ∧
  (Wafer.reset.heath.active = false ∧ Wafer.reset.on 0 HTH_BUSTAT.HALT = false) := by
  decide +kernel

theorem test_witness_HeathPair_mirror :
  (let m : Wafer := onH [(HTH_HBSTAT.STBY_OK, 1)] (Wafer.reset.modHeath fun h => { h with active := true })
   let n : Wafer := m.set 0 HTH_CAPREQ.PMB_CAP 6000
   mirrors n = true ∧ mirrors m = true ∧ mirrored n ≠ mirrored m ∧ mirrors Wafer.reset = false) := by
  decide +kernel

theorem test_witness_EventCounters :
  (let k : Fin 128 := 67;
    (k < 68)) ∧
  (let m : Wafer := onS [(SWD_CNT_LO.CNT_LO 3, 0xFFFFFFFF), (SWD_CNT_HI.CNT_HI 3, 0xFFFF)];
    let p : Fin 64 := 1;
    let k : Fin 96 := 3;
    let c : Nat := 1;
    (counterTakes p k (hwEvent p) m = true) ∧ (0 < c) ∧ (2 ^ 48 ≤ counterValue p k m + c) ∧ (k.val ≠ 69)) ∧
  (let m : Wafer := onS [(SWD_CNT_LO.CNT_LO 69, 0xFFFFFFFF), (SWD_CNT_HI.CNT_HI 69, 0xFFFF)];
    let p : Fin 64 := 1;
    let c : Nat := 2;
    (counterTakes p 69 (hwEvent p) m = true) ∧ (0 < c) ∧ (2 ^ 48 ≤ counterValue p 69 m + c) ∧ (wrapCounter (counterPreload p 69 m) (counterValue p 69 m + c) + 1 < 2 ^ 48)) ∧
  (let m : Wafer := (onS [(SWD_CSAMP.VALID, 1), (SWD_CNT_LO.CNT_LO 3, 0xFFFFFFFF)]).modSward 1 fun x => { x with ovfSnap := true };
    let p : Fin 64 := 1;
    ((m.sward p).ovfSnap = true)) := by
  decide +kernel

theorem test_witness_SenseAndVib_1 :
  (let m : Wafer := onU [(TSK_RSTAT.STATE 0, 3)];
    let u : UnitId := tu;
    let q : Fin 2 := 0;
    let v : Int := 1450001;
    (1450000 < v) ∧ (railState u q m ≠ rOFF) ∧ (railState u q m ≠ rSENSE_OPEN)) ∧
  (let m : Wafer := onU [(TSK_RSTAT.STATE 1, 3)];
    let u : UnitId := tu;
    let q : Fin 2 := 1;
    let v : Int := 99999;
    (v < 100000) ∧ (regulating u q m = true) ∧ (¬ (railState u q m = rRAMP_UP ∧ ((m.unit u).rail q).rampFrom < 100000))) ∧
  (let m : Wafer := (onU [(TSK_RSTAT.STATE 0, 2)]).modRail tu 0 fun r => { r with rampFrom := 100000 };
    let u : UnitId := tu;
    let q : Fin 2 := 0;
    let v : Int := 99999;
    (v < 100000) ∧ (regulating u q m = true) ∧ (¬ (railState u q m = rRAMP_UP ∧ ((m.unit u).rail q).rampFrom < 100000))) ∧
  (let vib : Nat := 659;
    (5000 * vib < 3300000)) ∧
  (let m : Wafer := (onU [(TSK_RSTAT.STATE 0, 5)]).modRail tu 0 fun r => { r with stopUv := true };
    let u : UnitId := tu;
    let q : Fin 2 := 0;
    let vib : Nat := 681;
    (railState u q m = rSTOPPED) ∧ (((m.unit u).rail q).stopUv = true) ∧ (3400000 < 5000 * vib)) ∧
  (let m : Wafer := onU [(TSK_RSTAT.STATE 1, 5)];
    let u : UnitId := tu;
    let q : Fin 2 := 1;
    let vib : Nat := 919;
    (railState u q m = rSTOPPED) ∧ (((m.unit u).rail q).stopUv = false) ∧ (5000 * vib < 4600000)) := by
  decide +kernel

theorem test_witness_SenseAndVib_2 :
  (let vib : Nat := 920;
    ((660 ≤ vib ∧ vib ≤ 720) ∨ (880 ≤ vib ∧ vib ≤ 920))) ∧
  (let vib : Nat := 660;
    ((660 ≤ vib ∧ vib ≤ 720) ∨ (880 ≤ vib ∧ vib ≤ 920))) ∧
  (let vib : Nat := 921;
    (920 < vib) ∧ (vib < 4096)) ∧
  (let vib : Nat := 961;
    (960 < vib)) := by
  decide +kernel

theorem test_witness_Modulator_1 :
  (let m : Wafer := onU [(TSK_RSTAT.STATE 0, 3), (TSK_VNOW.VNOW 0, 750000), (TSK_HYST.H 0, 4)];
    let u : UnitId := tu;
    let q : Fin 2 := 0;
    let v : Int := 748999;
    (regulating u q m = true) ∧ (v < vSet u q m - halfBand u q m)) ∧
  (let m : Wafer := onU [(TSK_RSTAT.STATE 0, 3), (TSK_VNOW.VNOW 0, 750000), (TSK_HYST.H 0, 4)];
    let u : UnitId := tu;
    let q : Fin 2 := 0;
    let v : Int := 751001;
    (vSet u q m + halfBand u q m < v)) ∧
  (let m : Wafer := ((onU [(TSK_RSTAT.STATE 0, 3), (TSK_CTL.EN0, 1), (TSK_VNOW.VNOW 0, 750000)]).modRail tu 0 fun r => { r with demanding := true });
    let u : UnitId := tu;
    let q : Fin 2 := 0;
    let s : Nat := 0;
    let vib : Nat := 800;
    (mayRequest u q m = true) ∧ (nextPhase u q m = some s) ∧ (m.get u.base (TSK_PHCTL.TON_MIN s) ≤ onTime u q s (senseVib u vib m))) ∧
  (let m : Wafer := ((onU [(TSK_RSTAT.STATE 0, 3), (TSK_CTL.EN0, 0)]).modRail tu 0 fun r => { r with demanding := true });
    let u : UnitId := tu;
    let q : Fin 2 := 0;
    (mayRequest u q m = true) ∧ (nextPhase u q m = none)) ∧
  (let m : Wafer := ((onU [(TSK_RSTAT.STATE 0, 3), (TSK_CTL.EN0, 1), (TSK_VNOW.VNOW 0, 7500)]).modRail tu 0 fun r => { r with demanding := true });
    let u : UnitId := tu;
    let q : Fin 2 := 0;
    let s : Nat := 0;
    let vib : Nat := 800;
    (mayRequest u q m = true) ∧ (nextPhase u q m = some s) ∧ (((m.unit u).rail q).carry + onTime u q s (senseVib u vib m) < m.get u.base (TSK_PHCTL.TON_MIN s))) ∧
  (let m : Wafer := ((onU [(TSK_RSTAT.STATE 0, 3), (TSK_CTL.EN0, 1), (TSK_VNOW.VNOW 0, 7500)]).modRail tu 0 fun r => { r with demanding := true, carry := 300 });
    let u : UnitId := tu;
    let q : Fin 2 := 0;
    let s : Nat := 0;
    let vib : Nat := 800;
    (mayRequest u q m = true) ∧ (nextPhase u q m = some s) ∧ (onTime u q s (senseVib u vib m) < m.get u.base (TSK_PHCTL.TON_MIN s)) ∧ (m.get u.base (TSK_PHCTL.TON_MIN s) ≤ ((m.unit u).rail q).carry + onTime u q s (senseVib u vib m))) := by
  decide +kernel

theorem test_witness_Modulator_2 :
  (let m : Wafer := Wafer.reset.modPhase tu 1 fun x => { x with pulse := .tie };
    let u : UnitId := tu;
    let slot : Fin 4 := 1;
    (((m.unit u).phase slot).pulse ≠ .none)) ∧
  (let m : Wafer := Wafer.reset.modPhase tu 1 fun x => { x with offWait := true };
    let u : UnitId := tu;
    let slot : Fin 4 := 1;
    (((m.unit u).phase slot).offWait = true)) ∧
  (let m : Wafer := Wafer.reset.modPhase tu 1 fun x => { x with bridge := .low };
    let u : UnitId := tu;
    let slot : Fin 4 := 1;
    (((m.unit u).phase slot).bridge = .low) ∧ (m.get u.base (TSK_RSTAT.SINK (slotRail slot)) = 0) ∧ (((m.unit u).phase slot).returning = false)) ∧
  (let m : Wafer := Wafer.reset.modPhase tu 1 fun x => { x with bridge := .high, returning := true };
    let u : UnitId := tu;
    let slot : Fin 4 := 1;
    (((m.unit u).phase slot).returning = true)) ∧
  (let m : Wafer := (onU [(TSK_CTL.EN0, 1)]).modPhase tu 0 fun x => { x with winServed := true, winPulses := 66 };
    let u : UnitId := tu;
    let q : Fin 2 := 0;
    (m.on u.base TSK_CTL.FLL_HOLD = false) ∧ (((m.unit u).rail q).fllHold = false) ∧ (((railSlots u.isVerge q).filter fun s => ((m.unit u).phase s).winServed && inService u s m) ≠ [])) ∧
  (let m : Wafer := onU [(TSK_CTL.FLL_HOLD, 1)];
    let u : UnitId := tu;
    (m.on u.base TSK_CTL.FLL_HOLD = true)) := by
  decide +kernel

theorem test_witness_SyncReference_1 :
  (let err : Int := 2400;
    (-2400 ≤ err) ∧ (err ≤ 2400)) ∧
  (let err : Int := -2400;
    (-2400 ≤ err) ∧ (err ≤ 2400)) ∧
  (let err : Int := 2401;
    (err < -2400 ∨ 2400 < err)) ∧
  (let m : Wafer := Wafer.reset.modUnit tu fun x => { x with missRun := 3 };
    let u : UnitId := tu;
    ((m.unit u).missRun = 3) ∧ (onOwnOsc u m = false)) ∧
  (let m : Wafer := onU [(TSK_SYNC.SRC, 1)];
    let u : UnitId := tu;
    (onOwnOsc u m = true)) ∧
  (let m : Wafer := onU [(TSK_SYNC.SRC, 1), (TSK_SYNC.GOOD_CNT, 64)];
    let u : UnitId := tu;
    (onOwnOsc u m = true) ∧ (m.get u.base TSK_SYNC.GOOD_CNT = 64) ∧ (m.get u.base TSK_CTL.OWN_OSC = 0)) := by
  decide +kernel

theorem test_witness_SyncReference_2 :
  (let m : Wafer := onU [(TSK_SYNC.SRC, 3)];
    let u : UnitId := tu;
    (m.get u.base TSK_SYNC.SRC = 2 ∨ m.get u.base TSK_SYNC.SRC = 3)) := by
  decide +kernel

theorem test_witness_LightLoadAndSink_1 :
  (let m : Wafer := onU [(TSK_RSTAT.STATE 0, 3), (TSK_CTL.EN0, 1), (TSK_SHED.SHED_I 0, 40)];
    let u : UnitId := tu;
    let q : Fin 2 := 0;
    let s1 : Nat := 0;
    let s2 : Nat := 1;
    let i8 : Int := 1999;
    (railSlots u.isVerge q = [s1, s2]) ∧ (i8 < 50 * (m.get u.base (TSK_SHED.SHED_I q) : Int)) ∧ (m.get u.base (TSK_SHED.SHED_I q) ≠ 0) ∧ (m.get u.base (TSK_RSTAT.SHED q) = 0) ∧ (((m.unit u).rail q).shedHold = false) ∧ (regulating u q m = true) ∧ (¬ (inService u s2 m = true ∧ inService u s1 m = false))) ∧
  (let m : Wafer := onU [(TSK_RSTAT.STATE 0, 3), (TSK_CTL.EN0, 1), (TSK_SHED.SHED_I 0, 40), (TSK_PHSTAT.RETIRED 0, 1)];
    let u : UnitId := tu;
    let q : Fin 2 := 0;
    let s1 : Nat := 0;
    let s2 : Nat := 1;
    let i8 : Int := 1999;
    (railSlots u.isVerge q = [s1, s2]) ∧ (i8 < 50 * (m.get u.base (TSK_SHED.SHED_I q) : Int)) ∧ (m.get u.base (TSK_SHED.SHED_I q) ≠ 0) ∧ (m.get u.base (TSK_RSTAT.SHED q) = 0) ∧ (((m.unit u).rail q).shedHold = false) ∧ (regulating u q m = true) ∧ (inService u s2 m = true) ∧ (inService u s1 m = false)) ∧
  (let m : Wafer := Wafer.reset.modRail tu 0 fun r => { r with shedHold := true };
    let u : UnitId := tu;
    let q : Fin 2 := 0;
    (((m.unit u).rail q).shedHold = true)) ∧
  (let m : Wafer := onU [(TSK_RSTAT.SHED 0, 1), (TSK_SHED.SHED_I 0, 40)];
    let u : UnitId := tu;
    let q : Fin 2 := 0;
    let i1 : Int := 2501;
    (6250 * (m.get u.base (TSK_SHED.SHED_I q) : Int) < 100 * i1) ∧ (m.on u.base (TSK_RSTAT.SHED q) = true)) ∧
  (let m : Wafer := onU [(TSK_RSTAT.STATE 0, 3), (TSK_VNOW.VNOW 0, 750000), (TSK_OVS.SINK_LIM 0, 3), (TSK_OVS.OV_SOFT 0, 30), (TSK_HYST.H 0, 4)];
    let u : UnitId := tu;
    let q : Fin 2 := 0;
    let v : Int := 780001;
    (regulating u q m = true) ∧ (m.get u.base (TSK_OVS.SINK_LIM q) ≠ 0) ∧ (m.get u.base TSK_STAT.SINK_INH = 0) ∧ ((if railState u q m = rRAMP_DOWN then vSet u q m + halfBand u q m else vSet u q m + ovSoftEff u q m) < v)) ∧
  (let m : Wafer := onU [(TSK_RSTAT.STATE 0, 4), (TSK_VNOW.VNOW 0, 750000), (TSK_OVS.SINK_LIM 0, 3), (TSK_OVS.OV_SOFT 0, 30), (TSK_HYST.H 0, 4)];
    let u : UnitId := tu;
    let q : Fin 2 := 0;
    let v : Int := 751001;
    (regulating u q m = true) ∧ (m.get u.base (TSK_OVS.SINK_LIM q) ≠ 0) ∧ (m.get u.base TSK_STAT.SINK_INH = 0) ∧ ((if railState u q m = rRAMP_DOWN then vSet u q m + halfBand u q m else vSet u q m + ovSoftEff u q m) < v)) := by
  decide +kernel

theorem test_witness_LightLoadAndSink_2 :
  (let m : Wafer := onU [(TSK_RSTAT.STATE 0, 3), (TSK_VNOW.VNOW 0, 750000), (TSK_STAT.SINK_INH, 1), (TSK_OVS.SINK_LIM 0, 3), (TSK_OVS.OV_SOFT 0, 30), (TSK_HYST.H 0, 4)];
    let u : UnitId := tu;
    let q : Fin 2 := 0;
    let v : Int := 780001;
    (regulating u q m = true) ∧ (m.get u.base (TSK_OVS.SINK_LIM q) = 0 ∨ m.get u.base TSK_STAT.SINK_INH ≠ 0) ∧ ((if railState u q m = rRAMP_DOWN then vSet u q m + halfBand u q m else vSet u q m + ovSoftEff u q m) < v)) ∧
  (let m : Wafer := onU [(TSK_RSTAT.STATE 0, 3), (TSK_VNOW.VNOW 0, 750000), (TSK_HYST.H 0, 4), (TSK_RSTAT.SINK 0, 1)];
    let u : UnitId := tu;
    let q : Fin 2 := 0;
    let v : Int := 750999;
    (v < vSet u q m + halfBand u q m)) := by
  decide +kernel

theorem test_witness_RailStartStop_1 :
  (let m : Wafer := (onU [(TSK_CTL.EN0, 0)]).modUnit tu fun x => { x with rst := .run };
    let u : UnitId := tu;
    let q : Fin 2 := 0;
    (railEnabled u q m = false) ∧ (m.on u.base TSK_HSTAT.OT_SD_LATCH = false) ∧ ((m.unit u).rst = .run) ∧ (railState u q m = rOFF)) ∧
  (let m : Wafer := (onU [(TSK_RSTAT.STATE 0, 4)]).modUnit tu fun x => { x with rst := .run };
    let u : UnitId := tu;
    let q : Fin 2 := 0;
    (railEnabled u q m = false) ∧ (m.on u.base TSK_HSTAT.OT_SD_LATCH = false) ∧ ((m.unit u).rst = .run) ∧ (railState u q m = rRAMP_DOWN)) ∧
  (let m : Wafer := (onU [(TSK_RSTAT.STATE 0, 5)]).modUnit tu fun x => { x with rst := .run };
    let u : UnitId := tu;
    let q : Fin 2 := 0;
    (railEnabled u q m = false) ∧ (m.on u.base TSK_HSTAT.OT_SD_LATCH = false) ∧ ((m.unit u).rst ≠ .run ∨ (railState u q m ≠ rOFF ∧ railState u q m ≠ rRAMP_DOWN))) ∧
  (let m : Wafer := Wafer.reset.modUnit tu fun x => { x with rst := .restore };
    let u : UnitId := tu;
    let q : Fin 2 := 1;
    (railEnabled u q m = false) ∧ (m.on u.base TSK_HSTAT.OT_SD_LATCH = false) ∧ ((m.unit u).rst ≠ .run ∨ (railState u q m ≠ rOFF ∧ railState u q m ≠ rRAMP_DOWN))) ∧
  (let m : Wafer := onU [(TSK_CTL.EN0, 0), (TSK_HSTAT.OT_SD_LATCH, 1)];
    let u : UnitId := tu;
    let q : Fin 2 := 0;
    (railEnabled u q m = false) ∧ (m.on u.base TSK_HSTAT.OT_SD_LATCH = true)) ∧
  (let m : Wafer := onU [(TSK_RSTAT.STATE 1, 3), (TSK_CTL.EN1, 1)];
    let u : UnitId := tu;
    let q : Fin 2 := 1;
    (railState u q m = rRAMP_UP ∨ railState u q m = rREG)) := by
  decide +kernel

theorem test_witness_RailStartStop_2 :
  (let m : Wafer := onU [(TSK_RSTAT.STATE 0, 7), (TSK_CTL.EN0, 1)];
    let u : UnitId := tu;
    let q : Fin 2 := 0;
    (railState u q m = rDELAY ∨ railState u q m = rSTOPPED ∨ railState u q m = rSENSE_OPEN ∨ railState u q m = rTRIPPED)) ∧
  (let m : Wafer := onU [(TSK_RSTAT.STATE 0, 4), (TSK_CTL.EN0, 1)];
    let u : UnitId := tu;
    let q : Fin 2 := 0;
    (railState u q m = rOFF ∨ railState u q m = rRAMP_DOWN)) ∧
  (let m : Wafer := onU [(TSK_RSTAT.STATE 0, 1)];
    let u : UnitId := tu;
    let q : Fin 2 := 0;
    (railState u q m = rDELAY)) ∧
  (let m : Wafer := (onU [(TSK_RSTAT.STATE 0, 2)]).modRail tu 0 fun r => { r with ramping := true, rampTo := 4 };
    let u : UnitId := tu;
    let q : Fin 2 := 0;
    (((m.unit u).rail q).ramping = true) ∧ (railState u q m = rRAMP_UP ∨ railState u q m = rREG ∨ railState u q m = rRAMP_DOWN)) ∧
  (let u : UnitId := tu;
    let slot : Fin 4 := 2;
    (slotAbsent u slot = false)) ∧
  (let u : UnitId := tu;
    let slot : Fin 4 := 3;
    (slotAbsent u slot = true)) := by
  decide +kernel

theorem test_witness_Intents_1 :
  (let m : Wafer := Wafer.reset;
    let g : Fin 4096 := 73;
    (iportIsolated (.tussock g) m = true)) ∧
  (let m : Wafer := Wafer.reset.modUnit tu fun x => { x with pgCore := true, rst := .run };
    let g : Fin 4096 := 73;
    let d : Word := 0x40000000;
    (iportIsolated (.tussock g) m = false) ∧ (3 < getBits d 28 4 ∨ (getBits d 28 4 < 2 ∧ 1 < getBits d 10 2) ∨ (getBits d 28 4 = 3 ∧ 8 < getBits d 12 8))) ∧
  (let m : Wafer := Wafer.reset.modUnit tu fun x => { x with pgCore := true, rst := .run };
    let g : Fin 4096 := 73;
    let d : Word := 0x10000800;
    (iportIsolated (.tussock g) m = false) ∧ (3 < getBits d 28 4 ∨ (getBits d 28 4 < 2 ∧ 1 < getBits d 10 2) ∨ (getBits d 28 4 = 3 ∧ 8 < getBits d 12 8))) ∧
  (let m : Wafer := Wafer.reset.modUnit tu fun x => { x with pgCore := true, rst := .run };
    let g : Fin 4096 := 73;
    let d : Word := 0x30009000;
    (iportIsolated (.tussock g) m = false) ∧ (3 < getBits d 28 4 ∨ (getBits d 28 4 < 2 ∧ 1 < getBits d 10 2) ∨ (getBits d 28 4 = 3 ∧ 8 < getBits d 12 8))) ∧
  (let m : Wafer := Wafer.reset.modUnit tu fun x => { x with pgCore := true, rst := .run };
    let g : Fin 4096 := 73;
    let d : Word := 0x00000400;
    (iportIsolated (.tussock g) m = false) ∧ (getBits d 28 4 ≤ 3) ∧ (getBits d 28 4 < 2 → getBits d 10 2 < 2) ∧ (getBits d 12 8 = 0)) ∧
  (let m : Wafer := Wafer.reset.modUnit tu fun x => { x with pgCore := true, rst := .run };
    let g : Fin 4096 := 73;
    let d : Word := 0x20001000;
    (iportIsolated (.tussock g) m = false) ∧ (getBits d 28 4 = 2) ∧ (getBits d 12 8 ≠ 0)) := by
  decide +kernel

theorem test_witness_Intents_2 :
  (let m : Wafer := Wafer.reset.modUnit tu fun x => { x with pgCore := true, rst := .run };
    let g : Fin 4096 := 73;
    let d : Word := 0x30008000;
    (iportIsolated (.tussock g) m = false) ∧ (getBits d 28 4 = 3) ∧ (0 < getBits d 12 8) ∧ (getBits d 12 8 ≤ 8)) ∧
  (let m : Wafer := (onU [(TSK_RSTAT.STATE 0, 2)]).modUnit tu fun x => { x with pgCore := true, rst := .run };
    let g : Fin 4096 := 73;
    let d : Word := 0x00101007;
    (iportIsolated (.tussock g) m = false) ∧ (getBits d 28 4 < 2) ∧ (getBits d 10 2 < 2) ∧ (getBits d 12 8 ≠ 0) ∧ (railState (.tussock g) (getBits d 10 2) m ≠ rREG)) ∧
  (let m : Wafer := (onU [(TSK_RSTAT.STATE 0, 3)]).modUnit tu fun x => { x with pgCore := true, rst := .run };
    let g : Fin 4096 := 73;
    let d : Word := 0x00101007;
    (iportIsolated (.tussock g) m = false) ∧ (getBits d 28 4 < 2) ∧ (getBits d 10 2 < 2) ∧ (getBits d 12 8 ≠ 0) ∧ (railState (.tussock g) (getBits d 10 2) m = rREG) ∧ ((m.unit (.tussock g)).intents.length < 8)) ∧
  (let m : Wafer := (onU [(TSK_RSTAT.STATE 0, 3)]).modUnit tu fun x => { x with pgCore := true, rst := .run, intents := List.replicate 8 ⟨true, 0, 1, 0, 0, 0, false, 0⟩ };
    let g : Fin 4096 := 73;
    let d : Word := 0x00101007;
    (iportIsolated (.tussock g) m = false) ∧ (getBits d 28 4 < 2) ∧ (getBits d 10 2 < 2) ∧ (getBits d 12 8 ≠ 0) ∧ (railState (.tussock g) (getBits d 10 2) m = rREG) ∧ (8 ≤ (m.unit (.tussock g)).intents.length)) ∧
  (let m : Wafer := Wafer.reset.modUnit tu fun x => { x with pgCore := true, rst := .run, iportVld := true, iportD := 0x20001000 };
    let g : Fin 4096 := 73;
    (iportIsolated (.tussock g) m = false) ∧ ((m.unit (.tussock g)).iportVld ≠ (m.unit (.tussock g)).iportTkn) ∧ (getBits (m.unit (.tussock g)).iportD 28 4 = 2) ∧ (getBits (m.unit (.tussock g)).iportD 12 8 ≠ 0)) ∧
  (let m : Wafer := Wafer.reset.modUnit tu fun x => { x with pgCore := true, rst := .run, iportVld := true, iportD := 0x40001000 };
    let g : Fin 4096 := 73;
    (iportIsolated (.tussock g) m = false) ∧ ((m.unit (.tussock g)).iportVld ≠ (m.unit (.tussock g)).iportTkn)) := by
  decide +kernel

theorem test_witness_Intents_3 :
  (let m : Wafer := Wafer.reset.modRail tu 0 fun r => { r with lift := 5 };
    let g : Fin 4096 := 73;
    let q : Fin 2 := 0;
    (liftTarget (.tussock g) q m < preLift (.tussock g) q m)) ∧
  (let m : Wafer := Wafer.reset.modRail tu 1 fun r => { r with lift := -5 };
    let g : Fin 4096 := 73;
    let q : Fin 2 := 1;
    (preLift (.tussock g) q m < liftTarget (.tussock g) q m)) := by
  decide +kernel

theorem test_witness_Gorse :
  (let m : Wafer := (onU [(TSK_RSTAT.STATE 0, 3), (TSK_CTL.EN0, 1), (TSK_VNOW.VNOW 0, 750000), (TSK_GORSE.EN, 1), (TSK_GORSE.DG, 30), (TSK_GORSE.SG, 4), (TSK_NBR.NBR_PH, 4)]).modUnit tu fun x => { x with rst := .run };
    let g : Fin 4096 := 73;
    let v : Int := 734999;
    let fall : Int := 2501;
    (gorseArmed (.tussock g) m = true) ∧ (v < vSet (.tussock g) 0 m - gorseLevel (.tussock g) m) ∧ (625 * (m.get (tus g) TSK_GORSE.SG : Int) < fall)) ∧
  (let m : Wafer := (onU [(TSK_GSTAT.BURST, 1)]).modPhase tu 0 fun x => { x with pulse := .burst };
    let g : Fin 4096 := 73;
    (m.on (tus g) TSK_GSTAT.BURST = true)) ∧
  (let m : Wafer := (onU [(TSK_VNOW.VNOW 0, 750000), (TSK_HYST.H 0, 4)]).modPhase tu 0 fun x => { x with pulse := .burst, tonMin := 70 };
    let g : Fin 4096 := 73;
    let v : Int := 751001;
    (vSet (.tussock g) 0 m + halfBand (.tussock g) 0 m < v)) ∧
  (let m : Wafer := onU [(TSK_VNOW.VNOW 0, 750000), (TSK_HYST.H 0, 4), (TSK_GSTAT.REARM_WAIT, 1)];
    let g : Fin 4096 := 73;
    let before : Int := 740000;
    let v : Int := 749000;
    (m.on (tus g) TSK_GSTAT.REARM_WAIT = true) ∧ (vSet (.tussock g) 0 m - halfBand (.tussock g) 0 m ≤ v ∧ v ≤ vSet (.tussock g) 0 m + halfBand (.tussock g) 0 m ∨ before < vSet (.tussock g) 0 m - halfBand (.tussock g) 0 m ∧ vSet (.tussock g) 0 m + halfBand (.tussock g) 0 m < v)) ∧
  (let m : Wafer := onU [(TSK_VNOW.VNOW 0, 750000), (TSK_HYST.H 0, 4), (TSK_GSTAT.REARM_WAIT, 1)];
    let g : Fin 4096 := 73;
    let before : Int := 748999;
    let v : Int := 751001;
    (m.on (tus g) TSK_GSTAT.REARM_WAIT = true) ∧ (vSet (.tussock g) 0 m - halfBand (.tussock g) 0 m ≤ v ∧ v ≤ vSet (.tussock g) 0 m + halfBand (.tussock g) 0 m ∨ before < vSet (.tussock g) 0 m - halfBand (.tussock g) 0 m ∧ vSet (.tussock g) 0 m + halfBand (.tussock g) 0 m < v)) := by
  decide +kernel

theorem test_witness_Ties_1 :
  (let m : Wafer := (onU [(TSK_RSTAT.STATE 0, 3)]).modUnit tu fun x => { x with rst := .run };
    let g : Fin 4096 := 73;
    let k : Fin 4 := 2;
    (m.on (tus g) (TSK_TIESTAT.TIED_OFF k) = false) ∧ (mayClose (.tussock g) m = true) ∧ (((m.unit (.tussock g)).port k).side = false) ∧ (((m.unit (.tussock g)).port k).used01 = false) ∧ (((m.unit (.tussock g)).port k).guarded = false)) ∧
  (let m : Wafer := ((onU [(TSK_RSTAT.STATE 0, 3)]).modUnit tu fun x => { x with rst := .run }).modPort tu 0 fun p => { p with used01 := true };
    let g : Fin 4096 := 73;
    let k : Fin 4 := 0;
    (m.on (tus g) (TSK_TIESTAT.TIED_OFF k) = false) ∧ (mayClose (.tussock g) m = true) ∧ (((m.unit (.tussock g)).port k).side = true ∨ ((m.unit (.tussock g)).port k).used01 = true ∨ ((m.unit (.tussock g)).port k).guarded = true)) ∧
  (let m : Wafer := (onU [(TSK_RSTAT.STATE 0, 3)]).modUnit tu fun x => { x with rst := .run };
    let g : Fin 4096 := 73;
    let k : Fin 4 := 0;
    let code : Fin 4 := 2;
    (2 ≤ code.val) ∧ (m.on (tus g) (TSK_TIESTAT.TIED_OFF k) = false) ∧ (mayClose (.tussock g) m = true) ∧ (((m.unit (.tussock g)).port k).side = false) ∧ (((m.unit (.tussock g)).port k).guarded = false)) ∧
  (let m : Wafer := Wafer.reset;
    let g : Fin 4096 := 73;
    let k : Fin 4 := 2;
    let code : Fin 4 := 3;
    (m.on (tus g) (TSK_TIESTAT.TIED_OFF k) = false) ∧ (code.val ≠ 0) ∧ (mayClose (.tussock g) m = false)) ∧
  (let m : Wafer := (onU [(TSK_TIESTAT.REQ_IN 1, 1)]).modPort tu 1 fun p => { p with side := true };
    let g : Fin 4096 := 73;
    let k : Fin 4 := 1;
    (((m.unit (.tussock g)).port k).side = true) ∧ (m.on (tus g) (TSK_TIESTAT.CLOSED k) = false) ∧ (m.get (tus g) (TSK_TIESTAT.REQ_IN k) ≠ 0 ∨ m.on (tus g) TSK_TIE.HOLD = true)) ∧
  (let m : Wafer := (onU [(TSK_TIE.HOLD, 0)]).modPort tu 0 fun p => { p with side := true };
    let g : Fin 4096 := 73;
    let k : Fin 4 := 0;
    (((m.unit (.tussock g)).port k).side = true) ∧ (m.on (tus g) (TSK_TIESTAT.CLOSED k) = false) ∧ (m.get (tus g) (TSK_TIESTAT.REQ_IN k) = 0) ∧ (m.on (tus g) TSK_TIE.HOLD = false)) := by
  decide +kernel

theorem test_witness_Ties_2 :
  (let m : Wafer := (Wafer.reset.modUnit tu fun x => { x with rst := .run }).modPort tu 3 fun p => { p with reqOut := 1 };
    let g : Fin 4096 := 73;
    let k : Fin 4 := 3;
    (m.on (tus g) (TSK_TIESTAT.TIED_OFF k) = false) ∧ ((m.unit (.tussock g)).rst = .run) ∧ (((m.unit (.tussock g)).port k).reqOut = 1) ∧ (((m.unit (.tussock g)).port k).ignoreAck = false)) ∧
  (let m : Wafer := (onU [(TSK_TIESTAT.ACK_IN 0, 1)]).modUnit tu fun x => { x with rst := .run };
    let g : Fin 4096 := 73;
    let k : Fin 4 := 0;
    (m.on (tus g) (TSK_TIESTAT.TIED_OFF k) = false) ∧ ((m.unit (.tussock g)).rst = .run)) ∧
  (let m : Wafer := Wafer.reset;
    let g : Fin 4096 := 73;
    let k : Fin 4 := 0;
    (m.on (tus g) (TSK_TIESTAT.TIED_OFF k) = false) ∧ ((m.unit (.tussock g)).rst ≠ .run)) ∧
  (let m : Wafer := (onU [(TSK_TIESTAT.CLOSED 0, 1), (TSK_TIESTAT.REQ_IN 0, 1)]).modPort tu 0 fun p => { p with side := true };
    let g : Fin 4096 := 73;
    let k : Fin 4 := 0;
    (((m.unit (.tussock g)).port k).side = true) ∧ (m.on (tus g) (TSK_TIESTAT.CLOSED k) = true) ∧ (((m.unit (.tussock g)).port k).holding = false ∨ holdEnd (.tussock g) k m ≤ m.wtime)) ∧
  (let m : Wafer := (onU [(TSK_TIESTAT.CLOSED 0, 1), (TSK_TIE.HOLD, 1)]).modPort tu 0 fun p => { p with side := true, holding := true };
    let g : Fin 4096 := 73;
    let k : Fin 4 := 0;
    (m.on (tus g) (TSK_TIESTAT.CLOSED k) = false ∨ ((m.unit (.tussock g)).port k).holding = true ∧ m.wtime < holdEnd (.tussock g) k m)) ∧
  (let m : Wafer := Wafer.reset.modPort tu 0 fun p => { p with holding := true };
    let g : Fin 4096 := 73;
    let k : Fin 4 := 0;
    (((m.unit (.tussock g)).port k).holding = true) ∧ (m.get (tus g) (TSK_TIESTAT.REQ_IN k) = 0)) := by
  decide +kernel

theorem test_witness_Ties_3 :
  (let m : Wafer := (onU [(TSK_TIESTAT.REQ_IN 0, 2)]).modPort tu 0 fun p => { p with side := true, holding := true };
    let g : Fin 4096 := 73;
    let k : Fin 4 := 0;
    (((m.unit (.tussock g)).port k).holding = true) ∧ (m.get (tus g) (TSK_TIESTAT.REQ_IN k) ≠ 0)) ∧
  (let m : Wafer := onU [(TSK_TIE.GUARD_EN, 1), (TSK_TIESTAT.CLOSED 0, 1), (TSK_VNOW.VNOW 0, 800000)];
    let g : Fin 4096 := 73;
    let k : Fin 4 := 0;
    let v : Int := 679999;
    (m.on (tus g) TSK_TIE.GUARD_EN = true) ∧ (m.on (tus g) (TSK_TIESTAT.CLOSED k) = true) ∧ (100 * v < 85 * vSet (.tussock g) 0 m)) ∧
  (let m : Wafer := ((onU [(TSK_TIESTAT.REQ_IN 0, 2), (TSK_RSTAT.STATE 0, 3), (TSK_VNOW.VNOW 0, 750000)]).modUnit tu fun x => { x with rst := .run }).modPort tu 0 fun p => { p with guarded := true };
    let g : Fin 4096 := 73;
    let k : Fin 4 := 0;
    let v : Int := 750000;
    (((m.unit (.tussock g)).port k).guarded = true) ∧ (2 ≤ m.get (tus g) (TSK_TIESTAT.REQ_IN k)) ∧ (mayClose (.tussock g) m = true) ∧ (vSet (.tussock g) 0 m - halfBand (.tussock g) 0 m ≤ v) ∧ (v ≤ vSet (.tussock g) 0 m + halfBand (.tussock g) 0 m)) ∧
  (let m : Wafer := Wafer.reset.modPort tu 0 fun p => { p with reqOut := 1 };
    let g : Fin 4096 := 73;
    let k : Fin 4 := 0;
    (((m.unit (.tussock g)).port k).reqOut = 1) ∧ (m.on (tus g) (TSK_TIESTAT.ACK_IN k) = false)) := by
  decide +kernel

theorem test_witness_StretchAndOverload :
  (let m : Wafer := onU [(TSK_STR.EN, 1), (TSK_RSTAT.STATE 0, 3), (TSK_VNOW.VNOW 0, 750000), (TSK_STR.DSTR, 40)];
    let g : Fin 4096 := 73;
    let v : Int := 0;
    (m.on (tus g) TSK_STR.EN = true) ∧ (m.on (tus g) TSK_STR.ACT = false) ∧ (stretchState (.tussock g) m = true) ∧ (v < m.getI (tus g) (TSK_VNOW.VNOW 0) - stretchLevel (.tussock g) m)) ∧
  (let m : Wafer := onU [(TSK_STR.ACT, 1), (TSK_VNOW.VNOW 0, 750000), (TSK_STR.HOLD, 10)];
    let g : Fin 4096 := 73;
    let v : Int := 750001;
    let w : Nat := 10;
    (m.on (tus g) TSK_STR.ACT = true) ∧ (m.getI (tus g) (TSK_VNOW.VNOW 0) - halfBand (.tussock g) 0 m < v) ∧ ((m.unit (.tussock g)).strRise + m.get (tus g) TSK_STR.HOLD ≤ w)) ∧
  (let m : Wafer := (onU [(TSK_STR.ACT, 1), (TSK_VNOW.VNOW 0, 750000), (TSK_HYST.H 0, 4)]).modUnit tu fun x => { x with strRise := 10 };
    let g : Fin 4096 := 73;
    let v : Int := 750000;
    let w : Nat := 9;
    (v ≤ m.getI (tus g) (TSK_VNOW.VNOW 0) - halfBand (.tussock g) 0 m ∨ w < (m.unit (.tussock g)).strRise + m.get (tus g) TSK_STR.HOLD)) ∧
  (let m : Wafer := (onU [(TSK_CTL.EN0, 1), (TSK_VNOW.VNOW 0, 700000), (TSK_PHSTAT.RETIRED 1, 1)]).modPhase tu 0 fun x => { x with limitAt := some 0 };
    let g : Fin 4096 := 73;
    let v : Int := 594999;
    (100 * v < 85 * vSet (.tussock g) 0 m) ∧ (inService (.tussock g) 0 m = true ∨ inService (.tussock g) 1 m = true) ∧ (m.on (tus g) TSK_OVL.OVL_ACT = false) ∧ (∀ s : Fin 2, inService (.tussock g) s m = true → (match ((m.unit (.tussock g)).phase s).limitAt with | some t => decide (m.wtime ≤ t + 800) | none => false) = true)) := by
  decide +kernel

theorem test_witness_PhaseProtection_1 :
  (let m : Wafer := Wafer.reset.modPhase tu 1 fun x => { x with pulse := .normal };
    let u : UnitId := tu;
    let slot : Fin 4 := 1;
    let i : Int := 10000;
    (((m.unit u).phase slot).pulse ≠ .none) ∧ (50 * (foldBack u slot m : Int) ≤ i)) ∧
  (let m : Wafer := (onU [(TSK_RSTAT.STATE 0, 3), (TSK_CTL.EN0, 1), (TSK_RSTAT.SINK 0, 1), (TSK_OVS.SINK_LIM 0, 2)]).modPhase tu 0 fun x => { x with bridge := .low };
    let u : UnitId := tu;
    let slot : Fin 4 := 0;
    let i : Int := -500;
    (m.on u.base (TSK_RSTAT.SINK (slotRail slot)) = true) ∧ (((m.unit u).phase slot).pulse = .none) ∧ (((m.unit u).phase slot).bridge = .low) ∧ (available u slot m = true) ∧ (i ≤ -250 * (m.get u.base (TSK_OVS.SINK_LIM (slotRail slot)) : Int))) ∧
  (let m : Wafer := onU [(TSK_HCTL.RETRY_MAX, 1)];
    let u : UnitId := tu;
    let slot : Fin 4 := 0;
    let r : PhaseReading := { offRise := none, sw := none, current := 0, rises := [], driverLow := true, over2us := false };
    (slotAbsent u slot = false) ∧ (seenFaults u slot r m ≠ 0) ∧ (seenFaults u slot r m &&& 3 = 0) ∧ (m.on u.base (TSK_PHSTAT.RETIRED slot) = false) ∧ (m.on u.base (TSK_PHHLTH.TEST_BUSY slot) = false) ∧ ((recentTimes m.wtime ((m.unit u).phase slot).suspendedAt).length < m.get u.base TSK_HCTL.RETRY_MAX)) ∧
  (let m : Wafer := (onU [(TSK_VIB.VIB, 4000000)]).modPhase tu 0 fun x => { x with bridge := .high };
    let u : UnitId := tu;
    let slot : Fin 4 := 0;
    let r : PhaseReading := { offRise := none, sw := some 1999999, current := 0, rises := [], driverLow := false, over2us := false };
    (slotAbsent u slot = false) ∧ (seenFaults u slot r m ≠ 0) ∧ (seenFaults u slot r m &&& 3 ≠ 0 ∨ m.get u.base TSK_HCTL.RETRY_MAX ≤ (recentTimes m.wtime ((m.unit u).phase slot).suspendedAt).length) ∧ (m.on u.base (TSK_PHSTAT.RETIRED slot) = false) ∧ (m.on u.base (TSK_PHHLTH.RETIRE slot) = false) ∧ (m.on u.base (TSK_PHHLTH.TEST_BUSY slot) = false)) ∧
  (let m : Wafer := onU [(TSK_HCTL.RETRY_MAX, 0)];
    let u : UnitId := tu;
    let slot : Fin 4 := 0;
    let r : PhaseReading := { offRise := none, sw := none, current := 0, rises := [], driverLow := true, over2us := false };
    (slotAbsent u slot = false) ∧ (seenFaults u slot r m ≠ 0) ∧ (seenFaults u slot r m &&& 3 ≠ 0 ∨ m.get u.base TSK_HCTL.RETRY_MAX ≤ (recentTimes m.wtime ((m.unit u).phase slot).suspendedAt).length) ∧ (m.on u.base (TSK_PHSTAT.RETIRED slot) = false) ∧ (m.on u.base (TSK_PHHLTH.RETIRE slot) = false) ∧ (m.on u.base (TSK_PHHLTH.TEST_BUSY slot) = false)) ∧
  (let m : Wafer := onU [(TSK_PHHLTH.TEST_BUSY 0, 1), (TSK_PHSTAT.RETIRED 0, 1)];
    let u : UnitId := tu;
    let slot : Fin 4 := 0;
    let r : PhaseReading := { offRise := none, sw := none, current := 0, rises := [], driverLow := true, over2us := false };
    (slotAbsent u slot = false) ∧ (seenFaults u slot r m ≠ 0) ∧ (m.on u.base (TSK_PHHLTH.TEST_BUSY slot) = true)) := by
  decide +kernel

theorem test_witness_PhaseProtection_2 :
  (let m : Wafer := onU [(TSK_PHSTAT.RETIRED 0, 1)];
    let u : UnitId := tu;
    let slot : Fin 4 := 0;
    let r : PhaseReading := { offRise := some 2001, sw := none, current := 0, rises := [], driverLow := false, over2us := false };
    (slotAbsent u slot = false) ∧ (seenFaults u slot r m ≠ 0) ∧ (m.on u.base (TSK_PHSTAT.RETIRED slot) = true) ∧ (m.on u.base (TSK_PHHLTH.TEST_BUSY slot) = false)) ∧
  (let m : Wafer := onU [(TSK_PHSTAT.SUSPENDED 1, 1)];
    let u : UnitId := tu;
    let slot : Fin 4 := 1;
    (m.on u.base (TSK_PHSTAT.SUSPENDED slot) = true)) := by
  decide +kernel

theorem test_witness_RailTrips :
  (let m : Wafer := onU [(TSK_RSTAT.STATE 0, 3), (TSK_VNOW.VNOW 0, 750000), (TSK_RLIM.OV_HARD 0, 60), (TSK_OVS.OV_SOFT 0, 30), (TSK_HCTL.RETRY_MAX, 1)];
    let u : UnitId := tu;
    let q : Fin 2 := 0;
    let v : Int := 810001;
    (railState u q m ≠ rOFF) ∧ (railState u q m ≠ rSENSE_OPEN) ∧ (railState u q m ≠ rTRIPPED) ∧ (vRefHi u q m + ovOffset u q m < v) ∧ ((recentTimes m.wtime ((m.unit u).rail q).trippedAt).length < m.get u.base TSK_HCTL.RETRY_MAX)) ∧
  (let m : Wafer := onU [(TSK_RSTAT.STATE 0, 3), (TSK_VNOW.VNOW 0, 750000), (TSK_RLIM.OV_HARD 0, 60), (TSK_OVS.OV_SOFT 0, 30), (TSK_HCTL.RETRY_MAX, 0)];
    let u : UnitId := tu;
    let q : Fin 2 := 0;
    let v : Int := 810001;
    (railState u q m ≠ rOFF) ∧ (railState u q m ≠ rSENSE_OPEN) ∧ (railState u q m ≠ rTRIPPED) ∧ (vRefHi u q m + ovOffset u q m < v) ∧ (m.get u.base TSK_HCTL.RETRY_MAX ≤ (recentTimes m.wtime ((m.unit u).rail q).trippedAt).length)) ∧
  (let m : Wafer := (onU [(TSK_RSTAT.STATE 1, 7)]).modRail tu 1 fun r => { r with retrying := true };
    let u : UnitId := tu;
    let q : Fin 2 := 1;
    (railState u q m = rTRIPPED) ∧ (((m.unit u).rail q).retrying = true)) ∧
  (let m : Wafer := onU [(TSK_RSTAT.STATE 0, 3), (TSK_VNOW.VNOW 0, 750000), (TSK_RLIM.UV 0, 80)];
    let u : UnitId := tu;
    let q : Fin 2 := 0;
    let v : Int := 669999;
    (railState u q m = rREG) ∧ (v < vRefLo u q m - 1000 * (m.get u.base (TSK_RLIM.UV q) : Int))) ∧
  (let m : Wafer := onU [(TSK_RSTAT.STATE 0, 3), (TSK_VNOW.VNOW 0, 750000), (TSK_RLIM.UV 0, 80)];
    let u : UnitId := tu;
    let q : Fin 2 := 0;
    let v : Int := 670000;
    (railState u q m ≠ rREG ∨ vRefLo u q m - 1000 * (m.get u.base (TSK_RLIM.UV q) : Int) ≤ v)) := by
  decide +kernel

theorem test_witness_TemperatureAndColumns_1 :
  (let m : Wafer := onU [(TSK_OT.OT_WARN, 95), (TSK_OT.OT_SD, 115)];
    let u : UnitId := tu;
    let t : TempReading := ⟨95000, true⟩;
    let l : List Int := [95000];
    ((m.unit u).tempFailed = false) ∧ (l = (if (m.unit u).validOnly = true ∧ ¬ (t.inTime = true ∧ -20000 ≤ t.value ∧ t.value ≤ 150000) then (m.unit u).temps else (t.value :: (m.unit u).temps).take 8)) ∧ (-20000 ≤ freeDiv l.sum l.length) ∧ (freeDiv l.sum l.length ≤ 150000) ∧ (freeDiv l.sum l.length < 1000 * (m.get u.base TSK_OT.OT_SD : Int)) ∧ (m.on u.base TSK_HSTAT.OT_SD_LATCH = false)) ∧
  (let m : Wafer := (onU [(TSK_OT.OT_WARN, 95), (TSK_OT.OT_SD, 115), (TSK_HSTAT.OT_WARN, 1)]).modUnit tu fun x => { x with temps := [40000], validOnly := true };
    let u : UnitId := tu;
    let t : TempReading := ⟨150001, true⟩;
    let l : List Int := [40000];
    ((m.unit u).tempFailed = false) ∧ (l = (if (m.unit u).validOnly = true ∧ ¬ (t.inTime = true ∧ -20000 ≤ t.value ∧ t.value ≤ 150000) then (m.unit u).temps else (t.value :: (m.unit u).temps).take 8)) ∧ (-20000 ≤ freeDiv l.sum l.length) ∧ (freeDiv l.sum l.length ≤ 150000) ∧ (freeDiv l.sum l.length < 1000 * (m.get u.base TSK_OT.OT_SD : Int)) ∧ (m.on u.base TSK_HSTAT.OT_SD_LATCH = false)) ∧
  (let m : Wafer := onU [(TSK_OT.OT_WARN, 95), (TSK_OT.OT_SD, 115), (TSK_RSTAT.STATE 0, 3)];
    let u : UnitId := tu;
    let t : TempReading := ⟨115000, true⟩;
    let l : List Int := [115000];
    ((m.unit u).tempFailed = false) ∧ (l = (if (m.unit u).validOnly = true ∧ ¬ (t.inTime = true ∧ -20000 ≤ t.value ∧ t.value ≤ 150000) then (m.unit u).temps else (t.value :: (m.unit u).temps).take 8)) ∧ (freeDiv l.sum l.length ≤ 150000) ∧ (1000 * (m.get u.base TSK_OT.OT_SD : Int) ≤ freeDiv l.sum l.length) ∧ (m.on u.base TSK_HSTAT.OT_SD_LATCH = false)) ∧
  (let m : Wafer := onU [(TSK_OT.OT_WARN, 95), (TSK_OT.OT_SD, 115), (TSK_HSTAT.OT_SD_LATCH, 1)];
    let u : UnitId := tu;
    let t : TempReading := ⟨89999, true⟩;
    let l : List Int := [89999];
    ((m.unit u).tempFailed = false) ∧ (l = (if (m.unit u).validOnly = true ∧ ¬ (t.inTime = true ∧ -20000 ≤ t.value ∧ t.value ≤ 150000) then (m.unit u).temps else (t.value :: (m.unit u).temps).take 8)) ∧ (-20000 ≤ freeDiv l.sum l.length) ∧ (freeDiv l.sum l.length < 1000 * (m.get u.base TSK_OT.OT_SD : Int)) ∧ (freeDiv l.sum l.length < 1000 * (m.get u.base TSK_OT.OT_WARN : Int) - 5000)) ∧
  (let m : Wafer := Wafer.reset.modUnit tu fun x => { x with tempFailed := true, goodTemps := 62 };
    let u : UnitId := tu;
    let t : TempReading := ⟨25000, true⟩;
    ((m.unit u).tempFailed = true) ∧ ((m.unit u).goodTemps < 63 ∨ ¬ (t.inTime = true ∧ -20000 ≤ t.value ∧ t.value ≤ 150000))) ∧
  (let m : Wafer := Wafer.reset.modUnit tu fun x => { x with tempFailed := true, goodTemps := 63 };
    let u : UnitId := tu;
    let t : TempReading := ⟨25000, true⟩;
    ((m.unit u).tempFailed = true) ∧ (63 ≤ (m.unit u).goodTemps) ∧ (t.inTime = true ∧ -20000 ≤ t.value ∧ t.value ≤ 150000)) := by
  decide +kernel

theorem test_witness_TemperatureAndColumns_2 :
  (let m : Wafer := Wafer.reset;
    let u : UnitId := tu;
    let noSample : Bool := true;
    (noSample = true ∨ m.getI u.base TSK_TEMP.TEMP < -20000 ∨ 150000 < m.getI u.base TSK_TEMP.TEMP) ∧ ((m.unit u).tempFailed = false)) ∧
  (let m : Wafer := { onU [(TSK_RSTAT.STATE 0, 3), (TSK_CTL.EN0, 1), (TSK_HCTL.CRK_IMIN, 40)] with wtime := 51200000 };
    let u : UnitId := tu;
    let slot : Fin 4 := 1;
    let i : Int := 2000;
    (slotAbsent u slot = false) ∧ (m.wtime % 51200000 = 0) ∧ (railState u (slotRail slot) m = rREG) ∧ (inService u slot m = true) ∧ (((m.unit u).rail (slotRail slot)).regFrom + 800000 ≤ m.wtime) ∧ (((m.unit u).phase slot).servedFrom + 800000 ≤ m.wtime) ∧ (50 * (m.get u.base TSK_HCTL.CRK_IMIN : Int) ≤ i)) ∧
  (let m : Wafer := { onU [(TSK_RSTAT.STATE 0, 3), (TSK_CTL.EN0, 1), (TSK_HCTL.CRK_IMIN, 40)] with wtime := 51200000 };
    let u : UnitId := tu;
    let slot : Fin 4 := 1;
    let i : Int := 1999;
    let steady : Bool := true;
    let quiet : Bool := true;
    (slotAbsent u slot = false) ∧ (m.wtime % 51200000 = 0) ∧ (railState u (slotRail slot) m ≠ rREG ∨ inService u slot m = false ∨ m.wtime < ((m.unit u).rail (slotRail slot)).regFrom + 800000 ∨ m.wtime < ((m.unit u).phase slot).servedFrom + 800000 ∨ i < 50 * (m.get u.base TSK_HCTL.CRK_IMIN : Int) ∨ steady = false ∨ quiet = false)) ∧
  (let m : Wafer := { Wafer.reset with wtime := 51200001 };
    (m.wtime % 51200000 ≠ 0)) ∧
  (let m : Wafer := (onU [(TSK_CRKBASE.CAPT_PEND 1, 1)]).modPhase tu 1 fun x => { x with estimating := true };
    let u : UnitId := tu;
    let slot : Fin 4 := 1;
    let drop : Int := 3000;
    let i : Int := 2000;
    (((m.unit u).phase slot).estimating = true) ∧ (0 < i) ∧ (0 ≤ roundDiv (1000 * drop) i) ∧ (roundDiv (1000 * drop) i < 65536) ∧ (m.on u.base (TSK_CRKBASE.CAPT_PEND slot) = true)) ∧
  (let m : Wafer := Wafer.reset.modPhase tu 1 fun x => { x with estimating := true, warnPrev := true };
    let u : UnitId := tu;
    let slot : Fin 4 := 1;
    let drop : Int := 3000;
    let i : Int := 2000;
    (((m.unit u).phase slot).estimating = true) ∧ (0 < i) ∧ (0 ≤ roundDiv (1000 * drop) i) ∧ (roundDiv (1000 * drop) i < 65536) ∧ (m.on u.base (TSK_CRKBASE.CAPT_PEND slot) = false) ∧ (m.get u.base (TSK_CRKBASE.BASE slot) = 0)) := by
  decide +kernel

theorem test_witness_TemperatureAndColumns_3 :
  (let m : Wafer := (onU [(TSK_CRKBASE.BASE 1, 1000)]).modPhase tu 1 fun x => { x with estimating := true, warnPrev := true };
    let u : UnitId := tu;
    let slot : Fin 4 := 1;
    let drop : Int := 2600;
    let i : Int := 2000;
    let e : Nat := 1300;
    (((m.unit u).phase slot).estimating = true) ∧ (0 < i) ∧ (roundDiv (1000 * drop) i = e) ∧ (e < 65536) ∧ (m.on u.base (TSK_CRKBASE.CAPT_PEND slot) = false) ∧ (m.get u.base (TSK_CRKBASE.BASE slot) ≠ 0) ∧ (((m.unit u).phase slot).suspPrev = false ∨ 100 * e < 180 * m.get u.base (TSK_CRKBASE.BASE slot))) ∧
  (let m : Wafer := (onU [(TSK_CRKBASE.BASE 1, 1000), (TSK_HCTL.CRK_RET, 1)]).modPhase tu 1 fun x => { x with estimating := true, suspPrev := true };
    let u : UnitId := tu;
    let slot : Fin 4 := 1;
    let drop : Int := 3600;
    let i : Int := 2000;
    let e : Nat := 1800;
    (slotAbsent u slot = false) ∧ (((m.unit u).phase slot).estimating = true) ∧ (((m.unit u).phase slot).suspPrev = true) ∧ (0 < i) ∧ (roundDiv (1000 * drop) i = e) ∧ (e < 65536) ∧ (m.on u.base (TSK_CRKBASE.CAPT_PEND slot) = false) ∧ (m.get u.base (TSK_CRKBASE.BASE slot) ≠ 0) ∧ (180 * m.get u.base (TSK_CRKBASE.BASE slot) ≤ 100 * e)) ∧
  (let m : Wafer := Wafer.reset.modPhase tu 1 fun x => { x with estimating := true };
    let u : UnitId := tu;
    let slot : Fin 4 := 1;
    let interrupted : Bool := true;
    let i : Int := 0;
    (((m.unit u).phase slot).estimating = true) ∧ (interrupted = true ∨ i ≤ 0)) ∧
  (let u : UnitId := .verge 3;
    let slot : Fin 4 := 3;
    (slotAbsent u slot = false)) := by
  decide +kernel

theorem test_witness_Retirement_1 :
  (let m : Wafer := Wafer.reset;
    let u : UnitId := tu;
    let slot : Fin 4 := 2;
    (slotAbsent u slot = false) ∧ (m.on u.base (TSK_PHHLTH.RETIRE slot) = false)) ∧
  (let m : Wafer := onU [(TSK_PHSTAT.RETIRED 1, 1)];
    let u : UnitId := tu;
    let slot : Fin 4 := 0;
    (slotAbsent u slot = false) ∧ (m.on u.base (TSK_PHHLTH.RETIRE slot) = false)) ∧
  (let m : Wafer := Wafer.reset;
    let u : UnitId := tu;
    let slot : Fin 4 := 3;
    (slotAbsent u slot = true ∨ m.on u.base (TSK_PHHLTH.RETIRE slot) = true)) ∧
  (let m : Wafer := onU [(TSK_PHHLTH.RETIRE 0, 1)];
    let u : UnitId := tu;
    let slot : Fin 4 := 0;
    (slotAbsent u slot = false) ∧ (m.on u.base (TSK_PHHLTH.RETIRE slot) = true) ∧ (m.on 0 HTH_MAPCTL.OPEN = false ∨ m.on u.base (TSK_PHHLTH.TEST_PASS slot) = false ∨ ((m.unit u).phase slot).testWindow ≠ m.windowNo)) ∧
  (let m : Wafer := Wafer.reset;
    let u : UnitId := tu;
    let slot : Fin 4 := 2;
    (slotAbsent u slot = true ∨ m.on u.base (TSK_PHHLTH.RETIRE slot) = false)) ∧
  (let m : Wafer := onU [(TSK_PHHLTH.RETIRE 0, 1)];
    let u : UnitId := tu;
    let slot : Fin 4 := 0;
    (slotAbsent u slot = false) ∧ (m.on u.base (TSK_PHHLTH.RETIRE slot) = true) ∧ (m.on 0 HTH_MAPCTL.OPEN = false)) := by
  decide +kernel

theorem test_witness_Retirement_2 :
  (let m : Wafer := onB 0 [(HTH_MAPCTL.OPEN, 1)] (onU [(TSK_PHHLTH.RETIRE 0, 1), (TSK_PHHLTH.TEST_PASS 0, 1)]);
    let u : UnitId := tu;
    let slot : Fin 4 := 0;
    (slotAbsent u slot = false) ∧ (m.on u.base (TSK_PHHLTH.RETIRE slot) = true) ∧ (m.on 0 HTH_MAPCTL.OPEN = true) ∧ (m.on u.base (TSK_PHHLTH.TEST_PASS slot) = true) ∧ (((m.unit u).phase slot).testWindow = m.windowNo)) ∧
  (let m : Wafer := onU [(TSK_RSTAT.STATE 0, 3), (TSK_VIB.VIB, 4000000)];
    let u : UnitId := tu;
    let slot : Fin 4 := 0;
    (slotAbsent u slot = false) ∧ (railState u (slotRail slot) m = rREG) ∧ (∀ k : Fin 4, m.on u.base (TSK_PHHLTH.TEST_BUSY k) = false)) ∧
  (let m : Wafer := onU [(TSK_RSTAT.STATE 0, 3), (TSK_PHHLTH.TEST_BUSY 1, 1)];
    let u : UnitId := tu;
    let slot : Fin 4 := 0;
    let k : Fin 4 := 1;
    (slotAbsent u slot = true ∨ railState u (slotRail slot) m ≠ rREG ∨ m.on u.base (TSK_PHHLTH.TEST_BUSY k) = true)) ∧
  (let m : Wafer := onU [(TSK_PHHLTH.TEST_BUSY 0, 1)];
    let u : UnitId := tu;
    let slot : Fin 4 := 0;
    let pass : Bool := true;
    (m.on u.base (TSK_PHHLTH.TEST_BUSY slot) = true) ∧ (pass = (!((m.unit u).phase slot).testFault && !(m.on u.base (TSK_CRK.VALID slot) && m.on u.base (TSK_CRKBASE.BASE slot) && decide (180 * m.get u.base (TSK_CRKBASE.BASE slot) ≤ 100 * m.get u.base (TSK_CRK.EST slot)))))) ∧
  (let m : Wafer := onU [(TSK_PHHLTH.TEST_BUSY 0, 1), (TSK_CRK.VALID 0, 1), (TSK_CRKBASE.BASE 0, 10), (TSK_CRK.EST 0, 18)];
    let u : UnitId := tu;
    let slot : Fin 4 := 0;
    let pass : Bool := false;
    (m.on u.base (TSK_PHHLTH.TEST_BUSY slot) = true) ∧ (pass = (!((m.unit u).phase slot).testFault && !(m.on u.base (TSK_CRK.VALID slot) && m.on u.base (TSK_CRKBASE.BASE slot) && decide (180 * m.get u.base (TSK_CRKBASE.BASE slot) ≤ 100 * m.get u.base (TSK_CRK.EST slot)))))) ∧
  (let m : Wafer := onU [(TSK_HSTAT.ADOPTED, 1), (TSK_VNOW.VNOW 0, 750000)];
    let g : Fin 4096 := 73;
    let v : Int := 750000;
    (m.on (tus g) TSK_HSTAT.ADOPTED = true) ∧ (m.on (tus g) (TSK_PHSTAT.RETIRED 0) = false ∨ m.on (tus g) (TSK_PHSTAT.RETIRED 1) = false) ∧ (vSet (.tussock g) 0 m - halfBand (.tussock g) 0 m ≤ v) ∧ (v ≤ vSet (.tussock g) 0 m + halfBand (.tussock g) 0 m)) := by
  decide +kernel

theorem test_witness_UnitResetAndWindow :
  (let m : Wafer := Wafer.reset;
    let u : UnitId := .verge 9;
    ((m.unit u).rst = .restore)) ∧
  (let m : Wafer := Wafer.reset.modUnit tu fun x => { x with rst := .run };
    let u : UnitId := tu;
    ((m.unit u).rst ≠ .restore)) := by
  decide +kernel

theorem test_witness_EngineConfiguration_1 :
  (let m : Wafer := Wafer.reset.modSward 1 fun x => { x with pendWrites := [(0x4000, 0x40000000), (0x4008, 3)] };
    let p : Fin 64 := 1;
    let off : Nat := 0x4000;
    (isPendingConfig off = true) ∧ ((lookupReg m.fuse (place (swd p + off))).isSome = true)) ∧
  (let m : Wafer := (onS [(SWD_SCTL.EN 9, 1)]).modSward 1 fun x => { x with rst := false, waitEnum := false };
    let p : Fin 64 := 1;
    let k : Fin 256 := 9;
    let word : Fin 6 := 4;
    (swardAnswers p m = true) ∧ (1 < word.val) ∧ (slotBusy p k m = true)) ∧
  (let m : Wafer := Wafer.reset.modSward 1 fun x => { x with rst := false, waitEnum := false };
    let p : Fin 64 := 1;
    let k : Fin 256 := 9;
    (swardAnswers p m = true) ∧ (slotBusy p k m = false)) ∧
  (let m : Wafer := Wafer.reset.modSward 1 fun x => { x with rst := false, waitEnum := false };
    let p : Fin 64 := 1;
    let k : Fin 256 := 9;
    (swardAnswers p m = true)) ∧
  (let m : Wafer := (Wafer.reset.modSward 1 fun x => { x with rst := false, waitEnum := false }).modHeath fun h => { h with lowHeld := [(0, some (0x4268 + swd 1, 7))] };
    let p : Fin 64 := 1;
    let k : Fin 256 := 9;
    let lo : Word := 7;
    let data : Word := 9;
    (swardAnswers p m = true) ∧ (slotBusy p k m = false) ∧ (Store.get noLatch m.heath.lowHeld 0 = some (swd p + 0x4028 + 0x40 * k.val, lo))) ∧
  (let m : Wafer := Wafer.reset;
    let p : Fin 64 := 1;
    (swardAnswers p m = false)) := by
  decide +kernel

theorem test_witness_EngineConfiguration_2 :
  (let m : Wafer := Wafer.reset;
    let p : Fin 64 := 1;
    let k : Fin 256 := 255;
    ((lookupReg m.fuse (place (swd p + (0x4000 + 0x40 * k.val)))).isSome = true)) ∧
  (let m : Wafer := Wafer.reset;
    let p : Fin 64 := 1;
    let k : Fin 16 := 15;
    ((lookupReg m.fuse (place (swd p + (0x9000 + 0x100 * k.val)))).isSome = true)) ∧
  (let m : Wafer := Wafer.reset;
    let p : Fin 64 := 1;
    let k : Fin 8 := 7;
    ((lookupReg m.fuse (place (swd p + (0x140 + 8 * k.val)))).isSome = true)) := by
  decide +kernel

theorem test_witness_EngineExecution :
  (let m : Wafer := (onS [(SWD_SCTL.EN 9, 1), (SWD_SCHED.RUN, 1)]).modSward 1 fun x => { x with committed := false, rst := false };
    let p : Fin 64 := 1;
    let k : Fin 256 := 9;
    ((m.sward p).rst = false) ∧ ((m.sward p).committed = false) ∧ (slotDue p k m = true) ∧ (completes p k m = true) ∧ (∀ j : Fin 16, predictorDue p j m = true → (m.sward p).predRan.contains j.val = true) ∧ (((m.sward p).results.any fun r => r.1 == k.val) = false)) ∧
  (let m : Wafer := (onS [(SWD_PRCTL.EN 9, 1), (SWD_SCHED.RUN, 1), (SWD_PRTAP.C 9 0, 0x40000000)]).modSward 1 fun x => { x with committed := false, sig := [(0, 77)] };
    let p : Fin 64 := 1;
    let k : Fin 16 := 9;
    ((m.sward p).rst = false) ∧ ((m.sward p).committed = false) ∧ (predictorDue p k m = true) ∧ ((m.sward p).predRan.contains k.val = false)) ∧
  (let m : Wafer := Wafer.reset;
    let p : Fin 64 := 1;
    (m.on (swd p) SWD_SCHED.RUN = false) ∧ (m.on (swd p) SWD_KAT.BUSY = false)) ∧
  (let m : Wafer := onS [(SWD_SCHED.RUN, 1)];
    let p : Fin 64 := 1;
    (m.on (swd p) SWD_SCHED.RUN = true ∨ m.on (swd p) SWD_KAT.BUSY = true)) ∧
  (let m : Wafer := (onS [(SWD_KAT.BUSY, 1)]).modHeath fun h => { h with bringUp := 8 };
    let p : Fin 64 := 1;
    let lanes : BitVec 4 := 2;
    (m.on (swd p) SWD_KAT.BUSY = true) ∧ (8 ≤ m.heath.bringUp)) ∧
  (let m : Wafer := (onS [(SWD_KAT.BUSY, 1)]).modHeath fun h => { h with bringUp := 7, live := [1, 2] };
    let p : Fin 64 := 1;
    let r : Fin 64 := 2;
    let lanes : BitVec 4 := 8;
    (m.on (swd p) SWD_KAT.BUSY = true) ∧ (m.heath.bringUp < 8) ∧ (r ≠ p) ∧ (partLive r m = true) ∧ (m.on (swd r) SWD_KAT.PASS = false) ∧ (m.heath.katFailed.contains r.val = false)) := by
  decide +kernel

theorem test_witness_ReturnEpoch :
  (let m : Wafer := (onS [(SWD_UEPOCH.VALID 71, 1), (SWD_UEPOCH.EPOCH 71, 5)]).modSward 1 fun x => { x with returning := [71] };
    let p : Fin 64 := 1;
    let k : Fin 72 := 71;
    let epoch : BitVec 16 := 5;
    ((m.sward p).returning.contains k.val = true) ∧ (m.on (swd p) (SWD_UEPOCH.VALID k) = true) ∧ (m.on (swd p) (SWD_UEPOCH.RST_SEEN k) = false) ∧ (m.get (swd p) (SWD_UEPOCH.EPOCH k) = epoch.toNat)) ∧
  (let m : Wafer := (onS [(SWD_UEPOCH.VALID 71, 1), (SWD_UEPOCH.EPOCH 71, 5)]).modSward 1 fun x => { x with returning := [71] };
    let p : Fin 64 := 1;
    let k : Fin 72 := 71;
    let epoch : BitVec 16 := 6;
    ((m.sward p).returning.contains k.val = true) ∧ (m.on (swd p) (SWD_UEPOCH.VALID k) = true) ∧ (m.on (swd p) (SWD_UEPOCH.RST_SEEN k) = false) ∧ (m.get (swd p) (SWD_UEPOCH.EPOCH k) ≠ epoch.toNat)) ∧
  (let m : Wafer := (onS [(SWD_UEPOCH.VALID 71, 1), (SWD_UEPOCH.RST_SEEN 71, 1)]).modSward 1 fun x => { x with returning := [71] };
    let p : Fin 64 := 1;
    let k : Fin 72 := 71;
    let epoch : BitVec 16 := 6;
    ((m.sward p).returning.contains k.val = true) ∧ (m.on (swd p) (SWD_UEPOCH.VALID k) = false ∨ m.on (swd p) (SWD_UEPOCH.RST_SEEN k) = true)) := by
  decide +kernel

theorem test_witness_LadderWalks :
  (let m : Wafer := (onS [(SWD_LDCTL.DWELL, 4), (SWD_LDCTL.SPAN, 3)]).modSward 1 fun x => { x with walk := some ⟨0, 5, 300, 2, 299, 0, some 4⟩ };
    let p : Fin 64 := 1;
    let w : Walk := ⟨0, 5, 300, 2, 299, 0, some 4⟩;
    let d : Nat := 4;
    ((m.sward p).walk = some w) ∧ (w.dwelt = some d) ∧ (max 1 (m.get (swd p) SWD_LDCTL.DWELL) ≤ d) ∧ (m.on (swd p) SWD_LDSTAT.FULL_BUSY = true ∨ w.k + 1 ≤ max 1 (m.get (swd p) SWD_LDCTL.SPAN)) ∧ (200 + (w.k + 1) ≤ w.base)) ∧
  (let m : Wafer := (onS [(SWD_LDCTL.DWELL, 4), (SWD_LDCTL.SPAN, 3)]).modSward 1 fun x => { x with walk := some ⟨0, 5, 203, 3, 201, 0, some 4⟩ };
    let p : Fin 64 := 1;
    let w : Walk := ⟨0, 5, 203, 3, 201, 0, some 4⟩;
    let d : Nat := 4;
    ((m.sward p).walk = some w) ∧ (w.dwelt = some d) ∧ (max 1 (m.get (swd p) SWD_LDCTL.DWELL) ≤ d) ∧ ((m.on (swd p) SWD_LDSTAT.FULL_BUSY = false ∧ max 1 (m.get (swd p) SWD_LDCTL.SPAN) < w.k + 1) ∨ w.base < 200 + (w.k + 1))) ∧
  (let m : Wafer := (onS [(SWD_LDCFG.SETTLE_MAX, 3)]).modSward 1 fun x => { x with frame := 4, walk := some ⟨0, 5, 300, 2, 299, 0, none⟩ };
    let p : Fin 64 := 1;
    let w : Walk := ⟨0, 5, 300, 2, 299, 0, none⟩;
    ((m.sward p).walk = some w) ∧ (w.dwelt = none) ∧ (w.applied + settleMax p m + 1 ≤ (m.sward p).frame)) ∧
  (let m : Wafer := (onS [(SWD_LDSTAT.FULL_BUSY, 1)]).modSward 1 fun x => { x with frame := 1024, fullSince := some 0 };
    let p : Fin 64 := 1;
    let f : Nat := 0;
    ((m.sward p).fullSince = some f) ∧ (m.on (swd p) SWD_LDSTAT.FULL_BUSY = true) ∧ ((m.sward p).fullEnd = false) ∧ (f + 1024 ≤ (m.sward p).frame)) := by
  decide +kernel

theorem test_witness_LadderBanks_1 :
  (let m : Wafer := Wafer.reset;
    let p : Fin 64 := 1;
    (shadow p m ≠ shFW)) ∧
  (let m : Wafer := onS [(SWD_LDSTAT.SH_STATE, 2)];
    let p : Fin 64 := 1;
    (shadow p m = shFW)) ∧
  (let m : Wafer := onS [(SWD_LDSTAT.SH_STATE, 3), (ladderField 0x3000 63 31, 199)];
    let p : Fin 64 := 1;
    let t : Fin 64 := 63;
    let r : Fin 32 := 31;
    (shadow p m = shCHECK) ∧ (vcode (ladderEntry p 0x3000 t r m) < 200 ∨ 360 < vcode (ladderEntry p 0x3000 t r m) ∨ ladderEntry p 0x3000 t r m / 2 ^ 9 % 2 ^ 6 ≠ 0)) ∧
  (let m : Wafer := onS [(SWD_LDSTAT.SH_STATE, 3), (ladderField 0x3000 0 0, 361)];
    let p : Fin 64 := 1;
    let t : Fin 64 := 0;
    let r : Fin 32 := 0;
    (shadow p m = shCHECK) ∧ (vcode (ladderEntry p 0x3000 t r m) < 200 ∨ 360 < vcode (ladderEntry p 0x3000 t r m) ∨ ladderEntry p 0x3000 t r m / 2 ^ 9 % 2 ^ 6 ≠ 0)) ∧
  (let m : Wafer := onS [(SWD_LDSTAT.SH_STATE, 3), (ladderField 0x3000 63 31, 1)];
    let p : Fin 64 := 1;
    let t : Fin 64 := 63;
    let r : Fin 31 := 30;
    (shadow p m = shCHECK) ∧ (vcode (ladderEntry p 0x3000 t (r.val + 1) m) < vcode (ladderEntry p 0x3000 t r m))) ∧
  (let m : Wafer := onS [(SWD_LDSTAT.SH_STATE, 6), (ladderField 0x2000 63 31, 0x1234)];
    let p : Fin 64 := 1;
    (shadow p m = shCOPY)) := by
  decide +kernel

theorem test_witness_LadderBanks_2 :
  (let m : Wafer := onS [(SWD_LDSTAT.SH_STATE, 2)];
    let p : Fin 64 := 1;
    (m.on (swd p) SWD_LDSTAT.FULL_BUSY = false) ∧ (shadow p m = shBUILD ∨ shadow p m = shFW)) ∧
  (let m : Wafer := Wafer.reset;
    let p : Fin 64 := 1;
    (m.on (swd p) SWD_LDSTAT.FULL_BUSY = true ∨ (shadow p m ≠ shBUILD ∧ shadow p m ≠ shFW))) ∧
  (let m : Wafer := onS [(SWD_LDSTAT.SH_STATE, 5)];
    let p : Fin 64 := 1;
    (m.on (swd p) SWD_LDSTAT.FULL_BUSY = false) ∧ (shadow p m = shBUILD ∨ shadow p m = shFW ∨ shadow p m = shFAIL)) ∧
  (let m : Wafer := Wafer.reset;
    let p : Fin 64 := 1;
    (m.on (swd p) SWD_LDSTAT.FULL_BUSY = false) ∧ (shadow p m = shSYNCED ∨ shadow p m = shBUILD)) ∧
  (let m : Wafer := Wafer.reset;
    let p : Fin 64 := 1;
    (m.on (swd p) SWD_LDSTAT.FULL_BUSY = false) ∧ (shadow p m = shSYNCED) ∧ ((m.sward p).walk = none)) ∧
  (let m : Wafer := onS [(SWD_LDSTAT.FULL_BUSY, 1)];
    let p : Fin 64 := 1;
    (m.on (swd p) SWD_LDSTAT.FULL_BUSY = true ∨ shadow p m ≠ shSYNCED ∨ (m.sward p).walk ≠ none)) := by
  decide +kernel

theorem test_witness_LadderBanks_3 :
  (let m : Wafer := Wafer.reset;
    let p : Fin 64 := 1;
    (m.on (swd p) SWD_LDSTAT.FULL_BUSY = true ∨ (shadow p m ≠ shBUILD ∧ shadow p m ≠ shFW ∧ shadow p m ≠ shFAIL))) ∧
  (let m : Wafer := onS [(SWD_LDSTAT.SH_STATE, 5)];
    let p : Fin 64 := 1;
    (m.on (swd p) SWD_LDSTAT.FULL_BUSY = true ∨ (shadow p m ≠ shSYNCED ∧ shadow p m ≠ shBUILD))) := by
  decide +kernel

theorem test_witness_RungAndPace_1 :
  (let m : Wafer := (onS [(SWD_RUNGSTAT.SEQ, 1), (SWD_LDCFG.SETTLE_MAX, 3)]).modSward 1 fun x => { x with frame := 4 };
    let p : Fin 64 := 1;
    (m.get (swd p) SWD_RUNGSTAT.SEQ = 1) ∧ ((m.sward p).raiseA + settleMax p m + 1 ≤ (m.sward p).frame)) ∧
  (let m : Wafer := Wafer.reset.modSward 1 fun x => { x with raiseBlock := some 0 };
    let p : Fin 64 := 1;
    let f : Nat := 0;
    ((m.sward p).raiseBlock = some f) ∧ (f ≤ (m.sward p).frame)) ∧
  (let m : Wafer := Wafer.reset.modHeath fun h => { h with live := [1] };
    let mode : Bool := true;
    (m.on 0 HTH_PACECTL.MODE ≠ mode)) ∧
  (let m : Wafer := Wafer.reset;
    let mode : Bool := false;
    (m.on 0 HTH_PACECTL.MODE = mode)) ∧
  (let m : Wafer := Wafer.reset.modSward 1 fun x => { x with paceNext := some true };
    let p : Fin 64 := 1;
    let on : Bool := true;
    ((m.sward p).paceNext = some on)) ∧
  (let m : Wafer := (onU [(TSK_CANARY.STR_EN, 1), (TSK_PACE.STR_LIM, 1)]).modUnit tu fun x => { x with strTicks := 801 };
    let g : Fin 4096 := 73;
    let w : Nat := 819200;
    let ticks : Nat := 801;
    (w % 819200 = 0) ∧ ((m.unit (.tussock g)).strWindow < w / 819200) ∧ (ticks = (m.unit (.tussock g)).strTicks + (if m.on (tus g) TSK_STR.ACT = true then w - (m.unit (.tussock g)).strSince else 0))) := by
  decide +kernel

theorem test_witness_RungAndPace_2 :
  (let m : Wafer := (onU [(TSK_STR.ACT, 1)]).modUnit tu fun x => { x with strTicks := 7, strSince := 819190 };
    let g : Fin 4096 := 73;
    let w : Nat := 819200;
    let ticks : Nat := 17;
    (w % 819200 = 0) ∧ ((m.unit (.tussock g)).strWindow < w / 819200) ∧ (ticks = (m.unit (.tussock g)).strTicks + (if m.on (tus g) TSK_STR.ACT = true then w - (m.unit (.tussock g)).strSince else 0))) ∧
  (let g : Fin 4096 := 73;
    let m : Wafer := Wafer.reset;
    let w : Nat := 819201;
    (w % 819200 ≠ 0 ∨ w / 819200 ≤ (m.unit (.tussock g)).strWindow)) := by
  decide +kernel

theorem test_witness_FaultReports :
  (let m : Wafer := (onH [(HTH_FSEV.SEV 33, 3)]).modHeath fun h => { h with active := true };
    let sender : Fin 65 := 64;
    let seq : BitVec 16 := 65535;
    (m.heath.active = true) ∧ (m.heath.fault.seen.contains (sender.val, seq.toNat) = false) ∧ (m.heath.dups.contains (64 + m.heath.activeId) = false)) ∧
  (let m : Wafer := Wafer.reset.modHeath fun h => { h with fault := { h.fault with seen := [(1, 7)] } };
    let sender : Fin 65 := 1;
    let seq : BitVec 16 := 7;
    (m.heath.fault.seen.contains (sender.val, seq.toNat) = true) ∧ (m.heath.dups.contains (64 + m.heath.activeId) = false)) ∧
  (let m : Wafer := Wafer.reset.modHeath fun h => { h with active := true, fault := { h.fault with seen := [(1, 7)] } };
    let p : Fin 64 := 1;
    let seq : BitVec 16 := 7;
    (m.heath.fault.seen.contains (p.val, seq.toNat) = true) ∧ ((m.sward p).passedBy = false) ∧ (m.heath.dups.contains p.val = false) ∧ (m.heath.active = true) ∧ (mirrors m = false ∨ m.heath.mirror.fault.seen.contains (p.val, seq.toNat) = true)) ∧
  (let m : Wafer := (Wafer.reset.modHeath fun h => { h with active := true, fault := { h.fault with seen := [(1, 7)] } }).set 0 HTH_HBSTAT.STBY_OK 1;
    let p : Fin 64 := 1;
    let seq : BitVec 16 := 7;
    (m.on 0 HTH_HBSTAT.STBY_OK = true) ∧ (m.heath.mirror.fault.seen.contains (p.val, seq.toNat) = false) ∧ ((m.sward p).passedBy = false) ∧ (m.heath.dups.contains p.val = false)) ∧
  (let m : Wafer := Wafer.reset.modSward 1 fun x => { x with reports := [⟨7, ⟨33, 0, 0, 0, 0, false⟩, 0, true⟩] };
    let p : Fin 64 := 1;
    let seq : BitVec 16 := 7;
    let r : Report := ⟨7, ⟨33, 0, 0, 0, 0, false⟩, 0, true⟩;
    let rest : List Report := [];
    ((m.sward p).reports = r :: rest) ∧ (r.seq = seq.toNat)) := by
  decide +kernel

theorem test_witness_FaultAcknowledge :
  (let m : Wafer := (Wafer.reset.modHeath fun h => { h with active := true }).setSource 33 { episode := some ⟨⟨33, 0, 0, 0, 0, false⟩, [1], some 5, 3⟩ };
    let c : Fin 64 := 33;
    let ep : Episode := ⟨⟨33, 0, 0, 0, 0, false⟩, [1], some 5, 3⟩;
    let t : Nat := 5;
    let w : Nat := 5;
    ((m.source c).episode = some ep) ∧ (ep.expiry = some t) ∧ (t ≤ w) ∧ (m.heath.active = true)) := by
  decide +kernel

theorem test_witness_FaultRecords_1 :
  (let m : Wafer := (onH [(HTH_FRING_WP.WP, 1021)]).modHeath fun h => { h with fault := { h.fault with fifo := [⟨⟨33, 0, 1, 2, 3, false⟩, 2, false⟩] } };
    let x : FifoEntry := ⟨⟨33, 0, 1, 2, 3, false⟩, 2, false⟩;
    let rest : List FifoEntry := [];
    (m.heath.fault.fifo = x :: rest) ∧ ((m.get 0 HTH_FRING_WP.WP + 2 ^ 32 - m.get 0 HTH_FRING_RP.RP) % 2 ^ 32 < 1022)) ∧
  (let m : Wafer := onH [(HTH_FRING_WP.WP, 9)];
    let data : Word := 10;
    (m.get 0 HTH_FRING_RP.RP < data.toNat) ∧ (data.toNat < m.get 0 HTH_FRING_RP.RP + 2 ^ 31) ∧ (m.get 0 HTH_FRING_RP.RP < m.get 0 HTH_FRING_WP.WP) ∧ (m.on 0 HTH_FRING_STAT.NEWEST = false)) ∧
  (let m : Wafer := onH [(HTH_FRING_WP.WP, 1023), (HTH_FRING_STAT.NEWEST, 1), (HTH_FRING_STAT.FULL, 1)];
    let data : Word := 1;
    (ringAdvance data m ≠ 0) ∧ (m.on 0 HTH_FRING_STAT.NEWEST = true)) ∧
  (let m : Wafer := onH [(HTH_FRING_WP.WP, 9), (HTH_FRING_RP.RP, 9)];
    let data : Word := 10;
    (data.toNat ≤ m.get 0 HTH_FRING_RP.RP ∧ m.get 0 HTH_FRING_RP.RP ≤ data.toNat + 2 ^ 31 ∨ m.get 0 HTH_FRING_WP.WP = m.get 0 HTH_FRING_RP.RP)) ∧
  (let m : Wafer := Wafer.reset;
    (m.on 0 HTH_PINSTAT.TEST_ON = false)) ∧
  (let m : Wafer := onH [(HTH_PINSTAT.TEST_ON, 1)];
    (m.on 0 HTH_PINSTAT.TEST_ON = true)) := by
  decide +kernel

theorem test_witness_FaultRecords_2 :
  (let m : Wafer := onH [(HTH_PINSTAT.TEST_ON, 1)];
    let part : Fin 64 := 1;
    (m.on 0 HTH_PINSTAT.TEST_ON = true) ∧ ((m.sward part).rst = false) ∧ ((m.sward part).reports.length < 32)) ∧
  (let m : Wafer := (onH [(HTH_PINSTAT.TEST_ON, 1)]).modSward 1 fun x => { x with reports := List.replicate 32 ⟨7, ⟨33, 0, 0, 0, 0, false⟩, 0, true⟩ };
    let part : Fin 64 := 1;
    (m.on 0 HTH_PINSTAT.TEST_ON = true) ∧ ((m.sward part).rst = false) ∧ (32 ≤ (m.sward part).reports.length)) ∧
  (let m : Wafer := (onH [(HTH_FRING_WP.WP, 1022)]).modHeath fun h => { h with fault := { h.fault with fifo := [⟨⟨33, 0, 1, 2, 3, false⟩, 2, false⟩] } };
    let x : FifoEntry := ⟨⟨33, 0, 1, 2, 3, false⟩, 2, false⟩;
    let rest : List FifoEntry := [];
    (m.heath.fault.fifo = x :: rest) ∧ ((m.get 0 HTH_FRING_WP.WP + 2 ^ 32 - m.get 0 HTH_FRING_RP.RP) % 2 ^ 32 = 1022)) ∧
  (let m : Wafer := (onH [(HTH_FRING_WP.WP, 1023)]).modHeath fun h => { h with fault := { h.fault with fifo := [⟨⟨33, 0, 1, 2, 3, false⟩, 2, false⟩] } };
    let x : FifoEntry := ⟨⟨33, 0, 1, 2, 3, false⟩, 2, false⟩;
    let rest : List FifoEntry := [];
    (m.heath.fault.fifo = x :: rest) ∧ ((m.get 0 HTH_FRING_WP.WP + 2 ^ 32 - m.get 0 HTH_FRING_RP.RP) % 2 ^ 32 = 1023)) := by
  decide +kernel

theorem test_witness_CapInForce :
  (let m : Wafer := Wafer.reset;
    let k : Fin 8 := 7;
    let data : Word := 0;
    (ascending (derateTable (plainWrite (0x10040 + 4 * k.val) data m)) = false)) ∧
  (let m : Wafer := Wafer.reset;
    let k : Fin 8 := 7;
    let data : Word := 0xFFFFFFFF;
    (ascending (derateTable (plainWrite (0x10040 + 4 * k.val) data m)) = true)) := by
  decide +kernel

theorem test_witness_LinksAndLeases_1 :
  (let m : Wafer := Wafer.reset;
    let p : Fin 64 := 1;
    let k : Fin 4 := 3;
    let v : Fin 4 := 2;
    (isEdge p = true) ∧ (Store.get zeroNat (m.sward p).lnkRaw k ≠ v.val)) ∧
  (let m : Wafer := Wafer.reset.modSward 1 fun x => { x with lnkRaw := [(3, 2)], lnkSince := [(3, some 5)] };
    let p : Fin 64 := 1;
    let k : Fin 4 := 3;
    let s : Nat := 5;
    let w : Nat := 805;
    (Store.get noNat (m.sward p).lnkSince k = some s) ∧ (s + 800 ≤ w) ∧ ((m.sward p).rst = false) ∧ (Store.get zeroNat (m.sward p).lnkRaw k < 4) ∧ (Store.get zeroNat (m.sward p).lnkRaw k ≠ m.get (swd p) (lnkField k))) ∧
  (let m : Wafer := onS [(SWD_DOMSTAT.TRAIN, 1)];
    let p : Fin 64 := 1;
    (m.on (swd p) SWD_DOMSTAT.TRAIN = true)) ∧
  (let m : Wafer := Wafer.reset.modHeath fun h => { h with live := [1, 2], active := true, bringUp := 9 };
    (m.heath.active = true) ∧ (9 ≤ m.heath.bringUp)) ∧
  (let m : Wafer := Wafer.reset;
    let p : Fin 64 := 1;
    let seq : BitVec 16 := 1;
    let issue : Word := 5;
    let dur : BitVec 8 := 1;
    let w : Nat := 800004;
    ((m.sward p).rst = false) ∧ (dur ≠ 0) ∧ (m.on (swd p) SWD_LEASE.FIRST = false ∨ newer16 seq.toNat (m.get (swd p) SWD_LEASE.SEQ) = true) ∧ (((max m.wtime w : Nat) : Int) < extendIssue (max m.wtime w) issue.toNat + 800000 * (dur.toNat : Int)) ∧ ((m.sward p).passedBy = false) ∧ (m.heath.dups.contains p.val = false)) ∧
  (let m : Wafer := Wafer.reset;
    let p : Fin 64 := 1;
    let seq : BitVec 16 := 1;
    let issue : Word := 5;
    let dur : BitVec 8 := 1;
    let w : Nat := 800005;
    ((m.sward p).rst = false) ∧ (dur = 0 ∨ (m.on (swd p) SWD_LEASE.FIRST = true ∧ newer16 seq.toNat (m.get (swd p) SWD_LEASE.SEQ) = false) ∨ extendIssue (max m.wtime w) issue.toNat + 800000 * (dur.toNat : Int) ≤ ((max m.wtime w : Nat) : Int)) ∧ ((m.sward p).passedBy = false) ∧ (m.heath.dups.contains p.val = false)) := by
  decide +kernel

theorem test_witness_LinksAndLeases_2 :
  (let m : Wafer := Wafer.reset.modSward 1 fun x => { x with bypass := true };
    let p : Fin 64 := 1;
    ((m.sward p).rst = true ∨ (m.sward p).passedBy = true) ∧ (m.heath.dups.contains p.val = false)) ∧
  (let m : Wafer := (onS [(SWD_LEASE.EXPIRED, 0), (SWD_LFLR.FLOOR, 7), (SWD_LBUD.BUDGET, 9)]).modSward 1 fun x => { x with lease := some ⟨1, 1, 0, 9, 7⟩ };
    let p : Fin 64 := 1;
    let l : LeaseRec := ⟨1, 1, 0, 9, 7⟩;
    let w : Nat := 800000;
    ((m.sward p).lease = some l) ∧ (l.issue + 800000 * l.dur ≤ w) ∧ ((m.sward p).leasePend = none) ∧ (m.on (swd p) SWD_LEASE.EXPIRED = false)) := by
  decide +kernel

theorem test_witness_EpochsAndBrakes_1 :
  (let m : Wafer := Wafer.reset.modHeath fun h => { h with live := [1, 2], active := true, epochFrom := some 4 };
    let e : Nat := 4;
    let mask : BitVec 64 := 6;
    (m.heath.active = true) ∧ (epochOpen e m = true) ∧ (∀ p ∈ liveParts m, mask.toNat.testBit p = true)) ∧
  (let m : Wafer := Wafer.reset.modHeath fun h => { h with live := [1, 2], active := true, epochFrom := some 4 };
    let e : Nat := 4;
    let mask : BitVec 64 := 4;
    let p : Fin 64 := 1;
    (m.heath.active = true) ∧ (epochOpen e m = true) ∧ (partLive p m = true) ∧ (mask.toNat.testBit p = false)) ∧
  (let m : Wafer := Wafer.reset.modHeath fun h => { h with active := true, epochFrom := some 4, epochLast := some 4 };
    let e : Nat := 4;
    let f : Nat := 4;
    (m.heath.active = true) ∧ (m.heath.epochFrom = some f) ∧ (f ≤ e) ∧ (epochOpen e m = false)) ∧
  (let m : Wafer := (onH [(HTH_PLEASE.LEASE 1, 500)]).modHeath fun h => { h with live := [1, 2], active := true, epochFrom := some 0 };
    let e : Nat := 0;
    let w : Nat := 19200;
    (m.heath.active = true) ∧ (epochOpen e m = true) ∧ (12800 * (e + 1) + 6400 ≤ w) ∧ (m.heath.epochGot = none)) ∧
  (let m : Wafer := (onH [(HTH_PLEASE.LEASE 1, 500)]).modHeath fun h => { h with live := [1, 2], active := true, epochFrom := some 0, epochGot := some (0, 7, 4) };
    let e : Nat := 0;
    let s : Nat := 7;
    let k : Nat := 4;
    let w : Nat := 19200;
    let p : Fin 64 := 1;
    (m.heath.active = true) ∧ (epochOpen e m = true) ∧ (12800 * (e + 1) + 6400 ≤ w) ∧ (m.heath.epochGot = some (e, s, k)) ∧ (partLive p m = true) ∧ (k.testBit p = false)) ∧
  (let m : Wafer := Wafer.reset;
    let p : Fin 64 := 1;
    ((m.sward p).rst = false) ∧ ((m.sward p).passedBy = false) ∧ (m.heath.dups.contains p.val = false)) := by
  decide +kernel

theorem test_witness_EpochsAndBrakes_2 :
  (let m : Wafer := onS [(SWD_BRAKE.BRK_LIM, 30), (SWD_BRAKE.BRK_HELD, 1)];
    let p : Fin 64 := 1;
    ((m.sward p).rst = false) ∧ ((m.sward p).passedBy = false) ∧ (m.heath.dups.contains p.val = false)) ∧
  (let m : Wafer := onS [(SWD_BRAKE.BRK_LIM, 30), (SWD_BRAKE.BRK_HELD, 1)];
    let p : Fin 64 := 1;
    ((m.sward p).rst = false) ∧ ((m.sward p).passedBy = false) ∧ (m.heath.dups.contains p.val = false)) ∧
  (let m : Wafer := Wafer.reset.modHeath fun h => { h with dups := [1] };
    let p : Fin 64 := 1;
    ((m.sward p).passedBy = false) ∧ (m.heath.dups.contains p.val = true)) ∧
  (let m : Wafer := Wafer.reset;
    let p : Fin 64 := 1;
    (m.heath.dups.contains (64 + m.heath.activeId) = false)) := by
  decide +kernel

theorem test_witness_SwathTables :
  (let m : Wafer := Wafer.reset.modSward 1 fun x => { x with frame := 16, swath := [(0, 0x10000), (255, 0x20000)] };
    let p : Fin 64 := 1;
    let c : Nat := 0;
    let e : Nat := 0;
    (m.get (swd p) SWD_CTXSTAT.CUR = c) ∧ (m.get (swd p) SWD_SWSTAT.PTR = e) ∧ (0 < swathDur p c e m) ∧ (swathDur p c e m < 2047) ∧ ((m.sward p).swathSince + 16 * swathDur p c e m ≤ (m.sward p).frame)) ∧
  (let m : Wafer := Wafer.reset.modSward 1 fun x => { x with frame := 15, swath := [(0, 0x10000), (255, 0x20000)] };
    let p : Fin 64 := 1;
    let c : Nat := 0;
    let e : Nat := 0;
    (m.get (swd p) SWD_CTXSTAT.CUR = c) ∧ (m.get (swd p) SWD_SWSTAT.PTR = e) ∧ (swathDur p c e m = 0 ∨ swathDur p c e m = 2047 ∨ (m.sward p).frame < (m.sward p).swathSince + 16 * swathDur p c e m)) := by
  decide +kernel

theorem test_witness_CommonsMember_1 :
  (let m : Wafer := Wafer.reset;
    let on : Bool := true;
    (m.on 0 HTH_CMNCFG.EN ≠ on)) ∧
  (let m : Wafer := (onH [(HTH_CMNCFG.EN, 1)]).modHeath fun h => { h with active := true };
    (m.heath.active = true) ∧ (takesPart m = true) ∧ (m.heath.commons.frames = []) ∧ (0 < freeBuffers m)) ∧
  (let m : Wafer := (onH [(HTH_CMNCFG.EN, 1)]).modHeath fun h => { h with active := true, commons := { h.commons with bufHeld := 63 } };
    (m.heath.active = true) ∧ (takesPart m = true) ∧ (freeBuffers m = 0)) ∧
  (let m : Wafer := Wafer.reset.modHeath fun h => { h with active := true };
    (m.heath.active = true) ∧ (takesPart m = false)) ∧
  (let m : Wafer := onH [(HTH_CMNCFG.EN, 1), (HTH_CMNCFG.N, 4), (HTH_CMNCAP.GROUP_CAP, 20000), (HTH_CMNSTAT.COORD_ID, 2)];
    let src : Fin 64 := 2;
    let cap : Word := 20000;
    let k : BitVec 8 := 4;
    let seq : BitVec 16 := 7;
    (takesPart m = true) ∧ ((match (m.member src).seqGrant with | some s => newer16 seq.toNat s | none => true) = true) ∧ (m.get 0 HTH_CMNSTAT.COORD_ID = src.val) ∧ (m.get 0 HTH_CMNCAP.GROUP_CAP = cap.toNat) ∧ (m.get 0 HTH_CMNCFG.N = k.toNat)) ∧
  (let m : Wafer := onH [(HTH_CMNCFG.EN, 1), (HTH_CMNCFG.N, 4), (HTH_CMNCAP.GROUP_CAP, 20000), (HTH_CMNSTAT.COORD_ID, 2)];
    let src : Fin 64 := 2;
    let cap : Word := 20001;
    let k : BitVec 8 := 4;
    let seq : BitVec 16 := 7;
    (takesPart m = true) ∧ ((match (m.member src).seqGrant with | some s => newer16 seq.toNat s | none => true) = true) ∧ (m.get 0 HTH_CMNSTAT.COORD_ID = src.val) ∧ (m.get 0 HTH_CMNCAP.GROUP_CAP ≠ cap.toNat ∨ m.get 0 HTH_CMNCFG.N ≠ k.toNat)) := by
  decide +kernel

theorem test_witness_CommonsMember_2 :
  (let m : Wafer := onH [(HTH_CMNCFG.EN, 1), (HTH_CMNCFG.N, 4), (HTH_CMNCAP.GROUP_CAP, 20000), (HTH_CMNSTAT.COORD_ID, 2)];
    let src : Fin 64 := 3;
    let seq : BitVec 16 := 7;
    (takesPart m = true) ∧ ((match (m.member src).seqGrant with | some s => newer16 seq.toNat s | none => true) = true) ∧ (m.get 0 HTH_CMNSTAT.COORD_ID ≠ src.val)) ∧
  (let m : Wafer := Wafer.reset;
    let src : Fin 64 := 2;
    let seq : BitVec 16 := 7;
    (takesPart m = false ∨ (match (m.member src).seqGrant with | some s => newer16 seq.toNat s | none => true) = false)) ∧
  (let m : Wafer := (onH [(HTH_CMNCFG.EN, 1)]).modHeath fun h => { h with active := true };
    let bytes : List (BitVec 8) := List.replicate 31 0;
    (m.heath.active = true) ∧ (m.on 0 HTH_CMNCFG.EN = true) ∧ (bytes.length ≠ 32)) ∧
  (let m : Wafer := (onH [(HTH_CMNCFG.EN, 1), (HTH_CMNCFG.N, 4)]).modHeath fun h => { h with active := true };
    let bytes : List (BitVec 8) := [0, 0, 1, 3, 255, 0, 0, 9] ++ List.replicate 20 0 ++ (bytesMsb 4 (crc32 ([0, 0, 1, 3, 255, 0, 0, 9] ++ List.replicate 20 0))).map (BitVec.ofNat 8);
    let src : Fin 64 := 3;
    let s : BitVec 16 := 9;
    (m.heath.active = true) ∧ (m.on 0 HTH_CMNCFG.EN = true) ∧ (bytes.length = 32) ∧ ((bytes.drop 28).map BitVec.toNat = bytesMsb 4 (crc32 ((bytes.take 28).map BitVec.toNat))) ∧ ((bytes.take 2).map BitVec.toNat = bytesMsb 2 (m.get 0 HTH_CMNCFG.GROUP)) ∧ (((bytes.drop 2).take 2).map BitVec.toNat = [1, src.val]) ∧ (src.val < cmnN m) ∧ (src.val ≠ cmnId m) ∧ (((bytes.drop 6).take 2).map BitVec.toNat = bytesMsb 2 s.toNat) ∧ ((match (m.member src).seqReport with | some r => newer16 s.toNat r | none => true) = true)) ∧
  (let m : Wafer := (onH [(HTH_CMNCFG.EN, 1), (HTH_CMNCFG.N, 4), (HTH_CMNCFG.ID, 3)]).modHeath fun h => { h with active := true };
    let bytes : List (BitVec 8) := [0, 0, 1, 3, 255, 0, 0, 9] ++ List.replicate 20 0 ++ (bytesMsb 4 (crc32 ([0, 0, 1, 3, 255, 0, 0, 9] ++ List.replicate 20 0))).map (BitVec.ofNat 8);
    let src : Fin 64 := 3;
    let s : BitVec 16 := 9;
    (m.heath.active = true) ∧ (m.on 0 HTH_CMNCFG.EN = true) ∧ (bytes.length = 32) ∧ ((bytes.drop 28).map BitVec.toNat = bytesMsb 4 (crc32 ((bytes.take 28).map BitVec.toNat))) ∧ ((bytes.take 2).map BitVec.toNat = bytesMsb 2 (m.get 0 HTH_CMNCFG.GROUP)) ∧ (((bytes.drop 2).take 2).map BitVec.toNat = [1, src.val]) ∧ (src.val < cmnN m) ∧ (cmnId m = src.val) ∧ (((bytes.drop 6).take 2).map BitVec.toNat = bytesMsb 2 s.toNat) ∧ ((match (m.member src).seqReport with | some r => newer16 s.toNat r | none => true) = true) ∧ (m.on 0 HTH_CMNSTAT.DUP_ID = false)) ∧
  (let m : Wafer := Wafer.reset.modMember 3 fun x => { x with heard := some 5 };
    let i : Fin 64 := 3;
    let t : Nat := 5;
    let w : Nat := 2400005;
    ((m.member i).heard = some t) ∧ (t + 2400000 ≤ w)) := by
  decide +kernel

theorem test_witness_CommonsMember_3 :
  (let m : Wafer := (onH [(HTH_CMNCFG.EN, 1), (HTH_CMNCFG.N, 2), (HTH_CMNSTAT.COORD, 1)]).modHeath fun h => { h with active := true };
    (m.heath.active = true) ∧ (m.on 0 HTH_CMNSTAT.COORD = true) ∧ (takesPart m = true)) ∧
  (let m : Wafer := Wafer.reset.modHeath fun h => { h with commons := { h.commons with grant := some (7, 5) } };
    let g : Nat := 7;
    let t : Nat := 5;
    let w : Nat := 5;
    (m.heath.commons.grant = some (g, t)) ∧ (t ≤ w)) := by
  decide +kernel

theorem test_witness_MainsTracking_1 :
  (let m : Wafer := Wafer.reset.modHeath fun h => { h with active := true };
    let w : Nat := 20000000;
    (m.heath.active = true) ∧ (m.on 0 MTR_STAT.FREE = false) ∧ (m.heath.meter.lastEdge.getD m.heath.meter.since + 20000000 ≤ w)) ∧
  (let m : Wafer := Wafer.reset.modHeath fun h => { h with active := true };
    let w : Nat := 19999999;
    (m.heath.active = true) ∧ (w < m.heath.meter.lastEdge.getD m.heath.meter.since + 20000000)) ∧
  (let m : Wafer := Wafer.reset.modHeath fun h => { h with active := true, meter := { h.meter with lastEdge := some 0 } };
    let rising : Bool := true;
    let t : Nat := 0;
    let w : Nat := 18000001;
    (m.heath.active = true) ∧ (rising ≠ m.on 0 MTR_CFG.EDGE) ∧ (m.on 0 MTR_STAT.FREE = false) ∧ (m.heath.meter.lastEdge = some t) ∧ (t + 18000000 < w) ∧ (w ≤ t + 20000000)) ∧
  (let m : Wafer := Wafer.reset.modHeath fun h => { h with active := true, meter := { h.meter with lastEdge := some 0 } };
    let rising : Bool := true;
    let t : Nat := 0;
    let w : Nat := 20000000;
    (m.heath.active = true) ∧ (rising ≠ m.on 0 MTR_CFG.EDGE) ∧ (m.on 0 MTR_STAT.FREE = false) ∧ (m.heath.meter.lastEdge = some t) ∧ (t + 18000000 < w) ∧ (w ≤ t + 20000000)) ∧
  (let m : Wafer := Wafer.reset.modHeath fun h => { h with active := true, meter := { h.meter with lastEdge := some 0 } };
    let rising : Bool := true;
    let t : Nat := 0;
    let w : Nat := 20000001;
    (m.heath.active = true) ∧ (rising ≠ m.on 0 MTR_CFG.EDGE) ∧ (m.on 0 MTR_STAT.FREE = false) ∧ (m.heath.meter.lastEdge = some t) ∧ (t + 20000000 < w)) ∧
  (let m : Wafer := onH [(MTR_STAT.FREE, 1)] (Wafer.reset.modHeath fun h => { h with active := true });
    let rising : Bool := true;
    let w : Nat := 5;
    (m.heath.active = true) ∧ (rising ≠ m.on 0 MTR_CFG.EDGE) ∧ (m.on 0 MTR_STAT.FREE = true ∨ m.heath.meter.lastEdge = none)) := by
  decide +kernel

theorem test_witness_MainsTracking_2 :
  (let m : Wafer := Wafer.reset.modHeath fun h => { h with active := true };
    let rising : Bool := true;
    let w : Nat := 5;
    (m.heath.active = true) ∧ (rising ≠ m.on 0 MTR_CFG.EDGE) ∧ (m.on 0 MTR_STAT.FREE = true ∨ m.heath.meter.lastEdge = none)) ∧
  (let m : Wafer := Wafer.reset;
    let rising : Bool := true;
    let w : Nat := 5;
    (m.heath.active = false ∨ rising = m.on 0 MTR_CFG.EDGE)) ∧
  (let m : Wafer := onH [(MTR_STAT.FREE, 1), (MTR_CFG.FREE_PERIOD, 20)] (Wafer.reset.modHeath fun h => { h with active := true });
    let w : Nat := 15999999;
    (m.heath.active = false ∨ m.on 0 MTR_STAT.FREE = false ∨ w < m.heath.meter.lastStart + 800000 * freePeriod m)) ∧
  (let m : Wafer := Wafer.reset.modHeath fun h => { h with active := true, meter := { h.meter with lastEdge := some 0 } };
    let rising : Bool := true;
    let t : Nat := 0;
    let w : Nat := 12000000;
    (m.heath.active = true) ∧ (rising ≠ m.on 0 MTR_CFG.EDGE) ∧ (m.on 0 MTR_STAT.FREE = false) ∧ (m.heath.meter.lastEdge = some t) ∧ (t + 12000000 ≤ w) ∧ (w ≤ t + 18000000)) ∧
  (let m : Wafer := Wafer.reset.modHeath fun h => { h with active := true, meter := { h.meter with lastEdge := some 0 } };
    let rising : Bool := true;
    let t : Nat := 0;
    let w : Nat := 18000000;
    (m.heath.active = true) ∧ (rising ≠ m.on 0 MTR_CFG.EDGE) ∧ (m.on 0 MTR_STAT.FREE = false) ∧ (m.heath.meter.lastEdge = some t) ∧ (t + 12000000 ≤ w) ∧ (w ≤ t + 18000000)) ∧
  (let m : Wafer := Wafer.reset.modHeath fun h => { h with active := true, meter := { h.meter with lastEdge := some 0 } };
    let rising : Bool := true;
    let t : Nat := 0;
    let w : Nat := 11999999;
    (m.heath.active = true) ∧ (rising ≠ m.on 0 MTR_CFG.EDGE) ∧ (m.on 0 MTR_STAT.FREE = false) ∧ (m.heath.meter.lastEdge = some t) ∧ (w < t + 12000000)) := by
  decide +kernel

theorem test_witness_MainsTracking_3 :
  (let m : Wafer := (onH [(MTR_STAT.FREE, 1), (MTR_CFG.FREE_PERIOD, 20)]).modHeath fun h => { h with active := true };
    let w : Nat := 16000000;
    (m.heath.active = true) ∧ (m.on 0 MTR_STAT.FREE = true) ∧ (m.heath.meter.lastStart + 800000 * freePeriod m ≤ w)) := by
  decide +kernel

theorem test_witness_MeterResults_1 :
  (let m : Wafer := Wafer.reset.modHeath fun h => { h with active := true, meter := { h.meter with conv3 := { ended := some ⟨43, 2, 1, .entry, false, 4, false, false, false⟩ } } };
    let c : Fin 4 := 3;
    let v : Int := 1249999999;
    let k : Conv := ⟨43, 2, 1, .entry, false, 4, false, false, false⟩;
    (m.heath.active = true) ∧ ((m.heath.meter.conv c).ended = some k) ∧ (k.kind = .entry ∨ k.kind = .urgent) ∧ (k.pulled = false) ∧ (k.ch < 44) ∧ (k.entry < 32) ∧ (m.heath.meter.openCh.contains k.ch = false)) ∧
  (let m : Wafer := Wafer.reset.modHeath fun h => { h with active := true, meter := { h.meter with conv3 := { ended := some ⟨0, 31, 1, .urgent, false, 4, false, false, false⟩ } } };
    let c : Fin 4 := 3;
    let v : Int := -1;
    let k : Conv := ⟨0, 31, 1, .urgent, false, 4, false, false, false⟩;
    (m.heath.active = true) ∧ ((m.heath.meter.conv c).ended = some k) ∧ (k.kind = .entry ∨ k.kind = .urgent) ∧ (k.pulled = false) ∧ (k.ch < 44) ∧ (k.entry < 32) ∧ (m.heath.meter.openCh.contains k.ch = false)) ∧
  (let m : Wafer := Wafer.reset.modHeath fun h => { h with active := true, meter := { h.meter with conv3 := { ended := some ⟨39, 2, 1, .entry, true, 4, false, true, false⟩ } } };
    let c : Fin 4 := 3;
    let k : Conv := ⟨39, 2, 1, .entry, true, 4, false, true, false⟩;
    (m.heath.active = true) ∧ ((m.heath.meter.conv c).ended = some k) ∧ (k.kind = .entry ∨ k.kind = .urgent) ∧ (k.pulled = true) ∧ (k.ch < 44) ∧ (k.entry < 32)) ∧
  (let m : Wafer := onH [(MTR_WLO.LO 3 31, 1), (MTR_WHI.HI 3 31, 1)] (Wafer.reset.modHeath fun h => { h with active := true, meter := { h.meter with conv3 := { ended := some ⟨39, 31, 1, .entry, true, 4, false, false, false⟩ } } });
    let c : Fin 4 := 3;
    let v : Int := 0;
    let k : Conv := ⟨39, 31, 1, .entry, true, 4, false, false, false⟩;
    (m.heath.active = true) ∧ ((m.heath.meter.conv c).ended = some k) ∧ (k.kind = .entry) ∧ (k.win = true) ∧ (k.pulled = false) ∧ (k.ch < 44) ∧ (k.entry < 32) ∧ ((m.heath.meter.conv c).outside.contains k.entry = false) ∧ (m.getI 0 (MTR_WLO.LO c k.entry) ≤ m.getI 0 (MTR_WHI.HI c k.entry)) ∧ (channelValue k.ch (resultCode v) m < m.getI 0 (MTR_WLO.LO c k.entry) ∨ m.getI 0 (MTR_WHI.HI c k.entry) < channelValue k.ch (resultCode v) m)) ∧
  (let m : Wafer := onH [(MTR_FEEDCFG.FEN, 3), (MTR_CALZ.VALID 1, 1), (MTR_CALZ.VALID 17, 1), (MTR_CALG.GAIN 17, 16777216)] (Wafer.reset.modHeath fun h => { h with active := true, meter := { h.meter with results := [⟨1, 4, 0, 3000000, false⟩], conv3 := { ended := some ⟨17, 2, 1, .entry, false, 4, false, false, false⟩ } } });
    let c : Fin 4 := 3;
    let v : Int := 1249999999;
    let k : Conv := ⟨17, 2, 1, .entry, false, 4, false, false, false⟩;
    let i : Fin 16 := 1;
    let x : MeterResult := ⟨1, 4, 0, 3000000, false⟩;
    (m.heath.active = true) ∧ ((m.heath.meter.conv c).ended = some k) ∧ (k.kind = .entry ∨ k.kind = .urgent) ∧ (k.pulled = false) ∧ (k.second = false) ∧ (k.ch = 16 + i.val) ∧ (k.entry < 32) ∧ (m.heath.meter.openCh.contains k.ch = false) ∧ (resultOf m.heath.meter.results i k.start = some x) ∧ (resultOf m.heath.meter.results (16 + i.val) k.start = none) ∧ ((m.get 0 MTR_FEEDCFG.FEN).testBit i = true) ∧ (m.on 0 (MTR_CALZ.VALID i) = true) ∧ (m.on 0 (MTR_CALZ.VALID (16 + i.val)) = true) ∧ (-(2 ^ 31) ≤ roundDiv (x.value * channelValue k.ch (resultCode v) m) 1000000) ∧ (roundDiv (x.value * channelValue k.ch (resultCode v) m) 1000000 < 2 ^ 31)) ∧
  (let m : Wafer := Wafer.reset.modHeath fun h => { h with active := true, meter := { h.meter with conv3 := { ended := some ⟨39, 2, 0, .pullUp, false, 4, false, false, false⟩ } } };
    let c : Fin 4 := 3;
    let k : Conv := ⟨39, 2, 0, .pullUp, false, 4, false, false, false⟩;
    (m.heath.active = true) ∧ ((m.heath.meter.conv c).ended = some k) ∧ (k.kind = .pullUp)) := by
  decide +kernel

theorem test_witness_MeterResults_2 :
  (let m : Wafer := Wafer.reset.modHeath fun h => { h with active := true, meter := { h.meter with conv3 := { upCode := some 16777215, ended := some ⟨39, 2, 0, .pullDown, false, 4, false, false, false⟩ } } };
    let c : Fin 4 := 3;
    let v : Int := 0;
    let k : Conv := ⟨39, 2, 0, .pullDown, false, 4, false, false, false⟩;
    let up : Nat := 16777215;
    (m.heath.active = true) ∧ ((m.heath.meter.conv c).ended = some k) ∧ (k.kind = .pullDown) ∧ ((m.heath.meter.conv c).upCode = some up) ∧ (k.ch < 40)) ∧
  (let m : Wafer := Wafer.reset.modHeath fun h => { h with active := true, meter := { h.meter with cal := some ⟨true, 39, 3, 7, 16, 15, 160, false⟩, conv3 := { ended := some ⟨39, 0, 0, .cal, false, 4, false, false, false⟩ } } };
    let c : Fin 4 := 3;
    let v : Int := 0;
    let k : Conv := ⟨39, 0, 0, .cal, false, 4, false, false, false⟩;
    let r : CalRun := ⟨true, 39, 3, 7, 16, 15, 160, false⟩;
    (m.heath.active = true) ∧ ((m.heath.meter.conv c).ended = some k) ∧ (k.kind = .cal) ∧ (m.heath.meter.cal = some r)) ∧
  (let m : Wafer := Wafer.reset.modHeath fun h => { h with meter := { h.meter with roundFrom := some (0, 1), starts := 256 } };
    ((m.heath.meter.roundFrom.all fun e => decide (m.heath.meter.starts < e.2 + 256)) = true)) ∧
  (let m : Wafer := (onH [(MTR_CFG.RUN, 1), (MTR_FEEDCFG.FEN, 1)]).modHeath fun h => { h with active := true, meter := { h.meter with roundFrom := some (0, 0), starts := 256, roundFeeds := [3] } };
    let t : Nat := 0;
    let s : Nat := 0;
    (m.heath.meter.roundFrom = some (t, s)) ∧ (s + 256 ≤ m.heath.meter.starts) ∧ (m.on 0 MTR_CFG.RUN = true) ∧ (m.get 0 MTR_FEEDCFG.FEN ≠ 0)) ∧
  (let m : Wafer := onH [(MTR_CFG.RUN, 0)];
    (m.on 0 MTR_CFG.RUN = false)) ∧
  (let m : Wafer := onH [(MTR_CFG.RUN, 1)];
    (m.on 0 MTR_CFG.RUN = true)) := by
  decide +kernel

theorem test_witness_MeterResults_3 :
  (let m : Wafer := Wafer.reset.modHeath fun h => { h with meter := { h.meter with cal := some ⟨true, 39, 2, 7, 16, 15, 160, false⟩ } };
    let c : Fin 4 := 3;
    let ch : Fin 64 := 43;
    (ch < 44) ∧ ((m.heath.meter.conv c).urgent = none) ∧ ((m.heath.meter.cal.all fun r => r.conv != c.val) = true)) ∧
  (let m : Wafer := Wafer.reset;
    let c : Fin 4 := 3;
    let ch : Fin 64 := 44;
    (44 ≤ ch ∨ (m.heath.meter.conv c).urgent.isSome = true ∨ (m.heath.meter.cal.any fun r => r.conv == c.val) = true)) ∧
  (let m : Wafer := Wafer.reset.modHeath fun h => { h with meter := { h.meter with cal := some ⟨true, 39, 3, 7, 16, 15, 160, false⟩ } };
    let c : Fin 4 := 3;
    let ch : Fin 64 := 43;
    (44 ≤ ch ∨ (m.heath.meter.conv c).urgent.isSome = true ∨ (m.heath.meter.cal.any fun r => r.conv == c.val) = true)) := by
  decide +kernel

theorem test_witness_MeterCalibration_1 :
  (let m : Wafer := Wafer.reset;
    let ch : Fin 64 := 39;
    (ch < 40) ∧ (m.heath.meter.cal = none) ∧ (m.on 0 MTR_STAT.FREE = false)) ∧
  (let m : Wafer := Wafer.reset;
    let ch : Fin 64 := 39;
    (ch < 40) ∧ (m.heath.meter.cal = none) ∧ (m.on 0 MTR_STAT.FREE = false)) ∧
  (let m : Wafer := Wafer.reset;
    let ch : Fin 64 := 40;
    (40 ≤ ch ∨ m.heath.meter.cal.isSome = true ∨ m.on 0 MTR_STAT.FREE = true)) ∧
  (let m : Wafer := Wafer.reset.modHeath fun h => { h with meter := { h.meter with cal := some ⟨true, 39, 3, 7, 16, 16, 160, false⟩ } };
    let r : CalRun := ⟨true, 39, 3, 7, 16, 16, 160, false⟩;
    (m.heath.meter.cal = some r) ∧ (16 ≤ r.done) ∧ (r.zero = true) ∧ (r.bad = false)) ∧
  (let m : Wafer := Wafer.reset.modHeath fun h => { h with meter := { h.meter with cal := some ⟨false, 39, 3, 1000, 16, 16, 16 * 65540, false⟩, calZero := some (39, 4, 0) } };
    let r : CalRun := ⟨false, 39, 3, 1000, 16, 16, 16 * 65540, false⟩;
    let z : Nat × Int := (4, 0);
    (m.heath.meter.cal = some r) ∧ (16 ≤ r.done) ∧ (r.zero = false) ∧ (r.bad = false) ∧ (r.ch < 40) ∧ (((m.heath.meter.calZero.filter fun e => e.1 == r.ch).map fun e => e.2).getD (m.get 0 (MTR_CALZ.CODE_Z r.ch), m.getI 0 (MTR_CALRZ.REF_Z r.ch)) = z) ∧ (z.1 < 2 ^ 24) ∧ (-(2 ^ 31) ≤ z.2) ∧ (z.2 < 2 ^ 31) ∧ (65536 ≤ ((roundDiv r.sum 16).toNat : Int) - (z.1 : Int) ∨ ((roundDiv r.sum 16).toNat : Int) - (z.1 : Int) ≤ -65536) ∧ (-(2 ^ 31) ≤ calGain (r.ref - z.2) (((roundDiv r.sum 16).toNat : Int) - z.1)) ∧ (calGain (r.ref - z.2) (((roundDiv r.sum 16).toNat : Int) - z.1) < 2 ^ 31)) ∧
  (let m : Wafer := Wafer.reset.modHeath fun h => { h with meter := { h.meter with cal := some ⟨false, 39, 3, 1000, 16, 16, 16 * 4, false⟩, calZero := some (39, 65540, 0) } };
    let r : CalRun := ⟨false, 39, 3, 1000, 16, 16, 16 * 4, false⟩;
    let z : Nat × Int := (65540, 0);
    (m.heath.meter.cal = some r) ∧ (16 ≤ r.done) ∧ (r.zero = false) ∧ (r.bad = false) ∧ (r.ch < 40) ∧ (((m.heath.meter.calZero.filter fun e => e.1 == r.ch).map fun e => e.2).getD (m.get 0 (MTR_CALZ.CODE_Z r.ch), m.getI 0 (MTR_CALRZ.REF_Z r.ch)) = z) ∧ (z.1 < 2 ^ 24) ∧ (-(2 ^ 31) ≤ z.2) ∧ (z.2 < 2 ^ 31) ∧ (65536 ≤ ((roundDiv r.sum 16).toNat : Int) - (z.1 : Int) ∨ ((roundDiv r.sum 16).toNat : Int) - (z.1 : Int) ≤ -65536) ∧ (-(2 ^ 31) ≤ calGain (r.ref - z.2) (((roundDiv r.sum 16).toNat : Int) - z.1)) ∧ (calGain (r.ref - z.2) (((roundDiv r.sum 16).toNat : Int) - z.1) < 2 ^ 31)) := by
  decide +kernel

theorem test_witness_MeterCalibration_2 :
  (let m : Wafer := Wafer.reset.modHeath fun h => { h with meter := { h.meter with cal := some ⟨false, 39, 3, 1000, 16, 16, 16 * 65539, false⟩, calZero := some (39, 4, 0) } };
    let r : CalRun := ⟨false, 39, 3, 1000, 16, 16, 16 * 65539, false⟩;
    let z : Nat × Int := (4, 0);
    (m.heath.meter.cal = some r) ∧ (16 ≤ r.done) ∧ (r.zero = false) ∧ (((m.heath.meter.calZero.filter fun e => e.1 == r.ch).map fun e => e.2).getD (m.get 0 (MTR_CALZ.CODE_Z r.ch), m.getI 0 (MTR_CALRZ.REF_Z r.ch)) = z) ∧ (r.bad = true ∨ (-65536 < ((roundDiv r.sum 16).toNat : Int) - (z.1 : Int) ∧ ((roundDiv r.sum 16).toNat : Int) - (z.1 : Int) < 65536) ∨ calGain (r.ref - z.2) (((roundDiv r.sum 16).toNat : Int) - z.1) < -(2 ^ 31) ∨ 2 ^ 31 ≤ calGain (r.ref - z.2) (((roundDiv r.sum 16).toNat : Int) - z.1))) ∧
  (let m : Wafer := Wafer.reset.modHeath fun h => { h with meter := { h.meter with cal := some ⟨true, 39, 3, 7, 16, 15, 160, false⟩ } };
    ((m.heath.meter.cal.all fun r => decide (r.done < 16)) = true)) ∧
  (let m : Wafer := Wafer.reset.modHeath fun h => { h with meter := { h.meter with cal := some ⟨true, 39, 3, 7, 16, 16, 160, true⟩ } };
    let r : CalRun := ⟨true, 39, 3, 7, 16, 16, 160, true⟩;
    (m.heath.meter.cal = some r) ∧ (16 ≤ r.done) ∧ (r.zero = true) ∧ (r.bad = true)) := by
  decide +kernel

theorem test_witness_DomainTrips_1 :
  (let m : Wafer := onS [(SWD_DOMSTAT.CORE_HOLD, 1)];
    let p : Fin 64 := 1;
    (shutdownLatched p m = false)) ∧
  (let m : Wafer := onU [(TSK_HSTAT.OT_SD_LATCH, 1)];
    let p : Fin 64 := 1;
    (shutdownLatched p m = true)) ∧
  (let m : Wafer := Wafer.reset;
    let p : Fin 64 := 1;
    ((m.sward p).passedBy = false) ∧ (m.heath.dups.contains p.val = false) ∧ ((m.sward p).rst = false)) ∧
  (let m : Wafer := onS [(SWD_DOMCTL.CORE, 1), (SWD_DOMCTL.ARR, 2)];
    let p : Fin 64 := 1;
    ((m.sward p).passedBy = false) ∧ (m.heath.dups.contains p.val = false) ∧ ((m.sward p).rst = false)) ∧
  (let m : Wafer := Wafer.reset.modHeath fun h => { h with dups := [1] };
    let p : Fin 64 := 1;
    ((m.sward p).passedBy = true ∨ m.heath.dups.contains p.val = true)) ∧
  (let m : Wafer := onS [(SWD_DOMCTL.CORE, 1), (SWD_DOMCTL.ARR, 2)];
    let p : Fin 64 := 1;
    ((m.sward p).passedBy = false) ∧ (m.heath.dups.contains p.val = false) ∧ ((m.sward p).rst = false)) := by
  decide +kernel

theorem test_witness_DomainTrips_2 :
  (let m : Wafer := Wafer.reset.modHeath fun h => { h with dups := [1] };
    let p : Fin 64 := 1;
    ((m.sward p).passedBy = true ∨ m.heath.dups.contains p.val = true ∨ (m.sward p).rst = true)) ∧
  (let m : Wafer := Wafer.reset;
    let p : Fin 64 := 1;
    let w : Nat := 0;
    ((m.sward p).rst = false) ∧ (((m.sward p).flAt.all fun t => decide (t + 3200 ≤ w)) = true)) ∧
  (let m : Wafer := Wafer.reset.modSward 1 fun x => { x with flAt := some 5 };
    let p : Fin 64 := 1;
    let w : Nat := 3205;
    ((m.sward p).rst = false) ∧ (((m.sward p).flAt.all fun t => decide (t + 3200 ≤ w)) = true)) ∧
  (let m : Wafer := Wafer.reset.modSward 1 fun x => { x with rst := true };
    let p : Fin 64 := 1;
    ((m.sward p).rst = true)) ∧
  (let m : Wafer := Wafer.reset.modSward 1 fun x => { x with flAt := some 5 };
    let p : Fin 64 := 1;
    let t : Nat := 5;
    let w : Nat := 3204;
    ((m.sward p).flAt = some t) ∧ (w < t + 3200)) ∧
  (let m : Wafer := (onS [(SWD_BSTAT.FENCE, 0)]).modSward 1 fun x => { x with mesh := [⟨.power, 0, 0, []⟩] };
    let p : Fin 64 := 1;
    (m.on (swd p) SWD_BSTAT.FENCE = false)) := by
  decide +kernel

theorem test_witness_DomainTrips_3 :
  (let m : Wafer := onS [(SWD_BSTAT.FENCE, 1)];
    let p : Fin 64 := 1;
    (m.on (swd p) SWD_BSTAT.FENCE = true) ∧ ((m.sward p).hdrSpine = false)) ∧
  (let m : Wafer := onS [(SWD_BSTAT.FENCE, 1), (SWD_DOMSTAT.LOGIC_ST, 2)];
    let p : Fin 64 := 1;
    (m.on (swd p) SWD_BSTAT.FENCE = true) ∧ ((m.sward p).hdrSpine = false)) ∧
  (let m : Wafer := (onS [(SWD_BSTAT.FENCE, 1)]).modSward 1 fun x => { x with hdrSpine := true };
    let p : Fin 64 := 1;
    (m.on (swd p) SWD_BSTAT.FENCE = true) ∧ ((m.sward p).hdrSpine = true)) ∧
  (let m : Wafer := onS [(SWD_BSTAT.FENCE, 1)];
    let p : Fin 64 := 1;
    let level : Bool := true;
    (m.on (swd p) SWD_BSTAT.FENCE = level)) := by
  decide +kernel

theorem test_witness_SwitchOn_1 :
  (let m : Wafer := onS [(SWD_BSTAT.PRST, 0)];
    let p : Fin 64 := 1;
    (m.on (swd p) SWD_BSTAT.PRST = false)) ∧
  (let m : Wafer := onB 0 [(HTH_MAPCTL.OPEN, 1)] (onS [(SWD_BSTAT.PRST, 1)]);
    let p : Fin 64 := 1;
    (m.on (swd p) SWD_BSTAT.PRST = true)) ∧
  (let m : Wafer := ((onS [(SWD_DOMCTL.ARR, 2)]).modSward 1 fun x => { x with waitEnum := false }).modUnit tu fun x => { x with rst := .run };
    let p : Fin 64 := 1;
    ((m.sward p).rst = false) ∧ ((m.sward p).waitEnum = false) ∧ (m.on (swd p) SWD_DOMSTAT.GRANTED = false) ∧ (m.on (swd p) SWD_DOMSTAT.SON_WAIT = false) ∧ (needsGrant p (nextDomStep p m) m = true)) ∧
  (let m : Wafer := (onS [(SWD_DOMSTAT.SON_WAIT, 1)]).modHeath fun h => { h with active := true, bringUp := 9, sonOrder := false, sonQ := [2, 1], katFailed := [2], sonLast := some 5 };
    let p : Fin 64 := 1;
    let w : Nat := 800005;
    (m.heath.active = true) ∧ (9 ≤ m.heath.bringUp) ∧ (m.heath.sonOrder = false) ∧ ((m.heath.sonQ.find? fun q => !m.heath.katFailed.contains q) = some p.val) ∧ ((m.heath.sonLast.all fun t => decide (t + 800000 ≤ max m.wtime w)) = true) ∧ ((m.sward p).passedBy = false) ∧ ((m.sward p).rst = false)) ∧
  (let m : Wafer := Wafer.reset.modHeath fun h => { h with active := true, bringUp := 9, live := [seqPart 63], sonLast := some 5 };
    let p : Fin 64 := ⟨seqPart 63, by decide⟩;
    let i : Nat := 63;
    let rest : List Nat := [];
    let w : Nat := 800005;
    (m.heath.active = true) ∧ (9 ≤ m.heath.bringUp) ∧ (m.heath.sonOrder = true) ∧ (seqLeft m = i :: rest) ∧ ((seqEntry i m).1 = p.val) ∧ ((m.heath.sonLast.all fun t => decide (t + 800000 * (seqEntry i m).2.1 ≤ max m.wtime w)) = true) ∧ ((m.sward p).passedBy = false) ∧ ((m.sward p).rst = false)) ∧
  (let m : Wafer := Wafer.reset.modHeath fun h => { h with active := true, bringUp := 9, sonOrder := false, sonQ := [1], sonLast := some 5 };
    let w : Nat := 800004;
    (m.heath.active = false ∨ m.heath.bringUp < 9 ∨ (m.heath.sonOrder = false ∧ (m.heath.sonLast.any fun t => decide (max m.wtime w < t + 800000)) = true))) := by
  decide +kernel

theorem test_witness_SwitchOn_2 :
  (let m : Wafer := ((onS [(SWD_DOMSTAT.SON_WAIT, 1)]).modSward 1 fun x => { x with bypass := true }).modHeath fun h => { h with active := true, bringUp := 9, sonOrder := false, sonQ := [1] };
    let p : Fin 64 := 1;
    let w : Nat := 2400000;
    (m.heath.active = true) ∧ (9 ≤ m.heath.bringUp) ∧ (m.heath.sonOrder = false) ∧ ((m.heath.sonQ.find? fun q => !m.heath.katFailed.contains q) = some p.val) ∧ ((m.heath.sonLast.all fun t => decide (t + 800000 ≤ max m.wtime w)) = true) ∧ ((m.sward p).passedBy = true)) ∧
  (let m : Wafer := onS [(SWD_BSTAT.PRST, 1)];
    let p : Fin 64 := 1;
    let level : Bool := true;
    (m.on (swd p) SWD_BSTAT.PRST = level)) ∧
  (let m : Wafer := onS [(SWD_DOMSTAT.GRANTED, 1)];
    let p : Fin 64 := 1;
    ((m.sward p).rst = true ∨ (m.sward p).waitEnum = true ∨ m.on (swd p) SWD_DOMSTAT.GRANTED = true ∨ m.on (swd p) SWD_DOMSTAT.SON_WAIT = true ∨ needsGrant p (nextDomStep p m) m = false)) := by
  decide +kernel

theorem test_witness_UnitAndSwardReset_1 :
  (let m : Wafer := Wafer.reset.modUnit tu fun x => { x with rst := .run };
    let p : Fin 64 := 1;
    let u : Fin 128 := 9;
    (u.val < 64 ∨ (u.val < 72 ∧ isEdge p = true)) ∧ ((m.unit (unitOf p u)).rst = .run)) ∧
  (let m : Wafer := Wafer.reset.modUnit (unitOf 0 71) fun x => { x with rst := .run };
    let p : Fin 64 := 0;
    let u : Fin 128 := 71;
    (u.val < 64 ∨ (u.val < 72 ∧ isEdge p = true)) ∧ ((m.unit (unitOf p u)).rst = .run)) ∧
  (let m : Wafer := Wafer.reset.modUnit tu fun x => { x with rst := .restore };
    let p : Fin 64 := 1;
    let u : Fin 128 := 9;
    (u.val < 64 ∨ (u.val < 72 ∧ isEdge p = true)) ∧ ((m.unit (unitOf p u)).rst = .clear ∨ (m.unit (unitOf p u)).rst = .restore)) ∧
  (let m : Wafer := Wafer.reset.modUnit tu fun x => { x with rst := .powerOn };
    let p : Fin 64 := 1;
    let u : Fin 128 := 9;
    (u.val < 64 ∨ (u.val < 72 ∧ isEdge p = true)) ∧ ((m.unit (unitOf p u)).rst = .powerOn)) ∧
  (let m : Wafer := Wafer.reset;
    let u : Fin 128 := 72;
    let p : Fin 64 := 9;
    (72 ≤ u.val ∨ (64 ≤ u.val ∧ isEdge p = false))) ∧
  (let m : Wafer := Wafer.reset;
    let p : Fin 64 := 9;
    let u : Fin 128 := 64;
    (72 ≤ u.val ∨ (64 ≤ u.val ∧ isEdge p = false))) := by
  decide +kernel

theorem test_witness_UnitAndSwardReset_2 :
  (let m : Wafer := Wafer.reset.modUnit tu fun x => { x with rst := .powerOn };
    let u : UnitId := tu;
    ((m.unit u).rst = .powerOn)) ∧
  (let m : Wafer := (Wafer.reset.modUnit tu fun x => { x with rst := .clear }).modHeath fun h => { h with bringUp := 8 };
    let u : UnitId := tu;
    ((m.unit u).rst = .clear)) ∧
  (let m : Wafer := ((Wafer.reset.modUnit tu fun x => { x with rst := .clear }).modHeath fun h => { h with bringUp := 8 }).modSward 1 fun x => { x with waitEnum := false };
    let u : UnitId := tu;
    ((m.unit u).rst = .clear)) ∧
  (let m : Wafer := Wafer.reset;
    let p : Fin 64 := 1;
    ((m.sward p).rst = false)) ∧
  (let m : Wafer := Wafer.reset.modSward 1 fun x => { x with rst := true };
    let p : Fin 64 := 1;
    ((m.sward p).rst = true)) ∧
  (let m : Wafer := Wafer.reset.modSward 1 fun x => { x with rst := true, waitEnum := true };
    let p : Fin 64 := 1;
    ((m.sward p).rst = true) ∧ ((m.sward p).por = false) ∧ ((m.sward p).waitEnum = true)) := by
  decide +kernel

theorem test_witness_UnitAndSwardReset_3 :
  (let m : Wafer := Wafer.reset.modSward 1 fun x => { x with rst := true, waitEnum := false };
    let p : Fin 64 := 1;
    ((m.sward p).rst = true) ∧ ((m.sward p).por = false) ∧ ((m.sward p).waitEnum = false)) ∧
  (let m : Wafer := (onS [(SWD_LDSTAT.SH_STATE, 2)] (Wafer.reset.modHeath fun h => { h with active := true })).modSward 1 fun x => { x with rst := true, waitEnum := false };
    let p : Fin 64 := 1;
    ((m.sward p).rst = true) ∧ ((m.sward p).por = false) ∧ ((m.sward p).waitEnum = false)) ∧
  (let m : Wafer := Wafer.reset.modSward 1 fun x => { x with rst := true, por := true };
    let p : Fin 64 := 1;
    ((m.sward p).rst = false ∨ (m.sward p).por = true)) := by
  decide +kernel

theorem test_witness_WaferReset_1 :
  (let m : Wafer := Wafer.reset.modHeath fun h => { h with auxLow := false, sysLow := false, cmdRst := false, vstbyLost := false, active := true };
    ((m.heath.auxLow || m.heath.sysLow || m.heath.cmdRst || m.heath.vstbyLost) = false)) ∧
  (let m : Wafer := Wafer.reset.modHeath fun h => { h with auxLow := false, sysLow := false, cmdRst := false, vstbyLost := false, active := true };
    ((m.heath.auxLow || m.heath.sysLow || m.heath.cmdRst || m.heath.vstbyLost) = false)) ∧
  (let m : Wafer := Wafer.reset.modHeath fun h => { h with auxLow := false, sysLow := false, cmdRst := false, vstbyLost := false, active := true };
    ((m.heath.auxLow || m.heath.sysLow || m.heath.cmdRst || m.heath.vstbyLost) = false)) ∧
  (let m : Wafer := onH [(HTH_PINSTAT.RST_CAUSE, 2)] (Wafer.reset.modHeath fun h => { h with auxLow := false, sysLow := false, cmdRst := true, vstbyLost := false });
    (m.heath.vstbyLost = false) ∧ ((m.heath.auxLow || m.heath.sysLow || m.heath.cmdRst) = true)) ∧
  (let m : Wafer := Wafer.reset.modHeath fun h => { h with active := true };
    (m.heath.bringUp ≠ 0 ∨ m.heath.active = true)) ∧
  (let m : Wafer := Wafer.reset;
    (m.heath.bringUp = 0) ∧ (m.heath.active = false)) := by
  decide +kernel

theorem test_witness_WaferReset_2 :
  (let m : Wafer := Wafer.reset.modHeath fun h => { h with dups := [1] };
    let p : Fin 64 := 1;
    ((m.sward p).passedBy = true ∨ m.heath.dups.contains p.val = true)) ∧
  (let m : Wafer := Wafer.reset.modSward 1 fun x => { x with rst := true, por := true };
    let p : Fin 64 := 1;
    ((m.sward p).por = true)) ∧
  (let m : Wafer := Wafer.reset.modHeath fun h => { h with active := true };
    (m.heath.active = true)) ∧
  (let m : Wafer := Wafer.reset;
    let p : Fin 64 := 1;
    ((m.sward p).passedBy = false) ∧ ((m.sward p).rst = false)) ∧
  (let m : Wafer := Wafer.reset.modSward 1 fun x => { x with bypass := true };
    let p : Fin 64 := 1;
    ((m.sward p).passedBy = true ∨ (m.sward p).rst = true)) ∧
  (let m : Wafer := onH [(HTH_PINSTAT.RST_CAUSE, 2)] (Wafer.reset.modHeath fun h => { h with auxLow := false, sysLow := false, cmdRst := true, vstbyLost := false });
    (m.heath.vstbyLost = false) ∧ ((m.heath.auxLow || m.heath.sysLow || m.heath.cmdRst) = true)) := by
  decide +kernel

theorem test_witness_HedgerowAndTimeBase_1 :
  (let m : Wafer := Wafer.reset;
    let stop : Fin 66 := 3;
    let sender : Fin 66 := 64;
    let seq : BitVec 16 := 7;
    ((m.sward stop).passedBy = false ∨ 64 ≤ stop.val) ∧ (m.heath.heard.contains (stop.val, sender.val, seq.toNat) = false)) ∧
  (let m : Wafer := Wafer.reset.modHeath fun h => { h with heard := [(3, 64, 7)] };
    let stop : Fin 66 := 3;
    let sender : Fin 66 := 64;
    let seq : BitVec 16 := 7;
    ((m.sward stop).passedBy = false ∨ 64 ≤ stop.val) ∧ (m.heath.heard.contains (stop.val, sender.val, seq.toNat) = true)) ∧
  (let m : Wafer := Wafer.reset.modSward 3 fun x => { x with bypass := true };
    let stop : Fin 66 := 3;
    ((m.sward stop).passedBy = true) ∧ (stop.val < 64)) ∧
  (let m : Wafer := Wafer.reset;
    let i : Fin 66 := 9;
    (ringStop i < 64) ∧ (partLive (ringStop i) m = false)) ∧
  (let m : Wafer := Wafer.reset.modHeath fun h => { h with live := [ringStop 9, 5], leaseGot := Store.set zeroNat [] (ringStop 9) 77, held := [ringStop 9] };
    let i : Fin 66 := 9;
    (ringStop i < 64) ∧ (partLive (ringStop i) m = true)) ∧
  (let m : Wafer := Wafer.reset.modHeath fun h => { h with active := true, activeId := 0 };
    let i : Fin 66 := 0;
    (ringStop i = 64 + m.heath.activeId) ∧ (m.heath.active = true)) := by
  decide +kernel

theorem test_witness_HedgerowAndTimeBase_2 :
  (let m : Wafer := onH [(HTH_HBSTAT.STBY_OK, 1)] (Wafer.reset.modHeath fun h => { h with active := true, activeId := 0, standby := true });
    let i : Fin 66 := 57;
    (64 ≤ ringStop i) ∧ (ringStop i ≠ 64 + m.heath.activeId) ∧ (m.heath.standby = true)) ∧
  (let m : Wafer := Wafer.reset.modHeath fun h => { h with active := true, unicasts := [⟨1, .lease, 100, 64, 1, [5]⟩] };
    let p : Fin 64 := 1;
    let k : UnicastKind := .lease;
    let x : Unicast := ⟨1, .lease, 100, 64, 1, [5]⟩;
    let w : Nat := 16100;
    (m.heath.active = true) ∧ ((m.heath.unicasts.find? (isUnicast p k x.addr)) = some x) ∧ (x.kind = .lease ∨ x.kind = .trip) ∧ (x.first + 16000 * x.sends ≤ w) ∧ (w < x.first + 800000)) ∧
  (let m : Wafer := Wafer.reset.modHeath fun h => { h with active := true, unicasts := [⟨1, .grant, 100, 0, 1, []⟩] };
    let p : Fin 64 := 1;
    let x : Unicast := ⟨1, .grant, 100, 0, 1, []⟩;
    let w : Nat := 16100;
    (m.heath.active = true) ∧ ((m.heath.unicasts.find? (isUnicast p .grant x.addr)) = some x) ∧ (x.part = p.val) ∧ (x.kind = .grant) ∧ (x.first + 16000 * x.sends ≤ w) ∧ (w < x.first + 800000) ∧ ((m.sward p).passedBy = false) ∧ ((m.sward p).rst = false)) ∧
  (let m : Wafer := (Wafer.reset.modHeath fun h => { h with active := true, unicasts := [⟨1, .config, 100, swd 1 + 0x64, 1, [swd 1 + 0x64, 5]⟩] }).modSward 1 fun x => { x with bypass := true };
    let p : Fin 64 := 1;
    let x : Unicast := ⟨1, .config, 100, swd 1 + 0x64, 1, [swd 1 + 0x64, 5]⟩;
    let w : Nat := 16100;
    (m.heath.active = true) ∧ ((m.heath.unicasts.find? (isUnicast p .config x.addr)) = some x) ∧ (x.part = p.val) ∧ (x.kind = .config) ∧ (placePart (place x.addr) = some p.val) ∧ (x.first + 16000 * x.sends ≤ w) ∧ (w < x.first + 800000) ∧ ((m.sward p).passedBy = true)) ∧
  (let m : Wafer := (Wafer.reset.modHeath fun h => { h with active := true, unicasts := [⟨1, .config, 100, (tu).base + 0x104, 1, [(tu).base + 0x104, 5]⟩] }).modSward 1 fun x => { x with waitEnum := false };
    let u : UnitId := tu;
    let off : Fin 1024 := 65;
    let x : Unicast := ⟨1, .config, 100, (tu).base + 0x104, 1, [(tu).base + 0x104, 5]⟩;
    let w : Nat := 16100;
    (m.heath.active = true) ∧ (x.addr = u.base + 4 * off.val) ∧ ((m.heath.unicasts.find? (isUnicast u.part .config x.addr)) = some x) ∧ (x.part = u.part) ∧ (x.kind = .config) ∧ (x.first + 16000 * x.sends ≤ w) ∧ (w < x.first + 800000) ∧ (swardAnswers u.part m = true) ∧ (((m.sward u.part).access u.loc).length < 16)) ∧
  (let m : Wafer := (Wafer.reset.modHeath fun h => { h with active := true, swOut := some (swd 1 + 0xB000, none), unicasts := [⟨1, .access, 100, swd 1 + 0xB000, 1, [2, 1, 1, 0]⟩] }).modSward 1 fun x => { x with waitEnum := false };
    let p : Fin 64 := 1;
    let x : Unicast := ⟨1, .access, 100, swd 1 + 0xB000, 1, [2, 1, 1, 0]⟩;
    let w : Nat := 16100;
    (m.heath.active = true) ∧ (x.addr = swd p + SWD_TACFG.WIN_N.off) ∧ ((m.heath.unicasts.find? (isUnicast p .access x.addr)) = some x) ∧ (x.part = p.val) ∧ (x.kind = .access) ∧ (x.data = [2, 1, 1, 0]) ∧ (x.first + 16000 * x.sends ≤ w) ∧ (w < x.first + 800000) ∧ (swardAnswers p m = true) ∧ ((Store.get noLatch m.heath.latches 0).map Prod.fst ≠ some x.addr)) := by
  decide +kernel

theorem test_witness_HedgerowAndTimeBase_3 :
  (let m : Wafer := Wafer.reset.modHeath fun h => { h with active := true, unicasts := [⟨1, .config, 100, 64, 1, [5]⟩] };
    let p : Fin 64 := 1;
    let k : UnicastKind := .config;
    let x : Unicast := ⟨1, .config, 100, 64, 1, [5]⟩;
    let w : Nat := 16099;
    (m.heath.unicasts.find? (isUnicast p k x.addr) = some x) ∧ (w < x.first + 16000 * x.sends)) ∧
  (let m : Wafer := Wafer.reset.modHeath fun h => { h with active := true, unicasts := [⟨1, .config, 100, 64, 1, [5]⟩] };
    let p : Fin 64 := 1;
    let k : UnicastKind := .config;
    let x : Unicast := ⟨1, .config, 100, 64, 1, [5]⟩;
    let w : Nat := 800100;
    (m.heath.active = true) ∧ (m.heath.unicasts.find? (isUnicast p k x.addr) = some x) ∧ (x.first + 800000 ≤ w)) ∧
  (let m : Wafer := Wafer.reset.modHeath fun h => { h with active := true, unicasts := [⟨1, .config, 100, 64, 1, [5]⟩] };
    let p : Fin 64 := 1;
    let k : UnicastKind := .config;
    let x : Unicast := ⟨1, .config, 100, 64, 1, [5]⟩;
    let w : Nat := 800099;
    (m.heath.unicasts.find? (isUnicast p k x.addr) = some x) ∧ (w < x.first + 800000)) ∧
  (let m : Wafer := Wafer.reset.modHeath fun h => { h with active := true, markAt := some [] };
    (m.heath.active = true)) ∧
  (let m : Wafer := Wafer.reset.modHeath fun h => { h with markAt := some [], live := [1, 2] };
    let p : Fin 64 := 1;
    let l : List Nat := [];
    (m.heath.markAt = some l) ∧ (partLive p m = true) ∧ (l.contains p.val = false)) ∧
  (let m : Wafer := onH [(HTH_TBSTAT.REF_OK, 1)] (Wafer.reset.modHeath fun h => { h with markAt := some [2], live := [1, 2], marks := 15 });
    let p : Fin 64 := 1;
    let l : List Nat := [2];
    (m.heath.markAt = some l) ∧ (partLive p m = true) ∧ (l.contains p.val = false)) := by
  decide +kernel

theorem test_witness_HedgerowAndTimeBase_4 :
  (let m : Wafer := Wafer.reset.modHeath fun h => { h with markAt := some [1], live := [1, 2] };
    let p : Fin 64 := 1;
    let l : List Nat := [1];
    (m.heath.markAt = some l) ∧ (partLive p m = false ∨ l.contains p.val = true)) := by
  decide +kernel

theorem test_witness_HeathPair_1 :
  (let m : Wafer := Wafer.reset.modHeath fun h => { h with active := true };
    (m.heath.active = true)) ∧
  (let m : Wafer := Wafer.reset.modHeath fun h => { h with active := false, standby := true, ready := true };
    (m.heath.standby = true) ∧ (m.heath.ready = true)) ∧
  (let m : Wafer := Wafer.reset.modHeath fun h => { h with active := false, standby := true, ready := true, swOut := some (0x40, none) };
    (m.heath.standby = true) ∧ (m.heath.ready = true)) ∧
  (let m : Wafer := Wafer.reset.modHeath fun h => { h with active := false, standby := true, ready := false };
    (m.heath.standby = true) ∧ (m.heath.ready = false)) ∧
  (let m : Wafer := Wafer.reset.modHeath fun h => { h with active := true };
    let gen : BitVec 8 := 1;
    (m.heath.active = true) ∧ (m.heath.dups.contains (64 + m.heath.activeId) = false) ∧ (genHigher gen.toNat (m.get 0 HTH_HBSTAT.GEN) = true ∨ ((gen.toNat = m.get 0 HTH_HBSTAT.GEN ∨ (gen.toNat + 128) % 256 = m.get 0 HTH_HBSTAT.GEN) ∧ m.heath.activeId = 1))) ∧
  (let m : Wafer := Wafer.reset.modHeath fun h => { h with active := true, activeId := 1 };
    let gen : BitVec 8 := 128;
    (m.heath.active = true) ∧ (m.heath.dups.contains (64 + m.heath.activeId) = false) ∧ (genHigher gen.toNat (m.get 0 HTH_HBSTAT.GEN) = true ∨ ((gen.toNat = m.get 0 HTH_HBSTAT.GEN ∨ (gen.toNat + 128) % 256 = m.get 0 HTH_HBSTAT.GEN) ∧ m.heath.activeId = 1))) := by
  decide +kernel

theorem test_witness_HeathPair_2 :
  (let m : Wafer := onH [(HTH_HBSTAT.GEN, 2)];
    let gen : BitVec 8 := 1;
    (m.heath.dups.contains (64 + m.heath.activeId) = false) ∧ (genHigher gen.toNat (m.get 0 HTH_HBSTAT.GEN) = false) ∧ ((gen.toNat ≠ m.get 0 HTH_HBSTAT.GEN ∧ (gen.toNat + 128) % 256 ≠ m.get 0 HTH_HBSTAT.GEN) ∨ m.heath.activeId = 0)) ∧
  (let m : Wafer := Wafer.reset.modHeath fun h => { h with active := true, dups := [64] };
    let gen : BitVec 8 := 1;
    (m.heath.dups.contains (64 + m.heath.activeId) = true)) ∧
  (let m : Wafer := Wafer.reset.modHeath fun h => { h with standby := true, mirrorSeen := 4, mirrorQ := [(5, { lselSmb := 3 })] };
    let seq : BitVec 16 := 5;
    let x : Mirrored := { lselSmb := 3 };
    (m.heath.dups.contains (65 - m.heath.activeId) = false) ∧ (m.heath.standby = true) ∧ ((m.heath.mirrorQ.find? fun e => e.1 == seq.toNat) = some (seq.toNat, x)) ∧ (seq.toNat = (m.heath.mirrorSeen + 1) % 2 ^ 16)) ∧
  (let m : Wafer := Wafer.reset.modHeath fun h => { h with standby := true, mirrorSeen := 4, mirrorQ := [(6, { lselSmb := 3 })] };
    let seq : BitVec 16 := 6;
    (m.heath.dups.contains (65 - m.heath.activeId) = false) ∧ (seq.toNat ≠ (m.heath.mirrorSeen + 1) % 2 ^ 16 ∨ (m.heath.mirrorQ.find? fun e => e.1 == seq.toNat) = none)) ∧
  (let m : Wafer := onH [(HTH_HBSTAT.STBY_OK, 1)] (Wafer.reset.modHeath fun h => { h with active := true });
    (m.heath.active = true) ∧ (m.on 0 HTH_HBSTAT.STBY_OK = true)) ∧
  (let m : Wafer := onH [(HTH_HBSTAT.MIRROR_SYNC, 1)];
    (m.on 0 HTH_HBSTAT.MIRROR_SYNC = true)) := by
  decide +kernel

theorem test_witness_Boundary :
  (let m : Wafer := Wafer.reset;
    let p : Fin 64 := 9;
    ((m.sward p).rst = false)) ∧
  (let m : Wafer := Wafer.reset.modSward 9 fun x => { x with rst := true };
    let p : Fin 64 := 9;
    ((m.sward p).rst = true)) ∧
  (let m : Wafer := Wafer.reset.modSward 9 fun x => { x with rst := false, committed := false };
    let p : Fin 64 := 9;
    ((m.sward p).rst = false) ∧ ((m.sward p).committed = false)) ∧
  (let m : Wafer := Wafer.reset.modSward 9 fun x => { x with committed := true };
    let p : Fin 64 := 9;
    ((m.sward p).committed = true)) ∧
  (let m : Wafer := Wafer.reset.modSward 1 fun x => { x with frame := 1005, tieOver := Store.set noNat [] 9 (some 5) };
    let g : Fin 4096 := 73;
    let k : Nat := 5;
    ((m.sward (g.val / 64)).rst = false) ∧ (Store.get noNat (m.sward (g.val / 64)).tieOver (g.val % 64) = some k) ∧ (k + 1000 ≤ (m.sward (g.val / 64)).frame)) ∧
  (let m : Wafer := Wafer.reset.modSward 1 fun x => { x with frame := 1004, tieOver := Store.set noNat [] 9 (some 5) };
    let g : Fin 4096 := 73;
    (((Store.get noNat (m.sward (g.val / 64)).tieOver (g.val % 64)).all fun k => decide ((m.sward (g.val / 64)).frame < k + 1000)) = true)) := by
  decide +kernel

theorem test_witness_SpokeFrames_1 :
  (let m : Wafer := (Wafer.reset.modUnit tu fun x => { x with rst := .run }).modSward 1 fun x => { x with down := Store.set noFrame x.down 8 (some ⟨17, 2, true, true, false, false, 0, {}⟩) };
    let u : UnitId := tu;
    let a : Option (BitVec 1064) := some 1;
    let c : Option (BitVec 1064) := none;
    (swathRuns u m = true) ∧ ((((spokeFrame u.part (spokeOf u.loc) m).all fun b => (a.all fun x => !frameGood (b ^^^ x)) && (c.all fun x => !frameGood (b ^^^ x)))) = true)) ∧
  (let m : Wafer := Wafer.reset.modUnit tu fun x => { x with rst := .clear };
    let u : UnitId := tu;
    let c : Option (BitVec 1064) × Option (BitVec 1064) := (some 0, none);
    (swathRuns u m = false)) ∧
  (let m : Wafer := Wafer.reset.modUnit tu fun x => { x with rst := .run, frame := some ⟨17, 2, true, true, false, false, 0, {}⟩ };
    let u : UnitId := tu;
    let f : Nat := 17;
    let s : Sample := sample0;
    let d : DownFrame := ⟨17, 2, true, true, false, false, 0, {}⟩;
    ((m.unit u).rst = .run) ∧ ((m.unit u).frame = some d) ∧ (d.fnum = f % 2 ^ 16) ∧ (d.record = {})) ∧
  (let m : Wafer := Wafer.reset.modUnit tu fun x => { x with rst := .run, frame := some ⟨17, 2, true, true, false, false, 0, { vtrim0 := some 64 }⟩ };
    let u : UnitId := tu;
    let f : Nat := 17;
    let s : Sample := sample0;
    let d : DownFrame := ⟨17, 2, true, true, false, false, 0, { vtrim0 := some 64 }⟩;
    let c : Int := 64;
    ((m.unit u).rst = .run) ∧ ((m.unit u).frame = some d) ∧ (d.fnum = f % 2 ^ 16) ∧ (d.record = { vtrim0 := some c }) ∧ (-64 ≤ c) ∧ (c ≤ 64)) ∧
  (let m : Wafer := Wafer.reset.modUnit tu fun x => { x with rst := .run, frame := some ⟨17, 2, true, true, false, false, 0, {}⟩ };
    let u : UnitId := tu;
    let f : Nat := 18;
    let s : Sample := sample0;
    let d : DownFrame := ⟨17, 2, true, true, false, false, 0, {}⟩;
    ((m.unit u).rst = .run) ∧ ((m.unit u).frame = some d) ∧ (d.fnum ≠ f % 2 ^ 16)) ∧
  (let m : Wafer := Wafer.reset.modUnit tu fun x => { x with rst := .clear };
    let u : UnitId := tu;
    let f : Nat := 18;
    let s : Sample := sample0;
    ((m.unit u).rst = .clear)) := by
  decide +kernel

theorem test_witness_SpokeFrames_2 :
  (let m : Wafer := Wafer.reset.modUnit tu fun x => { x with uplink := some { noRec 0 with v0 := 5, slow := some 7 } };
    let u : UnitId := tu;
    let a : Option (BitVec 200) := some 1;
    let b : Option (BitVec 200) := some 0;
    let r : UpRecord := { noRec 0 with v0 := 5, slow := some 7 };
    ((m.unit u).uplink = some r) ∧ ((m.sward u.part).rst = false) ∧ (readRecord (recordBits r) = r) ∧ (a = some 0 ∨ (b = some 0 ∧ (a.all fun c => !recordOk (recordBits r ^^^ c)) = true))) ∧
  (let m : Wafer := Wafer.reset.modUnit tu fun x => { x with uplink := some { noRec 0 with v0 := 5, slow := some 7 } };
    let u : UnitId := tu;
    let a : Option (BitVec 200) := some 0;
    let b : Option (BitVec 200) := some 1;
    let r : UpRecord := { noRec 0 with v0 := 5, slow := some 7 };
    ((m.unit u).uplink = some r) ∧ ((m.sward u.part).rst = false) ∧ (readRecord (recordBits r) = r) ∧ (a = some 0 ∨ (b = some 0 ∧ (a.all fun c => !recordOk (recordBits r ^^^ c)) = true))) ∧
  (let m : Wafer := Wafer.reset.modUnit tu fun x => { x with uplink := some { noRec 0 with v0 := 5, slow := some 7 } };
    let u : UnitId := tu;
    let a : Option (BitVec 200) := some 1;
    let b : Option (BitVec 200) := none;
    let r : UpRecord := { noRec 0 with v0 := 5, slow := some 7 };
    ((m.unit u).uplink = some r) ∧ ((m.sward u.part).rst = false) ∧ ((a.all fun c => !recordOk (recordBits r ^^^ c)) = true) ∧ ((b.all fun c => !recordOk (recordBits r ^^^ c)) = true)) ∧
  (let m : Wafer := Wafer.reset;
    let u : UnitId := tu;
    let a : Option (BitVec 200) := some 0;
    let b : Option (BitVec 200) := none;
    ((m.unit u).uplink = none ∨ (m.sward u.part).rst = true)) ∧
  (let m : Wafer := onU [(TSK_TSTAT.WIN_N, 2)] (Wafer.reset.modUnit tu fun x => { x with telWait := false, telN := 4, telFrom := 4, telSums := [4, 8, 1, 1, 1, 1, 1, 1, 1, 1, 1] });
    let u : UnitId := tu;
    let f : Nat := 8;
    ((m.unit u).telWait = false) ∧ ((m.unit u).telN ≠ 0) ∧ ((m.unit u).telFrom < f) ∧ (f % 2 ^ m.get u.base TSK_TSTAT.WIN_N = 0)) ∧
  (let m : Wafer := Wafer.reset.modSward 1 fun x => { x with mesh := [⟨.trace, 1, 2, [3]⟩, ⟨.telemetry, 4, 5, [6]⟩] };
    let p : Fin 64 := 1;
    let k : MeshPacket := ⟨.telemetry, 4, 5, [6]⟩;
    (m.on (swd p) SWD_BSTAT.FENCE = false) ∧ (((m.sward p).mesh.find? (fun x => x.cls == .power)) = none) ∧ (((m.sward p).mesh.find? (fun x => x.cls == .telemetry)).or (m.sward p).mesh.head? = some k)) := by
  decide +kernel

theorem test_witness_SpokeFrames_3 :
  (let m : Wafer := Wafer.reset.modSward 1 fun x => { x with mesh := [⟨.trace, 1, 2, [3]⟩, ⟨.trace, 4, 5, [6]⟩] };
    let p : Fin 64 := 1;
    let k : MeshPacket := ⟨.trace, 1, 2, [3]⟩;
    (m.on (swd p) SWD_BSTAT.FENCE = false) ∧ (((m.sward p).mesh.find? (fun x => x.cls == .power)) = none) ∧ (((m.sward p).mesh.find? (fun x => x.cls == .telemetry)).or (m.sward p).mesh.head? = some k)) ∧
  (let m : Wafer := Wafer.reset;
    let p : Fin 64 := 1;
    ((m.sward p).mesh = [])) ∧
  (let m : Wafer := Wafer.reset.modHeath fun h => { h with fault := { h.fault with sendBuf := [⟨.trace, 1, 2, [3]⟩] } };
    let k : MeshPacket := ⟨.trace, 1, 2, [3]⟩;
    let rest : List MeshPacket := [];
    (m.heath.fault.sendBuf = k :: rest)) ∧
  (let m : Wafer := Wafer.reset.modSward 1 fun x => { x with agg := { winN := 2, n := 4, start := 4, sums := [4, 8, 1, 1, 1] } };
    let p : Fin 64 := 1;
    let f : Nat := 8;
    ((m.sward p).rst = false) ∧ ((m.sward p).agg.running = true) ∧ ((m.sward p).agg.n ≠ 0) ∧ ((m.sward p).agg.start < f) ∧ (f % 2 ^ (m.sward p).agg.winN = 0)) ∧
  (let m : Wafer := Wafer.reset.modSward 1 fun x => { x with mesh := [⟨.trace, 1, 2, [3]⟩, ⟨.power, 4, 5, [6]⟩] };
    let p : Fin 64 := 1;
    let k : MeshPacket := ⟨.power, 4, 5, [6]⟩;
    (m.on (swd p) SWD_BSTAT.FENCE = false) ∧ ((m.sward p).mesh.find? (fun x => x.cls == .power) = some k)) ∧
  (let m : Wafer := onS [(SWD_BSTAT.FENCE, 1)];
    let p : Fin 64 := 1;
    (m.on (swd p) SWD_BSTAT.FENCE = true)) := by
  decide +kernel

theorem test_witness_SpokeFrames_4 :
  (let m : Wafer := (Wafer.reset.modUnit tu fun x => { x with rst := .run }).modSward 1 fun x => { x with down := Store.set noFrame (Store.set noFrame x.down 8 (some ⟨17, 2, true, true, false, false, 0, {}⟩)) 9 (some ⟨17, 2, true, true, false, false, 0, {}⟩) };
    let u : UnitId := tu;
    let d : DownFrame := ⟨17, 2, true, true, false, false, 0, {}⟩;
    let b : BitVec 1064 := (spokeFrame 1 1 m).getD 0;
    let c : Option (BitVec 1064) := none;
    (swathRuns u m = true) ∧ (Store.get noFrame (m.sward u.part).down u.loc = some d) ∧ (spokeFrame u.part (spokeOf u.loc) m = some b) ∧ (readFrame (stopOf u.loc) b = d)) ∧
  (let m : Wafer := (Wafer.reset.modUnit tu fun x => { x with rst := .run }).modSward 1 fun x => { x with down := Store.set noFrame x.down 8 (some ⟨17, 2, true, true, false, false, 0, {}⟩) };
    let u : UnitId := tu;
    let b : BitVec 1064 := (spokeFrame 1 1 m).getD 0;
    let a : Option (BitVec 1064) := some 1;
    let e : BitVec 1064 := 0;
    (swathRuns u m = true) ∧ (spokeFrame u.part (spokeOf u.loc) m = some b) ∧ ((a.all fun c => !frameGood (b ^^^ c)) = true) ∧ (frameGood (b ^^^ e) = true)) ∧
  (let m : Wafer := Wafer.reset.modUnit tu fun x => { x with rst := .run };
    let u : UnitId := tu;
    let q : Fin 2 := 1;
    let f : Nat := 9;
    let s : Sample := sample0;
    ((m.unit u).rst = .run) ∧ ((m.unit u).frame = none) ∧ (railState u q m ≠ rREG) ∧ (((m.unit u).rail q).regSeen = false)) ∧
  (let m : Wafer := onU [(TSK_RSTAT.STATE 0, 3)] (Wafer.reset.modUnit tu fun x => { x with rst := .run });
    let u : UnitId := tu;
    let q : Fin 2 := 0;
    let f : Nat := 9;
    let s : Sample := { sample0 with top0 := some 7000 };
    let i : Int := 7000;
    ((m.unit u).rst = .run) ∧ ((m.unit u).frame = none) ∧ (railState u q m = rREG) ∧ ((if q = 0 then s.top0 else s.top1) = some i) ∧ (-2 ^ 31 ≤ i ∧ i < 2 ^ 31)) := by
  decide +kernel

theorem test_witness_RemapWindow_1 :
  (let m : Wafer := Wafer.reset.modHeath fun h => { h with prst := List.range 64 };
    (m.on 0 HTH_MAPCTL.OPEN = false) ∧ (prstAll m = true)) ∧
  (let m : Wafer := onH [(HTH_MAPCTL.OPEN, 1)] (Wafer.reset.modHeath fun h => { h with mapPend := [(5, 0x80000007)] });
    (m.on 0 HTH_MAPCTL.OPEN = true)) ∧
  (let m : Wafer := Wafer.reset.modHeath fun h => { h with prst := [] };
    (m.on 0 HTH_MAPCTL.OPEN = false) ∧ (prstAll m = false)) ∧
  (let m : Wafer := onH [(HTH_MAPCTL.OPEN, 1)];
    (m.on 0 HTH_MAPCTL.OPEN = true)) ∧
  (let m : Wafer := onH [(HTH_MAPCTL.OPEN, 1)] (Wafer.reset.modHeath fun h => { h with mapPend := [(5, 0x80000007)] });
    (m.on 0 HTH_MAPCTL.OPEN = true)) ∧
  (let m : Wafer := onH [(HTH_MAPCTL.OPEN, 1)];
    (m.on 0 HTH_MAPCTL.OPEN = true)) := by
  decide +kernel

theorem test_witness_RemapWindow_2 :
  (let m : Wafer := onH [(HTH_MAPCTL.OPEN, 1)];
    (m.on 0 HTH_MAPCTL.OPEN = true)) ∧
  (let m : Wafer := Wafer.reset;
    (m.on 0 HTH_MAPCTL.OPEN = false)) ∧
  (let m : Wafer := Wafer.reset;
    (m.on 0 HTH_MAPCTL.OPEN = false)) := by
  decide +kernel

theorem test_witness_SplitWords_1 :
  (let m : Wafer := { Wafer.reset.modHeath fun h => { h with active := true } with wtime := 2 ^ 33 + 5 };
    (m.heath.active = true) ∧ (m.on 0 HTH_BUSTAT.HALT = false) ∧ (m.heath.swOut = none)) ∧
  (let m : Wafer := Wafer.reset.modHeath fun h => { h with active := true, latches := Store.set noLatch [] 0 (some (0x60004, 2)) };
    let v : Word := 2;
    (m.heath.active = true) ∧ (m.on 0 HTH_BUSTAT.HALT = false) ∧ (m.heath.swOut = none) ∧ (Store.get noLatch m.heath.latches 0 = some (0x60004, v))) ∧
  (let m : Wafer := (Wafer.reset.modHeath fun h => { h with active := true }).modSward 1 fun x => { x with rst := false, waitEnum := false, bypass := false };
    let p : Fin 64 := 1;
    (m.heath.active = true) ∧ (m.on 0 HTH_BUSTAT.HALT = false) ∧ (m.on 0 HTH_HBSTAT.STBY_OK = false) ∧ (m.heath.swOut = none) ∧ (swardAnswers p m = true) ∧ ((m.sward p).bypass = false)) ∧
  (let m : Wafer := (Wafer.reset.modHeath fun h => { h with active := true, lowHeld := Store.set noLatch [] 0 (some (swd 1 + 0xB048, 7)) }).modSward 1 fun x => { x with rst := false, waitEnum := false, bypass := false };
    let p : Fin 64 := 1;
    let low : Word := 7;
    (m.heath.active = true) ∧ (m.on 0 HTH_BUSTAT.HALT = false) ∧ (m.on 0 HTH_HBSTAT.STBY_OK = false) ∧ (m.heath.swOut = none) ∧ (swardAnswers p m = true) ∧ ((m.sward p).bypass = false) ∧ (Store.get noLatch m.heath.lowHeld 0 = some (swd p + 0xB048, low))) ∧
  (let m : Wafer := { Wafer.reset.modHeath fun h => { h with active := true } with wtime := 2 ^ 33 + 5 };
    (m.heath.active = true) ∧ (m.on 0 HTH_BUSTAT.HALT = false) ∧ (m.heath.swOut = none) ∧ (Store.get noLatch m.heath.latches 0 = none)) ∧
  (let m : Wafer := { Wafer.reset with wtime := 2 ^ 33 + 5 };
    let p : Fin 64 := 1;
    let g : Fin 4096 := 70;
    ((m.sward p).rst = false)) := by
  decide +kernel

theorem test_witness_SplitWords_2 :
  (let m : Wafer := Wafer.reset.modHeath fun h => { h with latches := Store.set noLatch [] (2 + 4096 * 1 + 70) (some (0x60004, 2)) };
    let p : Fin 64 := 1;
    let g : Fin 4096 := 70;
    let v : Word := 2;
    ((m.sward p).rst = false) ∧ (Store.get noLatch m.heath.latches (2 + 4096 * p.val + g.val) = some (0x60004, v))) ∧
  (let m : Wafer := Wafer.reset;
    let i : Issuer := .smbus;
    let a : BitVec 30 := 0x60004;
    (isPairLow (issuedReg i a.toNat m) = false)) := by
  decide +kernel

theorem test_witness_WindowAccess_1 :
  (let m : Wafer := Wafer.reset.modHeath fun h => { h with active := true };
    (m.heath.active = true) ∧ (m.on 0 HTH_BUSTAT.HALT = false) ∧ (m.on 0 HTH_HBSTAT.STBY_OK = false) ∧ (m.heath.swOut = none)) ∧
  (let m : Wafer := (Wafer.reset.modHeath fun h => { h with active := true }).modSward 1 fun x => { x with rst := false, waitEnum := false, bypass := false };
    let p : Fin 64 := 1;
    (m.heath.active = true) ∧ (m.on 0 HTH_BUSTAT.HALT = false) ∧ (m.on 0 HTH_HBSTAT.STBY_OK = false) ∧ (m.heath.swOut = none) ∧ (swardAnswers p m = true) ∧ ((m.sward p).bypass = false)) ∧
  (let m : Wafer := Wafer.reset.modHeath fun h => { h with active := true };
    let be : BitVec 4 := 7;
    (m.heath.active = true) ∧ (m.on 0 HTH_BUSTAT.HALT = false) ∧ (m.heath.swOut = none) ∧ (be ≠ 15)) ∧
  (let m : Wafer := Wafer.reset.modHeath fun h => { h with active := true };
    let a : BitVec 30 := 0x100006;
    (m.heath.active = true) ∧ (m.on 0 HTH_BUSTAT.HALT = false) ∧ (m.heath.swOut = none) ∧ (a.toNat % 4 ≠ 0)) ∧
  (let m : Wafer := Wafer.reset.modHeath fun h => { h with active := true, swOut := some (0x40, none) };
    let a : BitVec 30 := 0x100004;
    (m.heath.swOut.isSome = true)) ∧
  (let m : Wafer := onH [(HTH_LSEL.LOG, 73)] ((Wafer.reset.modHeath fun h => { h with active := true }).modSward 1 fun x => { x with rst := false, waitEnum := false, bypass := false });
    let g : Fin 4096 := 73;
    let o : Fin 1024 := 64;
    (m.heath.active = true) ∧ (m.on 0 HTH_BUSTAT.HALT = false) ∧ (m.heath.swOut = none) ∧ (m.on 0 (HTH_LMAP.VALID (m.get 0 HTH_LSEL.LOG)) = true) ∧ (m.get 0 (HTH_LMAP.PHYS (m.get 0 HTH_LSEL.LOG)) = g) ∧ (mapped (tus g + 4 * o.val) = true) ∧ (swardAnswers (g.val / 64) m = true) ∧ (((m.sward (g.val / 64)).access (g.val % 64)).length < 16)) := by
  decide +kernel

theorem test_witness_WindowAccess_2 :
  (let m : Wafer := onH [(HTH_LSEL.LOG, 73)] ((Wafer.reset.modHeath fun h => { h with active := true }).modSward 1 fun x => { x with rst := false, waitEnum := false, bypass := false });
    let g : Fin 4096 := 73;
    let o : Fin 1024 := 64;
    (m.heath.active = true) ∧ (m.on 0 HTH_BUSTAT.HALT = false) ∧ (m.heath.swOut = none) ∧ (m.on 0 (HTH_LMAP.VALID (m.get 0 HTH_LSEL.LOG)) = true) ∧ (m.get 0 (HTH_LMAP.PHYS (m.get 0 HTH_LSEL.LOG)) = g) ∧ (mapped (tus g + 4 * o.val) = true) ∧ (swardAnswers (g.val / 64) m = true) ∧ (((m.sward (g.val / 64)).access (g.val % 64)).length < 16)) ∧
  (let m : Wafer := onH [(HTH_LSEL.LOG, 73), (HTH_LMAP.VALID 73, 0)] (Wafer.reset.modHeath fun h => { h with active := true });
    (m.heath.active = true) ∧ (m.on 0 HTH_BUSTAT.HALT = false) ∧ (m.heath.swOut = none) ∧ (m.on 0 (HTH_LMAP.VALID (m.get 0 HTH_LSEL.LOG)) = false)) ∧
  (let m : Wafer := Wafer.reset.modUnit tu fun x => { x with rst := .run };
    let i : Issuer := .smbus;
    let u : UnitId := tu;
    let k : PeakReg := .temperature;
    let v : Nat := 0x80000000;
    (swathRuns u m = true) ∧ (peakSentinel u k.off = some v)) ∧
  (let m : Wafer := Wafer.reset.modUnit tu fun x => { x with rst := .clear };
    let i : Issuer := .smbus;
    let u : UnitId := tu;
    let k : PeakReg := .temperature;
    (swathRuns u m = false)) ∧
  (let m : Wafer := Wafer.reset.modSward 1 fun x => { x with rst := false, waitEnum := false };
    let u : UnitId := tu;
    (m.heath.dups.contains u.part = false) ∧ (swardAnswers u.part m = true) ∧ (((m.sward u.part).access u.loc).length < 16)) ∧
  (let m : Wafer := (Wafer.reset.modSward 1 fun x => { x with rst := false, waitEnum := false }).modHeath fun h => { h with active := true, swOut := some ((tu).base + 0x104, none) };
    let u : UnitId := tu;
    let off : Fin 1024 := 65;
    (m.heath.active = true) ∧ (m.heath.dups.contains u.part = false) ∧ (m.heath.swOut.isSome = true) ∧ (swardAnswers u.part m = true) ∧ (((m.sward u.part).access u.loc).length < 16)) := by
  decide +kernel

theorem test_witness_WindowAccess_3 :
  (let m : Wafer := Wafer.reset.modSward 1 fun x => { x with rst := false, waitEnum := false, accQ := Store.set noAccess [] 9 (List.replicate 16 ⟨0, 0, true, .own⟩) };
    let u : UnitId := tu;
    (m.heath.dups.contains u.part = false) ∧ (16 ≤ ((m.sward u.part).access u.loc).length)) ∧
  (let m : Wafer := Wafer.reset.modHeath fun h => { h with dups := [1] };
    let u : UnitId := tu;
    let i : Issuer := .smbus;
    ((m.sward u.part).passedBy = true ∨ m.heath.dups.contains u.part = true)) ∧
  (let m : Wafer := Wafer.reset;
    let p : Fin 64 := 1;
    let g : Fin 4096 := 70;
    ((m.sward p).rst = false)) ∧
  (let m : Wafer := Wafer.reset.modSward 1 fun x => { x with rst := true };
    let p : Fin 64 := 1;
    ((m.sward p).rst = true)) ∧
  (let m : Wafer := Wafer.reset.modSward 1 fun x => { x with frame := 77 };
    let p : Fin 64 := 1;
    let g : Fin 4096 := 70;
    let super : Bool := true;
    ((m.sward p).rst = false) ∧ (super = true ∨ m.on (swd p) SWD_UAPCTL.USER_EN = true) ∧ ((Store.get noLatch m.heath.latches (2 + 4096 * p.val + g.val)).map Prod.fst ≠ some (swd p + 0x800C))) ∧
  (let m : Wafer := onS [(SWD_UAPCTL.USER_EN, 0)];
    let p : Fin 64 := 1;
    ((m.sward p).rst = false) ∧ (m.on (swd p) SWD_UAPCTL.USER_EN = false)) := by
  decide +kernel

theorem test_witness_WindowAccess_4 :
  (let m : Wafer := onH [(HTH_HBSTAT.STBY_OK, 1)] (Wafer.reset.modHeath fun h => { h with active := true });
    (mirrors m = true) ∧ (m.on 0 HTH_BUSTAT.HALT = false) ∧ (m.heath.swOut = none)) ∧
  (let m : Wafer := Wafer.reset.modHeath fun h => { h with active := true };
    (m.heath.active = true) ∧ (m.on 0 HTH_BUSTAT.HALT = false)) ∧
  (let m : Wafer := Wafer.reset;
    let p : Fin 64 := 1;
    let g : Fin 4096 := 70;
    ((m.sward p).rst = false)) ∧
  (let m : Wafer := (Wafer.reset.modHeath fun h => { h with active := true }).modSward 1 fun x => { x with rst := true };
    let p : Fin 64 := 1;
    (m.heath.active = true) ∧ (m.on 0 HTH_BUSTAT.HALT = false) ∧ (m.heath.swOut = none) ∧ ((m.sward p).passedBy = false) ∧ (swardAnswers p m = false)) ∧
  (let m : Wafer := Wafer.reset.modHeath fun h => { h with active := true };
    let a : BitVec 30 := 0x7C;
    let e : Nat := 1;
    let b : Nat := 0x7C;
    let super : Bool := true;
    (m.heath.active = true) ∧ (m.on 0 HTH_BUSTAT.HALT = false) ∧ (m.heath.swOut = none) ∧ (target (.window super) a.toNat m = (e, b)) ∧ (e ≠ 0) ∧ (readsRecord b = false)) ∧
  (let m : Wafer := (Wafer.reset.modHeath fun h => { h with active := true }).modSward 1 fun x => { x with bypass := true };
    let a : BitVec 30 := BitVec.ofNat 30 (swd 1 + 0xB000);
    let e : Nat := 3;
    let b : Nat := swd 1 + 0xB000;
    let super : Bool := true;
    (m.heath.active = true) ∧ (m.on 0 HTH_BUSTAT.HALT = false) ∧ (m.heath.swOut = none) ∧ (target (.window super) a.toNat m = (e, b)) ∧ (e ≠ 0) ∧ (readsRecord b = false)) := by
  decide +kernel

theorem test_witness_SmbusReads_1 :
  (let m : Wafer := onH [(HTH_SMBCFG.PAGE, 3)] (Wafer.reset.modHeath fun h => { h with active := true });
    (m.heath.active = true) ∧ (page m < 16) ∧ (m.on 0 HTH_BUSTAT.HALT = false)) ∧
  (let m : Wafer := onH [(HTH_SMBCFG.PAGE, 16), (MTR_FEEDCFG.FEN, 5), (MTR_VAL.VAL 0, 54000000)] (Wafer.reset.modHeath fun h => { h with active := true });
    (m.heath.active = true) ∧ (16 ≤ page m ∧ enabledFeeds m ≠ []) ∧ (m.on 0 HTH_BUSTAT.HALT = false)) ∧
  (let m : Wafer := onH [(HTH_SMBCFG.PAGE, 16), (MTR_FEEDCFG.FEN, 0)] (Wafer.reset.modHeath fun h => { h with active := true });
    (m.heath.active = true) ∧ (16 ≤ page m ∧ enabledFeeds m = []) ∧ (m.on 0 HTH_BUSTAT.HALT = false)) ∧
  (let m : Wafer := onH [(HTH_SMBCFG.PAGE, 3)] (Wafer.reset.modHeath fun h => { h with active := true });
    (m.heath.active = true) ∧ (m.on 0 HTH_BUSTAT.HALT = false)) ∧
  (let m : Wafer := onH [(HTH_SMBCFG.PAGE, 16)] (Wafer.reset.modHeath fun h => { h with active := true });
    (m.heath.active = true) ∧ (m.on 0 HTH_BUSTAT.HALT = false)) ∧
  (let m : Wafer := Wafer.reset.modHeath fun h => { h with active := true };
    (m.heath.active = true) ∧ (m.on 0 HTH_BUSTAT.HALT = false)) := by
  decide +kernel

theorem test_witness_SmbusReads_2 :
  (let m : Wafer := Wafer.reset.modHeath fun h => { h with active := true };
    (m.heath.active = true) ∧ (m.on 0 HTH_BUSTAT.HALT = false)) ∧
  (let m : Wafer := Wafer.reset.modHeath fun h => { h with active := true };
    (m.heath.active = true) ∧ (m.on 0 HTH_BUSTAT.HALT = false)) ∧
  (let m : Wafer := Wafer.reset.modHeath fun h => { h with active := true };
    (m.heath.active = true) ∧ (m.on 0 HTH_BUSTAT.HALT = false)) ∧
  (let m : Wafer := Wafer.reset.modHeath fun h => { h with active := true };
    (m.heath.active = true) ∧ (m.on 0 HTH_BUSTAT.HALT = false)) ∧
  (let m : Wafer := Wafer.reset.modHeath fun h => { h with active := true };
    (m.heath.active = true) ∧ (m.on 0 HTH_BUSTAT.HALT = false)) ∧
  (let m : Wafer := Wafer.reset.modHeath fun h => { h with active := true };
    (m.heath.active = true) ∧ (m.on 0 HTH_BUSTAT.HALT = false)) := by
  decide +kernel

theorem test_witness_SmbusReads_3 :
  (let m : Wafer := Wafer.reset.modHeath fun h => { h with active := true };
    (m.heath.active = true) ∧ (m.on 0 HTH_BUSTAT.HALT = false)) ∧
  (let m : Wafer := Wafer.reset.modHeath fun h => { h with active := true };
    (m.heath.active = true) ∧ (m.on 0 HTH_BUSTAT.HALT = false)) ∧
  (let m : Wafer := Wafer.reset.modHeath fun h => { h with active := true };
    (m.heath.active = true) ∧ (m.on 0 HTH_BUSTAT.HALT = false)) ∧
  (let m : Wafer := Wafer.reset.modHeath fun h => { h with active := true };
    (m.heath.active = true) ∧ (m.on 0 HTH_BUSTAT.HALT = false)) ∧
  (let m : Wafer := Wafer.reset.modHeath fun h => { h with active := true };
    (m.heath.active = true) ∧ (m.on 0 HTH_BUSTAT.HALT = false)) ∧
  (let m : Wafer := Wafer.reset.modHeath fun h => { h with active := true };
    (m.heath.active = true) ∧ (m.on 0 HTH_BUSTAT.HALT = false) ∧ (m.heath.commons.frames = []) ∧ (0 < freeBuffers m)) := by
  decide +kernel

theorem test_witness_SmbusReads_4 :
  (let m : Wafer := Wafer.reset.modHeath fun h => { h with active := true };
    (m.heath.active = true) ∧ (m.on 0 HTH_BUSTAT.HALT = false) ∧ (m.heath.commons.frames = []) ∧ (0 < freeBuffers m)) ∧
  (let m : Wafer := Wafer.reset.modHeath fun h => { h with active := true };
    (m.heath.active = true) ∧ (m.on 0 HTH_BUSTAT.HALT = false) ∧ (m.heath.commons.frames = []) ∧ (0 < freeBuffers m)) ∧
  (let m : Wafer := Wafer.reset.modHeath fun h => { h with active := true, commons := { h.commons with bufHeld := 63 } };
    (m.heath.active = true) ∧ (m.on 0 HTH_BUSTAT.HALT = false) ∧ (m.heath.commons.bufAt = m.wtime) ∧ (63 ≤ m.heath.commons.bufHeld)) ∧
  (let m : Wafer := Wafer.reset.modHeath fun h => { h with active := true };
    (m.heath.active = true) ∧ (m.on 0 HTH_BUSTAT.HALT = false)) ∧
  (let m : Wafer := Wafer.reset.modHeath fun h => { h with active := true };
    (m.heath.active = true) ∧ (m.on 0 HTH_BUSTAT.HALT = false)) ∧
  (let m : Wafer := onH [(HTH_BUSTAT.HALT, 1)];
    (m.on 0 HTH_BUSTAT.HALT = true)) := by
  decide +kernel

theorem test_witness_SmbusWrites_1 :
  (let m : Wafer := Wafer.reset.modHeath fun h => { h with active := true };
    let v : BitVec 8 := 16;
    (m.heath.active = true) ∧ (v.toNat ≤ 16) ∧ (m.on 0 HTH_BUSTAT.HALT = false)) ∧
  (let m : Wafer := onH [(HTH_SMBCFG.PEC_REQ, 0)] (Wafer.reset.modHeath fun h => { h with active := true });
    let v : BitVec 8 := 16;
    (m.heath.active = true) ∧ (m.on 0 HTH_BUSTAT.HALT = false) ∧ (m.on 0 HTH_SMBCFG.PEC_REQ = false) ∧ (v.toNat ≤ 16)) ∧
  (let m : Wafer := Wafer.reset.modHeath fun h => { h with active := true };
    (m.heath.active = true) ∧ (m.on 0 HTH_BUSTAT.HALT = false)) ∧
  (let m : Wafer := Wafer.reset.modHeath fun h => { h with active := true };
    let v : BitVec 8 := 17;
    (m.heath.active = true) ∧ (16 < v.toNat) ∧ (m.on 0 HTH_BUSTAT.HALT = false)) ∧
  (let m : Wafer := Wafer.reset.modHeath fun h => { h with active := true };
    let pec : Pec := .bad;
    (m.heath.active = true) ∧ (m.on 0 HTH_BUSTAT.HALT = false) ∧ (pec = .bad ∨ (pec = .none ∧ m.on 0 HTH_SMBCFG.PEC_REQ = true))) ∧
  (let m : Wafer := onH [(HTH_SMBCFG.PEC_REQ, 1)] (Wafer.reset.modHeath fun h => { h with active := true });
    let pec : Pec := .none;
    (m.heath.active = true) ∧ (m.on 0 HTH_BUSTAT.HALT = false) ∧ (pec = .bad ∨ (pec = .none ∧ m.on 0 HTH_SMBCFG.PEC_REQ = true))) := by
  decide +kernel

theorem test_witness_SmbusWrites_2 :
  (let m : Wafer := onH [(HTH_SMBSTAT.INV_CMD, 1), (HTH_FPEND_LO.PEND, 12)] (Wafer.reset.modHeath fun h => { h with active := true });
    (m.heath.active = true) ∧ (m.on 0 HTH_BUSTAT.HALT = false)) ∧
  (let m : Wafer := Wafer.reset.modHeath fun h => { h with active := true };
    let v : BitVec 16 := 5000;
    (m.heath.active = true) ∧ (5000 ≤ v.toNat) ∧ (m.on 0 HTH_BUSTAT.HALT = false)) ∧
  (let m : Wafer := Wafer.reset.modHeath fun h => { h with active := true };
    let v : BitVec 16 := 4999;
    (m.heath.active = true) ∧ (v.toNat < 5000) ∧ (m.on 0 HTH_BUSTAT.HALT = false)) ∧
  (let m : Wafer := Wafer.reset.modHeath fun h => { h with active := true };
    (m.heath.active = true) ∧ (m.on 0 HTH_BUSTAT.HALT = false)) ∧
  (let m : Wafer := Wafer.reset.modHeath fun h => { h with active := true };
    let pec : Pec := .bad;
    (m.heath.active = true) ∧ (m.on 0 HTH_BUSTAT.HALT = false) ∧ (pec = .bad ∨ (pec = .none ∧ m.on 0 HTH_SMBCFG.PEC_REQ = true))) ∧
  (let m : Wafer := onH [(HTH_FPEND_LO.PEND, 12)] (Wafer.reset.modHeath fun h => { h with active := true });
    (m.heath.active = true) ∧ (m.on 0 HTH_BUSTAT.HALT = false)) := by
  decide +kernel

theorem test_witness_SmbusWrites_3 :
  (let m : Wafer := onH [(HTH_BUSTAT.HALT, 1)];
    let v : Option (BitVec 16) := some 6000;
    let pec : Pec := .good;
    (m.on 0 HTH_BUSTAT.HALT = true)) ∧
  (let m : Wafer := Wafer.reset.modHeath fun h => { h with active := true };
    (m.heath.active = true) ∧ (m.on 0 HTH_BUSTAT.HALT = false) ∧ (m.on 0 HTH_HBSTAT.STBY_OK = false)) ∧
  (let m : Wafer := Wafer.reset.modHeath fun h => { h with active := true };
    let bytes : List (BitVec 8) := [1];
    (m.heath.active = true) ∧ (bytes.length ≠ 0) ∧ (bytes.length ≠ 8) ∧ (m.on 0 HTH_BUSTAT.HALT = false)) ∧
  (let m : Wafer := Wafer.reset.modHeath fun h => { h with active := true, lselSmb := 0x123 };
    (m.heath.active = true) ∧ (m.on 0 HTH_BUSTAT.HALT = false) ∧ (m.heath.commons.frames = []) ∧ (0 < freeBuffers m) ∧ ((Store.get noLatch m.heath.latches 1).map Prod.fst ≠ some 0x100004)) ∧
  (let m : Wafer := onH [(HTH_LMAP.VALID 5, 0)] (Wafer.reset.modHeath fun h => { h with active := true, lselSmb := 5 });
    (m.heath.active = true) ∧ (m.on 0 HTH_BUSTAT.HALT = false) ∧ (m.heath.commons.frames = []) ∧ (0 < freeBuffers m) ∧ (m.on 0 (HTH_LMAP.VALID (getBits m.heath.lselSmb 0 12)) = false)) ∧
  (let m : Wafer := Wafer.reset.modHeath fun h => { h with active := true };
    let bytes : List (BitVec 8) := [1];
    (m.heath.active = true) ∧ (bytes.length ≠ 0) ∧ (bytes.length ≠ 4)) := by
  decide +kernel

theorem test_witness_SmbusWrites_4 :
  (let m : Wafer := Wafer.reset.modHeath fun h => { h with active := true };
    let code : BitVec 8 := 0x20;
    (m.heath.active = true) ∧ (smbusCodes.contains code.toNat = false)) ∧
  (let m : Wafer := onH [(HTH_FPEND_LO.PEND, 8), (HTH_FSEV.ALERT_EN 3, 1)] (Wafer.reset.modHeath fun h => { h with active := true });
    (smbAlert m = true)) ∧
  (let m : Wafer := Wafer.reset.modHeath fun h => { h with active := true, smbBusy := true };
    let write : Bool := true;
    (m.heath.active = true)) ∧
  (let m : Wafer := Wafer.reset.modHeath fun h => { h with active := true, smbBusy := true };
    let k : Fin 256 := 2;
    (m.heath.active = true) ∧ (m.heath.smbBusy = true)) := by
  decide +kernel

theorem test_witness_StorageWrites_1 :
  (let m : Wafer := Wafer.reset;
    (m.heath.bringUp ≠ 3) ∧ (m.heath.lone ≠ 3)) ∧
  (let m : Wafer := Wafer.reset.modHeath fun h => { h with bringUp := 3 };
    (m.heath.bringUp = 3 ∨ m.heath.lone = 3)) ∧
  (let m : Wafer := onH [(HTH_BUSTAT.HALT, 1)];
    let regions : BitVec 6 := 4;
    (m.on 0 HTH_BUSTAT.HALT = true)) ∧
  (let m : Wafer := Wafer.reset;
    let r : Fin 6 := 4;
    (m.on 0 HTH_BUSTAT.HALT = false) ∧ (r.val ≠ 0) ∧ (regionPending r m = false)) ∧
  (let m : Wafer := Wafer.reset;
    let r : Fin 6 := 5;
    (m.on 0 HTH_BUSTAT.HALT = false) ∧ (r.val ≠ 0) ∧ (regionPending r m = false)) ∧
  (let m : Wafer := Wafer.reset;
    (m.on 0 HTH_PINSTAT.TEST_ON = false)) := by
  decide +kernel

theorem test_witness_StorageWrites_2 :
  (let m : Wafer := Wafer.reset.modNvm fun x => x.setJob 0 1 (some ⟨5, 0, 1, 2, true, []⟩);
    let h : Fin 2 := 0;
    let j : NvmJob := ⟨5, 0, 1, 2, true, []⟩;
    (m.heath.nvm.job h 1 = some j) ∧ (j.page + 1 < regionPages j.region)) ∧
  (let m : Wafer := Wafer.reset.modNvm fun x => x.setJob 0 0 (some ⟨4, 0, 1, 2, false, []⟩);
    let h : Fin 2 := 0;
    let bank : Fin 2 := 0;
    let j : NvmJob := ⟨4, 0, 1, 2, false, []⟩;
    (m.heath.nvm.job h bank = some j) ∧ (j.retried = false)) ∧
  (let m : Wafer := Wafer.reset.modNvm fun x => x.setJob 1 1 (some ⟨5, 1, 3, 7, false, [(0x21000, 5)]⟩);
    let h : Fin 2 := 1;
    let j : NvmJob := ⟨5, 1, 3, 7, false, [(0x21000, 5)]⟩;
    (m.heath.nvm.job h 1 = some j) ∧ (j.region = 5) ∧ (regionPages 5 ≤ j.page + 1) ∧ (h.val ≠ m.heath.activeId)) ∧
  (let m : Wafer := Wafer.reset.modNvm fun x => x.setJob 0 1 (some ⟨5, 0, 1, 2, true, []⟩);
    let h : Fin 2 := 0;
    let j : NvmJob := ⟨5, 0, 1, 2, true, []⟩;
    (m.heath.nvm.job h 1 = some j) ∧ (j.region = 5) ∧ (j.retried = true) ∧ (h.val = m.heath.activeId)) ∧
  (let m : Wafer := (Wafer.reset.modHeath fun h => { h with active := true }).modNvm fun x => { x with lag := [4] };
    let r : Fin 6 := 4;
    (m.heath.active = true) ∧ (m.heath.nvm.lag.contains r.val = true)) := by
  decide +kernel

theorem test_witness_BringUp_1 :
  (let m : Wafer := Wafer.reset.modHeath fun h => { h with bringUp := 1, testA := none, active := false };
    (m.heath.booting = []) ∧ (m.heath.bringUp = 1) ∧ (m.heath.active = false) ∧ (m.heath.testA = none)) ∧
  (let m : Wafer := Wafer.reset.modHeath fun h => { h with bringUp := 1, testA := some false, testB := none, active := false };
    (m.heath.booting = []) ∧ (m.heath.bringUp = 1) ∧ (m.heath.active = false) ∧ (m.heath.testA = some false) ∧ (m.heath.testB = none)) ∧
  (let m : Wafer := Wafer.reset.modHeath fun h => { h with bringUp := 1, testA := none, testB := some true, active := false };
    (m.heath.bringUp = 1) ∧ (m.heath.active = false) ∧ (m.heath.testA = none) ∧ (m.heath.testB = some true)) ∧
  (let m : Wafer := Wafer.reset.modHeath fun h => { h with bringUp := 3, active := true };
    let a : List (BitVec 8) := [];
    let b : List (BitVec 8) := [0x59];
    (m.heath.active = true) ∧ (m.heath.bringUp = 3) ∧ (m.heath.lone ≠ 3) ∧ (headerGood a = false) ∧ (headerGood b = false)) ∧
  (let m : Wafer := Wafer.reset.modHeath fun h => { h with bringUp := 3, active := true };
    let t : Sfdp := ⟨27, true, false⟩;
    (m.heath.active = true) ∧ (m.heath.bringUp = 3) ∧ (m.heath.lone ≠ 3)) ∧
  (let m : Wafer := Wafer.reset.modHeath fun h => { h with bringUp := 3, active := true };
    let a : List (BitVec 8) := [0x43, 0x52, 0x44, 0x59, 0x01, 0, 0x01, 0, 0x07, 0, 0, 0, 0x08, 0, 0, 0, 0xff, 0x03, 0x8d, 0x25, 0, 0, 0, 0, 0, 0, 0, 0, 0, 0, 0, 0, 0, 0, 0, 0, 0, 0, 0, 0, 0, 0, 0, 0, 0, 0, 0, 0, 0, 0, 0, 0, 0, 0, 0, 0, 0, 0, 0, 0, 0x61, 0xba, 0x3f, 0x57, 0, 0x01, 0, 0x90, 0x05, 0, 0, 0];
    let b : List (BitVec 8) := [];
    (m.heath.active = true) ∧ (m.heath.bringUp = 3) ∧ (m.heath.lone ≠ 3) ∧ (headerGood a = true) ∧ (copyFaults m.fuse (requiredDigest m) a = (false, false, false)) ∧ (headerCrc b = false) ∧ (leField a 8 4 < 2 ^ 31) ∧ (leField a 8 4 ≠ 0) ∧ (((imageRecords (imageBody a)).filter fun r => decide (r.1 < 0x1000000)) = [])) := by
  decide +kernel

theorem test_witness_BringUp_2 :
  (let m : Wafer := Wafer.reset.modHeath fun h => { h with bringUp := 4, active := true };
    (m.heath.active = true) ∧ (m.heath.bringUp = 4) ∧ (m.heath.lone ≠ 2)) ∧
  (let m : Wafer := Wafer.reset.modHeath fun h => { h with bringUp := 5 };
    (m.heath.bringUp ≠ 0)) ∧
  (let m : Wafer := (Wafer.reset.modHeath fun h => { h with bringUp := 5, active := true, vibHeld := true }).modSward 3 fun x => { x with bypass := true };
    (m.heath.active = true) ∧ (m.heath.bringUp = 5) ∧ (m.heath.vibHeld = true)) ∧
  (let m : Wafer := Wafer.reset.modHeath fun h => { h with bringUp := 5, active := true };
    (m.heath.active = false ∨ m.heath.bringUp ≠ 5 ∨ m.heath.vibHeld = false)) ∧
  (let m : Wafer := Wafer.reset.modHeath fun h => { h with bringUp := 6, active := true, image := [], retireMap := [] };
    (m.heath.active = true) ∧ (m.heath.bringUp = 6) ∧ (m.heath.configSent = false) ∧ (m.heath.lone ≠ 1) ∧ (m.heath.image = []) ∧ (m.heath.retireMap = []) ∧ (m.on 0 HTH_PACECTL.MODE = false) ∧ (m.heath.unicasts = []) ∧ (newestSlot 2 (decide (m.heath.lone ≠ 0)) m = none)) ∧
  (let m : Wafer := Wafer.reset.modHeath fun h => { h with bringUp := 6, active := true, configSent := true };
    (m.heath.active = false ∨ (m.heath.lone ≠ 1 ∧ (m.heath.bringUp ≠ 6 ∨ m.heath.configSent = true)))) := by
  decide +kernel

theorem test_witness_BringUp_3 :
  (let m : Wafer := onS [(SWD_KAT.BUSY, 1)] (Wafer.reset.modHeath fun h => { h with bringUp := 7, live := [1] });
    let p : Fin 64 := 1;
    (m.heath.bringUp = 7) ∧ (m.on (swd p) SWD_KAT.BUSY = true) ∧ (((liveParts m).all fun q => q == p.val || m.on (swd q) SWD_KAT.PASS || m.heath.katFailed.contains q) = true)) ∧
  (let m : Wafer := (Wafer.reset.modHeath fun h => { h with bringUp := 8, live := [1] }).modUnit tu fun x => { x with rst := .run };
    let u : UnitId := tu;
    (m.heath.bringUp = 8) ∧ (partLive u.part m = true) ∧ ((m.unit u).rst = .run) ∧ (m.heath.tested.contains u.key = false)) ∧
  (let m : Wafer := (Wafer.reset.modHeath fun h => { h with bringUp := 8, live := [1] }).modUnit tu fun x => { x with rst := .run };
    let u : UnitId := tu;
    let c : BitVec 6 := 2;
    (m.heath.bringUp = 8) ∧ (partLive u.part m = true) ∧ (m.heath.tested.contains u.key = false) ∧ (m.on u.base (TSK_PHHLTH.RETIRE 0) = false) ∧ (c ≠ 0) ∧ ((m.unit u).rst = .run)) ∧
  (let m : Wafer := (Wafer.reset.modHeath fun h => { h with bringUp := 8, live := [1] }).modUnit tu fun x => { x with rst := .restore };
    let u : UnitId := tu;
    (m.heath.bringUp ≠ 8 ∨ partLive u.part m = false ∨ (m.unit u).rst ≠ .run)) ∧
  (let m : Wafer := Wafer.reset.modHeath fun h => { h with bringUp := 11, active := true, booting := [1] };
    let h : Fin 2 := 1;
    (m.heath.booting.contains h.val = true) ∧ (m.heath.active = true)) ∧
  (let m : Wafer := Wafer.reset.modHeath fun h => { h with bringUp := 11, booting := [1], live := [3] };
    let h : Fin 2 := 1;
    (m.heath.booting.contains h.val = true) ∧ (m.heath.active = false) ∧ (m.heath.standby = false)) := by
  decide +kernel

theorem test_witness_BringUp_4 :
  (let m : Wafer := Wafer.reset.modHeath fun h => { h with bringUp := 10, active := true };
    (m.heath.active = true) ∧ (m.heath.bringUp = 10) ∧ (((liveParts m).all fun p => !m.on (swd p) SWD_LDSTAT.FULL_BUSY) = true)) ∧
  (let m : Wafer := Wafer.reset.modHeath fun h => { h with bringUp := 11, active := true, activeId := 1, halted := [], halting := none };
    let h : Fin 2 := 1;
    (m.heath.halted.contains h.val = false) ∧ (m.heath.halting = none) ∧ (m.heath.bringUp ≠ 0) ∧ (m.heath.active = true) ∧ (m.heath.activeId = h.val)) ∧
  (let m : Wafer := Wafer.reset.modHeath fun h => { h with bringUp := 11, active := true, activeId := 0, halted := [], halting := none };
    let h : Fin 2 := 1;
    (m.heath.halted.contains h.val = false) ∧ (m.heath.halting = none) ∧ (m.heath.bringUp ≠ 0) ∧ (m.heath.active = true) ∧ (m.heath.activeId ≠ h.val)) ∧
  (let m : Wafer := Wafer.reset.modHeath fun h => { h with activeId := 0, halting := some 1 };
    let h : Fin 2 := 1;
    (m.heath.halting = some h.val)) := by
  decide +kernel

theorem test_witness_LowCapStored :
  (let cap : BitVec 16 := 4999;
    (cap.toNat < 5000)) ∧
  (let cap : BitVec 16 := 0;
    (cap.toNat < 5000)) ∧
  (let cap : BitVec 16 := 5000;
    (5000 ≤ cap.toNat)) ∧
  (let cap : BitVec 16 := 65535;
    (5000 ≤ cap.toNat)) := by
  decide +kernel

theorem test_witness_ResetCommandKey :
  (let data : Word := 0x5B800000;
    (getBits data 24 8 ≠ 0x5A)) ∧
  (let data : Word := 0x5A000001;
    (getBits data 24 8 = 0x5A) ∧ (getBits data 21 3 = 0)) ∧
  (let data : Word := 0x5AC00000;
    (getBits data 24 8 = 0x5A) ∧ (getBits data 21 3 = 3 ∨ getBits data 21 3 = 5 ∨ getBits data 21 3 = 6 ∨ getBits data 21 3 = 7)) ∧
  (let m : Wafer := Wafer.reset.modHeath fun h => { h with auxLow := false, sysLow := false, cmdRst := false, vstbyLost := false, active := true };
    let data : Word := 0x5A800000;
    (getBits data 24 8 = 0x5A) ∧ (getBits data 21 3 = 4) ∧ ((m.heath.auxLow || m.heath.sysLow || m.heath.cmdRst || m.heath.vstbyLost) = false)) := by
  decide +kernel

theorem test_witness_ClearFaultsAcknowledges :
  (let m : Wafer := onH [(HTH_SMBSTAT.INV_CMD, 1), (HTH_FPEND_LO.PEND, 12)] (Wafer.reset.modHeath fun h => { h with active := true });
    (m.heath.active = true) ∧ (m.on 0 HTH_BUSTAT.HALT = false)) := by
  decide +kernel

theorem test_witness_SplitRegionsStored :
  (let m : Wafer := onH [(HTH_NVMSTAT.SPLIT, 37)] (Wafer.reset.modHeath fun h => { h with bringUp := 10, active := true });
    (m.heath.active = true) ∧ (m.heath.bringUp = 10) ∧ (((liveParts m).all fun p => !m.on (swd p) SWD_LDSTAT.FULL_BUSY) = true)) ∧
  (let m : Wafer := onH [(HTH_NVMSTAT.SPLIT, 37)] (Wafer.reset.modNvm fun x => x.setJob 0 0 (some ⟨2, 1, 3, 71, false, [(0x21000, 5)]⟩));
    let h : Fin 2 := 0;
    let bank : Fin 2 := 0;
    let j : NvmJob := ⟨2, 1, 3, 71, false, [(0x21000, 5)]⟩;
    (m.heath.nvm.job h bank = some j) ∧ (j.region < 6) ∧ (regionPages j.region ≤ j.page + 1) ∧ (h.val = m.heath.activeId)) := by
  decide +kernel

theorem test_witness_RungLimitSignal :
  (let m : Wafer := Wafer.reset;
    let p : Fin 64 := 9;
    ((m.sward p).rst = false)) := by
  decide +kernel

/-- The words of the default shadow bank. -/
theorem onS_word (x : Nat) {t j : Nat} (ht : t < 64) (hj : j < 16) :
    (onS [(SWD_LDSTAT.SH_STATE, x)]).word (swd 1 + (0x3000 + 0x40 * t + 4 * j)) = BitVec.ofNat 32 (curveWord j) := by
  have h : (onS [(SWD_LDSTAT.SH_STATE, x)]).word (swd 1 + (0x3000 + 0x40 * t + 4 * j)) =
      Wafer.reset.word (swd 1 + (0x3000 + 0x40 * t + 4 * j)) :=
    Wafer.reset.word_set_ne x (by show swd 1 + _ ≠ swd 1 + 0x48; omega)
  rw [h, ← resetWord_ladder 1 (p := 1) (by omega) ht hj (.inr rfl)]
  rfl

theorem onS_entry (x : Nat) {t r : Nat} (ht : t < 64) (hr : r < 32) :
    ladderEntry 1 0x3000 t r (onS [(SWD_LDSTAT.SH_STATE, x)]) = 256 + 3 * r :=
  ladderEntry_reset (by omega) ht hr (.inr rfl) <| by
    rw [onS_word x ht (by omega), resetWord_ladder _ (by omega) ht (by omega) (.inr rfl)]

theorem onS_crc (x : Nat) : bankCrc 1 0x3000 (onS [(SWD_LDSTAT.SH_STATE, x)]) = 0x0AACD4A9 := by
  have h : ((List.range 1024).flatMap fun i => wordBytes ((onS [(SWD_LDSTAT.SH_STATE, x)]).word (swd 1 + 0x3000 + 4 * i)).toNat) =
      (List.range 1024).flatMap fun i => wordBytes (curveWord (i % 16)) := by
    refine congrArg List.flatten (List.map_congr_left fun i hi => ?_)
    have hi := List.mem_range.1 hi
    have ha : swd 1 + 0x3000 + 4 * i = swd 1 + (0x3000 + 0x40 * (i / 16) + 4 * (i % 16)) := by omega
    rw [ha, onS_word x (by omega) (by omega)]
    have : ∀ j : Fin 16, (BitVec.ofNat 32 (curveWord j)).toNat = curveWord j := by decide
    exact congrArg wordBytes (this ⟨i % 16, by omega⟩)
  rw [bankCrc, h]
  decide +kernel

/-- A field beside the banks leaves the shadow bank's CRC as it is. -/
theorem bankCrc_set (m : Wafer) (f : Fld) (v : Nat) (hf : f.off < 0x3000) :
    bankCrc 1 0x3000 (m.set (swd 1) f v) = bankCrc 1 0x3000 m := by
  have (i : Nat) : (m.set (swd 1) f v).word (swd 1 + 0x3000 + 4 * i) = m.word (swd 1 + 0x3000 + 4 * i) :=
    m.word_set_ne v (by omega)
  simp only [bankCrc, this]

theorem test_witness_LadderBanks_crc :
  (let m : Wafer := (onS [(SWD_LDSTAT.SH_STATE, 3)]).set (swd 1) SWD_LDSHCRC.SH_CRC 5; let p : Fin 64 := 1; (shadow p m = shCHECK) ∧ (bankCrc p 0x3000 m ≠ m.get (swd p) SWD_LDSHCRC.SH_CRC)) := by
  refine ⟨by decide +kernel, fun h => ?_⟩
  have h := (bankCrc_set _ _ 5 (by decide)).symm.trans h
  exact absurd ((onS_crc 3).symm.trans h) (by decide +kernel)

theorem test_witness_LadderBanks_default :
  (let m : Wafer := onS [(SWD_LDSTAT.SH_STATE, 3)]; let p : Fin 64 := 1; (shadow p m = shCHECK) ∧ (bankCrc p 0x3000 m = m.get (swd p) SWD_LDSHCRC.SH_CRC) ∧ (∀ (t : Fin 64) (r : Fin 32), 200 ≤ vcode (ladderEntry p 0x3000 t r m) ∧ vcode (ladderEntry p 0x3000 t r m) ≤ 360 ∧ ladderEntry p 0x3000 t r m / 2 ^ 9 % 2 ^ 6 = 0) ∧ (∀ (t : Fin 64) (r : Fin 31), vcode (ladderEntry p 0x3000 t r m) ≤ vcode (ladderEntry p 0x3000 t (r + 1) m))) := by
  refine ⟨by decide +kernel, ?_, fun t r => ?_, fun t r => ?_⟩
  · exact (onS_crc 3).trans (by decide +kernel)
  · have h : ladderEntry (1 : Fin 64) 0x3000 t r (onS [(SWD_LDSTAT.SH_STATE, 3)]) = 256 + 3 * r.val := onS_entry 3 t.2 r.2
    have := r.2; have hl : 256 + 3 * r.val < 2 ^ 9 := by omega
    simp only [h, vcode, Nat.mod_eq_of_lt hl, Nat.div_eq_of_lt hl]; omega
  · have h : ladderEntry (1 : Fin 64) 0x3000 t r (onS [(SWD_LDSTAT.SH_STATE, 3)]) = 256 + 3 * r.val := onS_entry 3 t.2 (by omega)
    have k : ladderEntry (1 : Fin 64) 0x3000 t (r + 1) (onS [(SWD_LDSTAT.SH_STATE, 3)]) = 256 + 3 * (r.val + 1) := onS_entry 3 t.2 (by omega)
    have := r.2
    simp only [h, k, vcode, Nat.mod_eq_of_lt (show 256 + 3 * r.val < 2 ^ 9 by omega), Nat.mod_eq_of_lt (show 256 + 3 * (r.val + 1) < 2 ^ 9 by omega)]; omega

end Sys2Proof.Machine
end

section
/-! SUPPORT.  Every effect of the model in turn is steady: the variant stands, canonical images
stay canonical and WTIME does not step back.  One lemma for each definition that answers a
controller, named after it, and each proved along its definition, so that a proof reads as the
definition's own steps from `h`. -/

namespace Sys2Proof.Machine

/-- The variant is as it was, canonical images stayed canonical, and WTIME did not step back. -/
structure Steady (m₀ m : Wafer) : Prop where
  fuse : m.fuse = m₀.fuse
  canonical : m₀.Canonical → m.Canonical
  time : m₀.wtime ≤ m.wtime

variable {m₀ m : Wafer}

/-! ### Ways to put effects together -/

@[refl] theorem Steady.refl (m : Wafer) : Steady m m := ⟨rfl, id, le_refl _⟩

/-- What stays within an area is steady. -/
theorem Steady.keeps {A : Area} {m' : Wafer} (h : Steady m₀ m) (k : Keeps A m m') : Steady m₀ m' :=
  ⟨k.within.fuse.trans h.fuse, k.canonical ∘ h.canonical, h.time.trans k.time⟩

theorem Steady.ite {c : Prop} [Decidable c] {a b : Wafer} (ha : Steady m₀ a) (hb : Steady m₀ b) :
    Steady m₀ (if c then a else b) := by
  split
  · exact ha
  · exact hb

/-- A condition guards an effect. -/
theorem Steady.when {c : Prop} [Decidable c] {a : Wafer} (h : Steady m₀ m) (ha : Steady m₀ m → Steady m₀ a) :
    Steady m₀ (if c then a else m) := .ite (ha h) h

/-- A condition keeps an effect away. -/
theorem Steady.unless {c : Prop} [Decidable c] {b : Wafer} (h : Steady m₀ m) (hb : Steady m₀ m → Steady m₀ b) :
    Steady m₀ (if c then m else b) := .ite h (hb h)

/-- A condition chooses between two effects on one controller. -/
theorem Steady.branch {c : Prop} [Decidable c] {a b : Wafer} (h : Steady m₀ m) (ha : Steady m₀ m → Steady m₀ a)
    (hb : Steady m₀ m → Steady m₀ b) : Steady m₀ (if c then a else b) := .ite (ha h) (hb h)

theorem Steady.iteFst {α : Type} {c : Prop} [Decidable c] {a b : Wafer × α} (ha : Steady m₀ a.1)
    (hb : Steady m₀ b.1) : Steady m₀ (if c then a else b).1 := by
  split
  · exact ha
  · exact hb

theorem Steady.iteSnd {α : Type} {c : Prop} [Decidable c] {a b : α × Wafer} (ha : Steady m₀ a.2)
    (hb : Steady m₀ b.2) : Steady m₀ (if c then a else b).2 := by
  split
  · exact ha
  · exact hb

/-- The second part of a pair that is taken apart. -/
theorem Steady.of_snd {α : Type} {x : α × Wafer} {a : α} {n : Wafer} (h : Steady m₀ x.2) (e : x = (a, n)) :
    Steady m₀ n := by simpa [e] using h

/-- The second part of a pair that is written out. -/
theorem Steady.pair {α : Type} {a : α} (h : Steady m₀ m) : Steady m₀ (a, m).2 := h

theorem Steady.fold {α : Type} {l : List α} {f : Wafer → α → Wafer} (h : Steady m₀ m)
    (hf : ∀ {m x}, Steady m₀ m → Steady m₀ (f m x)) : Steady m₀ (l.foldl f m) := by
  induction l generalizing m with
  | nil => exact h
  | cons x t ih => exact ih (hf h)

theorem Steady.each {l : List Nat} {f : Nat → Wafer → Wafer} (h : Steady m₀ m)
    (hf : ∀ {m x}, Steady m₀ m → Steady m₀ (f x m)) : Steady m₀ (m.each l f) := h.fold hf

/-! ### Basic operations -/

theorem Steady.putWord {a : Nat} {v : Word} (h : Steady m₀ m) : Steady m₀ (m.putWord a v) :=
  ⟨h.fuse, fun c => (h.canonical c).putWord a v, h.time⟩

theorem Steady.modUnit {u : UnitId} {f : UnitSt → UnitSt} (h : Steady m₀ m) : Steady m₀ (m.modUnit u f) :=
  ⟨h.fuse, fun c => (h.canonical c).modUnit u f, h.time⟩

theorem Steady.modSward {p : Nat} {f : SwardSt → SwardSt} (h : Steady m₀ m) : Steady m₀ (m.modSward p f) :=
  ⟨h.fuse, fun c => (h.canonical c).modSward p f, h.time⟩

theorem Steady.modHeath {f : HeathSt → HeathSt} (h : Steady m₀ m) : Steady m₀ (m.modHeath f) :=
  ⟨h.fuse, fun c => (h.canonical c).modHeath f, h.time⟩

theorem Steady.send {k : OutKind} {d : Nat} {l : List Nat} (h : Steady m₀ m) : Steady m₀ (m.send k d l) :=
  ⟨h.fuse, fun c => (h.canonical c).send k d l, h.time⟩

theorem Steady.at {w : Nat} (h : Steady m₀ m) : Steady m₀ (m.at w) :=
  ⟨h.fuse, fun c => (h.canonical c).at w, h.time.trans (Nat.le_max_left _ _)⟩

/-- A free value is taken. -/
theorem Steady.takeFresh {n : Nat} (h : Steady m₀ m) : Steady m₀ { m with fresh := n } :=
  ⟨h.fuse, fun c => h.canonical c, h.time⟩

/-- Registers return to their reset values. -/
theorem Steady.filterRegs {t : Nat × Word → Bool} (h : Steady m₀ m) : Steady m₀ { m with regs := m.regs.filter t } :=
  ⟨h.fuse, fun c =>
    have ⟨⟨sorted, listed⟩, hidden⟩ := h.canonical c
    ⟨⟨sorted.filter _, fun e he => listed e (List.mem_of_mem_filter he)⟩, hidden⟩, h.time⟩

/-- Every listed register takes a value. -/
theorem Steady.mapRegs {f : Nat → Word → Word} (h : Steady m₀ m) :
    Steady m₀ { m with regs := Store.map (resetWord m.fuse) f m.regs } :=
  ⟨h.fuse, fun c => ⟨Store.map_wf _ _ _, (h.canonical c).2⟩, h.time⟩

/-! ### The model's definitions, file by file -/

variable {u : UnitId} {p w q s a n c f off k e r : Nat} {v : Int} {data : Word} {g : Fin 4096} {write : Bool} {i : Issuer}

/-! ### Machine/Ops -/

theorem Steady.set {b : Nat} {f : Fld} {v : Nat} (h : Steady m₀ m) : Steady m₀ (m.set b f v) := h.putWord

theorem Steady.setI {b : Nat} {f : Fld} (h : Steady m₀ m) : Steady m₀ (m.setI b f v) := h.set

theorem Steady.setB {b : Nat} {f : Fld} {v : Bool} (h : Steady m₀ m) : Steady m₀ (m.setB b f v) := h.set

theorem Steady.inc {b : Nat} {f : Fld} (h : Steady m₀ m) : Steady m₀ (m.inc b f) := h.set

theorem Steady.incSat {b : Nat} {f : Fld} (h : Steady m₀ m) : Steady m₀ (m.incSat b f) := h.when (·.inc)

theorem Steady.addSat {b : Nat} {f : Fld} (h : Steady m₀ m) : Steady m₀ (m.addSat b f n) := h.set

theorem Steady.w1c {mask : Nat} (h : Steady m₀ m) : Steady m₀ (m.w1c a mask data) := h.putWord

theorem Steady.modRail {f : RailSt → RailSt} (h : Steady m₀ m) : Steady m₀ (m.modRail u q f) := h.modUnit

theorem Steady.modPhase {f : PhaseSt → PhaseSt} (h : Steady m₀ m) : Steady m₀ (m.modPhase u s f) := h.modUnit

theorem Steady.modPort {f : PortSt → PortSt} (h : Steady m₀ m) : Steady m₀ (m.modPort u n f) := h.modUnit

theorem Steady.received {stop : Nat} {f : Wafer → Wafer} (h : Steady m₀ m)
    (hf : ∀ {m}, Steady m₀ m → Steady m₀ (f m)) : Steady m₀ (received stop f m) :=
  h.unless fun h => .ite (h.modHeath (f := fun x => { x with dups := x.dups.filter fun k => k != stop })) (hf h)

theorem Steady.setStep (h : Steady m₀ m) : Steady m₀ (setStep n m) :=
  h.keeps (setStep_keeps (.refl _ _) heathArea_heathIn _)

theorem Steady.set64 {b : Nat} {lo hi : Fld} {v : Nat} (h : Steady m₀ m) : Steady m₀ (m.set64 b lo hi v) :=
  h.set.set

/-! ### Machine/Operands -/

theorem Steady.unitEvent {code slot data : Nat} (h : Steady m₀ m) : Steady m₀ (unitEvent u code slot data m) :=
  h.keeps (unitEvent_keeps (.refl _ _) (unitArea_unitIn _) _ _ _)

theorem Steady.flagEvent {f : Fld} {code slot data : Nat} (h : Steady m₀ m) :
    Steady m₀ (flagEvent u f code slot data m) := h.unless (·.set.unitEvent)

theorem Steady.intentLog {outcome ty tag : Nat} (h : Steady m₀ m) : Steady m₀ (intentLog u outcome ty tag m) :=
  h.keeps (intentLog_keeps (.refl _ _) (unitArea_unitIn _) _ _ _)

theorem Steady.logEntries {outcome : Nat} {l : List IntentEntry} (h : Steady m₀ m) :
    Steady m₀ (logEntries u outcome l m) := h.keeps (logEntries_keeps (.refl _ _) (unitArea_unitIn _) _ _)

theorem Steady.cfgWritten (h : Steady m₀ m) : Steady m₀ (cfgWritten u m) :=
  h.keeps (cfgWritten_keeps (.refl _ _) (unitArea_unitIn _))

theorem Steady.dropWindow (h : Steady m₀ m) : Steady m₀ (dropWindow u s m) :=
  h.keeps (dropWindow_keeps (.refl _ _) (unitArea_unitIn _) _)

theorem Steady.strFall (h : Steady m₀ m) : Steady m₀ (strFall u m) :=
  h.keeps (strFall_keeps (.refl _ _) (unitArea_unitIn _))

theorem Steady.leaveVset (h : Steady m₀ m) : Steady m₀ (leaveVset u q m) :=
  h.keeps (leaveVset_keeps (.refl _ _) (unitArea_unitIn _) _)

theorem Steady.liftClampEval (h : Steady m₀ m) : Steady m₀ (liftClampEval u q m) := h.when (·.set)

theorem Steady.vibStopFlag (h : Steady m₀ m) : Steady m₀ (vibStopFlag u m) :=
  h.keeps (vibStopFlag_keeps (.refl _ _) (unitArea_unitIn _))

theorem Steady.ovlEval (h : Steady m₀ m) : Steady m₀ (ovlEval u m) :=
  h.keeps (ovlEval_keeps (.refl _ _) (unitArea_unitIn _))

theorem Steady.setLift (h : Steady m₀ m) : Steady m₀ (setLift u q v m) :=
  h.keeps (setLift_keeps (.refl _ _) (unitArea_unitIn _) _ _)

theorem Steady.liftEval (h : Steady m₀ m) : Steady m₀ (liftEval u q m) := h.when (·.setLift.liftClampEval)

theorem Steady.observeIntents {seen : IntentEntry → Bool} (h : Steady m₀ m) :
    Steady m₀ (observeIntents u seen m) := h.keeps (observeIntents_keeps (.refl _ _) (unitArea_unitIn _) _)

theorem Steady.retentionEval (h : Steady m₀ m) : Steady m₀ (retentionEval u m) :=
  h.keeps (retentionEval_keeps (.refl _ _) (unitArea_unitIn _))

theorem Steady.peakVoltage (h : Steady m₀ m) : Steady m₀ (peakVoltage u q v m) := h.when (·.setI)

theorem Steady.peakMax {f : Fld} (h : Steady m₀ m) : Steady m₀ (peakMax u f v m) := h.when (·.setI)

/-! ### Machine/Rail -/

theorem Steady.railOff (h : Steady m₀ m) : Steady m₀ (railOff u q m) := (h.fold (·.modPhase)).modRail.set

theorem Steady.openSide (h : Steady m₀ m) : Steady m₀ (openSide u n m) :=
  h.keeps (openSide_keeps (.refl _ _) (unitArea_unitIn _) _)

theorem Steady.openAllSides (h : Steady m₀ m) : Steady m₀ (openAllSides u m) :=
  h.keeps (openAllSides_keeps (.refl _ _) (unitArea_unitIn _))

theorem Steady.freeIntents {gone : IntentEntry → Bool} (h : Steady m₀ m) : Steady m₀ (freeIntents u gone m) :=
  h.keeps (freeIntents_keeps (.refl _ _) (unitArea_unitIn _) _)

theorem Steady.coreEval (h : Steady m₀ m) : Steady m₀ (coreEval u m) :=
  h.keeps (coreEval_keeps (.refl _ _) (unitArea_unitIn _))

theorem Steady.closeForHold (h : Steady m₀ m) : Steady m₀ (closeForHold u n m) :=
  h.keeps (closeForHold_keeps (.refl _ _) (unitArea_unitIn _) _)

theorem Steady.serveStanding (h : Steady m₀ m) : Steady m₀ (serveStanding u m) :=
  h.keeps (serveStanding_keeps (.refl _ _) (unitArea_unitIn _))

theorem Steady.leaveReg (h : Steady m₀ m) : Steady m₀ (leaveReg u q m) :=
  h.keeps (leaveReg_keeps (.refl _ _) (unitArea_unitIn _) _)

theorem Steady.burstOver (h : Steady m₀ m) : Steady m₀ (burstOver u m) :=
  h.keeps (burstOver_keeps (.refl _ _) (unitArea_unitIn _))

theorem Steady.enterState {st : Nat} (h : Steady m₀ m) : Steady m₀ (enterState u q st m) :=
  ((((((h.when (·.leaveReg)).when (·.modRail)).when (·.set.fold (·.dropWindow))).unless (·.railOff.when
    (·.burstOver.strFall))).modRail.when (·.modUnit)).when (·.modRail)).set.vibStopFlag.coreEval.when
    (·.serveStanding)

theorem Steady.beginRamp {fromV toV : Int} {edges : Nat} (h : Steady m₀ m) :
    Steady m₀ (beginRamp u q fromV toV edges m) := h.leaveVset.modRail.setI.setB

theorem Steady.startRampUp (h : Steady m₀ m) : Steady m₀ (startRampUp u q v m) := h.enterState.beginRamp

theorem Steady.retarget (h : Steady m₀ m) : Steady m₀ (retarget u q m) :=
  .ite (h.unless (·.beginRamp)) (h.when (fun h => h.unless (fun h => .ite h.beginRamp h.beginRamp)))

theorem Steady.railEnable (h : Steady m₀ m) : Steady m₀ (railEnable u q m) :=
  h.unless (fun h => .ite h.set (h.set.unless (fun h => .ite h.enterState (h.when (·.startRampUp)))))

theorem Steady.railDisable (h : Steady m₀ m) : Steady m₀ (railDisable u q m) :=
  h.set.branch (·.enterState.beginRamp) (·.when (·.enterState))

theorem Steady.restoreShed (h : Steady m₀ m) : Steady m₀ (restoreShed u q m) :=
  h.when (fun h => (h.fold (·.when (·.set.modPhase))).modRail.set)

theorem Steady.startPulse {kind : Pulse} (h : Steady m₀ m) : Steady m₀ (startPulse u s kind n m) :=
  h.modPhase.inc

theorem Steady.issuePulse (h : Steady m₀ m) : Steady m₀ (issuePulse u q s n m) := h.modRail.startPulse

theorem Steady.modulate (h : Steady m₀ m) : Steady m₀ (modulate u q m) := by
  dsimp only [Machine.modulate]
  split
  · exact h.modRail
  · exact .ite (h.modRail.branch (·.modRail.set.issuePulse) (·.modRail)) h.modRail.issuePulse

theorem Steady.retryRequest (h : Steady m₀ m) : Steady m₀ (retryRequest u q m) := h.when (·.modulate)

theorem Steady.senseVib {code : Nat} (h : Steady m₀ m) : Steady m₀ (senseVib u code m) :=
  h.keeps (senseVib_keeps (.refl _ _) (unitArea_unitIn _) _)

theorem Steady.fireTie (h : Steady m₀ m) : Steady m₀ (fireTie u s m) := h.startPulse.modUnit.inc

theorem Steady.fireTest (h : Steady m₀ m) : Steady m₀ (fireTest u s m) := by
  unfold Machine.fireTest
  exact h.startPulse.modPhase

theorem Steady.testEval (h : Steady m₀ m) : Steady m₀ (testEval u s m) := h.when (·.fireTest)

theorem Steady.offerPhase (h : Steady m₀ m) : Steady m₀ (offerPhase u s m) := by
  dsimp only [Machine.offerPhase]
  refine h.testEval.unless (fun h => .ite h.modPhase ?_)
  split
  · exact .ite h.fireTie h.modUnit.retryRequest
  · exact h.retryRequest

theorem Steady.backInService (h : Steady m₀ m) : Steady m₀ (backInService u s m) := h.modPhase.offerPhase

theorem Steady.offerRail (h : Steady m₀ m) : Steady m₀ (offerRail u q m) :=
  h.keeps (offerRail_keeps (.refl _ _) (unitArea_unitIn _) _)

theorem Steady.senseRail (h : Steady m₀ m) : Steady m₀ (senseRail u q v m) :=
  (h.modRail.modRail.when (·.ovlEval)).peakVoltage

theorem Steady.senseMean (h : Steady m₀ m) : Steady m₀ (senseMean u q v m) := h.modRail.senseRail

theorem Steady.doSenseOpenDetect {q : Fin 2} (h : Steady m₀ m) : Steady m₀ (doSenseOpenDetect u q v m) :=
  h.senseRail.when (·.enterState.unitEvent)

theorem Steady.vibStop {uv : Bool} (h : Steady m₀ m) : Steady m₀ (vibStop u uv m) :=
  h.keeps (vibStop_keeps (.refl _ _) (unitArea_unitIn _) _)

theorem Steady.doVibUnderVoltage {vib : Nat} (h : Steady m₀ m) : Steady m₀ (doVibUnderVoltage u vib m) :=
  h.when (fun h => (h.senseVib.set.unless (·.unitEvent)).set.vibStop)

theorem Steady.doVibRecover {vib : Nat} {v0 v1 : Int} (h : Steady m₀ m) :
    Steady m₀ (doVibRecover u vib v0 v1 m) :=
  (h.senseVib.when (·.set)).branch (fun h => (h.when (·.senseMean.startRampUp)).senseMean.startRampUp) (·.when
    (·.senseMean.startRampUp))

theorem Steady.doVibOutOfRange {vib : Nat} (h : Steady m₀ m) : Steady m₀ (doVibOutOfRange u vib m) :=
  h.when (fun h => (h.senseVib.unless (·.unitEvent)).set.set)

theorem Steady.stopSink (h : Steady m₀ m) : Steady m₀ (stopSink u q m) := (h.fold (·.modPhase)).set

theorem Steady.doVibSinkInhibit {vib : Nat} (h : Steady m₀ m) : Steady m₀ (doVibSinkInhibit u vib m) :=
  h.when (·.senseVib.set.stopSink.stopSink)

theorem Steady.doVibOverVoltage {vib : Nat} (h : Steady m₀ m) : Steady m₀ (doVibOverVoltage u vib m) :=
  h.when (fun h => (h.doVibSinkInhibit.unless (·.unitEvent)).set.vibStop)

theorem Steady.doDemandBegin {q : Fin 2} (h : Steady m₀ m) : Steady m₀ (doDemandBegin u q v m) :=
  h.senseRail.when (·.modRail)

theorem Steady.doDemandEnd {q : Fin 2} (h : Steady m₀ m) : Steady m₀ (doDemandEnd u q v m) :=
  h.senseRail.when (·.modRail)

theorem Steady.doModulatorRequest {q : Fin 2} {vib : Nat} (h : Steady m₀ m) :
    Steady m₀ (doModulatorRequest u q vib m) := h.senseVib.when (·.modulate)

theorem Steady.endPulse {limited : Bool} (h : Steady m₀ m) : Steady m₀ (endPulse u s limited m) :=
  h.keeps (endPulse_keeps (.refl _ _) (unitArea_unitIn _) _ _)

theorem Steady.doPulseEnd {s : Fin 4} (h : Steady m₀ m) : Steady m₀ (doPulseEnd u s m) := h.endPulse

theorem Steady.doOffTimeExpire {s : Fin 4} (h : Steady m₀ m) : Steady m₀ (doOffTimeExpire u s w m) :=
  h.at.when (·.modPhase.branch (·.startPulse.modPhase) (·.offerPhase))

theorem Steady.doPhaseCurrentZero {s : Fin 4} (h : Steady m₀ m) : Steady m₀ (doPhaseCurrentZero u s m) :=
  .ite h.modPhase (h.when (·.modPhase.modRail))

theorem Steady.fllRail (h : Steady m₀ m) : Steady m₀ (fllRail u q m) := by
  unfold Machine.fllRail
  exact .modRail (.fold (.ite h.set h.set.setB.setI) (·.modPhase))

theorem Steady.doFllWindowEnd (h : Steady m₀ m) : Steady m₀ (doFllWindowEnd u m) := h.fllRail.fllRail

theorem Steady.doSyncEdge {err : Int} (h : Steady m₀ m) : Steady m₀ (doSyncEdge u err m) :=
  .ite (h.modUnit.when (·.inc)) (h.incSat.when (·.set))

theorem Steady.doSyncEdgeMissing (h : Steady m₀ m) : Steady m₀ (doSyncEdgeMissing u m) := h.modUnit.when (·.set)

theorem Steady.doSyncLoss (h : Steady m₀ m) : Steady m₀ (doSyncLoss u m) := h.when (·.set.set.flagEvent)

theorem Steady.doSyncReturn (h : Steady m₀ m) : Steady m₀ (doSyncReturn u m) := h.when (·.set)

theorem Steady.doRefMoveComplete (h : Steady m₀ m) : Steady m₀ (doRefMoveComplete u m) :=
  .ite h.set (h.when (·.set))

theorem Steady.doOwnOscWrite {on : Bool} (h : Steady m₀ m) : Steady m₀ (doOwnOscWrite u on m) :=
  h.setB.when (·.set.set)

theorem Steady.doShedEnter {q : Fin 2} {i8 : Int} (h : Steady m₀ m) : Steady m₀ (doShedEnter u q i8 m) := by
  dsimp only [Machine.doShedEnter]
  split
  · exact h.when (·.set.set.dropWindow)
  · exact h

theorem Steady.doShedExit {q : Fin 2} {i1 : Int} (h : Steady m₀ m) : Steady m₀ (doShedExit u q i1 m) :=
  h.when (·.restoreShed.offerRail)

theorem Steady.doShedHoldExpire {q : Fin 2} (h : Steady m₀ m) : Steady m₀ (doShedHoldExpire u q m) := h.modRail

theorem Steady.doSinkEnter {q : Fin 2} (h : Steady m₀ m) : Steady m₀ (doSinkEnter u q v m) :=
  h.senseRail.when (·.modRail.when (·.modRail.set.observeIntents.offerRail))

theorem Steady.doSinkExit {q : Fin 2} (h : Steady m₀ m) : Steady m₀ (doSinkExit u q v m) :=
  h.senseRail.when (·.set)

theorem Steady.doRailEnable {q : Fin 2} (h : Steady m₀ m) : Steady m₀ (doRailEnable u q m) := h.railEnable

theorem Steady.doRailDisable {q : Fin 2} (h : Steady m₀ m) : Steady m₀ (doRailDisable u q m) := h.railDisable

theorem Steady.doOnDelayExpire {q : Fin 2} (h : Steady m₀ m) : Steady m₀ (doOnDelayExpire u q v m) :=
  h.when (·.senseMean.startRampUp)

theorem Steady.doRampStep {q : Fin 2} (h : Steady m₀ m) : Steady m₀ (doRampStep u q v m) :=
  h.senseRail.branch (fun h => (h.leaveVset.modRail.setI.liftClampEval.setB.branch (·.modRail.branch
    (·.enterState) (·.when (·.enterState))) (fun h => h.when (fun h => (h.railOff.when
    (·.burstOver)).modRail))).retentionEval) (·.retentionEval)

theorem Steady.setpointWrite {sp : SetPoint} (h : Steady m₀ m) : Steady m₀ (setpointWrite u sp data m) := by
  dsimp only [Machine.setpointWrite]
  split
  · exact (h.setI.when (·.set)).cfgWritten.retarget
  · exact (h.setI.when (·.set)).retarget
  · exact h.unless (fun h => (h.setI.when (·.set)).cfgWritten.retarget)

theorem Steady.doSetpointWrite {sp : SetPoint} (h : Steady m₀ m) : Steady m₀ (doSetpointWrite u sp data v m) :=
  h.senseMean.setpointWrite

theorem Steady.writeRet {ret : Bool} (h : Steady m₀ m) : Steady m₀ (writeRet u ret m) :=
  h.unless (fun h => (h.setB.when (·.modUnit)).retarget.coreEval)

theorem Steady.doRetentionSelect {ret : Bool} (h : Steady m₀ m) : Steady m₀ (doRetentionSelect u ret v m) :=
  h.senseMean.writeRet

theorem Steady.phctlWrite (h : Steady m₀ m) : Steady m₀ (phctlWrite u s data m) :=
  h.unless (fun h => ((h.w1c.set.set.set.when (·.set)).when (·.set)).cfgWritten)

theorem Steady.doPhctlWrite {s : Fin 4} (h : Steady m₀ m) : Steady m₀ (doPhctlWrite u s data m) := h.phctlWrite

/-! ### Machine/LoadStep -/

theorem Steady.liftDue {now : Nat} {i0 i1 : Int} (h : Steady m₀ m) : Steady m₀ (liftDue u now i0 i1 m) :=
  (((h.modUnit.when (·.restoreShed)).when (·.restoreShed)).liftEval.liftEval.when (·.offerRail)).when
    (·.offerRail)

theorem Steady.takeRecord {d : Word} {now : Nat} {i0 i1 : Int} (h : Steady m₀ m) :
    Steady m₀ (takeRecord u d now i0 i1 m) :=
  h.modUnit.branch (·.incSat.intentLog.flagEvent) (fun h => .ite h.incSat.intentLog (.ite h.modUnit (.ite
    h.modUnit (.ite h.incSat.intentLog (.ite h.incSat.intentLog.flagEvent h.modUnit.liftDue)))))

theorem Steady.doIntentRecord {d : Word} {i0 i1 : Int} (h : Steady m₀ m) :
    Steady m₀ (doIntentRecord g d w i0 i1 m) := h.at.modUnit.unless (·.takeRecord)

theorem Steady.doIportIsolationEnd {i0 i1 : Int} (h : Steady m₀ m) :
    Steady m₀ (doIportIsolationEnd g w i0 i1 m) := h.at.when (·.takeRecord)

theorem Steady.doIntentLift {i0 i1 : Int} (h : Steady m₀ m) : Steady m₀ (doIntentLift g w i0 i1 m) :=
  h.at.liftDue

theorem Steady.doIntentStepObserved {q : Fin 2} {i40 : Int} (h : Steady m₀ m) :
    Steady m₀ (doIntentStepObserved g q i40 m) := h.observeIntents

theorem Steady.doIntentExpire (h : Steady m₀ m) : Steady m₀ (doIntentExpire g w m) :=
  h.at.logEntries.set.modUnit.liftEval.liftEval

theorem Steady.doPreliftDecayStep {q : Fin 2} (h : Steady m₀ m) : Steady m₀ (doPreliftDecayStep g q m) :=
  .ite h.setLift.liftClampEval (h.when (·.setLift.liftClampEval))

theorem Steady.joinBurst (h : Steady m₀ m) : Steady m₀ (joinBurst u s m) :=
  h.unless (fun h => .ite h.modPhase (.ite h.modPhase h.startPulse.modPhase))

theorem Steady.doGorseTrigger {fall : Int} (h : Steady m₀ m) : Steady m₀ (doGorseTrigger g v fall m) :=
  h.when (fun h => (h.senseRail.set.inc.fold (·.when
    (·.modPort))).restoreShed.joinBurst.joinBurst.modRail.observeIntents)

theorem Steady.doGorseBurstEnd (h : Steady m₀ m) : Steady m₀ (doGorseBurstEnd g m) :=
  h.when (fun h => (h.fold (·.endPulse)).burstOver)

theorem Steady.doGorseBurstEarlyEnd {e0 e1 : Nat} (h : Steady m₀ m) :
    Steady m₀ (doGorseBurstEarlyEnd g v e0 e1 m) :=
  h.senseRail.when (fun h => ((h.fold (·.modPhase)).fold (fun h => h.when (fun h => .ite h.endPulse
    h.modPhase))).burstOver)

theorem Steady.doGorseRearm {before : Int} (h : Steady m₀ m) : Steady m₀ (doGorseRearm g before v m) :=
  h.when (·.senseRail.set)

theorem Steady.tiePulse (h : Steady m₀ m) : Steady m₀ (tiePulse u w m) := by
  dsimp only [Machine.tiePulse]
  refine h.unless (fun h => ?_)
  split
  · exact h.fireTie
  · exact h.modUnit

theorem Steady.doTieRequestReceive {n code : Fin 4} (h : Steady m₀ m) :
    Steady m₀ (doTieRequestReceive g n code w m) :=
  h.at.unless (fun h => (h.modPort.when (·.set)).branch (·.when (·.modPort)) (fun h => h.unless (fun h => .ite
    (h.unless (·.modPort.tiePulse)) (h.unless (·.closeForHold)))))

theorem Steady.doTieSideClosed {n : Fin 4} (h : Steady m₀ m) : Steady m₀ (doTieSideClosed g n m) :=
  h.when (·.set.modPort.when (·.openSide))

theorem Steady.adoptHold (h : Steady m₀ m) : Steady m₀ (adoptHold u m) := h.when (·.fold (·.when (·.modPort)))

theorem Steady.doTieAckReceive {n : Fin 4} {level : Bool} (h : Steady m₀ m) :
    Steady m₀ (doTieAckReceive g n level m) :=
  h.unless (fun h => (h.modPort.when (·.setB)).unless (fun h => .ite (h.when (fun h => .ite h.modPort (h.unless
    (·.modPort)))) h.modPort))

theorem Steady.doTieRequestRelease {n : Fin 4} (h : Steady m₀ m) : Steady m₀ (doTieRequestRelease g n m) :=
  h.set.modPort.when (·.openSide)

theorem Steady.doTieHoldExpire {n : Fin 4} (h : Steady m₀ m) : Steady m₀ (doTieHoldExpire g n m) :=
  h.when (·.at.modPort.when (·.openSide))

theorem Steady.doTieGuardOpen {n : Fin 4} (h : Steady m₀ m) : Steady m₀ (doTieGuardOpen g n v m) :=
  h.senseRail.when (·.openSide.modPort.flagEvent)

theorem Steady.doTieGuardReclose {n : Fin 4} (h : Steady m₀ m) : Steady m₀ (doTieGuardReclose g n v m) :=
  h.senseRail.when (·.closeForHold)

theorem Steady.doTieAckTimeout {n : Fin 4} (h : Steady m₀ m) : Steady m₀ (doTieAckTimeout g n m) :=
  h.when (·.modPort.incSat.flagEvent)

theorem Steady.doStretchAssert (h : Steady m₀ m) : Steady m₀ (doStretchAssert g v w m) :=
  h.at.senseRail.when (·.set.inc.modUnit)

theorem Steady.doStretchRelease (h : Steady m₀ m) : Steady m₀ (doStretchRelease g v w m) :=
  h.at.senseRail.when (·.strFall)

theorem Steady.doPatchOverloadClassify (h : Steady m₀ m) : Steady m₀ (doPatchOverloadClassify g v m) :=
  h.senseRail.when (fun h => (h.at.set.set.fold (·.modPort)).openAllSides.unitEvent)

/-! ### Machine/Nvm -/

theorem Steady.modNvm {f : NvmSt → NvmSt} (h : Steady m₀ m) : Steady m₀ (m.modNvm f) :=
  h.keeps (modNvm_keeps (.refl _ _) heathArea_heathIn _)

theorem Steady.beginRegion (h : Steady m₀ m) : Steady m₀ (beginRegion r m) :=
  (h.modNvm.when (·.modNvm)).set.branch (·.set.set) (·.set)

theorem Steady.nvmNext (h : Steady m₀ m) : Steady m₀ (nvmNext m) :=
  h.keeps (nvmNext_keeps (.refl _ _) heathArea_heathIn)

theorem Steady.nvmBusy (h : Steady m₀ m) : Steady m₀ (nvmBusy m) := h.setB.setB.setB

theorem Steady.nvmQueue (h : Steady m₀ m) : Steady m₀ (nvmQueue r m) :=
  h.keeps (nvmQueue_keeps (.refl _ _) heathArea_heathIn _)

theorem Steady.retireDiffers (h : Steady m₀ m) : Steady m₀ (retireDiffers m) :=
  h.keeps (retireDiffers_keeps (.refl _ _) heathArea_heathIn)

theorem Steady.liveRetire {on : Bool} (h : Steady m₀ m) : Steady m₀ (m.liveRetire u s on) :=
  h.keeps (liveRetire_keeps (.refl _ _) heathArea_heathIn _ _ _)

/-! ### Machine/Health -/

theorem Steady.doCurrentLimitHit {s : Fin 4} {i : Int} (h : Steady m₀ m) :
    Steady m₀ (doCurrentLimitHit u s i m) :=
  .ite (h.modPhase.when (·.peakMax)).modRail.endPulse.ovlEval (h.when (·.modPhase))

theorem Steady.phaseOff (h : Steady m₀ m) : Steady m₀ (phaseOff u s m) :=
  h.keeps (phaseOff_keeps (.refl _ _) (unitArea_unitIn _) _)

theorem Steady.faultOff (h : Steady m₀ m) : Steady m₀ (faultOff u s m) :=
  h.keeps (faultOff_keeps (.refl _ _) (unitArea_unitIn _) _)

theorem Steady.railLoss (h : Steady m₀ m) : Steady m₀ (railLoss u s m) :=
  h.keeps (railLoss_keeps (.refl _ _) (unitArea_unitIn _) _)

theorem Steady.retirePhase (h : Steady m₀ m) : Steady m₀ (retirePhase u s m) :=
  h.unless (·.phaseOff.set.set.set.unitEvent.railLoss)

theorem Steady.lossFlags (h : Steady m₀ m) : Steady m₀ (lossFlags u m) := .ite h.setB.setB h.setB.setB

theorem Steady.doPhaseFaultDetect {s : Fin 4} {r : PhaseReading} (h : Steady m₀ m) :
    Steady m₀ (doPhaseFaultDetect u s r m) :=
  h.unless (fun h => h.set.faultOff.branch (·.modPhase) (fun h => h.unless (fun h => .ite h.retirePhase (.ite
    h.modPhase.set.incSat.unitEvent h.retirePhase))))

theorem Steady.doSuspensionEnd {s : Fin 4} (h : Steady m₀ m) : Steady m₀ (doSuspensionEnd u s m) :=
  h.when (·.set.backInService)

theorem Steady.ovClampEval (h : Steady m₀ m) : Steady m₀ (ovClampEval u q m) := h.when (·.set)

theorem Steady.doRailOvTrip {q : Fin 2} (h : Steady m₀ m) : Steady m₀ (doRailOvTrip u q v m) :=
  h.senseRail.ovClampEval.when (·.enterState.set.incSat.branch (·.modRail.unitEvent) (·.set.unitEvent))

theorem Steady.doTripRetryExpire {q : Fin 2} (h : Steady m₀ m) : Steady m₀ (doTripRetryExpire u q v m) :=
  h.when (·.senseMean.startRampUp)

theorem Steady.doRailUnderVoltage {q : Fin 2} (h : Steady m₀ m) : Steady m₀ (doRailUnderVoltage u q v m) :=
  h.senseRail.when (·.set.modRail.unless (·.unitEvent))

theorem Steady.sensorFailed (h : Steady m₀ m) : Steady m₀ (sensorFailed u m) :=
  h.keeps (sensorFailed_keeps (.refl _ _) (unitArea_unitIn _))

theorem Steady.tempTests {mean : Int} (h : Steady m₀ m) : Steady m₀ (tempTests u mean m) :=
  h.keeps (tempTests_keeps (.refl _ _) (unitArea_unitIn _) _)

theorem Steady.doTempSample {t : TempReading} (h : Steady m₀ m) : Steady m₀ (doTempSample u t m) :=
  h.peakMax.modUnit.setI.branch (fun h => .ite h.modUnit h.modUnit.tempTests) (fun h => .ite h.sensorFailed
    h.tempTests)

theorem Steady.doTempSensorFail {noSample : Bool} (h : Steady m₀ m) :
    Steady m₀ (doTempSensorFail u noSample m) := h.when (·.modUnit.sensorFailed)

theorem Steady.doColumnEstimate {s : Fin 4} {i : Int} {steady quiet : Bool} (h : Steady m₀ m) :
    Steady m₀ (doColumnEstimate u s i steady quiet m) := h.unless (fun h => .ite h.modPhase h.incSat)

theorem Steady.compareEstimate {est : Nat} (h : Steady m₀ m) : Steady m₀ (compareEstimate u s est m) :=
  .ite h.modPhase ((h.modPhase.when (·.set.unitEvent)).when (fun h => (h.unless (·.set.unitEvent)).when
    (·.set.faultOff.retirePhase)))

theorem Steady.doColumnEstimateDone {s : Fin 4} {drop i : Int} {interrupted : Bool} (h : Steady m₀ m) :
    Steady m₀ (doColumnEstimateDone u s drop i interrupted m) :=
  h.when (fun h => h.modPhase.branch (·.incSat) (fun h => (h.set.set.when (·.set.set)).compareEstimate))

theorem Steady.doBaselineCapture {s : Fin 4} (h : Steady m₀ m) : Steady m₀ (doBaselineCapture u s m) :=
  h.unless (·.set)

theorem Steady.doRetireWrite {s : Fin 4} (h : Steady m₀ m) : Steady m₀ (doRetireWrite u s m) := h.retirePhase

theorem Steady.unretire (h : Steady m₀ m) : Steady m₀ (unretire u s m) :=
  h.unless (fun h => .ite (h.set.set.set.modPhase.branch (fun h => .ite h.set h.set) (·.when
    (·.set))).liveRetire.backInService h.set)

theorem Steady.doUnretireWrite {s : Fin 4} (h : Steady m₀ m) : Steady m₀ (doUnretireWrite u s m) := h.unretire

theorem Steady.startTest (h : Steady m₀ m) : Steady m₀ (startTest u s m) := h.unless (·.modPhase.set.testEval)

theorem Steady.testTick (h : Steady m₀ m) : Steady m₀ (testTick u m) :=
  h.keeps (testTick_keeps (.refl _ _) (unitArea_unitIn _))

theorem Steady.doPhaseTestStart {s : Fin 4} (h : Steady m₀ m) : Steady m₀ (doPhaseTestStart u s m) :=
  h.startTest

theorem Steady.doPhaseTestDone {s : Fin 4} (h : Steady m₀ m) : Steady m₀ (doPhaseTestDone u s m) :=
  h.when (·.set.setB.setB.modPhase)

theorem Steady.doAdoptionEnd (h : Steady m₀ m) : Steady m₀ (doAdoptionEnd g v m) :=
  h.senseRail.when (·.set.fold (·.modPort))

/-! ### Machine/UnitWrite -/

theorem Steady.plainWrite (h : Steady m₀ m) : Steady m₀ (plainWrite a data m) := by
  dsimp only [Machine.plainWrite]
  split
  · exact h
  · exact h.putWord

theorem Steady.clampField {b : Nat} {f : Fld} {lo hi : Nat} {flag : Option Fld} (h : Steady m₀ m) :
    Steady m₀ (clampField b f lo hi flag m) := by
  dsimp only [Machine.clampField]
  refine h.when (fun h => ?_)
  split
  · exact h.set.set
  · exact h.set

theorem Steady.ctlWrite (h : Steady m₀ m) : Steady m₀ (ctlWrite u data m) :=
  (((h.setB.setB.when (·.fold (·.modRail))).unless (·.doOwnOscWrite)).unless (·.writeRet)).fold (fun h =>
    h.unless (fun h => .ite h.railEnable h.railDisable))

theorem Steady.portsAtRelease (h : Steady m₀ m) : Steady m₀ (portsAtRelease u m) := h.fold (·.modPort)

theorem Steady.releaseUnit (h : Steady m₀ m) : Steady m₀ (releaseUnit u m) :=
  h.when (fun h => (h.modUnit.set.unless (·.portsAtRelease)).fold (·.when (·.enterState)))

theorem Steady.phhlthWrite (h : Steady m₀ m) : Steady m₀ (phhlthWrite u s data m) :=
  (h.w1c.branch (·.retirePhase) (·.unretire)).when (·.startTest)

theorem Steady.tcfgWrite (h : Steady m₀ m) : Steady m₀ (tcfgWrite u data m) :=
  h.plainWrite.clampField.when (·.modUnit)

theorem Steady.unitWrite (h : Steady m₀ m) : Steady m₀ (unitWrite u off data m) := by
  dsimp only [Machine.unitWrite]
  refine .ite h.ctlWrite (.ite (h.when (·.releaseUnit)) (.ite h.setpointWrite (.ite ?_ (.ite (h.unless (fun h
    => ?_)) (.ite (h.unless (fun h => ?_)) (.ite h.plainWrite.clampField.clampField.cfgWritten.ovClampEval
    (.ite h.plainWrite.clampField.clampField.clampField.cfgWritten (.ite h.plainWrite.clampField (.ite
    h.tcfgWrite (.ite h.plainWrite (.ite h.plainWrite.clampField.clampField.clampField.clampField (.ite
    (h.plainWrite.clampField.unless (·.strFall)) (.ite h.plainWrite.clampField.clampField.liftEval.liftEval
    (.ite h.plainWrite.clampField (.ite h.plainWrite.clampField h.plainWrite)))))))))))))))
  · split
    · exact h.setpointWrite
    · exact h.setpointWrite
    · exact h.plainWrite.clampField.cfgWritten.ovClampEval
    · exact h.plainWrite.clampField
    · exact h.plainWrite.clampField.clampField
    · exact h.unless (·.plainWrite.cfgWritten.unless (·.restoreShed.offerRail))
    · exact h.plainWrite.clampField.clampField.cfgWritten.ovClampEval.unless (·.stopSink)
    · exact h.plainWrite
  · split
    · exact h.phctlWrite
    · exact h.plainWrite.when (·.setI.set)
    · exact h.plainWrite
  · split
    · exact h.plainWrite.clampField.cfgWritten
    · exact h.phhlthWrite
    · exact .ite h.plainWrite.doBaselineCapture h.plainWrite
    · exact h.plainWrite

theorem Steady.resetBlock {lo len : Nat} (h : Steady m₀ m) : Steady m₀ (resetBlock lo len m) := h.mapRegs

theorem Steady.clearUnit {por : Bool} (h : Steady m₀ m) : Steady m₀ (clearUnit u por m) :=
  (h.resetBlock.set.fold (·.setB)).lossFlags.modUnit.unless (·.fold (·.modPort))

theorem Steady.restoreUnit (h : Steady m₀ m) : Steady m₀ (restoreUnit u m) :=
  h.modUnit.set.unless (·.fold (·.set.setB))

theorem Steady.doReleaseWrite (h : Steady m₀ m) : Steady m₀ (doReleaseWrite u m) := h.releaseUnit

theorem Steady.doTelemetryWindowWrite {n : Fin 32} (h : Steady m₀ m) :
    Steady m₀ (doTelemetryWindowWrite u n m) := h.tcfgWrite

theorem Steady.doMarkStale (h : Steady m₀ m) : Steady m₀ (doMarkStale u m) := h.modUnit

/-! ### Machine/Counters -/

theorem Steady.setCounter {v : Nat} (h : Steady m₀ m) : Steady m₀ (setCounter p k v m) := h.set64

theorem Steady.queueReport {e : FaultEvent} (h : Steady m₀ m) : Steady m₀ (queueReport p e m) :=
  h.keeps (queueReport_keeps (.refl _ _) (swardArea_swardIn _) _)

theorem Steady.reportEvent {code unit dataA dataB : Nat} (h : Steady m₀ m) :
    Steady m₀ (reportEvent p code unit dataA dataB m) :=
  h.keeps (reportEvent_keeps (.refl _ _) (swardArea_swardIn _) _ _ _ _)

theorem Steady.swardFault {code dataA dataB : Nat} (h : Steady m₀ m) :
    Steady m₀ (swardFault p code dataA dataB m) :=
  h.keeps (swardFault_keeps (.refl _ _) (swardArea_swardIn _) _ _ _)

theorem Steady.snapCounters (h : Steady m₀ m) : Steady m₀ (snapCounters p m) :=
  h.keeps (snapCounters_keeps (.refl _ _) (swardArea_swardIn _))

theorem Steady.overflowMark (h : Steady m₀ m) : Steady m₀ (overflowMark p k m) :=
  (h.putWord.when (·.swardFault)).when (fun h => (h.when (·.set)).set.set.set.setB.set.set.modSward)

theorem Steady.bumpOverflows (h : Steady m₀ m) : Steady m₀ (bumpOverflows p m).2 := h.setCounter

theorem Steady.countOverflow (h : Steady m₀ m) : Steady m₀ (countOverflow p m) :=
  h.when (·.bumpOverflows.when (·.bumpOverflows.overflowMark))

theorem Steady.overflowActions (h : Steady m₀ m) : Steady m₀ (overflowActions p k m) :=
  h.overflowMark.countOverflow

theorem Steady.count {e : EventAttr} (h : Steady m₀ m) : Steady m₀ (count p k n e m) :=
  h.unless (·.setCounter.unless (·.overflowActions))

theorem Steady.tally (h : Steady m₀ m) : Steady m₀ (tally p k m) := h.count

theorem Steady.counterCommand (h : Steady m₀ m) : Steady m₀ (counterCommand p data m) :=
  h.keeps (counterCommand_keeps (.refl _ _) (swardArea_swardIn _) _)

theorem Steady.doSnap {p : Fin 64} (h : Steady m₀ m) : Steady m₀ (doSnap p m) := h.counterCommand

theorem Steady.doClr {p : Fin 64} {all : Bool} {k : Fin 128} (h : Steady m₀ m) : Steady m₀ (doClr p all k m) :=
  h.counterCommand

theorem Steady.doCounterOverflow {p : Fin 64} {k : Fin 96} (h : Steady m₀ m) :
    Steady m₀ (doCounterOverflow p k n m) := h.when (·.count)

theorem Steady.doOverflowSnapshot {p : Fin 64} {pred : Bool} {slot : Fin 256} (h : Steady m₀ m) :
    Steady m₀ (doOverflowSnapshot p pred slot m) := h.when (·.modSward.setB.set.snapCounters.tally)

theorem Steady.counterConfig (h : Steady m₀ m) : Steady m₀ (counterConfig p off data m) :=
  h.plainWrite.when (·.set)

/-! ### Machine/Engine -/

theorem Steady.pendConfig (h : Steady m₀ m) : Steady m₀ (pendConfig p off data m) :=
  h.keeps (pendConfig_keeps (.refl _ _) (swardArea_swardIn _) _ _)

theorem Steady.setIntegrator (h : Steady m₀ m) : Steady m₀ (setIntegrator p n v m) := h.set64

theorem Steady.clearNotch (h : Steady m₀ m) : Steady m₀ (clearNotch p n m) := h.set.set

theorem Steady.clearPredictor (h : Steady m₀ m) : Steady m₀ (clearPredictor p k m) := h.modSward.set

theorem Steady.restartContext (h : Steady m₀ m) : Steady m₀ (restartContext p c m) :=
  h.set.when (·.modSward.set)

theorem Steady.reportWeight (h : Steady m₀ m) : Steady m₀ (reportWeight p w m) := h.send.modHeath

theorem Steady.applyConfig {e : Nat × Word} (h : Steady m₀ m) : Steady m₀ (applyConfig p e m) :=
  h.plainWrite.branch (fun h => (((h.when (·.modSward)).when (·.set)).when
    (·.setIntegrator.clearNotch.set.set.set)).when (·.clearNotch)) (fun h => .ite ((h.when (·.set)).when
    (·.clearPredictor)) (h.when (fun h => (h.when (·.restartContext)).when (·.reportWeight))))

theorem Steady.applyPending (h : Steady m₀ m) : Steady m₀ (applyPending p m) :=
  h.unless (fun h => (h.modSward.set.fold (·.applyConfig)).fold (·.modSward))

theorem Steady.doSwardConfigWrite {p : Fin 64} (h : Steady m₀ m) :
    Steady m₀ (doSwardConfigWrite p off data m) := h.when (·.pendConfig)

theorem Steady.slotStateWrite {word : Nat} (h : Steady m₀ m) : Steady m₀ (slotStateWrite p n word data m) :=
  .ite h.set h.plainWrite

theorem Steady.doSlotIntClear {p : Fin 64} {n : Fin 256} (h : Steady m₀ m) :
    Steady m₀ (doSlotIntClear p n m) := h.pendConfig

theorem Steady.doPredictorClear {p : Fin 64} {k : Fin 16} (h : Steady m₀ m) :
    Steady m₀ (doPredictorClear p k m) := h.pendConfig

theorem Steady.doContextRestart {p : Fin 64} {c : Fin 8} (h : Steady m₀ m) :
    Steady m₀ (doContextRestart p c m) := h.pendConfig

theorem Steady.doSlotExecute {p : Fin 64} {n : Fin 256} (h : Steady m₀ m) : Steady m₀ (doSlotExecute p n m) :=
  h.when (·.modSward.tally)

theorem Steady.doPredictorExecute {p : Fin 64} {k : Fin 16} (h : Steady m₀ m) :
    Steady m₀ (doPredictorExecute p k m) := h.when (·.setI.modSward.tally)

theorem Steady.commitSlots (h : Steady m₀ m) : Steady m₀ (commitSlots p m) := by
  dsimp only [Machine.commitSlots]
  refine (((h.fold (fun h => .when (.modSward (.set (.setB (.setB (.setB (?_)))))) (·.set.set))).fold
    (·.incSat.putWord.set.tally.swardFault)).when (·.set)).modSward
  split
  · exact h.setI.setIntegrator.setI.setI
  · exact h.setI.setIntegrator

theorem Steady.schedWrite (h : Steady m₀ m) : Steady m₀ (schedWrite p data m) :=
  (h.setB.setB.when (·.set)).modHeath.branch (·.modSward) (·.setB)

theorem Steady.doLoadPeakClear {p : Fin 64} (h : Steady m₀ m) : Steady m₀ (doLoadPeakClear p m) := h.set

theorem Steady.katWrite (h : Steady m₀ m) : Steady m₀ (katWrite p data m) :=
  h.w1c.when (fun h => .ite h.set h.set.tally)

theorem Steady.doKatStart {p : Fin 64} (h : Steady m₀ m) : Steady m₀ (doKatStart p m) := h.katWrite

/-! ### Machine/Image -/

theorem Steady.recordImage {u : Nat} (h : Steady m₀ m) : Steady m₀ (recordImage p u off data m) :=
  h.when (·.modSward)

theorem Steady.queueOwn {u : Nat} (h : Steady m₀ m) : Steady m₀ (queueOwn p u off data m) := h.modSward

theorem Steady.queueEnable {u : Nat} {on : Bool} (h : Steady m₀ m) : Steady m₀ (queueEnable p u q on m) :=
  h.queueOwn

theorem Steady.queueImage {u : Nat} (h : Steady m₀ m) : Steady m₀ (queueImage p u m) :=
  (h.fold (·.queueOwn)).count

theorem Steady.clearAfterReturn {u : Nat} (h : Steady m₀ m) : Steady m₀ (clearAfterReturn p u m) := by
  unfold Machine.clearAfterReturn
  exact ((h.fold (·.modSward.clearNotch)).fold (·.clearPredictor)).queueOwn.modSward

theorem Steady.clearAllSlots (h : Steady m₀ m) : Steady m₀ (clearAllSlots p m) := h.fold (·.modSward.clearNotch)

theorem Steady.beginReturn {us : List Nat} (h : Steady m₀ m) : Steady m₀ (beginReturn p us m) := h.modSward

theorem Steady.beginRestore {u : Nat} (h : Steady m₀ m) : Steady m₀ (beginRestore p u m) :=
  h.when (·.beginReturn.queueImage)

theorem Steady.queueRelease {u : Nat} (h : Steady m₀ m) : Steady m₀ (queueRelease p u m) := h.queueOwn.queueOwn

theorem Steady.doReturnEpochCheck {p : Fin 64} {u : Fin 72} {epoch : BitVec 16} (h : Steady m₀ m) :
    Steady m₀ (doReturnEpochCheck p u epoch m) :=
  h.when (fun h => (((h.when (·.set.incSat.count.reportEvent)).when (·.queueImage)).clearAfterReturn.when
    (·.queueRelease)).set.set.set.modSward)

theorem Steady.configStep (h : Steady m₀ m) : Steady m₀ (configStep m) := h.when (·.setStep)

theorem Steady.katStep (h : Steady m₀ m) : Steady m₀ (katStep m) :=
  h.when (·.setStep.fold (·.fold (·.beginRestore)))

theorem Steady.doKatDone {p : Fin 64} {lanes : BitVec 4} (h : Steady m₀ m) : Steady m₀ (doKatDone p lanes m) :=
  h.when (fun h => (h.set.setB.setB.set.branch (·.when (·.modSward.set)) (·.when
    (·.inc.modHeath.swardFault))).katStep)

/-! ### Machine/Ladder -/

theorem Steady.writeShadow {t v : Nat} (h : Steady m₀ m) : Steady m₀ (writeShadow p t n v m).1 :=
  ((h.set.fold (·.set)).set.when (·.set))

theorem Steady.setShadow {st : Nat} (h : Steady m₀ m) : Steady m₀ (setShadow p st m) :=
  h.keeps (setShadow_keeps (.refl _ _) (swardArea_swardIn _) _)

theorem Steady.beginCheck {build : Bool} (h : Steady m₀ m) : Steady m₀ (beginCheck p build m) :=
  h.modSward.setShadow

theorem Steady.endWalk {w : Walk} {floor : Bool} (h : Steady m₀ m) : Steady m₀ (endWalk p w floor m) :=
  h.writeShadow.putWord.setB.setB.set.set.set.set.inc.set.set.modSward.tally.when (·.beginCheck)

theorem Steady.abandonWalk (h : Steady m₀ m) : Steady m₀ (abandonWalk p m) := by
  dsimp only [Machine.abandonWalk]
  split
  · exact h
  · exact h.putWord.set.set.set.inc.set.set.modSward.tally

theorem Steady.walkStep {w : Walk} (h : Steady m₀ m) : Steady m₀ (walkStep p w m) :=
  .ite h.endWalk (.ite h.endWalk h.modSward.set.set.set.set.set.modSward)

theorem Steady.startWalk {t : Nat} (h : Steady m₀ m) : Steady m₀ (startWalk p t m) := h.modSward.walkStep

theorem Steady.walkCommit {changed : Bool} (h : Steady m₀ m) : Steady m₀ (walkCommit p changed m) := by
  dsimp only [Machine.walkCommit]
  split
  · exact h
  · refine .ite h.abandonWalk ?_
    split
    · exact h.when (fun h => .ite h.endWalk h.modSward)
    · exact h.unless (fun h => .ite h.endWalk h.modSward)

theorem Steady.doWalkStepPass {p : Fin 64} (h : Steady m₀ m) : Steady m₀ (doWalkStepPass p m) := by
  dsimp only [Machine.doWalkStepPass]
  split
  · split
    · exact h.when (·.walkStep)
    · exact h
  · exact h

theorem Steady.doWalkSettleFail {p : Fin 64} (h : Steady m₀ m) : Steady m₀ (doWalkSettleFail p m) := by
  dsimp only [Machine.doWalkSettleFail]
  split
  · exact h.when (·.endWalk)
  · exact h

theorem Steady.endFull (h : Steady m₀ m) : Steady m₀ (endFull p m) := h.abandonWalk.modSward.beginCheck

theorem Steady.fullCommit (h : Steady m₀ m) : Steady m₀ (fullCommit p m) :=
  h.when (fun h => .ite h.modSward (h.modSward.when (fun h => .ite h.endFull h.modSward)))

theorem Steady.doFullRungTimeout {p : Fin 64} (h : Steady m₀ m) : Steady m₀ (doFullRungTimeout p m) := by
  dsimp only [Machine.doFullRungTimeout]
  split
  · exact h.when (·.endFull)
  · exact h

theorem Steady.bumpTussock {t : Nat} (h : Steady m₀ m) : Steady m₀ (bumpTussock p t m) :=
  h.unless fun h => ((h.set.when (·.set)).when fun h => h.writeShadow.setShadow.when
    (·.set)).modSward.tally.reportEvent

theorem Steady.ladderShadowWrite (h : Steady m₀ m) : Steady m₀ (ladderShadowWrite p off data m) :=
  .ite h.plainWrite h.set

theorem Steady.doLadderShadowWrite {p t : Fin 64} {i : Fin 16} (h : Steady m₀ m) :
    Steady m₀ (doLadderShadowWrite p t i data m) := h.ladderShadowWrite

theorem Steady.doLadderCheckDone {p : Fin 64} (h : Steady m₀ m) : Steady m₀ (doLadderCheckDone p m) :=
  h.when (fun h => .ite h.setShadow ((((h.when (·.set)).when (·.set)).when (·.set)).tally.swardFault.when
    (·.modSward.set)).setShadow)

theorem Steady.copyBank {src dst : Nat} (h : Steady m₀ m) : Steady m₀ (copyBank p src dst m) :=
  h.fold (·.putWord)

theorem Steady.doLadderCopyDone {p : Fin 64} (h : Steady m₀ m) : Steady m₀ (doLadderCopyDone p m) :=
  h.when (·.copyBank.set.setShadow)

theorem Steady.makeSwap (h : Steady m₀ m) : Steady m₀ (makeSwap p m) :=
  (((h.copyBank.fold (·.putWord)).set.fold (·.putWord)).inc.setShadow.modSward.when (·.set.set)).tally

theorem Steady.ladderRequests (h : Steady m₀ m) : Steady m₀ (ladderRequests p data m) :=
  (h.when (·.modSward)).when (·.modSward)

theorem Steady.ladderAction (h : Steady m₀ m) : Steady m₀ (ladderAction p data m) := by
  dsimp only [Machine.ladderAction]
  split
  · exact h
  · exact .ite h.beginCheck h.set
  · exact .ite h.abandonWalk.setShadow h.set
  · exact .ite h.abandonWalk.setShadow h.set
  · exact .ite h.modSward.set h.set
  · exact h.set

theorem Steady.ladderCommand (h : Steady m₀ m) : Steady m₀ (ladderCommand p data m) :=
  (h.unless (·.ladderRequests)).ladderAction

theorem Steady.doSwap {p : Fin 64} (h : Steady m₀ m) : Steady m₀ (doSwap p m) := h.ladderCommand

theorem Steady.doResync {p : Fin 64} (h : Steady m₀ m) : Steady m₀ (doResync p m) := h.ladderCommand

theorem Steady.doFwOpen {p : Fin 64} (h : Steady m₀ m) : Steady m₀ (doFwOpen p m) := h.ladderCommand

theorem Steady.doFull {p : Fin 64} (h : Steady m₀ m) : Steady m₀ (doFull p m) := h.ladderCommand

theorem Steady.doWalkReq {p t : Fin 64} (h : Steady m₀ m) : Steady m₀ (doWalkReq p t m) := h.ladderCommand

theorem Steady.doKaFail {p t : Fin 64} (h : Steady m₀ m) : Steady m₀ (doKaFail p t m) := h.ladderCommand

theorem Steady.ladderConfig (h : Steady m₀ m) : Steady m₀ (ladderConfig p off data m) :=
  .ite (h.when (·.plainWrite)) ((h.plainWrite.unless (·.abandonWalk)).when (·.set))

theorem Steady.beginRaise (h : Steady m₀ m) : Steady m₀ (beginRaise p n m) := by
  unfold Machine.beginRaise
  exact h.set.set.modSward

theorem Steady.cancelRaise (h : Steady m₀ m) : Steady m₀ (cancelRaise p m) := by
  unfold Machine.cancelRaise
  exact h.set.set.modSward

theorem Steady.putRung (h : Steady m₀ m) : Steady m₀ (putRung p n m) := h.modSward

theorem Steady.sequencer (h : Steady m₀ m) : Steady m₀ (sequencer p m).1 :=
  .iteFst (.iteFst h.set.cancelRaise.tally (.iteFst h.set.putRung.set.tally h.set)) (.iteFst (.iteFst
    h.set.beginRaise.tally h.set.modSward.set) (.iteFst h.set.beginRaise (.iteFst h.set.putRung.set.set.tally
    h.set)))

theorem Steady.doSettleTimeout {p : Fin 64} (h : Steady m₀ m) : Steady m₀ (doSettleTimeout p m) :=
  h.when (·.cancelRaise.set.modSward.tally.swardFault)

theorem Steady.doRaiseBlockExpire {p : Fin 64} (h : Steady m₀ m) : Steady m₀ (doRaiseBlockExpire p m) := by
  dsimp only [Machine.doRaiseBlockExpire]
  split
  · exact h.when (·.modSward)
  · exact h

theorem Steady.paceSend (h : Steady m₀ m) : Steady m₀ (paceSend m) := h.send.fold (·.modSward)

theorem Steady.paceWrite (h : Steady m₀ m) : Steady m₀ (paceWrite data m) := h.plainWrite.unless (·.paceSend)

theorem Steady.doPaceModeWrite {mode : Bool} (h : Steady m₀ m) : Steady m₀ (doPaceModeWrite mode m) :=
  h.paceWrite

theorem Steady.doPaceModeApply {p : Fin 64} (h : Steady m₀ m) : Steady m₀ (doPaceModeApply p m) := by
  dsimp only [Machine.doPaceModeApply]
  split
  · exact h
  · exact (h.modSward.setB.fold (·.queueOwn)).modHeath.setB

theorem Steady.paceBreakEval (h : Steady m₀ m) : Steady m₀ (paceBreakEval p m) :=
  (h.setB.modSward.when (·.tally)).when (·.send.swardFault.set.incSat)

theorem Steady.doCanaryStretchWindowEnd (h : Steady m₀ m) : Steady m₀ (doCanaryStretchWindowEnd g w m) :=
  h.at.unless (·.set.modUnit.when (·.modUnit.set))

/-! ### Machine/Mirror -/

theorem Steady.takeMirrored (h : Steady m₀ m) : Steady m₀ (takeMirrored m) := by
  unfold Machine.takeMirrored
  exact (h.filterRegs.fold (·.putWord)).putWord.modHeath

/-! ### Machine/Fault -/

theorem Steady.modFault {f : FaultSt → FaultSt} (h : Steady m₀ m) : Steady m₀ (m.modFault f) :=
  h.keeps (modFault_keeps (.refl _ _) heathArea_heathIn _)

theorem Steady.setSource {x : SourceSt} (h : Steady m₀ m) : Steady m₀ (m.setSource c x) :=
  h.keeps (setSource_keeps (.refl _ _) heathArea_heathIn _ _)

theorem Steady.setPairBit {lo hi : Fld} {v : Bool} (h : Steady m₀ m) : Steady m₀ (setPairBit lo hi c v m) :=
  h.putWord

theorem Steady.unicast {k : UnicastKind} {addr : Nat} {data : List Nat} (h : Steady m₀ m) :
    Steady m₀ (unicast p k addr data m) := h.keeps (unicast_keeps (.refl _ _) heathArea_heathIn _ _ _ _)

theorem Steady.answered {k : UnicastKind} (h : Steady m₀ m) : Steady m₀ (answered p k m) :=
  h.keeps (answered_keeps (.refl _ _) heathArea_heathIn _ _)

theorem Steady.putWords {l : List Nat} (h : Steady m₀ m) : Steady m₀ (putWords a l m) := h.fold (·.putWord)

theorem Steady.capture {x : FifoEntry} (h : Steady m₀ m) : Steady m₀ (capture x m) :=
  .ite h.incSat h.modFault.set

theorem Steady.contEval (h : Steady m₀ m) : Steady m₀ (contEval m) :=
  h.keeps (contEval_keeps (.refl _ _) heathArea_heathIn)

theorem Steady.severityAction {x : FifoEntry} {parts : List Nat} (h : Steady m₀ m) :
    Steady m₀ (severityAction x parts m) := h.keeps (severityAction_keeps (.refl _ _) heathArea_heathIn _ _)

theorem Steady.alarm (h : Steady m₀ m) : Steady m₀ (alarm c m) :=
  h.keeps (alarm_keeps (.refl _ _) heathArea_heathIn _)

theorem Steady.graceBit {v : Bool} (h : Steady m₀ m) : Steady m₀ (graceBit c v m) := h.setPairBit

theorem Steady.episodeEvent {x : FifoEntry} {parts : List Nat} {was : Bool} (h : Steady m₀ m) :
    Steady m₀ (episodeEvent x parts was m) := h.keeps (episodeEvent_keeps (.refl _ _) heathArea_heathIn _ _ _)

theorem Steady.ackSource (h : Steady m₀ m) : Steady m₀ (ackSource c m) :=
  h.setPairBit.setSource.graceBit.modFault.contEval

theorem Steady.firstError {e : FaultEvent} (h : Steady m₀ m) : Steady m₀ (firstError e m) :=
  h.keeps (firstError_keeps (.refl _ _) heathArea_heathIn _)

theorem Steady.retireReport {e : FaultEvent} (h : Steady m₀ m) : Steady m₀ (retireReport e m) :=
  h.keeps (retireReport_keeps (.refl _ _) heathArea_heathIn _)

theorem Steady.heathEvent {e : FaultEvent} {sub : Nat} (h : Steady m₀ m) : Steady m₀ (heathEvent e sub m) :=
  h.addSat.retireReport.branch (·.when (·.firstError)) (fun h => ((h.when (·.alarm)).episodeEvent.when
    (·.firstError)).severityAction.capture)

theorem Steady.heathFaultAt {unit dataA dataB : Nat} (h : Steady m₀ m) :
    Steady m₀ (heathFaultAt c unit dataA dataB m) := h.heathEvent

theorem Steady.heathFault {dataA dataB : Nat} (h : Steady m₀ m) : Steady m₀ (heathFault c dataA dataB m) :=
  h.heathFaultAt

theorem Steady.accessError {master ty err : Nat} (h : Steady m₀ m) :
    Steady m₀ (accessError master ty err a m) := h.heathFault

theorem Steady.windowError {err : Nat} (h : Steady m₀ m) : Steady m₀ (windowError err a m) := h.incSat.set.send

theorem Steady.windowErrorUncoded (h : Steady m₀ m) : Steady m₀ (windowErrorUncoded a m) :=
  h.takeFresh.windowError

theorem Steady.windowRefuse {ty err : Nat} (h : Steady m₀ m) : Steady m₀ (windowRefuse ty err a m) :=
  h.windowError.accessError

theorem Steady.smbusError {f : Fld} {kind : Nat} (h : Steady m₀ m) : Steady m₀ (smbusError f kind m) :=
  h.set.heathFault

theorem Steady.smbusAbandon (h : Steady m₀ m) : Steady m₀ (smbusAbandon write m) :=
  (h.modHeath.incSat.when (·.incSat)).smbusError

theorem Steady.abandonAccess {x : Unicast} (h : Steady m₀ m) : Steady m₀ (abandonAccess x m) := by
  dsimp only [Machine.abandonAccess]
  split
  · exact h.modHeath.windowRefuse
  · exact (h.modHeath.when (·.send)).accessError
  · exact h

theorem Steady.windowWritten (h : Steady m₀ m) : Steady m₀ (windowWritten m) := by
  dsimp only [Machine.windowWritten]
  split
  · exact h.modHeath.send
  · exact h

theorem Steady.mirrorAcked {seq : Option Nat} (h : Steady m₀ m) : Steady m₀ (mirrorAcked seq m) := by
  dsimp only [Machine.mirrorAcked]
  split
  · exact h.when (·.windowWritten)
  · exact h

theorem Steady.doFaultReportReceive {sender : Fin 65} {seq : BitVec 16} {code : Fin 64} {unit dataA dataB :
    Word} {time : BitVec 64} {sub : BitVec 16} {injected : Bool} (h : Steady m₀ m) :
    Steady m₀ (doFaultReportReceive sender seq code unit dataA dataB time sub injected w m) :=
  h.at.received (·.unless (·.modFault.heathEvent))

theorem Steady.doFaultReportAck {p : Fin 64} {seq : BitVec 16} (h : Steady m₀ m) :
    Steady m₀ (doFaultReportAck p seq m) := by
  dsimp only [Machine.doFaultReportAck]
  exact h.received (·.when (·.modFault.send.modSward))

theorem Steady.doFaultReportResend {p : Fin 64} {seq : BitVec 16} (h : Steady m₀ m) :
    Steady m₀ (doFaultReportResend p seq m) := by
  dsimp only [Machine.doFaultReportResend]
  split
  · exact h.incSat.send
  · exact h

theorem Steady.doAck {c : Fin 64} (h : Steady m₀ m) : Steady m₀ (doAck c m) := h.ackSource

theorem Steady.doAll (h : Steady m₀ m) : Steady m₀ (doAll m) := h.each (·.ackSource)

theorem Steady.fackWrite (h : Steady m₀ m) : Steady m₀ (fackWrite data m) := .ite h.doAll (h.when (·.ackSource))

theorem Steady.doGraceTimerExpire {c : Fin 64} (h : Steady m₀ m) : Steady m₀ (doGraceTimerExpire c w m) := by
  dsimp only [Machine.doGraceTimerExpire]
  split
  · split
    · exact h.at.when (·.setSource.graceBit.alarm.setPairBit.severityAction.capture)
    · exact h.at
  · exact h.at

theorem Steady.doFecClear (h : Steady m₀ m) : Steady m₀ (doFecClear m) := h.putWords

theorem Steady.doFlTripRelease (h : Steady m₀ m) : Steady m₀ (doFlTripRelease m) := h.modFault

theorem Steady.traceCopy {rseq time : Nat} {l : List Nat} (h : Steady m₀ m) :
    Steady m₀ (traceCopy rseq time l m) := h.unless (fun h => .ite h.incSat h.modFault)

theorem Steady.doFaultRecordWrite (h : Steady m₀ m) : Steady m₀ (doFaultRecordWrite m) := by
  dsimp only [Machine.doFaultRecordWrite]
  split
  · exact h
  · exact h.set.modFault.putWords.traceCopy.branch (fun h => (h.when (·.incSat)).set) (·.set.when
      (·.set.heathFault))

theorem Steady.doRingRpWrite (h : Steady m₀ m) : Steady m₀ (doRingRpWrite data m) :=
  h.when (fun h => (h.set.when (·.set.set)).setB)

theorem Steady.lfctlWrite (h : Steady m₀ m) : Steady m₀ (lfctlWrite data m) :=
  h.when (fun h => (h.each (·.putWord)).set.set.nvmQueue)

theorem Steady.doLastFaultClear (h : Steady m₀ m) : Steady m₀ (doLastFaultClear m) := h.lfctlWrite

theorem Steady.finjWrite (h : Steady m₀ m) : Steady m₀ (finjWrite data m) :=
  h.when (fun h => .ite (h.unless (·.queueReport)) h.heathEvent)

theorem Steady.doFaultInject {origin : Bool} {part src : Fin 64} (h : Steady m₀ m) :
    Steady m₀ (doFaultInject origin part src m) := h.finjWrite

theorem Steady.fsevWrite (h : Steady m₀ m) : Steady m₀ (fsevWrite c data m) := by
  unfold Machine.fsevWrite
  exact h.plainWrite.clampField.clampField

theorem Steady.heathPacketSent (h : Steady m₀ m) : Steady m₀ (heathPacketSent m) := by
  dsimp only [Machine.heathPacketSent]
  split
  · exact h
  · exact h.modFault.send

/-! ### Machine/Budget -/

theorem Steady.capEval (h : Steady m₀ m) : Steady m₀ (capEval m) :=
  h.keeps (capEval_keeps (.refl _ _) heathArea_heathIn)

theorem Steady.derateEval (h : Steady m₀ m) : Steady m₀ (derateEval m) :=
  h.keeps (derateEval_keeps (.refl _ _) heathArea_heathIn)

theorem Steady.capreqWrite (h : Steady m₀ m) : Steady m₀ (capreqWrite data m) := h.plainWrite.clampField.capEval

theorem Steady.doCapRequestWrite {cap : BitVec 16} (h : Steady m₀ m) : Steady m₀ (doCapRequestWrite cap m) :=
  h.capreqWrite

theorem Steady.derateWrite (h : Steady m₀ m) : Steady m₀ (derateWrite k data m) :=
  (h.plainWrite.when (·.set)).branch (·.modHeath.derateEval) (·.set)

theorem Steady.doDerateTableWrite {k : Fin 8} (h : Steady m₀ m) : Steady m₀ (doDerateTableWrite k data m) :=
  h.derateWrite

theorem Steady.inletLost (h : Steady m₀ m) : Steady m₀ (inletLost m) := h.modHeath.derateEval.heathFault

theorem Steady.doInletReadingTimeout (h : Steady m₀ m) : Steady m₀ (doInletReadingTimeout m) := h.inletLost

theorem Steady.budgetConfig (h : Steady m₀ m) : Steady m₀ (budgetConfig off data m) :=
  (h.plainWrite.when (·.set)).when (·.clampField)

theorem Steady.passWidth (h : Steady m₀ m) : Steady m₀ (passWidth p k m) := by
  unfold Machine.passWidth
  exact (h.modSward.fold (·.when (·.queueEnable))).send.modHeath

theorem Steady.doLnkStatChange {p : Fin 64} {k v : Fin 4} (h : Steady m₀ m) :
    Steady m₀ (doLnkStatChange p k v w m) := h.at.when (·.modSward)

theorem Steady.doLnkStatTake {p : Fin 64} {k : Fin 4} (h : Steady m₀ m) : Steady m₀ (doLnkStatTake p k w m) := by
  dsimp only [Machine.doLnkStatTake]
  split
  · exact h.at.when (·.modSward.unless (·.set.set.when (·.passWidth)))
  · exact h.at

theorem Steady.doTrainWindowEnd {p : Fin 64} (h : Steady m₀ m) : Steady m₀ (doTrainWindowEnd p m) :=
  h.when (·.at.set.each (·.passWidth))

theorem Steady.sendLease {t : Nat × Nat × Nat} (h : Steady m₀ m) : Steady m₀ (sendLease t p m) :=
  h.modHeath.set.send.unicast

theorem Steady.sendLeases (h : Steady m₀ m) : Steady m₀ (sendLeases m) :=
  (h.fold (·.sendLease)).when (·.modHeath)

theorem Steady.doLeasePeriod (h : Steady m₀ m) : Steady m₀ (doLeasePeriod w m) := h.at.when (·.sendLeases)

theorem Steady.takeLease {p : Fin 64} {seq : BitVec 16} {issue : Word} {dur : BitVec 8} {budget floor : Word}
    (h : Steady m₀ m) :
    Steady m₀ (takeLease p seq issue dur budget floor m) :=
  .ite h.tally (h.answered.tally.modHeath.branch (·.modSward.set.tally) (·.set.tally))

theorem Steady.doLeaseReceive {p : Fin 64} {seq : BitVec 16} {issue : Word} {dur : BitVec 8} {budget floor :
    Word} (h : Steady m₀ m) :
    Steady m₀ (doLeaseReceive p seq issue dur budget floor w m) := h.at.received (·.takeLease)

theorem Steady.leaseBoundary (h : Steady m₀ m) : Steady m₀ (leaseBoundary p m) := by
  dsimp only [Machine.leaseBoundary]
  split
  · exact h
  · exact h.modSward.set.set.set.set.set

theorem Steady.doLeaseExpire {p : Fin 64} (h : Steady m₀ m) : Steady m₀ (doLeaseExpire p w m) := by
  dsimp only [Machine.doLeaseExpire]
  split
  · exact h.at.when (·.set.set.set.tally.swardFault)
  · exact h.at

theorem Steady.brake {est : Nat} (h : Steady m₀ m) : Steady m₀ (brake e est m) :=
  h.keeps (brake_keeps (.refl _ _) heathArea_heathIn _ _)

theorem Steady.releaseCount {low : Bool} (h : Steady m₀ m) : Steady m₀ (releaseCount low m) :=
  .ite h.modHeath (.ite h.modHeath.send h.modHeath)

theorem Steady.partialEpoch {isPartial : Bool} (h : Steady m₀ m) : Steady m₀ (partialEpoch isPartial m) :=
  .ite (h.modHeath.set.incSat.when (·.set.heathFault)) h.modHeath

theorem Steady.etaEpoch {isPartial : Bool} (h : Steady m₀ m) : Steady m₀ (etaEpoch e s isPartial m) := by
  dsimp only [Machine.etaEpoch]
  split
  · exact h.when (·.modHeath)
  · exact h

theorem Steady.closeEpoch {result : Option (Nat × Nat)} (h : Steady m₀ m) :
    Steady m₀ (closeEpoch e result m) :=
  h.modHeath.set.set.set.partialEpoch.etaEpoch.releaseCount.when (·.brake)

theorem Steady.doReductionResultReceive {power : Word} {mask : BitVec 64} (h : Steady m₀ m) :
    Steady m₀ (doReductionResultReceive e power mask w m) :=
  h.at.unless (fun h => .ite h.set (.ite h.closeEpoch h.modHeath))

theorem Steady.doEpochDeadline (h : Steady m₀ m) : Steady m₀ (doEpochDeadline e w m) := h.at.when (·.closeEpoch)

theorem Steady.doBrakeReceive {p : Fin 64} (h : Steady m₀ m) : Steady m₀ (doBrakeReceive p m) :=
  h.received (·.unless (·.modSward.tally.tally))

theorem Steady.brakeHeld {v : Bool} (h : Steady m₀ m) : Steady m₀ (brakeHeld p v m) := h.unless (·.setB.send)

theorem Steady.brakeCommit (h : Steady m₀ m) : Steady m₀ (brakeCommit p m) :=
  h.unless (fun h => (h.fold (·.set.incSat)).modSward.brakeHeld)

theorem Steady.takeRelease (h : Steady m₀ m) : Steady m₀ (takeRelease p m) :=
  h.unless (·.incSat.tally.tally.when (·.brakeHeld))

theorem Steady.doReleaseReceive {p : Fin 64} (h : Steady m₀ m) : Steady m₀ (doReleaseReceive p m) :=
  h.received (·.takeRelease)

theorem Steady.brakeActEval (h : Steady m₀ m) : Steady m₀ (brakeActEval m) := h.setB

theorem Steady.doBrakeHeldReport {p : Fin 64} {held : Bool} (h : Steady m₀ m) :
    Steady m₀ (doBrakeHeldReport p held m) := h.received (·.modHeath.brakeActEval)

theorem Steady.meteredFigure {power : Int} {upTo : Nat} {free : Bool} (h : Steady m₀ m) :
    Steady m₀ (meteredFigure power upTo free m) := (h.unless (·.set)).when (·.set.heathFault.brake)

theorem Steady.setPointer (h : Steady m₀ m) : Steady m₀ (setPointer p e m) := by
  unfold Machine.setPointer
  exact h.set.set.modSward

theorem Steady.swathSignals (h : Steady m₀ m) : Steady m₀ (swathSignals p m) := by
  unfold Machine.swathSignals
  exact h.setB.modSward

theorem Steady.swathAdvance (h : Steady m₀ m) : Steady m₀ (swathAdvance p m) :=
  h.unless (·.count.unless (·.setPointer))

theorem Steady.contextBoundary {ctxs : List Nat} (h : Steady m₀ m) : Steady m₀ (contextBoundary p ctxs m) := by
  dsimp only [Machine.contextBoundary]
  split
  · exact h.swathAdvance
  · exact (h.swathAdvance.when (·.set)).branch (·.set.tally) (·.unless (·.set.incSat.tally.setPointer.unless
      (·.reportWeight)))

theorem Steady.doSwathEntryTimeout {p : Fin 64} (h : Steady m₀ m) : Steady m₀ (doSwathEntryTimeout p m) :=
  h.when (·.setPointer.incSat.tally.swathSignals)

theorem Steady.swathIndexNext (h : Steady m₀ m) : Steady m₀ (swathIndexNext p m) := h.when (·.inc)

theorem Steady.swathWrite (h : Steady m₀ m) : Steady m₀ (swathWrite p data m) := h.modSward.setB.swathIndexNext

theorem Steady.doSwathDataAccess {p : Fin 64} {write : Option Word} (h : Steady m₀ m) :
    Steady m₀ (doSwathDataAccess p write m) := by
  dsimp only [Machine.doSwathDataAccess]
  split
  · exact h.swathWrite
  · exact h.send.swathIndexNext

theorem Steady.modCommons {f : Commons → Commons} (h : Steady m₀ m) : Steady m₀ (m.modCommons f) := h.modHeath

theorem Steady.modMember {i : Nat} {f : Member → Member} (h : Steady m₀ m) : Steady m₀ (m.modMember i f) :=
  h.modCommons

theorem Steady.cmnEval (h : Steady m₀ m) : Steady m₀ (cmnEval m) :=
  (h.when (·.modCommons)).setB.setB.setB.set.set.capEval.when (·.each (·.modMember))

theorem Steady.cmnConfig (h : Steady m₀ m) : Steady m₀ (cmnConfig off data m) :=
  ((h.plainWrite.when (·.set)).unless (·.modCommons.set)).cmnEval

theorem Steady.doCommonsEnable {on : Bool} (h : Steady m₀ m) : Steady m₀ (doCommonsEnable on m) := h.cmnConfig

theorem Steady.sendFrame {dest : Nat} {l : List Nat} (h : Steady m₀ m) : Steady m₀ (sendFrame dest l m) :=
  .ite h.modCommons.send h.incSat.modCommons

theorem Steady.resendFrames (h : Steady m₀ m) : Steady m₀ (resendFrames m) :=
  h.unless (·.modCommons.fold (·.sendFrame))

theorem Steady.doCommonsReportSend (h : Steady m₀ m) : Steady m₀ (doCommonsReportSend m) :=
  h.unless fun h => .ite h.modCommons h.modMember.modCommons.takeFresh.resendFrames.sendFrame

theorem Steady.doBarrierWaitWrite {wait : BitVec 16} (h : Steady m₀ m) :
    Steady m₀ (doBarrierWaitWrite wait m) := h.modCommons

theorem Steady.grantReceive {src seq grant cap : Nat} (h : Steady m₀ m) :
    Steady m₀ (grantReceive src seq grant cap n w m) :=
  h.at.unless (fun h => .ite h.incSat (h.modMember.when (·.set.heathFault)).modCommons.cmnEval)

theorem Steady.doGrantReceive {src : Fin 64} {seq : BitVec 16} {grant cap : Word} {n : BitVec 8} (h : Steady m₀
    m) :
    Steady m₀ (doGrantReceive src seq grant cap n w m) := h.grantReceive

theorem Steady.reportReceive {src : Nat} {d : List Nat} {seq : Nat} (h : Steady m₀ m) :
    Steady m₀ (reportReceive src d seq w m) :=
  h.unless (fun h => .ite (h.modMember.unless (·.set.modCommons.cmnEval.heathFault)) h.modMember.cmnEval)

theorem Steady.doCommonsFrameReceive {bytes : List (BitVec 8)} (h : Steady m₀ m) :
    Steady m₀ (doCommonsFrameReceive bytes w m) :=
  h.at.unless (fun h => .ite h.incSat (.ite h.reportReceive (h.when (·.grantReceive))))

theorem Steady.doMemberLivenessExpire {i : Fin 64} (h : Steady m₀ m) :
    Steady m₀ (doMemberLivenessExpire i w m) := by
  dsimp only [Machine.doMemberLivenessExpire]
  split
  · exact h.at.when (·.modMember.cmnEval)
  · exact h.at

theorem Steady.doGrantStep (h : Steady m₀ m) : Steady m₀ (doGrantStep w m) :=
  h.at.unless (fun h => (h.modCommons.resendFrames.fold (·.modMember.unless (·.sendFrame))).modCommons.cmnEval)

theorem Steady.doGrantExpire (h : Steady m₀ m) : Steady m₀ (doGrantExpire w m) := by
  dsimp only [Machine.doGrantExpire]
  split
  · exact h.at.when (·.modCommons.set.cmnEval.heathFault)
  · exact h.at

/-! ### Machine/Domain -/

theorem Steady.queueEnables {us : List Nat} {on : Bool} (h : Steady m₀ m) :
    Steady m₀ (queueEnables p us q on m) := h.fold (·.queueEnable)

theorem Steady.setHeader {f : SwardSt → SwardSt} (h : Steady m₀ m) : Steady m₀ (setHeader p f m) :=
  h.keeps (setHeader_keeps (.refl _ _) (swardArea_swardIn _) _)

theorem Steady.setState {f : Fld} {part : Bool} {v : Nat} (h : Steady m₀ m) :
    Steady m₀ (setState p f part v m) := h.when (·.set)

theorem Steady.beginStep {d : DomStep} (h : Steady m₀ m) : Steady m₀ (beginStep p d m) := h.modSward

theorem Steady.startStep {d : DomStep} (h : Steady m₀ m) : Steady m₀ (startStep p d m) := by
  dsimp only [Machine.startStep]
  split
  · exact h.beginStep.setState.setState.queueEnables
  · exact h.beginStep.setState.setState.queueEnables.when (·.modSward.set.fold (·.modHeath))
  · exact h.beginStep.set.setHeader
  · exact h.beginStep.set.setHeader
  · exact h.beginStep.set.setHeader
  · exact h.beginStep.set.set.setHeader
  · exact h.beginStep.setState.setState.queueEnables
  · exact (h.beginStep.setState.setState.when (·.setHeader)).queueEnables
  · exact h.beginStep.set.setHeader
  · exact h.beginStep.set.setHeader
  · exact h.beginStep

theorem Steady.finishStep (h : Steady m₀ m) : Steady m₀ (finishStep p m) := by
  dsimp only [Machine.finishStep]
  split
  · exact h.modSward.tally.setState.setState.when (·.setHeader)
  · exact h.modSward.tally.setState.setState
  · exact h.modSward.tally.set.set
  · exact h.modSward.tally.set
  · exact h.modSward.tally.set
  · exact h.modSward.tally.set
  · exact h.modSward.tally.setState.setState
  · exact h.modSward.tally.setState.setState.when (·.setHeader)
  · exact h.modSward.tally.set
  · exact h.modSward.tally.set.beginStep
  · exact h.modSward.tally

theorem Steady.partitionReturn (h : Steady m₀ m) : Steady m₀ (partitionReturn p m) :=
  h.beginReturn.clearAllSlots

theorem Steady.bringUpEval (h : Steady m₀ m) : Steady m₀ (bringUpEval m) :=
  h.when (·.setStep.fold (·.unless (·.ladderCommand)))

theorem Steady.endGrant (h : Steady m₀ m) : Steady m₀ (endGrant p m) := h.when (·.set.set.bringUpEval)

theorem Steady.domNext (h : Steady m₀ m) : Steady m₀ (domNext p m) :=
  (h.when (·.endGrant)).unless (fun h => .ite (.ite h.modSward.partitionReturn (h.unless (·.startStep))) (.ite
    h.partitionReturn.startStep h.startStep))

theorem Steady.domResume (h : Steady m₀ m) : Steady m₀ (domResume p m) := by
  unfold Machine.domResume
  exact h.set.set.set.set.set.setB.set.modSward

theorem Steady.domCommit (h : Steady m₀ m) : Steady m₀ (domCommit p m) := by
  dsimp only [Machine.domCommit]
  refine h.unless (fun h => ?_)
  split
  · exact h.domNext
  · exact h.when (·.domResume.domNext)
  · exact h.when (·.modSward.domNext)
  · exact .ite h.startStep (h.when (·.finishStep.domNext))
  · exact .ite h.startStep (h.when (·.finishStep.domNext))
  · exact .ite h.startStep (h.when (·.finishStep.domNext))
  · exact .ite h.startStep (h.when (·.finishStep.domNext))
  · exact h.when (·.finishStep.domNext)

theorem Steady.domctlWrite (h : Steady m₀ m) : Steady m₀ (domctlWrite p data m) :=
  (h.plainWrite.when (·.set)).when (·.set)

theorem Steady.doDomctlWrite {p : Fin 64} (h : Steady m₀ m) : Steady m₀ (doDomctlWrite p data m) :=
  h.domctlWrite

theorem Steady.domstatWrite (h : Steady m₀ m) : Steady m₀ (domstatWrite p data m) := h.w1c.unless (·.w1c)

theorem Steady.doCoreHoldClear {p : Fin 64} (h : Steady m₀ m) : Steady m₀ (doCoreHoldClear p m) :=
  h.domstatWrite

theorem Steady.coreHold (h : Steady m₀ m) : Steady m₀ (coreHold p m) := h.modSward.set

theorem Steady.doPartitionTripReceive {p : Fin 64} (h : Steady m₀ m) :
    Steady m₀ (doPartitionTripReceive p m) := h.received (fun h => .ite h.tally h.answered.tally.coreHold)

theorem Steady.waferTripAction (h : Steady m₀ m) : Steady m₀ (waferTripAction p m) := h.coreHold.set.set.set.set

theorem Steady.doWtripReceive {p : Fin 64} (h : Steady m₀ m) : Steady m₀ (doWtripReceive p m) :=
  h.received (·.unless (·.tally.waferTripAction))

theorem Steady.doFlTripEdge {p : Fin 64} (h : Steady m₀ m) : Steady m₀ (doFlTripEdge p w m) :=
  h.at.unless (·.modSward.send.set.waferTripAction)

theorem Steady.spineAtOnce (h : Steady m₀ m) : Steady m₀ (spineAtOnce p m) :=
  h.unless (fun h => .ite h.startStep h.set.setHeader)

theorem Steady.doFenceChange {p : Fin 64} {level : Bool} (h : Steady m₀ m) :
    Steady m₀ (doFenceChange p level m) :=
  h.unless (·.setB.send.branch (·.unless (·.modSward.set.count)) (·.unless (·.set.swardFault.spineAtOnce)))

theorem Steady.closeWindowPrst (h : Steady m₀ m) : Steady m₀ (closeWindowPrst m) := h.when (·.modHeath.set.set)

theorem Steady.doPrstChange {p : Fin 64} {level : Bool} (h : Steady m₀ m) :
    Steady m₀ (doPrstChange p level m) :=
  h.unless (·.setB.send.modHeath.unless (·.partitionReturn.closeWindowPrst))

theorem Steady.doSwitchOnRequest {p : Fin 64} (h : Steady m₀ m) : Steady m₀ (doSwitchOnRequest p m) :=
  h.unless (·.set.send.modHeath)

theorem Steady.takeGrant (h : Steady m₀ m) : Steady m₀ (takeGrant p m) :=
  h.unless (fun h => .ite h.tally h.answered.tally.tally.set.set)

theorem Steady.sendGrant (h : Steady m₀ m) : Steady m₀ (sendGrant p m) := h.modHeath.send.unicast.takeGrant

theorem Steady.doSwitchOnGrant (h : Steady m₀ m) : Steady m₀ (doSwitchOnGrant w m) := by
  dsimp only [Machine.doSwitchOnGrant]
  refine h.at.unless (fun h => .ite ?_ ?_)
  · split
    · exact h.modHeath.bringUpEval
    · exact h.when (·.modHeath.sendGrant)
  · split
    · exact h.when (·.sendGrant)
    · exact h

theorem Steady.seqWrite {i : Nat} (h : Steady m₀ m) : Steady m₀ (seqWrite i data m) :=
  h.plainWrite.unless (·.set)

theorem Steady.doSeqTableWrite {i : Fin 64} (h : Steady m₀ m) : Steady m₀ (doSeqTableWrite i data m) :=
  h.seqWrite

/-! ### Machine/Meter -/

theorem Steady.modMeter {f : MeterSt → MeterSt} (h : Steady m₀ m) : Steady m₀ (m.modMeter f) := h.modHeath

theorem Steady.modConv {f : Converter → Converter} (h : Steady m₀ m) : Steady m₀ (m.modConv c f) := h.modMeter

theorem Steady.discardConv (h : Steady m₀ m) : Steady m₀ (discardConv m c) := by
  dsimp only [Machine.discardConv]
  split
  · exact h
  · split
    · exact (h.modConv.when (·.modConv)).set
    · exact h.modConv.modMeter
    · exact h.modConv

theorem Steady.discardAll (h : Steady m₀ m) : Steady m₀ (discardAll m) := h.fold (·.discardConv)

theorem Steady.startConverter {start : Nat} {free : Bool} (h : Steady m₀ m) :
    Steady m₀ (startConverter start free m c) := by
  dsimp only [Machine.startConverter]
  split
  · exact h.modMeter.modConv
  · exact h.modConv.set
  · exact h.modConv.set

theorem Steady.markPulled (h : Steady m₀ m) : Steady m₀ (markPulled m) := h.fold (·.modConv)

theorem Steady.markSecond (h : Steady m₀ m) : Steady m₀ (markSecond n m) := h.fold (·.modConv)

theorem Steady.beginRound (h : Steady m₀ m) : Steady m₀ (beginRound m) := h.modMeter.modHeath

theorem Steady.startEvent {free : Bool} (h : Steady m₀ m) : Steady m₀ (startEvent w free m) :=
  h.modMeter.when (fun h => ((h.when (·.beginRound)).fold (·.startConverter)).markPulled.markSecond)

theorem Steady.trackAfresh (h : Steady m₀ m) : Steady m₀ (trackAfresh m) := h.modMeter.set

theorem Steady.mainsLost (h : Steady m₀ m) : Steady m₀ (mainsLost w m) :=
  h.set.set.modHeath.modMeter.discardAll.heathFault.startEvent

theorem Steady.doMainsSyncLost (h : Steady m₀ m) : Steady m₀ (doMainsSyncLost w m) := h.at.when (·.mainsLost)

theorem Steady.acceptEdge (h : Steady m₀ m) : Steady m₀ (acceptEdge w m) := h.modMeter.startEvent

theorem Steady.endFreeRun (h : Steady m₀ m) : Steady m₀ (endFreeRun w m) := h.set.discardAll.acceptEdge

theorem Steady.selectedEdge (h : Steady m₀ m) : Steady m₀ (selectedEdge w m) := by
  dsimp only [Machine.selectedEdge]
  refine h.modMeter.branch (·.endFreeRun) (fun h => ?_)
  split
  · exact h.acceptEdge
  · exact .ite h.incSat (.ite h.set.acceptEdge (.ite h.set.set.acceptEdge h.mainsLost.endFreeRun))

theorem Steady.doMainsSyncEdge {rising : Bool} (h : Steady m₀ m) : Steady m₀ (doMainsSyncEdge rising w m) :=
  h.at.setB.when (·.selectedEdge)

theorem Steady.doFreeRunStartEvent (h : Steady m₀ m) : Steady m₀ (doFreeRunStartEvent w m) :=
  h.at.when (·.startEvent)

theorem Steady.loadData {k : Conv} {code : Nat} (h : Steady m₀ m) : Steady m₀ (loadData c k code m) :=
  (h.when (·.set)).set.set.set.setB.setB.setB.setB.set.set

theorem Steady.compareWindow (h : Steady m₀ m) : Steady m₀ (compareWindow c e v m) :=
  h.modConv.when (·.putWord.set.heathFault)

theorem Steady.completeRound {t : Nat} (h : Steady m₀ m) : Steady m₀ (completeRound t n m) :=
  h.setI.inc.setB.set.set64.meteredFigure.beginRound

theorem Steady.roundEval (h : Steady m₀ m) : Steady m₀ (roundEval m) := by
  dsimp only [Machine.roundEval]
  split
  · exact h.when (·.completeRound)
  · exact h

theorem Steady.feedProduct {start : Nat} (h : Steady m₀ m) : Steady m₀ (feedProduct n start m) := by
  dsimp only [Machine.feedProduct]
  split
  · exact h.when (fun h => .ite h.setI.modMeter.roundEval h.set.heathFault)
  · exact h

theorem Steady.channelUse {ch : Nat} (h : Steady m₀ m) : Steady m₀ (channelUse ch v m) :=
  .ite h.set.heathFault (.ite h.set.heathFault (h.when (·.modHeath.derateEval)))

theorem Steady.takeResult {k : Conv} {code : Nat} (h : Steady m₀ m) : Steady m₀ (takeResult c k code m) :=
  h.loadData.unless (fun h => (h.when (·.compareWindow)).unless (·.setI.channelUse.when
    (·.modMeter.feedProduct)))

theorem Steady.openWire {ch down : Nat} (h : Steady m₀ m) : Steady m₀ (openWire c ch down m) := by
  dsimp only [Machine.openWire]
  split
  · exact h
  · exact h.modConv.branch (·.modMeter.putWord.set.heathFault.when (·.inletLost)) (·.modMeter)

theorem Steady.doConversionResult {c : Fin 4} (h : Steady m₀ m) : Steady m₀ (doConversionResult c v m) := by
  dsimp only [Machine.doConversionResult]
  split
  · exact h
  · refine h.modConv.when (fun h => ?_)
    split
    · exact h.modConv
    · exact h.openWire
    · exact h.modMeter
    · exact h.takeResult

theorem Steady.doMeterRoundTimeout (h : Steady m₀ m) : Steady m₀ (doMeterRoundTimeout m) := by
  dsimp only [Machine.doMeterRoundTimeout]
  split
  · exact h.when (·.set.heathFault.beginRound)
  · exact h

theorem Steady.meterStart (h : Steady m₀ m) : Steady m₀ (meterStart m) := by
  unfold Machine.meterStart
  exact (h.discardAll.fold (·.modConv)).modMeter

theorem Steady.meterRestart (h : Steady m₀ m) : Steady m₀ (meterRestart m) := h.meterStart.fold (·.modConv)

theorem Steady.meterConfig (h : Steady m₀ m) : Steady m₀ (meterConfig data m) :=
  ((h.plainWrite.when (·.set)).branch (·.modMeter.discardAll) (·.when (·.meterStart.trackAfresh))).when
    (·.meterRestart)

theorem Steady.doMeterRunWrite {run : Bool} (h : Steady m₀ m) : Steady m₀ (doMeterRunWrite run w m) :=
  h.at.meterConfig

theorem Steady.doMeterRestart (h : Steady m₀ m) : Steady m₀ (doMeterRestart m) := h.meterConfig

theorem Steady.urgentWrite (h : Steady m₀ m) : Steady m₀ (urgentWrite data m) :=
  h.w1c.when (fun h => .ite h.set h.modConv.set)

theorem Steady.doMeterUrgentRequest {c : Fin 4} {ch : Fin 64} (h : Steady m₀ m) :
    Steady m₀ (doMeterUrgentRequest c ch m) := h.urgentWrite

theorem Steady.calCommand (h : Steady m₀ m) : Steady m₀ (calCommand data m) :=
  h.plainWrite.when (fun h => .ite h.set h.modMeter.set)

theorem Steady.doZero {ch : Fin 64} {c : Fin 4} (h : Steady m₀ m) : Steady m₀ (doZero ch c m) := h.calCommand

theorem Steady.doFs {ch : Fin 64} {c : Fin 4} (h : Steady m₀ m) : Steady m₀ (doFs ch c m) := h.calCommand

theorem Steady.doMeterCalComplete (h : Steady m₀ m) : Steady m₀ (doMeterCalComplete m) := by
  dsimp only [Machine.doMeterCalComplete]
  split
  · exact h
  · exact h.unless (fun h => h.modMeter.set.branch (fun h => .ite h.set h.modMeter) (·.modMeter.branch (·.set)
      (·.setI.set.setI.set.set)))

theorem Steady.meterTable (h : Steady m₀ m) : Steady m₀ (meterTable a data m) :=
  .ite ((h.plainWrite.when (·.set)).when (·.modConv)) (h.plainWrite.modConv.when (·.set))

theorem Steady.meterWrite (h : Steady m₀ m) : Steady m₀ (meterWrite a data m) :=
  .ite h.meterConfig (.ite h.urgentWrite (.ite h.calCommand (.ite h.plainWrite.roundEval h.meterTable)))

theorem Steady.meterRead {a : Nat} (h : Steady m₀ m) : Steady m₀ (meterRead a m).2 := by
  dsimp only [Machine.meterRead]
  refine .iteSnd (.iteSnd h.modMeter.set.set ?_) h
  split
  · exact .pair h.modMeter
  · exact h

theorem Steady.doMeterDataRead {c : Fin 4} (h : Steady m₀ m) : Steady m₀ (doMeterDataRead c m) :=
  h.meterRead.send

theorem Steady.meterTakeover (h : Steady m₀ m) : Steady m₀ (meterTakeover m) := by
  unfold Machine.meterTakeover
  exact (h.discardAll.trackAfresh.fold (·.modConv)).modHeath

/-! ### Machine/Reset -/

theorem Steady.noteUnitReset {u : Nat} (h : Steady m₀ m) : Steady m₀ (noteUnitReset p u m) :=
  h.incSat.set.set.count.reportEvent

theorem Steady.dropOwn {u : Nat} (h : Steady m₀ m) : Steady m₀ (dropOwn p u m) := h.modSward

theorem Steady.resetUnit {u : Nat} (h : Steady m₀ m) : Steady m₀ (resetUnit p u m) :=
  h.dropOwn.unless (fun h => .ite h.clearUnit.noteUnitReset h.clearUnit)

theorem Steady.rstcmdWrite (h : Steady m₀ m) : Steady m₀ (rstcmdWrite p data m) :=
  h.when (fun h => .ite h.set h.resetUnit)

theorem Steady.doUrst {p : Fin 64} {u : Fin 128} (h : Steady m₀ m) : Steady m₀ (doUrst p u m) := h.rstcmdWrite

theorem Steady.vibGone (h : Steady m₀ m) : Steady m₀ (vibGone p m) := h.when (·.modHeath.set.when (·.set))

theorem Steady.doUnitClearEnd (h : Steady m₀ m) : Steady m₀ (doUnitClearEnd u m) :=
  h.when (·.restoreUnit.when (·.beginRestore))

theorem Steady.resetSwardBlock (h : Steady m₀ m) : Steady m₀ (resetSwardBlock p m) := h.mapRegs

theorem Steady.beginSwardReset {cause : Nat} (h : Steady m₀ m) : Steady m₀ (beginSwardReset p cause m) :=
  h.unless (·.resetSwardBlock.abandonWalk.modSward.set.incSat.set.swardFault)

theorem Steady.doSwardWatchdog {p : Fin 64} (h : Steady m₀ m) : Steady m₀ (doSwardWatchdog p m) :=
  h.beginSwardReset

theorem Steady.shadowAfterReset (h : Steady m₀ m) : Steady m₀ (shadowAfterReset p m) := h.unless (·.setShadow)

theorem Steady.schedRewrite (h : Steady m₀ m) : Steady m₀ (schedRewrite m p) := h.when (·.modSward.schedWrite)

theorem Steady.doSwardResetEnd {p : Fin 64} (h : Steady m₀ m) : Steady m₀ (doSwardResetEnd p m) :=
  h.when (fun h => h.modSward.shadowAfterReset.unless (fun h => (h.modSward.beginStep.partitionReturn.when
    (·.fold (·.beginRestore))).schedRewrite))

theorem Steady.resetHeaths (h : Steady m₀ m) : Steady m₀ (resetHeaths m) := h.filterRegs.modHeath.set

theorem Steady.beginWaferReset {cause : Nat} (h : Steady m₀ m) : Steady m₀ (beginWaferReset cause m) :=
  (h.when (·.send)).resetHeaths.set

theorem Steady.doAuxOkLow (h : Steady m₀ m) : Steady m₀ (doAuxOkLow m) := h.beginWaferReset.modHeath

theorem Steady.doSysRstAssert (h : Steady m₀ m) : Steady m₀ (doSysRstAssert m) := h.beginWaferReset.modHeath

theorem Steady.doVstbyLoss (h : Steady m₀ m) : Steady m₀ (doVstbyLoss m) := h.modHeath.beginWaferReset

theorem Steady.waferRstCommand (h : Steady m₀ m) : Steady m₀ (waferRstCommand m) := h.beginWaferReset.modHeath

theorem Steady.clearSwardRegs {size : Nat} (h : Steady m₀ m) : Steady m₀ (clearSwardRegs p size m) :=
  h.filterRegs.set

theorem Steady.clearSward (h : Steady m₀ m) : Steady m₀ (clearSward p m) := h.modSward

theorem Steady.waferResetSward (h : Steady m₀ m) : Steady m₀ (waferResetSward p m) :=
  (h.clearSwardRegs.fold (·.unless (·.clearUnit.modUnit))).clearSward

theorem Steady.doWaferResetMessage {p : Fin 64} (h : Steady m₀ m) : Steady m₀ (doWaferResetMessage p m) :=
  h.received (·.waferResetSward)

theorem Steady.doSwardHeartbeatTimeout {p : Fin 64} (h : Steady m₀ m) :
    Steady m₀ (doSwardHeartbeatTimeout p m) := h.unless (·.waferResetSward)

theorem Steady.doTvddPorAssert {t : TvddId} (h : Steady m₀ m) : Steady m₀ (doTvddPorAssert t m) := by
  dsimp only [Machine.doTvddPorAssert]
  split
  · exact h.clearUnit.vibGone
  · exact h.modSward.clearSwardRegs.clearSward.vibGone

theorem Steady.doTvddPorRelease {t : TvddId} (h : Steady m₀ m) : Steady m₀ (doTvddPorRelease t m) := by
  dsimp only [Machine.doTvddPorRelease]
  split
  · exact h.when (·.clearUnit.dropOwn.noteUnitReset)
  · exact h.modSward

theorem Steady.dropTransactions (h : Steady m₀ m) : Steady m₀ (dropTransactions m) := by
  unfold Machine.dropTransactions
  exact h.modHeath

theorem Steady.loseInFlight (h : Steady m₀ m) : Steady m₀ (loseInFlight m) := by
  dsimp only [Machine.loseInFlight]
  refine .when (?_) (·.smbusAbandon)
  split
  · exact h.dropTransactions.windowErrorUncoded
  · exact h.dropTransactions

theorem Steady.bootAgain {i : Nat} (h : Steady m₀ m) : Steady m₀ (bootAgain i m) := h.unless (·.modHeath)

theorem Steady.heathGone (h : Steady m₀ m) : Steady m₀ (heathGone m) := h.modHeath

theorem Steady.dropJobs {i : Nat} (h : Steady m₀ m) : Steady m₀ (dropJobs i m) := h.modNvm

theorem Steady.heathReset (h : Steady m₀ m) : Steady m₀ (heathReset m) :=
  h.when (·.dropJobs.heathGone.bootAgain)

theorem Steady.rstctlWrite (h : Steady m₀ m) : Steady m₀ (rstctlWrite data m) := by
  dsimp only [Machine.rstctlWrite]
  refine h.unless (fun h => ?_)
  split
  · exact h
  · exact h.waferRstCommand
  · exact h.heathReset
  · exact h.unless (·.beginSwardReset)
  · exact h.set

theorem Steady.doWaferRst (h : Steady m₀ m) : Steady m₀ (doWaferRst m) := h.rstctlWrite

theorem Steady.doHeathRst (h : Steady m₀ m) : Steady m₀ (doHeathRst m) := h.rstctlWrite

theorem Steady.doSwdRst {p : Fin 64} (h : Steady m₀ m) : Steady m₀ (doSwdRst p m) := h.rstctlWrite

theorem Steady.doHedgerowMessageReceive {stop sender : Fin 66} {seq : BitVec 16} (h : Steady m₀ m) :
    Steady m₀ (doHedgerowMessageReceive stop sender seq m) := h.unless (fun h => .ite h.modHeath h.modHeath)

theorem Steady.partGone (h : Steady m₀ m) : Steady m₀ (partGone p m) := h.setPairBit.set.brakeActEval

theorem Steady.standbyGone (h : Steady m₀ m) : Steady m₀ (standbyGone m) := h.modHeath.set

theorem Steady.doStopBypassClose {i : Fin 66} (h : Steady m₀ m) : Steady m₀ (doStopBypassClose i m) :=
  .ite (h.modSward.when (·.partGone)) (.ite h.heathReset (h.when (·.standbyGone.bootAgain)))

theorem Steady.doHedgerowAbandon {p : Fin 64} {k : UnicastKind} {addr : Nat} (h : Steady m₀ m) :
    Steady m₀ (doHedgerowAbandon p k addr w m) := by
  dsimp only [Machine.doHedgerowAbandon]
  split
  · exact h.at
  · exact h.at.when (fun h => (h.modHeath.setPairBit.when (·.abandonAccess)).heathFaultAt)

theorem Steady.doAlignmentMark (h : Steady m₀ m) : Steady m₀ (doAlignmentMark w m) :=
  h.at.when (fun h => (h.when (·.modHeath.set.set)).modHeath.send)

theorem Steady.doAlignmentMarkReceive {p : Fin 64} (h : Steady m₀ m) :
    Steady m₀ (doAlignmentMarkReceive p w m) := by
  dsimp only [Machine.doAlignmentMarkReceive]
  split
  · exact h.at
  · exact h.at.unless (·.modHeath.when (·.modHeath.when (·.set)))

theorem Steady.doMeshRefLoss (h : Steady m₀ m) : Steady m₀ (doMeshRefLoss m) := h.modHeath.set.set.set

theorem Steady.doMeshRefReturn (h : Steady m₀ m) : Steady m₀ (doMeshRefReturn m) := h.set

theorem Steady.doHeartbeatSend (h : Steady m₀ m) : Steady m₀ (doHeartbeatSend w m) := h.at.when (·.send)

theorem Steady.nvmTakeover (h : Steady m₀ m) : Steady m₀ (nvmTakeover m) := h.modNvm.nvmNext.nvmBusy

theorem Steady.becomeActive (h : Steady m₀ m) : Steady m₀ (becomeActive m) := h.modHeath

theorem Steady.doHeathTakeover (h : Steady m₀ m) : Steady m₀ (doHeathTakeover w m) := by
  unfold Machine.doHeathTakeover
  exact h.at.when (·.takeMirrored.bootAgain.becomeActive.set.branch
    (·.inc.incSat.set.set.set.loseInFlight.meterTakeover.nvmTakeover.heathFault.fold (·.schedRewrite))
    (·.waferRstCommand))

theorem Steady.doHeartbeatReceive {gen : BitVec 8} (h : Steady m₀ m) : Steady m₀ (doHeartbeatReceive gen m) := by
  dsimp only [Machine.doHeartbeatReceive]
  exact h.received (·.when (·.heathReset.loseInFlight.modHeath.set.set))

theorem Steady.doMirrorRecordReceive {seq : BitVec 16} (h : Steady m₀ m) :
    Steady m₀ (doMirrorRecordReceive seq m) := by
  dsimp only [Machine.doMirrorRecordReceive]
  refine h.received (fun h => ?_)
  split
  · exact h
  · exact h.when (·.modHeath.send.mirrorAcked)

theorem Steady.doStandbyLost (h : Steady m₀ m) : Steady m₀ (doStandbyLost m) := by
  unfold Machine.doStandbyLost
  exact h.when (·.standbyGone.bootAgain.mirrorAcked.heathFault)

theorem Steady.doMirrorCopyDone (h : Steady m₀ m) : Steady m₀ (doMirrorCopyDone m) :=
  h.when (·.modHeath.set.set)

/-! ### Machine/Frame -/

theorem Steady.unitRead (h : Steady m₀ m) : Steady m₀ (unitRead u off m).2 := by
  dsimp only [Machine.unitRead]
  split
  · exact h.putWord
  · exact h

theorem Steady.telLatch (h : Steady m₀ m) : Steady m₀ (telLatch u f m) := by
  dsimp only [Machine.telLatch]
  refine h.unless (fun h => (h.fold (fun h => ?_)).setB.inc.modUnit)
  split
  · exact h.setI
  · exact h

theorem Steady.telBoundary {s : Sample} (h : Steady m₀ m) : Steady m₀ (telBoundary u f s m) :=
  ((h.telLatch.unless (·.set.modUnit)).when (·.modUnit)).unless (·.modUnit)

theorem Steady.doTelemetryWindowLatch (h : Steady m₀ m) : Steady m₀ (doTelemetryWindowLatch u f m) :=
  h.at.telLatch

theorem Steady.canaryBoundary {u : UnitId} {failing : Nat} (h : Steady m₀ m) :
    Steady m₀ (canaryBoundary u failing m).2 := by
  dsimp only [Machine.canaryBoundary]
  exact .iteSnd h (.pair (h.set.setB.when (·.set)).modUnit)

theorem Steady.finishRecord {r : UpRecord} (h : Steady m₀ m) : Steady m₀ (finishRecord u f r m) := by
  dsimp only [Machine.finishRecord]
  split
  · exact h.modUnit
  · refine .ite h.modUnit ?_
    split
    · exact h.modUnit
    · exact h.modUnit

theorem Steady.applyAccess {r : StopRecord} (h : Steady m₀ m) : Steady m₀ (applyAccess u r m) := by
  dsimp only [Machine.applyAccess]
  split
  · exact h
  · exact .ite h.unitRead.modUnit (h.unless (·.unitWrite))

theorem Steady.applySetpoint {sp : SetPoint} {f : Fld} {code : Option Int} (h : Steady m₀ m) :
    Steady m₀ (applySetpoint u sp f code m) := by
  dsimp only [Machine.applySetpoint]
  split
  · exact h
  · exact h.unless (·.setpointWrite)

theorem Steady.applyBalance {l : List Int} (h : Steady m₀ m) : Steady m₀ (applyBalance u l m) :=
  h.fold (·.unless (·.unitWrite))

theorem Steady.applyLink {v : Nat} (h : Steady m₀ m) : Steady m₀ (applyLink u v m) := by
  dsimp only [Machine.applyLink]
  split
  · exact h.modUnit.when (·.railDisable)
  · exact h.modUnit.when (·.set.backInService)
  · exact h.modUnit.unless (·.set.dropWindow)

theorem Steady.applyCore (h : Steady m₀ m) : Steady m₀ (applyCore u m) :=
  .ite h.modUnit (h.when (·.modUnit.freeIntents))

theorem Steady.applyHeader {f : DownFrame} (h : Steady m₀ m) : Steady m₀ (applyHeader u f m) :=
  h.modUnit.branch (·.applyLink) (fun h => (h.modUnit.unless (·.writeRet)).retentionEval)

theorem Steady.applyFrame {f : DownFrame} (h : Steady m₀ m) : Steady m₀ (applyFrame u f m) := by
  dsimp only [Machine.applyFrame]
  refine .unless (?_) (·.applyCore)
  split
  · refine .set (?_)
    split
    · exact h.applyHeader.applyAccess.applySetpoint.applySetpoint.applySetpoint.applyBalance
    · exact h.applyHeader.applyAccess.applySetpoint.applySetpoint.applySetpoint
  · split
    · exact h.applyHeader.applyAccess.applySetpoint.applySetpoint.applySetpoint.applyBalance
    · exact h.applyHeader.applyAccess.applySetpoint.applySetpoint.applySetpoint

theorem Steady.doDownlinkFrameReceive {copies : Option (BitVec 1064) × Option (BitVec 1064)} (h : Steady m₀ m) :
    Steady m₀ (doDownlinkFrameReceive u copies m) := by
  dsimp only [Machine.doDownlinkFrameReceive]
  refine h.unless (fun h => ?_)
  split
  · exact h.modUnit
  · split
    · exact h.incSat.count
    · exact h.incSat

theorem Steady.framePeak {f : Fld} {v : Option Int} (h : Steady m₀ m) : Steady m₀ (framePeak u f v m) := by
  dsimp only [Machine.framePeak]
  split
  · exact h.peakMax
  · exact h

theorem Steady.frameLow {v : Option Int} (h : Steady m₀ m) : Steady m₀ (frameLow u q v m) := by
  dsimp only [Machine.frameLow]
  split
  · exact h.when (·.setI)
  · exact h

theorem Steady.framePeaks {s : Sample} (h : Steady m₀ m) : Steady m₀ (framePeaks u s m) :=
  (h.frameLow.frameLow.framePeak.framePeak.branch (fun h => .ite (.ite (h.unless (·.framePeak)) (h.unless
    (·.framePeak)).framePeak) (.framePeak (.ite (h.unless (·.framePeak)) (h.unless (·.framePeak)).framePeak)))
    (fun h => .framePeak (.ite (.ite (h.unless (·.framePeak)) (h.unless (·.framePeak)).framePeak) (.framePeak
    (.ite (h.unless (·.framePeak)) (h.unless (·.framePeak)).framePeak))))).fold (·.modRail)

theorem Steady.takeSample {s : Sample} (h : Steady m₀ m) : Steady m₀ (takeSample u s m) :=
  h.senseMean.senseMean.framePeaks.modPhase.modPhase.modPhase.branch (·.modPhase) (·.set.set.set.set)

theorem Steady.doDownlinkApply {s : Sample} (h : Steady m₀ m) : Steady m₀ (doDownlinkApply u f s m) := by
  dsimp only [Machine.doDownlinkApply]
  refine h.at.branch (·.modUnit) (fun h => .finishRecord (.modUnit (?_)))
  split
  · exact h.takeSample.testTick.adoptHold.telBoundary.canaryBoundary.modUnit.when (·.applyFrame)
  · exact h.takeSample.testTick.adoptHold.telBoundary.canaryBoundary.modUnit

theorem Steady.spokeError {f : Fld} (h : Steady m₀ m) : Steady m₀ (spokeError p f s m) :=
  h.unless (·.set.swardFault)

theorem Steady.doUplinkRecordReceive {a b : Option (BitVec 200)} (h : Steady m₀ m) :
    Steady m₀ (doUplinkRecordReceive u a b m) := by
  dsimp only [Machine.doUplinkRecordReceive]
  split
  · exact h
  · refine h.unless (fun h => ?_)
    split
    · exact (h.when (·.count.spokeError)).modSward
    · exact h.when (·.count.spokeError)

theorem Steady.traceDropped (h : Steady m₀ m) : Steady m₀ (traceDropped p m) := h.incSat.tally

theorem Steady.telemetryDropped (h : Steady m₀ m) : Steady m₀ (telemetryDropped p m) := h.incSat.tally

theorem Steady.meshPush {k : MeshPacket} (h : Steady m₀ m) : Steady m₀ (meshPush p k m) :=
  .ite h.set.tally (.ite h.modSward (.ite h.traceDropped (.ite h.modSward.traceDropped (.ite
    h.modSward.telemetryDropped (h.when (·.telemetryDropped))))))

theorem Steady.doMeshPacketSent {sender : Fin 65} (h : Steady m₀ m) : Steady m₀ (doMeshPacketSent sender m) := by
  dsimp only [Machine.doMeshPacketSent]
  refine .ite h.heathPacketSent (h.unless (fun h => ?_))
  split
  · exact h
  · exact h.modSward.send.tally

theorem Steady.latchPick {v un : Fld} {e : Option (Int × Nat)} (h : Steady m₀ m) :
    Steady m₀ (latchPick p v un e m) := by
  dsimp only [Machine.latchPick]
  split
  · exact h.setI.set
  · exact (h.setI.setI.takeFresh)

theorem Steady.aggLatch (h : Steady m₀ m) : Steady m₀ (aggLatch p f m) :=
  h.unless (fun h => (h.fold (·.setI)).latchPick.latchPick.latchPick.setB.inc.modSward.when (·.meshPush))

theorem Steady.doAggregateWindowLatch {p : Fin 64} (h : Steady m₀ m) :
    Steady m₀ (doAggregateWindowLatch p f m) := h.unless (·.at.aggLatch)

theorem Steady.addEnergy (h : Steady m₀ m) : Steady m₀ (addEnergy p m) := h.set64.modSward.count

theorem Steady.aggBoundary {got : List Nat} (h : Steady m₀ m) : Steady m₀ (aggBoundary p f got m) := by
  unfold Machine.aggBoundary
  exact h.aggLatch.modSward

theorem Steady.tracePoint (h : Steady m₀ m) : Steady m₀ (tracePoint p m) := h.when (·.modSward.meshPush)

theorem Steady.countRecord {u : Nat} {old r : UpRecord} (h : Steady m₀ m) :
    Steady m₀ (countRecord p u old r m) := by
  dsimp only [Machine.countRecord]
  refine .count (?_)
  split
  · exact h.count.count.count.count.count.count.count.count.count.count.count.count
  · exact h.count.count.count.count.count.count.count.count.count.count

theorem Steady.unitReport {u : Nat} {r : UpRecord} {e : UnitEvent} (h : Steady m₀ m) :
    Steady m₀ (unitReport p u r e m) := .ite h.set (.ite h.modSward (h.reportEvent.when (·.coreHold)))

theorem Steady.columnAnswer {u : Nat} {e : ColReport} {w : Word} (h : Steady m₀ m) :
    Steady m₀ (columnAnswer p u e w m) := by
  dsimp only [Machine.columnAnswer]
  split
  · exact h.modSward
  · exact h.modSward.queueReport

theorem Steady.columnReads {u : Nat} {w : Option Word} (h : Steady m₀ m) : Steady m₀ (columnReads p u w m) := by
  dsimp only [Machine.columnReads]
  split
  · exact h
  · split
    · exact h.columnAnswer
    · exact h.unless (·.modSward)

theorem Steady.takeSlow {u v : Nat} (h : Steady m₀ m) : Steady m₀ (takeSlow p u f v m) := by
  dsimp only [Machine.takeSlow]
  split
  · exact h.when (·.set.set.set)
  · exact h
  · exact h.modSward

theorem Steady.answerRead {base : Nat} (h : Steady m₀ m) : Steady m₀ (answerRead p base w m) := by
  dsimp only [Machine.answerRead]
  split
  · exact h.send
  · exact h.modHeath.setPairBit.branch (·.modHeath.send) (·.when (·.modHeath.inc.send))

theorem Steady.takeRecord' {u : Nat} (h : Steady m₀ m) : Steady m₀ (takeRecord' p u f m) := by
  dsimp only [Machine.takeRecord']
  split
  · refine .takeSlow (.columnReads (?_))
    split
    · refine .answerRead (?_)
      split
      · exact h.countRecord.modSward.unitReport
      · exact h.countRecord.modSward
    · split
      · exact h.countRecord.modSward.unitReport
      · exact h.countRecord.modSward
  · refine .columnReads (?_)
    split
    · refine .answerRead (?_)
      split
      · exact h.countRecord.modSward.unitReport
      · exact h.countRecord.modSward
    · split
      · exact h.countRecord.modSward.unitReport
      · exact h.countRecord.modSward

theorem Steady.loseRecord {u : Nat} (h : Steady m₀ m) : Steady m₀ (loseRecord p u f m) :=
  h.columnReads.unless (·.modSward.count.spokeError.when (·.count.reportEvent))

theorem Steady.contextSignals (h : Steady m₀ m) : Steady m₀ (contextSignals p m) := h.modSward.swathSignals

theorem Steady.adoptedPower (h : Steady m₀ m) : Steady m₀ (adoptedPower p f m) :=
  h.fold (fun h => .ite h.modSward h.modSward)

theorem Steady.takeSnapshot (h : Steady m₀ m) : Steady m₀ (takeSnapshot p f m) :=
  ((h.fold fun h => .ite h.takeRecord'
    h.loseRecord).modSward.modSward.takeFresh.modSward.contextBoundary.contextSignals.fold
    (·.bumpTussock)).adoptedPower.aggBoundary.addEnergy

theorem Steady.snapshotBoundary (h : Steady m₀ m) : Steady m₀ (snapshotBoundary p f m) :=
  .ite h.modSward.contextSignals h.takeSnapshot

theorem Steady.powerBoundary (h : Steady m₀ m) : Steady m₀ (powerBoundary p f m) := by
  unfold Machine.powerBoundary
  exact (h.when (·.modSward.unless (·.meshPush))).modSward

theorem Steady.nextAccess {p u : Nat} (h : Steady m₀ m) : Steady m₀ (nextAccess p u m).2 := by
  dsimp only [Machine.nextAccess]
  split
  · exact .pair h.modSward
  · exact .pair h.modSward
  · exact h

theorem Steady.sendStop {dests : List (Nat × Nat × Int)} {u : Nat} (h : Steady m₀ m) :
    Steady m₀ (sendStop p f dests m u) := by
  dsimp only [Machine.sendStop]
  split
  · exact (h.nextAccess.modSward.count.unless (·.recordImage)).count
  · exact h.nextAccess.modSward.count

theorem Steady.doFrameBoundary {p : Fin 64} (h : Steady m₀ m) : Steady m₀ (doFrameBoundary p f m) :=
  h.at.branch (·.modSward) (fun h => (((h.set.set.count.tally.modSward.unless (·.set.modSward)).when
    (·.makeSwap)).leaseBoundary.applyPending.snapshotBoundary.powerBoundary.paceBreakEval.modSward.fold
    (·.sendStop)).configStep)

theorem Steady.swapCommit {changed : Bool} (h : Steady m₀ m) : Steady m₀ (swapCommit p changed m) :=
  h.when (·.modSward)

theorem Steady.doCommitPoint {p : Fin 64} (h : Steady m₀ m) : Steady m₀ (doCommitPoint p m) := by
  dsimp only [Machine.doCommitPoint]
  refine h.unless fun h =>
    (h.at.tracePoint.commitSlots.brakeCommit.sequencer.swapCommit.walkCommit.fullCommit.when fun h =>
    ?_).domCommit.modSward
  split
  · exact h.startWalk
  · exact h

theorem Steady.doNbrCountChange (h : Steady m₀ m) : Steady m₀ (doNbrCountChange g m) :=
  h.fold (fun h => (h.unless (·.send)).modSward)

theorem Steady.doAdoptionOverCap (h : Steady m₀ m) : Steady m₀ (doAdoptionOverCap g w m) :=
  h.at.when (·.modSward.reportEvent)

/-! ### Machine/Access -/

theorem Steady.mapClose (h : Steady m₀ m) : Steady m₀ (mapClose m) := h.modHeath.set

theorem Steady.mapCommit (h : Steady m₀ m) : Steady m₀ (mapCommit m) := by
  unfold Machine.mapCommit
  rw [List.foldr_eq_foldl_reverse]
  exact .ite (h.inc.fold (·.putWord)).mapClose h.set.mapClose

theorem Steady.mapOpen (h : Steady m₀ m) : Steady m₀ (mapOpen m) := .ite h.modHeath.set h.set

theorem Steady.mapctlWrite (h : Steady m₀ m) : Steady m₀ (mapctlWrite data m) := by
  dsimp only [Machine.mapctlWrite]
  split
  · exact h.w1c.mapCommit
  · exact h.w1c.mapClose
  · exact h.w1c
  · exact h.w1c.set
  · exact h.w1c.mapOpen
  · exact h.w1c

theorem Steady.lmapWrite {n : Fin 4096} (h : Steady m₀ m) : Steady m₀ (lmapWrite n data m) :=
  .ite h.modHeath h.set

theorem Steady.doMapOpen (h : Steady m₀ m) : Steady m₀ (doMapOpen m) := h.mapctlWrite

theorem Steady.doMapCommit {opens : Bool} (h : Steady m₀ m) : Steady m₀ (doMapCommit opens m) := h.mapctlWrite

theorem Steady.doMapDiscard (h : Steady m₀ m) : Steady m₀ (doMapDiscard m) := h.mapctlWrite

theorem Steady.doLmapWrite {n : Fin 4096} (h : Steady m₀ m) : Steady m₀ (doLmapWrite n data m) := h.lmapWrite

theorem Steady.storeWrite (h : Steady m₀ m) : Steady m₀ (storeWrite data m) :=
  h.when (fun h => .ite h.set (h.each (·.nvmQueue)))

theorem Steady.spiPins (h : Steady m₀ m) : Steady m₀ (spiPins m) := h.unless (·.modHeath)

theorem Steady.imgcfgWrite (h : Steady m₀ m) : Steady m₀ (imgcfgWrite data m) := h.plainWrite.spiPins

theorem Steady.heathWrite (h : Steady m₀ m) : Steady m₀ (heathWrite i a data m) :=
  .ite h.plainWrite (.ite h.rstctlWrite (.ite h.seqWrite (.ite h.capreqWrite (.ite h.budgetConfig (.ite
    h.derateWrite (.ite h.cmnConfig (.ite h.doBarrierWaitWrite (.ite h.paceWrite (.ite h.fackWrite (.ite
    (h.when (·.doFecClear)) (.ite h.doRingRpWrite (.ite h.lfctlWrite (.ite h.finjWrite (.ite (h.when
    (·.plainWrite)) (.ite h.fsevWrite (.ite h.meterWrite (.ite h.storeWrite (.ite h.imgcfgWrite (.ite
    h.mapctlWrite (.ite (.ite h.modHeath h.plainWrite) (.ite h.lmapWrite h.plainWrite)))))))))))))))))))))

theorem Steady.trcfgWrite (h : Steady m₀ m) : Steady m₀ (trcfgWrite p data m) := h.plainWrite.when (·.modSward)

theorem Steady.swardWrite (h : Steady m₀ m) : Steady m₀ (swardWrite p off data m) :=
  .ite h.ladderConfig (.ite h.ladderCommand (.ite h.swathWrite (.ite h.domctlWrite (.ite h.domstatWrite (.ite
    h.rstcmdWrite (.ite h.ladderShadowWrite (.ite h.pendConfig (.ite h.slotStateWrite (.ite h.schedWrite (.ite
    h.katWrite (.ite h.counterConfig (.ite h.counterCommand (.ite h.counterConfig (.ite (.ite h.plainWrite.set
    h.plainWrite) (.ite h.trcfgWrite h.plainWrite)))))))))))))))

theorem Steady.heathRead (h : Steady m₀ m) : Steady m₀ (heathRead i a m).2 :=
  .iteSnd h (.iteSnd h (.iteSnd h (.iteSnd h (.iteSnd h (.iteSnd h (.iteSnd h (.iteSnd h h.meterRead)))))))

theorem Steady.swardRead (h : Steady m₀ m) : Steady m₀ (swardRead p off m).2 :=
  .iteSnd h (.iteSnd h.swathIndexNext (.iteSnd h (.iteSnd h (.iteSnd h (.iteSnd h (.iteSnd h h))))))

theorem Steady.wordRead (h : Steady m₀ m) : Steady m₀ (wordRead i a m).2 := by
  dsimp only [Machine.wordRead]
  split
  · exact h.heathRead
  · exact h.swardRead
  · exact h.unitRead
  · exact h.unitRead
  · exact h

theorem Steady.wordWrite (h : Steady m₀ m) : Steady m₀ (wordWrite i a data m) := by
  dsimp only [Machine.wordWrite]
  split
  · exact h.heathWrite
  · exact h.swardWrite
  · exact h.recordImage.when (·.unitWrite)
  · exact h.recordImage.when (·.unitWrite)
  · exact h

theorem Steady.latchedRead {i : Issuer} {k a : Nat} (h : Steady m₀ m) : Steady m₀ (latchedRead i k a m).2 := by
  dsimp only [Machine.latchedRead]
  refine .iteSnd h.wordRead (.iteSnd (.pair h.wordRead.modHeath) ?_)
  split
  · exact .iteSnd h h.wordRead
  · exact h.wordRead

theorem Steady.latchedWrite {i : Issuer} {a : Nat} {data : Word} (h : Steady m₀ m) :
    Steady m₀ (latchedWrite i a data m).2 := by
  dsimp only [Machine.latchedWrite]
  refine .iteSnd h.wordWrite (.iteSnd (.pair h.modHeath) (.iteSnd ?_ h.wordWrite))
  split
  · exact .iteSnd h.modHeath.wordWrite.wordWrite h.modHeath.wordWrite
  · exact h.modHeath.wordWrite

theorem Steady.accessWaits {write : Option Word} (h : Steady m₀ m) : Steady m₀ (accessWaits i p a write m) := by
  dsimp only [Machine.accessWaits]
  split
  · exact (h.unless (·.unicast)).modHeath
  · exact (h.unless (·.unicast)).modHeath
  · exact h.unless (·.unicast)

theorem Steady.delivered {k : UnicastKind} (h : Steady m₀ m) : Steady m₀ (delivered p k a m) :=
  h.modHeath.setPairBit

theorem Steady.accessAnswered (h : Steady m₀ m) : Steady m₀ (accessAnswered i p a m) := by
  dsimp only [Machine.accessAnswered]
  split
  · exact h.delivered.modHeath
  · exact h.delivered.modHeath
  · exact h.delivered

theorem Steady.windowWriteDone {b : Nat} (h : Steady m₀ m) : Steady m₀ (windowWriteDone a b m) :=
  .ite (h.unless (·.modHeath)) (.ite h.modHeath h.send)

theorem Steady.portDone {b : Nat} {w : Word} (h : Steady m₀ m) : Steady m₀ (portDone i write a b w m) := by
  dsimp only [Machine.portDone]
  split
  · exact .ite h.windowWriteDone h.send
  · exact (h.unless (·.send)).inc
  · exact h

theorem Steady.enqueueAccess {u : UnitId} {x : UnitAccess} (h : Steady m₀ m) :
    Steady m₀ (enqueueAccess u x m).2 := by
  dsimp only [Machine.enqueueAccess]
  exact .iteSnd h (.iteSnd h.tally (.pair h.tally.modSward))

theorem Steady.unitAccess {write : Option Word} (h : Steady m₀ m) : Steady m₀ (unitAccess u off write i m).2 :=
  .iteSnd h.enqueueAccess.accessAnswered h.enqueueAccess.accessWaits

theorem Steady.doAccessChannelEnqueue {off : Fin 1024} {read : Bool} {issuer : Issuer} (h : Steady m₀ m) :
    Steady m₀ (doAccessChannelEnqueue u off data read issuer m) := by
  unfold Machine.doAccessChannelEnqueue
  exact h.received (fun h => .ite (h.unitAccess.when (·.portDone)) (h.enqueueAccess.when (·.delivered)))

theorem Steady.takeSetting (h : Steady m₀ m) : Steady m₀ (takeSetting p a data m) := by
  dsimp only [Machine.takeSetting]
  split
  · exact h.when (·.delivered.swardWrite)
  · exact h.enqueueAccess.when (·.delivered)
  · exact h.enqueueAccess.when (·.delivered)
  · exact h

theorem Steady.sendSetting (h : Steady m₀ m) : Steady m₀ (sendSetting p a data m) := h.send.unicast.takeSetting

theorem Steady.deliver {write : Option Word} (h : Steady m₀ m) : Steady m₀ (deliver i write a m).2.2 := by
  dsimp only [Machine.deliver]
  split
  · exact h.latchedWrite
  · exact h.latchedRead

theorem Steady.accessUnit {write : Option Word} (h : Steady m₀ m) : Steady m₀ (accessUnit u off i write m).2 :=
  .iteSnd h.deliver (.iteSnd h.unitAccess.count (h.unitAccess.when (·.count)))

theorem Steady.access {i : Issuer} {write : Option Word} {a : Nat} (h : Steady m₀ m) :
    Steady m₀ (access i write a m).2 := by
  dsimp only [Machine.access]
  refine .iteSnd h ?_
  split
  · exact h.accessUnit
  · exact h.accessUnit
  · exact .iteSnd h.tally.accessAnswered.deliver.count h.accessWaits
  · exact h.deliver

theorem Steady.windowAccess {super : Bool} {be : Nat} {write : Option Word} {a : Nat} (h : Steady m₀ m) :
    Steady m₀ (windowAccess super be write a m) := by
  dsimp only [Machine.windowAccess]
  refine .ite h.send (.ite h.windowErrorUncoded (h.unless fun h => .ite h.windowRefuse
    ((h.when (·.resendFrames)).branch (·.incSat.send) fun h => ?_)))
  split <;> rename_i e
  · exact (h.access.of_snd e).portDone
  · exact (h.access.of_snd e).windowRefuse
  · exact h.access.of_snd e

theorem Steady.smbusBuffered {respond : Wafer → Wafer} (h : Steady m₀ m)
    (hr : ∀ {m}, Steady m₀ m → Steady m₀ (respond m)) : Steady m₀ (smbusBuffered respond m) :=
  h.resendFrames.branch (fun h => hr h.modHeath) (·.incSat.modHeath)

theorem Steady.bridgeAccess {write : Option Word} {a : Nat} (h : Steady m₀ m) :
    Steady m₀ (bridgeAccess write a m) := by
  unfold Machine.bridgeAccess
  extract_lets b ty reply done act
  have reply_steady {s : Nat} {m : Wafer} (h : Steady m₀ m) : Steady m₀ (reply s m) := h.unless (·.send)
  have act_steady {m : Wafer} (h : Steady m₀ m) : Steady m₀ (act m) := by
    refine .ite (reply_steady h.takeFresh) ?_
    split <;> rename_i e
    · exact (h.access.of_snd e).portDone
    · exact (reply_steady ((h.access.of_snd e).when (·.accessError))).inc
    · exact h.access.of_snd e
  exact h.unless fun h => .ite (act_steady h) (h.smbusBuffered act_steady)

theorem Steady.arriveAgain {x : Unicast} (h : Steady m₀ m) : Steady m₀ (arriveAgain x m) := by
  dsimp only [Machine.arriveAgain]
  split
  · exact h.takeGrant
  · exact h.takeSetting
  · split <;> rename_i e
    · exact (h.access.of_snd e).portDone
    · exact h
    · exact h.access.of_snd e
  · exact h

theorem Steady.doHedgerowRetry {p : Fin 64} {k : UnicastKind} {addr : Nat} (h : Steady m₀ m) :
    Steady m₀ (doHedgerowRetry p k addr w m) := by
  dsimp only [Machine.doHedgerowRetry]
  split
  · exact h.at
  · exact h.at.when (·.modHeath.send.arriveAgain)

theorem Steady.apertureAccess {super : Bool} {o : Nat} (h : Steady m₀ m) :
    Steady m₀ (apertureAccess g super write p o m) := by
  dsimp only [Machine.apertureAccess]
  refine h.unless (fun h => .ite h.count (.ite h.count.send (.send (.count (?_)))))
  split
  · exact h.latchedRead
  · exact h

theorem Steady.issuedAccess {be : Nat} {write : Option Word} (h : Steady m₀ m) :
    Steady m₀ (issuedAccess i be write a m) := by
  dsimp only [Machine.issuedAccess]
  split
  · exact h.access
  · exact h.windowAccess
  · exact h.bridgeAccess
  · split
    · exact h.when (·.apertureAccess)
    · exact h

theorem Steady.doLowWordRead {a : BitVec 30} (h : Steady m₀ m) : Steady m₀ (doLowWordRead i a m) :=
  h.when (·.issuedAccess)

theorem Steady.doHighWordRead {a : BitVec 30} (h : Steady m₀ m) : Steady m₀ (doHighWordRead i a m) :=
  h.when (·.issuedAccess)

theorem Steady.doLowWordWrite {a : BitVec 30} (h : Steady m₀ m) : Steady m₀ (doLowWordWrite i a data m) :=
  h.when (·.issuedAccess)

theorem Steady.doHighWordWrite {a : BitVec 30} (h : Steady m₀ m) : Steady m₀ (doHighWordWrite i a data m) :=
  h.when (·.issuedAccess)

theorem Steady.doRegisterWrite {be : BitVec 4} {a : BitVec 30} (h : Steady m₀ m) :
    Steady m₀ (doRegisterWrite i be a data m) := h.issuedAccess

theorem Steady.doLogicalWindowAccess {be : BitVec 4} {o : Fin 1024} {write : Option Word} (h : Steady m₀ m) :
    Steady m₀ (doLogicalWindowAccess i be o write m) := h.issuedAccess

theorem Steady.doPeakRead {k : PeakReg} (h : Steady m₀ m) : Steady m₀ (doPeakRead i u k m) :=
  h.when (·.unitRead.send)

theorem Steady.doSlotStateWrite {p : Fin 64} {n : Fin 256} {word : Fin 6} (h : Steady m₀ m) :
    Steady m₀ (doSlotStateWrite p n word data m) := h.when (·.latchedWrite)

theorem Steady.doApertureRead {p : Fin 64} {super : Bool} {o : Fin 1024} (h : Steady m₀ m) :
    Steady m₀ (doApertureRead p g super write o m) := h.apertureAccess

/-! ### Machine/Manage -/

theorem Steady.smbusDiscard {f : Fld} {kind : Nat} (h : Steady m₀ m) : Steady m₀ (smbusDiscard f kind m) :=
  h.incSat.smbusError

theorem Steady.invalidData (h : Steady m₀ m) : Steady m₀ (invalidData m) := h.smbusDiscard

theorem Steady.smbusDone (h : Steady m₀ m) : Steady m₀ (smbusDone m) := h.inc

theorem Steady.smbusHalted (h : Steady m₀ m) : Steady m₀ (smbusHalted m) := h.smbusError

theorem Steady.smbusWrite {pec : Pec} {apply : Wafer → Wafer} (h : Steady m₀ m)
    (ha : ∀ {m}, Steady m₀ m → Steady m₀ (apply m)) : Steady m₀ (smbusWrite pec apply m) :=
  .ite h.smbusHalted (h.unless fun h => .ite h.smbusDiscard (ha h))

theorem Steady.smbusRead {bytes : Wafer → List Nat} (h : Steady m₀ m) : Steady m₀ (smbusRead write bytes m) :=
  .ite h.smbusHalted (h.unless (fun h => .ite h.smbusDiscard h.smbusDone.send))

theorem Steady.smbusBlockRead {bytes : Wafer → List Nat} (h : Steady m₀ m) :
    Steady m₀ (smbusBlockRead write bytes m) := .ite (h.smbusBuffered (·.smbusRead)) h.smbusRead

theorem Steady.doSmbusInvalidCommand {code : BitVec 8} (h : Steady m₀ m) :
    Steady m₀ (doSmbusInvalidCommand code m) := h.unless (·.smbusError)

theorem Steady.doAlertResponse {win : Bool} (h : Steady m₀ m) : Steady m₀ (doAlertResponse win m) :=
  h.when (·.modFault.smbusDone.send)

theorem Steady.doSmbusAbandon (h : Steady m₀ m) : Steady m₀ (doSmbusAbandon write m) := h.when (·.smbusAbandon)

theorem Steady.doSmbusStretchTimeout {remaining : Fin 256} (h : Steady m₀ m) :
    Steady m₀ (doSmbusStretchTimeout remaining m) := h.when (·.modHeath.send.smbusError)

theorem Steady.doPage {write : Option (BitVec 8)} {pec : Pec} (h : Steady m₀ m) :
    Steady m₀ (doPage write pec m) := by
  dsimp only [Machine.doPage]
  split
  · exact h.smbusWrite (fun h => .ite h.invalidData h.set.smbusDone)
  · exact h.smbusRead

theorem Steady.doReadVin (h : Steady m₀ m) : Steady m₀ (doReadVin write m) := h.takeFresh.smbusRead

theorem Steady.doReadIin (h : Steady m₀ m) : Steady m₀ (doReadIin write m) := h.smbusRead

theorem Steady.doReadPin (h : Steady m₀ m) : Steady m₀ (doReadPin write m) := h.smbusRead

theorem Steady.doReadTemperature1 (h : Steady m₀ m) : Steady m₀ (doReadTemperature1 write m) := h.smbusRead

theorem Steady.doReadTemperature2 (h : Steady m₀ m) : Steady m₀ (doReadTemperature2 write m) := h.smbusRead

theorem Steady.doReadTemperature3 (h : Steady m₀ m) : Steady m₀ (doReadTemperature3 write m) := h.smbusRead

theorem Steady.doStatusByte (h : Steady m₀ m) : Steady m₀ (doStatusByte write m) := h.smbusRead

theorem Steady.doStatusWord (h : Steady m₀ m) : Steady m₀ (doStatusWord write m) := h.smbusRead

theorem Steady.doStatusInput (h : Steady m₀ m) : Steady m₀ (doStatusInput write m) := h.smbusRead

theorem Steady.doStatusTemperature (h : Steady m₀ m) : Steady m₀ (doStatusTemperature write m) := h.smbusRead

theorem Steady.doStatusCml (h : Steady m₀ m) : Steady m₀ (doStatusCml write m) := h.smbusRead

theorem Steady.doStatusMfrSpecific (h : Steady m₀ m) : Steady m₀ (doStatusMfrSpecific write m) := h.smbusRead

theorem Steady.doClearFaults {pec : Pec} (h : Steady m₀ m) : Steady m₀ (doClearFaults pec m) :=
  h.smbusWrite (·.doAll.w1c.smbusDone)

theorem Steady.doCapability (h : Steady m₀ m) : Steady m₀ (doCapability write m) := h.smbusRead

theorem Steady.doPmbusRevision (h : Steady m₀ m) : Steady m₀ (doPmbusRevision write m) := h.smbusRead

theorem Steady.doMfrId (h : Steady m₀ m) : Steady m₀ (doMfrId write m) := h.smbusBlockRead

theorem Steady.doMfrModel (h : Steady m₀ m) : Steady m₀ (doMfrModel write m) := h.smbusBlockRead

theorem Steady.doMfrRevision (h : Steady m₀ m) : Steady m₀ (doMfrRevision write m) := h.smbusBlockRead

theorem Steady.doMfrCapEff (h : Steady m₀ m) : Steady m₀ (doMfrCapEff write m) := h.smbusRead

theorem Steady.doMfrWaferCap {write : Option (BitVec 16)} {pec : Pec} (h : Steady m₀ m) :
    Steady m₀ (doMfrWaferCap write pec m) := by
  dsimp only [Machine.doMfrWaferCap]
  split
  · exact h.smbusWrite (·.capreqWrite.smbusDone)
  · exact h.smbusRead

theorem Steady.doMfrRegWrite {bytes : List (BitVec 8)} {pec : Pec} (h : Steady m₀ m) :
    Steady m₀ (doMfrRegWrite bytes pec m) :=
  h.smbusWrite (fun h => .ite h.smbusDone (.ite h.invalidData h.bridgeAccess))

theorem Steady.doMfrRegRead {bytes : List (BitVec 8)} (h : Steady m₀ m) : Steady m₀ (doMfrRegRead bytes m) :=
  h.unless (fun h => .ite (h.smbusBuffered (·.smbusDone.send)) (.ite h.invalidData h.bridgeAccess))

theorem Steady.doSpiReleaseWrite {release : Bool} (h : Steady m₀ m) :
    Steady m₀ (doSpiReleaseWrite release m) := h.imgcfgWrite

theorem Steady.doStore {regions : BitVec 6} (h : Steady m₀ m) : Steady m₀ (doStore regions m) := h.storeWrite

theorem Steady.nvmResume {i : Nat} (h : Steady m₀ m) : Steady m₀ (nvmResume i m) := by
  dsimp only [Machine.nvmResume]
  split
  · exact h.modNvm
  · exact h

theorem Steady.nvmUnpend (h : Steady m₀ m) : Steady m₀ (nvmUnpend r m) := h.when (·.set)

theorem Steady.nvmBoth (h : Steady m₀ m) : Steady m₀ (nvmBoth r m) := h.setB.when (·.modNvm)

theorem Steady.nvmComplete {j : NvmJob} (h : Steady m₀ m) : Steady m₀ (nvmComplete j m) :=
  ((h.set.set.incSat.set.nvmUnpend.when (·.modNvm.nvmBoth)).when (·.when (·.set.nvmQueue))).when
    (·.retireDiffers.when (·.nvmQueue))

theorem Steady.nvmGoOn {i : Nat} (h : Steady m₀ m) : Steady m₀ (nvmGoOn i m) :=
  (((h.when (·.nvmNext)).unless (·.nvmResume)).when (·.nvmNext)).nvmBusy

theorem Steady.nvmAbandon {i : Nat} {j : NvmJob} (h : Steady m₀ m) : Steady m₀ (nvmAbandon i j m) :=
  (h.modNvm.when (·.set.nvmUnpend)).heathFaultAt.nvmGoOn

theorem Steady.doNvmPageWriteDone {i bank : Fin 2} {good : Bool} (h : Steady m₀ m) :
    Steady m₀ (doNvmPageWriteDone i bank good m) := by
  dsimp only [Machine.doNvmPageWriteDone]
  split
  · exact h
  · exact .ite (.ite h.nvmAbandon h.modNvm) (.ite (.ite h.modNvm (h.modNvm.when (·.beginRegion)))
      (h.modNvm.branch (·.nvmComplete) (·.when (·.nvmBoth))).nvmGoOn)

theorem Steady.doNvmStandbyLag {r : Fin 6} (h : Steady m₀ m) : Steady m₀ (doNvmStandbyLag r m) :=
  h.when (·.modNvm.set)

/-! ### Machine/Boot -/

theorem Steady.readFuses (h : Steady m₀ m) : Steady m₀ (readFuses m) := h.setStep.unless (·.heathFault)

theorem Steady.chooseHeath {i : Nat} (h : Steady m₀ m) : Steady m₀ (chooseHeath i m) := by
  unfold Machine.chooseHeath
  exact h.modHeath.setB.setStep.trackAfresh.readFuses

theorem Steady.haltWafer (h : Steady m₀ m) : Steady m₀ (haltWafer m) := h.modHeath.set

theorem Steady.chooseEval (h : Steady m₀ m) : Steady m₀ (chooseEval m) := by
  dsimp only [Machine.chooseEval]
  refine h.unless (fun h => ?_)
  split
  · exact h.chooseHeath
  · exact h.chooseHeath
  · exact h.haltWafer
  · exact h

theorem Steady.loneReset {i : Nat} (h : Steady m₀ m) : Steady m₀ (loneReset i m) :=
  h.filterRegs.modHeath.putWord.set.trackAfresh.retireDiffers

theorem Steady.heathReturns {i : Nat} {pass : Bool} (h : Steady m₀ m) : Steady m₀ (heathReturns i pass m) :=
  h.modHeath.branch (·.when (·.set)) (fun h => h.unless (fun h => .ite h.loneReset h.haltWafer))

theorem Steady.doHeathSelfTestDone {i : Fin 2} {pass : Bool} (h : Steady m₀ m) :
    Steady m₀ (doHeathSelfTestDone i pass m) :=
  .ite h.heathReturns (h.unless (fun h => .ite (h.unless (·.modHeath.branch (·.modHeath.setB) (·.chooseEval)))
    (h.unless (·.modHeath.branch (·.modHeath.setB) (·.chooseEval)))))

theorem Steady.doSelfTestReportTimeout (h : Steady m₀ m) : Steady m₀ (doSelfTestReportTimeout m) :=
  h.when (·.chooseHeath)

theorem Steady.recordSkipped (h : Steady m₀ m) : Steady m₀ (recordSkipped m) := h.incSat

theorem Steady.applyRecord {r : Nat × Nat} (h : Steady m₀ m) : Steady m₀ (applyRecord m r) :=
  .ite h.recordSkipped h.wordWrite

theorem Steady.readCopy {b : Bool} {l : List (BitVec 8)} (h : Steady m₀ m) : Steady m₀ (readCopy b l m).2 :=
  (((h.when (·.set)).when (·.set)).when (·.set)).when (·.set)

theorem Steady.takeImage {b : Bool} {l : List (BitVec 8)} (h : Steady m₀ m) : Steady m₀ (takeImage b l m) := by
  unfold Machine.takeImage
  exact h.set.setB.modHeath

theorem Steady.selectImage {a b : List (BitVec 8)} (h : Steady m₀ m) : Steady m₀ (selectImage a b m) :=
  h.readCopy.branch (·.takeImage) (·.readCopy.branch (·.takeImage) (·.set.modHeath.heathFault))

theorem Steady.doFlashImageRead {sfdp : Option Sfdp} {a b : List (BitVec 8)} (h : Steady m₀ m) :
    Steady m₀ (doFlashImageRead sfdp a b m) := by
  dsimp only [Machine.doFlashImageRead]
  refine h.when (fun h => .spiPins (.branch (.fold (.selectImage (.set (.set (?_)))) (·.applyRecord))
    (·.modHeath) (·.setStep)))
  split
  · exact h.set.setB.setB.set
  · exact h.putWord

theorem Steady.resetRwp {cal : Bool} (h : Steady m₀ m) : Steady m₀ (resetRwp cal m) := h.mapRegs

theorem Steady.loadRwp {cal : Bool} {e : Nat × Nat} (h : Steady m₀ m) : Steady m₀ (loadRwp cal m e) :=
  h.when (·.putWord)

theorem Steady.loadRegion {data : List (Nat × Nat)} (h : Steady m₀ m) : Steady m₀ (loadRegion r data m) := by
  dsimp only [Machine.loadRegion]
  split
  · exact h.fold (·.putWord)
  · exact h.modHeath
  · exact h.resetRwp.fold (·.loadRwp)
  · exact h.resetRwp.fold (·.loadRwp)
  · exact h.fold (fun h => .ite h.putWord (h.when (·.set)))
  · exact h

theorem Steady.examineRegion (h : Steady m₀ m) : Steady m₀ (examineRegion m r) := by
  dsimp only [Machine.examineRegion]
  split
  · exact h.putWord.set.set.set.set.heathFault
  · exact h.set.set.set.setB.setB.setB.loadRegion

theorem Steady.clampSettings (h : Steady m₀ m) : Steady m₀ (clampSettings m) := h.fold (·.unless (·.heathWrite))

theorem Steady.settingsEval {crossed : List (Nat × Nat)} (h : Steady m₀ m) :
    Steady m₀ (settingsEval crossed m) :=
  (((h.clampSettings.when (·.set)).branch (·.modHeath) (·.set)).unless (·.set)).derateEval.cmnEval

theorem Steady.doNvmOverlayLoad (h : Steady m₀ m) : Steady m₀ (doNvmOverlayLoad m) := by
  dsimp only [Machine.doNvmOverlayLoad]
  refine h.when (fun h => .branch (?_) (·.modHeath) (·.setStep.setB))
  split
  · exact (h.fold (·.examineRegion)).settingsEval.retireDiffers.meterStart.trackAfresh
  · exact (h.fold (·.examineRegion)).settingsEval.retireDiffers.meterStart
  · exact (h.fold (·.examineRegion)).settingsEval.retireDiffers

theorem Steady.doVibPresenceHeld (h : Steady m₀ m) : Steady m₀ (doVibPresenceHeld m) :=
  h.unless (·.modHeath.set.set)

theorem Steady.doHedgerowEnumerate (h : Steady m₀ m) : Steady m₀ (doHedgerowEnumerate m) :=
  h.when (fun h => ((h.modHeath.set.set.fold (·.modSward)).fold (·.heathFaultAt)).setStep)

theorem Steady.swardRecord {r : Nat × Nat} (h : Steady m₀ m) : Steady m₀ (swardRecord m r) :=
  .ite h.recordSkipped (h.fold (·.swardWrite))

theorem Steady.unitRecord {r : Nat × Nat} (h : Steady m₀ m) : Steady m₀ (unitRecord m r) :=
  .ite h.recordSkipped (h.fold (·.when (·.queueOwn)))

theorem Steady.liveSetting (h : Steady m₀ m) : Steady m₀ (liveSetting a data m) := by
  dsimp only [Machine.liveSetting]
  split
  · exact h.when (·.sendSetting)
  · exact h

theorem Steady.unicastRecord {r : Nat × Nat} (h : Steady m₀ m) : Steady m₀ (unicastRecord m r) :=
  .ite h.recordSkipped h.liveSetting

theorem Steady.unicastPass (h : Steady m₀ m) : Steady m₀ (unicastPass m) :=
  ((h.fold (·.unicastRecord)).fold (·.liveSetting)).fold (·.each (·.liveSetting))

theorem Steady.doConfigBroadcast (h : Steady m₀ m) : Steady m₀ (doConfigBroadcast m) :=
  h.unless (fun h => .ite (h.fold (·.swardRecord)).unicastPass.modHeath.paceSend (h.when (fun h => (((h.fold
    (·.swardRecord)).fold (·.unitRecord)).unicastPass.when (·.paceSend)).modHeath.configStep)))

theorem Steady.testPhase {e : Nat × BitVec 6} (h : Steady m₀ m) : Steady m₀ (testPhase u m e) :=
  h.unless (·.set.retirePhase.inc)

theorem Steady.doUnitSelfTest {c0 c1 c2 c3 : BitVec 6} (h : Steady m₀ m) :
    Steady m₀ (doUnitSelfTest u c0 c1 c2 c3 m) :=
  h.when (fun h => (h.fold (·.testPhase)).modHeath.when (·.setStep))

theorem Steady.doPowerReady (h : Steady m₀ m) : Steady m₀ (doPowerReady m) :=
  h.when (·.setStep.set.modHeath.heathFault.each (·.nvmQueue))

theorem Steady.doHeathDieOverTemp {i : Fin 2} {t : Int} (h : Steady m₀ m) :
    Steady m₀ (doHeathDieOverTemp i t m) :=
  h.unless (fun h => (h.set.when (·.heathFaultAt)).modHeath.when (·.heathGone.set))

theorem Steady.doHeathHalt {i : Fin 2} (h : Steady m₀ m) : Steady m₀ (doHeathHalt i m) :=
  h.when (·.modHeath.modNvm.branch (·.set) (·.standbyGone))


/-! ### Every command

The release of the Heaths is the one command that is not steady: it starts WTIME again. -/

/-- The mirror record of a command changes no register, no unit and no Sward. -/
theorem Steady.mirrorStep {n : Wafer} (h : Steady m₀ m) : Steady m₀ (mirrorStep n m) := by
  rcases mirrorStep_cases n m with e | ⟨-, e⟩ | e <;> rw [e]
  · exact h
  · exact h.modHeath
  · exact h.modHeath.send

/-- A command that is an effect on the controller, and that effect is steady. -/
def RunsSteadily (c : Instr) : Prop :=
  ∃ f : Wafer → Wafer, (∀ s, exec c s = s.run f) ∧ ∀ m, Steady m (f m)

theorem RunsSteadily.mk {c : Instr} {f : Wafer → Wafer} (e : ∀ s, exec c s = s.run f)
    (hf : ∀ {m}, Steady m m → Steady m (f m)) : RunsSteadily c := ⟨f, e, fun m => hf (.refl m)⟩

theorem exec_runsSteadily (c : Instr) (hc : ∀ straps test, c ≠ .heathResetRelease straps test) : RunsSteadily c := by
  cases c with
  | heathResetRelease straps test => exact absurd rfl (hc straps test)
  | lowWordRead => exact .mk (fun _ => rfl) (·.doLowWordRead)
  | highWordRead => exact .mk (fun _ => rfl) (·.doHighWordRead)
  | lowWordWrite => exact .mk (fun _ => rfl) (·.doLowWordWrite)
  | highWordWrite => exact .mk (fun _ => rfl) (·.doHighWordWrite)
  | registerWrite => exact .mk (fun _ => rfl) (·.doRegisterWrite)
  | vstbyLoss => exact .mk (fun _ => rfl) (·.doVstbyLoss)
  | auxOkLow => exact .mk (fun _ => rfl) (·.doAuxOkLow)
  | sysRstAssert => exact .mk (fun _ => rfl) (·.doSysRstAssert)
  | heathSelfTestDone => exact .mk (fun _ => rfl) (·.doHeathSelfTestDone)
  | flashImageRead => exact .mk (fun _ => rfl) (·.doFlashImageRead)
  | nvmOverlayLoad => exact .mk (fun _ => rfl) (·.doNvmOverlayLoad)
  | vibPresenceHeld => exact .mk (fun _ => rfl) (·.doVibPresenceHeld)
  | hedgerowEnumerate => exact .mk (fun _ => rfl) (·.doHedgerowEnumerate)
  | configBroadcast => exact .mk (fun _ => rfl) (·.doConfigBroadcast)
  | unitSelfTest => exact .mk (fun _ => rfl) (·.doUnitSelfTest)
  | powerReady => exact .mk (fun _ => rfl) (·.doPowerReady)
  | tvddPorAssert => exact .mk (fun _ => rfl) (·.doTvddPorAssert)
  | tvddPorRelease => exact .mk (fun _ => rfl) (·.doTvddPorRelease)
  | mapOpen => exact .mk (fun _ => rfl) (·.doMapOpen)
  | mapCommit => exact .mk (fun _ => rfl) (·.doMapCommit)
  | mapDiscard => exact .mk (fun _ => rfl) (·.doMapDiscard)
  | lmapWrite => exact .mk (fun _ => rfl) (·.doLmapWrite)
  | logicalWindowAccess => exact .mk (fun _ => rfl) (·.doLogicalWindowAccess)
  | prstChange => exact .mk (fun _ => rfl) (·.doPrstChange)
  | fenceChange => exact .mk (fun _ => rfl) (·.doFenceChange)
  | hedgerowMessageReceive => exact .mk (fun _ => rfl) (·.doHedgerowMessageReceive)
  | stopBypassClose => exact .mk (fun _ => rfl) (·.doStopBypassClose)
  | alignmentMark => exact .mk (fun _ => rfl) (·.doAlignmentMark)
  | alignmentMarkReceive => exact .mk (fun _ => rfl) (·.doAlignmentMarkReceive)
  | meshRefLoss => exact .mk (fun _ => rfl) (·.doMeshRefLoss)
  | senseOpenDetect => exact .mk (fun _ => rfl) (·.doSenseOpenDetect)
  | vibUnderVoltage => exact .mk (fun _ => rfl) (·.doVibUnderVoltage)
  | vibRecover => exact .mk (fun _ => rfl) (·.doVibRecover)
  | vibOutOfRange => exact .mk (fun _ => rfl) (·.doVibOutOfRange)
  | vibSinkInhibit => exact .mk (fun _ => rfl) (·.doVibSinkInhibit)
  | vibOverVoltage => exact .mk (fun _ => rfl) (·.doVibOverVoltage)
  | demandBegin => exact .mk (fun _ => rfl) (·.doDemandBegin)
  | demandEnd => exact .mk (fun _ => rfl) (·.doDemandEnd)
  | modulatorRequest => exact .mk (fun _ => rfl) (·.doModulatorRequest)
  | pulseEnd => exact .mk (fun _ => rfl) (·.doPulseEnd)
  | offTimeExpire => exact .mk (fun _ => rfl) (·.doOffTimeExpire)
  | phaseCurrentZero => exact .mk (fun _ => rfl) (·.doPhaseCurrentZero)
  | fllWindowEnd => exact .mk (fun _ => rfl) (·.doFllWindowEnd)
  | syncEdge => exact .mk (fun _ => rfl) (·.doSyncEdge)
  | syncEdgeMissing => exact .mk (fun _ => rfl) (·.doSyncEdgeMissing)
  | syncLoss => exact .mk (fun _ => rfl) (·.doSyncLoss)
  | syncReturn => exact .mk (fun _ => rfl) (·.doSyncReturn)
  | refMoveComplete => exact .mk (fun _ => rfl) (·.doRefMoveComplete)
  | ownOscWrite => exact .mk (fun _ => rfl) (·.doOwnOscWrite)
  | shedEnter => exact .mk (fun _ => rfl) (·.doShedEnter)
  | shedExit => exact .mk (fun _ => rfl) (·.doShedExit)
  | shedHoldExpire => exact .mk (fun _ => rfl) (·.doShedHoldExpire)
  | sinkEnter => exact .mk (fun _ => rfl) (·.doSinkEnter)
  | sinkExit => exact .mk (fun _ => rfl) (·.doSinkExit)
  | railEnable => exact .mk (fun _ => rfl) (·.doRailEnable)
  | railDisable => exact .mk (fun _ => rfl) (·.doRailDisable)
  | onDelayExpire => exact .mk (fun _ => rfl) (·.doOnDelayExpire)
  | rampStep => exact .mk (fun _ => rfl) (·.doRampStep)
  | setpointWrite => exact .mk (fun _ => rfl) (·.doSetpointWrite)
  | retentionSelect => exact .mk (fun _ => rfl) (·.doRetentionSelect)
  | phctlWrite => exact .mk (fun _ => rfl) (·.doPhctlWrite)
  | intentRecord => exact .mk (fun _ => rfl) (·.doIntentRecord)
  | iportIsolationEnd => exact .mk (fun _ => rfl) (·.doIportIsolationEnd)
  | intentLift => exact .mk (fun _ => rfl) (·.doIntentLift)
  | intentStepObserved => exact .mk (fun _ => rfl) (·.doIntentStepObserved)
  | intentExpire => exact .mk (fun _ => rfl) (·.doIntentExpire)
  | preliftDecayStep => exact .mk (fun _ => rfl) (·.doPreliftDecayStep)
  | gorseTrigger => exact .mk (fun _ => rfl) (·.doGorseTrigger)
  | gorseBurstEnd => exact .mk (fun _ => rfl) (·.doGorseBurstEnd)
  | gorseBurstEarlyEnd => exact .mk (fun _ => rfl) (·.doGorseBurstEarlyEnd)
  | gorseRearm => exact .mk (fun _ => rfl) (·.doGorseRearm)
  | nbrCountChange => exact .mk (fun _ => rfl) (·.doNbrCountChange)
  | tieRequestReceive => exact .mk (fun _ => rfl) (·.doTieRequestReceive)
  | tieSideClosed => exact .mk (fun _ => rfl) (·.doTieSideClosed)
  | tieAckReceive => exact .mk (fun _ => rfl) (·.doTieAckReceive)
  | tieRequestRelease => exact .mk (fun _ => rfl) (·.doTieRequestRelease)
  | tieHoldExpire => exact .mk (fun _ => rfl) (·.doTieHoldExpire)
  | tieGuardOpen => exact .mk (fun _ => rfl) (·.doTieGuardOpen)
  | tieGuardReclose => exact .mk (fun _ => rfl) (·.doTieGuardReclose)
  | tieAckTimeout => exact .mk (fun _ => rfl) (·.doTieAckTimeout)
  | stretchAssert => exact .mk (fun _ => rfl) (·.doStretchAssert)
  | stretchRelease => exact .mk (fun _ => rfl) (·.doStretchRelease)
  | patchOverloadClassify => exact .mk (fun _ => rfl) (·.doPatchOverloadClassify)
  | currentLimitHit => exact .mk (fun _ => rfl) (·.doCurrentLimitHit)
  | phaseFaultDetect => exact .mk (fun _ => rfl) (·.doPhaseFaultDetect)
  | suspensionEnd => exact .mk (fun _ => rfl) (·.doSuspensionEnd)
  | railOvTrip => exact .mk (fun _ => rfl) (·.doRailOvTrip)
  | tripRetryExpire => exact .mk (fun _ => rfl) (·.doTripRetryExpire)
  | railUnderVoltage => exact .mk (fun _ => rfl) (·.doRailUnderVoltage)
  | tempSample => exact .mk (fun _ => rfl) (·.doTempSample)
  | tempSensorFail => exact .mk (fun _ => rfl) (·.doTempSensorFail)
  | columnEstimate => exact .mk (fun _ => rfl) (·.doColumnEstimate)
  | columnEstimateDone => exact .mk (fun _ => rfl) (·.doColumnEstimateDone)
  | baselineCapture => exact .mk (fun _ => rfl) (·.doBaselineCapture)
  | retireWrite => exact .mk (fun _ => rfl) (·.doRetireWrite)
  | unretireWrite => exact .mk (fun _ => rfl) (·.doUnretireWrite)
  | phaseTestStart => exact .mk (fun _ => rfl) (·.doPhaseTestStart)
  | phaseTestDone => exact .mk (fun _ => rfl) (·.doPhaseTestDone)
  | adoptionEnd => exact .mk (fun _ => rfl) (·.doAdoptionEnd)
  | adoptionOverCap => exact .mk (fun _ => rfl) (·.doAdoptionOverCap)
  | frameBoundary => exact .mk (fun _ => rfl) (·.doFrameBoundary)
  | downlinkFrameReceive => exact .mk (fun _ => rfl) (·.doDownlinkFrameReceive)
  | downlinkApply => exact .mk (fun _ => rfl) (·.doDownlinkApply)
  | uplinkRecordReceive => exact .mk (fun _ => rfl) (·.doUplinkRecordReceive)
  | accessChannelEnqueue => exact .mk (fun _ => rfl) (·.doAccessChannelEnqueue)
  | commitPoint => exact .mk (fun _ => rfl) (·.doCommitPoint)
  | settleTimeout => exact .mk (fun _ => rfl) (·.doSettleTimeout)
  | raiseBlockExpire => exact .mk (fun _ => rfl) (·.doRaiseBlockExpire)
  | walkStepPass => exact .mk (fun _ => rfl) (·.doWalkStepPass)
  | walkSettleFail => exact .mk (fun _ => rfl) (·.doWalkSettleFail)
  | fullRungTimeout => exact .mk (fun _ => rfl) (·.doFullRungTimeout)
  | slotExecute => exact .mk (fun _ => rfl) (·.doSlotExecute)
  | predictorExecute => exact .mk (fun _ => rfl) (·.doPredictorExecute)
  | swardConfigWrite => exact .mk (fun _ => rfl) (·.doSwardConfigWrite)
  | slotStateWrite => exact .mk (fun _ => rfl) (·.doSlotStateWrite)
  | slotIntClear => exact .mk (fun _ => rfl) (·.doSlotIntClear)
  | predictorClear => exact .mk (fun _ => rfl) (·.doPredictorClear)
  | loadPeakClear => exact .mk (fun _ => rfl) (·.doLoadPeakClear)
  | katStart => exact .mk (fun _ => rfl) (·.doKatStart)
  | katDone => exact .mk (fun _ => rfl) (·.doKatDone)
  | ladderShadowWrite => exact .mk (fun _ => rfl) (·.doLadderShadowWrite)
  | ladderCheckDone => exact .mk (fun _ => rfl) (·.doLadderCheckDone)
  | ladderCopyDone => exact .mk (fun _ => rfl) (·.doLadderCopyDone)
  | swap => exact .mk (fun _ => rfl) (·.doSwap)
  | resync => exact .mk (fun _ => rfl) (·.doResync)
  | fwOpen => exact .mk (fun _ => rfl) (·.doFwOpen)
  | full => exact .mk (fun _ => rfl) (·.doFull)
  | walkReq => exact .mk (fun _ => rfl) (·.doWalkReq)
  | kaFail => exact .mk (fun _ => rfl) (·.doKaFail)
  | canaryStretchWindowEnd => exact .mk (fun _ => rfl) (·.doCanaryStretchWindowEnd)
  | paceModeWrite => exact .mk (fun _ => rfl) (·.doPaceModeWrite)
  | paceModeApply => exact .mk (fun _ => rfl) (·.doPaceModeApply)
  | capRequestWrite => exact .mk (fun _ => rfl) (·.doCapRequestWrite)
  | derateTableWrite => exact .mk (fun _ => rfl) (·.doDerateTableWrite)
  | inletReadingTimeout => exact .mk (fun _ => rfl) (·.doInletReadingTimeout)
  | leasePeriod => exact .mk (fun _ => rfl) (·.doLeasePeriod)
  | leaseReceive => exact .mk (fun _ => rfl) (·.doLeaseReceive)
  | leaseExpire => exact .mk (fun _ => rfl) (·.doLeaseExpire)
  | reductionResultReceive => exact .mk (fun _ => rfl) (·.doReductionResultReceive)
  | epochDeadline => exact .mk (fun _ => rfl) (·.doEpochDeadline)
  | brakeReceive => exact .mk (fun _ => rfl) (·.doBrakeReceive)
  | releaseReceive => exact .mk (fun _ => rfl) (·.doReleaseReceive)
  | brakeHeldReport => exact .mk (fun _ => rfl) (·.doBrakeHeldReport)
  | contextRestart => exact .mk (fun _ => rfl) (·.doContextRestart)
  | swathEntryTimeout => exact .mk (fun _ => rfl) (·.doSwathEntryTimeout)
  | swathDataAccess => exact .mk (fun _ => rfl) (·.doSwathDataAccess)
  | lnkStatTake => exact .mk (fun _ => rfl) (·.doLnkStatTake)
  | trainWindowEnd => exact .mk (fun _ => rfl) (·.doTrainWindowEnd)
  | commonsEnable => exact .mk (fun _ => rfl) (·.doCommonsEnable)
  | commonsReportSend => exact .mk (fun _ => rfl) (·.doCommonsReportSend)
  | barrierWaitWrite => exact .mk (fun _ => rfl) (·.doBarrierWaitWrite)
  | commonsFrameReceive => exact .mk (fun _ => rfl) (·.doCommonsFrameReceive)
  | memberLivenessExpire => exact .mk (fun _ => rfl) (·.doMemberLivenessExpire)
  | grantStep => exact .mk (fun _ => rfl) (·.doGrantStep)
  | grantReceive => exact .mk (fun _ => rfl) (·.doGrantReceive)
  | grantExpire => exact .mk (fun _ => rfl) (·.doGrantExpire)
  | domctlWrite => exact .mk (fun _ => rfl) (·.doDomctlWrite)
  | coreHoldClear => exact .mk (fun _ => rfl) (·.doCoreHoldClear)
  | switchOnRequest => exact .mk (fun _ => rfl) (·.doSwitchOnRequest)
  | switchOnGrant => exact .mk (fun _ => rfl) (·.doSwitchOnGrant)
  | seqTableWrite => exact .mk (fun _ => rfl) (·.doSeqTableWrite)
  | waferRst => exact .mk (fun _ => rfl) (·.doWaferRst)
  | heathRst => exact .mk (fun _ => rfl) (·.doHeathRst)
  | swdRst => exact .mk (fun _ => rfl) (·.doSwdRst)
  | waferResetMessage => exact .mk (fun _ => rfl) (·.doWaferResetMessage)
  | swardHeartbeatTimeout => exact .mk (fun _ => rfl) (·.doSwardHeartbeatTimeout)
  | urst => exact .mk (fun _ => rfl) (·.doUrst)
  | unitClearEnd => exact .mk (fun _ => rfl) (·.doUnitClearEnd)
  | releaseWrite => exact .mk (fun _ => rfl) (·.doReleaseWrite)
  | swardWatchdog => exact .mk (fun _ => rfl) (·.doSwardWatchdog)
  | swardResetEnd => exact .mk (fun _ => rfl) (·.doSwardResetEnd)
  | hedgerowRetry => exact .mk (fun _ => rfl) (·.doHedgerowRetry)
  | hedgerowAbandon => exact .mk (fun _ => rfl) (·.doHedgerowAbandon)
  | returnEpochCheck => exact .mk (fun _ => rfl) (·.doReturnEpochCheck)
  | heartbeatSend => exact .mk (fun _ => rfl) (·.doHeartbeatSend)
  | heathTakeover => exact .mk (fun _ => rfl) (·.doHeathTakeover)
  | heartbeatReceive => exact .mk (fun _ => rfl) (·.doHeartbeatReceive)
  | mirrorRecordReceive => exact .mk (fun _ => rfl) (·.doMirrorRecordReceive)
  | standbyLost => exact .mk (fun _ => rfl) (·.doStandbyLost)
  | mirrorCopyDone => exact .mk (fun _ => rfl) (·.doMirrorCopyDone)
  | mainsSyncEdge => exact .mk (fun _ => rfl) (·.doMainsSyncEdge)
  | mainsSyncLost => exact .mk (fun _ => rfl) (·.doMainsSyncLost)
  | freeRunStartEvent => exact .mk (fun _ => rfl) (·.doFreeRunStartEvent)
  | conversionResult => exact .mk (fun _ => rfl) (·.doConversionResult)
  | meterRoundTimeout => exact .mk (fun _ => rfl) (·.doMeterRoundTimeout)
  | meterRunWrite => exact .mk (fun _ => rfl) (·.doMeterRunWrite)
  | meterRestart => exact .mk (fun _ => rfl) (·.doMeterRestart)
  | meterUrgentRequest => exact .mk (fun _ => rfl) (·.doMeterUrgentRequest)
  | meterDataRead => exact .mk (fun _ => rfl) (·.doMeterDataRead)
  | zero => exact .mk (fun _ => rfl) (·.doZero)
  | fs => exact .mk (fun _ => rfl) (·.doFs)
  | meterCalComplete => exact .mk (fun _ => rfl) (·.doMeterCalComplete)
  | telemetryWindowLatch => exact .mk (fun _ => rfl) (·.doTelemetryWindowLatch)
  | telemetryWindowWrite => exact .mk (fun _ => rfl) (·.doTelemetryWindowWrite)
  | markStale => exact .mk (fun _ => rfl) (·.doMarkStale)
  | peakRead => exact .mk (fun _ => rfl) (·.doPeakRead)
  | aggregateWindowLatch => exact .mk (fun _ => rfl) (·.doAggregateWindowLatch)
  | snap => exact .mk (fun _ => rfl) (·.doSnap)
  | clr => exact .mk (fun _ => rfl) (·.doClr)
  | counterOverflow => exact .mk (fun _ => rfl) (·.doCounterOverflow)
  | overflowSnapshot => exact .mk (fun _ => rfl) (·.doOverflowSnapshot)
  | apertureRead => exact .mk (fun _ => rfl) (·.doApertureRead)
  | faultReportReceive => exact .mk (fun _ => rfl) (·.doFaultReportReceive)
  | partitionTripReceive => exact .mk (fun _ => rfl) (·.doPartitionTripReceive)
  | flTripEdge => exact .mk (fun _ => rfl) (·.doFlTripEdge)
  | wtripReceive => exact .mk (fun _ => rfl) (·.doWtripReceive)
  | faultReportAck => exact .mk (fun _ => rfl) (·.doFaultReportAck)
  | faultReportResend => exact .mk (fun _ => rfl) (·.doFaultReportResend)
  | ack => exact .mk (fun _ => rfl) (·.doAck)
  | all => exact .mk (fun _ => rfl) (·.doAll)
  | graceTimerExpire => exact .mk (fun _ => rfl) (·.doGraceTimerExpire)
  | fecClear => exact .mk (fun _ => rfl) (·.doFecClear)
  | faultRecordWrite => exact .mk (fun _ => rfl) (·.doFaultRecordWrite)
  | ringRpWrite => exact .mk (fun _ => rfl) (·.doRingRpWrite)
  | lastFaultClear => exact .mk (fun _ => rfl) (·.doLastFaultClear)
  | faultInject => exact .mk (fun _ => rfl) (·.doFaultInject)
  | page => exact .mk (fun _ => rfl) (·.doPage)
  | clearFaults => exact .mk (fun _ => rfl) (·.doClearFaults)
  | capability => exact .mk (fun _ => rfl) (·.doCapability)
  | statusByte => exact .mk (fun _ => rfl) (·.doStatusByte)
  | statusWord => exact .mk (fun _ => rfl) (·.doStatusWord)
  | statusInput => exact .mk (fun _ => rfl) (·.doStatusInput)
  | statusTemperature => exact .mk (fun _ => rfl) (·.doStatusTemperature)
  | statusCml => exact .mk (fun _ => rfl) (·.doStatusCml)
  | statusMfrSpecific => exact .mk (fun _ => rfl) (·.doStatusMfrSpecific)
  | readVin => exact .mk (fun _ => rfl) (·.doReadVin)
  | readIin => exact .mk (fun _ => rfl) (·.doReadIin)
  | readPin => exact .mk (fun _ => rfl) (·.doReadPin)
  | readTemperature1 => exact .mk (fun _ => rfl) (·.doReadTemperature1)
  | readTemperature2 => exact .mk (fun _ => rfl) (·.doReadTemperature2)
  | readTemperature3 => exact .mk (fun _ => rfl) (·.doReadTemperature3)
  | pmbusRevision => exact .mk (fun _ => rfl) (·.doPmbusRevision)
  | mfrId => exact .mk (fun _ => rfl) (·.doMfrId)
  | mfrModel => exact .mk (fun _ => rfl) (·.doMfrModel)
  | mfrRevision => exact .mk (fun _ => rfl) (·.doMfrRevision)
  | mfrWaferCap => exact .mk (fun _ => rfl) (·.doMfrWaferCap)
  | mfrCapEff => exact .mk (fun _ => rfl) (·.doMfrCapEff)
  | mfrRegWrite => exact .mk (fun _ => rfl) (·.doMfrRegWrite)
  | mfrRegRead => exact .mk (fun _ => rfl) (·.doMfrRegRead)
  | smbusInvalidCommand => exact .mk (fun _ => rfl) (·.doSmbusInvalidCommand)
  | alertResponse => exact .mk (fun _ => rfl) (·.doAlertResponse)
  | smbusAbandon => exact .mk (fun _ => rfl) (·.doSmbusAbandon)
  | smbusStretchTimeout => exact .mk (fun _ => rfl) (·.doSmbusStretchTimeout)
  | spiReleaseWrite => exact .mk (fun _ => rfl) (·.doSpiReleaseWrite)
  | store => exact .mk (fun _ => rfl) (·.doStore)
  | nvmPageWriteDone => exact .mk (fun _ => rfl) (·.doNvmPageWriteDone)
  | nvmStandbyLag => exact .mk (fun _ => rfl) (·.doNvmStandbyLag)
  | heathDieOverTemp => exact .mk (fun _ => rfl) (·.doHeathDieOverTemp)
  | heathHalt => exact .mk (fun _ => rfl) (·.doHeathHalt)
  | meshRefReturn => exact .mk (fun _ => rfl) (·.doMeshRefReturn)
  | selfTestReportTimeout => exact .mk (fun _ => rfl) (·.doSelfTestReportTimeout)
  | flTripRelease => exact .mk (fun _ => rfl) (·.doFlTripRelease)
  | meshPacketSent => exact .mk (fun _ => rfl) (·.doMeshPacketSent)
  | lnkStatChange => exact .mk (fun _ => rfl) (·.doLnkStatChange)

/-- The release of the Heaths keeps the variant and the canonical form, whether or not WTIME
starts again (R50). -/
theorem doHeathResetRelease_keepsForm (straps : Fin 4) (test : Bool) (m : Wafer) :
    (doHeathResetRelease straps test m).fuse = m.fuse ∧
      (m.Canonical → (doHeathResetRelease straps test m).Canonical) := by
  unfold doHeathResetRelease
  split
  · have form (m₁ : Wafer) (hf : m₁.fuse = m.fuse) (hc : m.Canonical → m₁.Canonical) {n : Wafer}
        (h : Steady m₁ n) : n.fuse = m.fuse ∧ (m.Canonical → n.Canonical) := ⟨h.fuse.trans hf, h.canonical ∘ hc⟩
    refine form (if m.heath.vstbyLost then { m with wtime := 0 } else m) ?_ ?_
      (Steady.refl _).modHeath.set.setB.setB.setStep
    · split <;> rfl
    · split <;> exact id
  · exact ⟨rfl, id⟩

/-- Every command is an effect on the controller, which keeps the variant and the canonical
form. -/
theorem exec_keepsForm (c : Instr) : ∃ f : Wafer → Wafer, (∀ s, exec c s = s.run f) ∧
    ∀ m, (f m).fuse = m.fuse ∧ (m.Canonical → (f m).Canonical) := by
  by_cases hc : ∃ straps test, c = .heathResetRelease straps test
  · obtain ⟨straps, test, rfl⟩ := hc
    exact ⟨_, fun _ => rfl, doHeathResetRelease_keepsForm straps test⟩
  · obtain ⟨f, e, h⟩ := exec_runsSteadily c fun straps test k => hc ⟨straps, test, k⟩
    exact ⟨f, e, fun m => ⟨(h m).fuse, (h m).canonical⟩⟩

/-- A step of the machine keeps the variant and the canonical form. -/
theorem step_keepsForm {s t : State} (h : step s = .next t) :
    t.w.fuse = s.w.fuse ∧ (s.w.Canonical → t.w.Canonical) := by
  unfold step at h
  split at h
  · cases h
    exact ⟨rfl, id⟩
  · rename_i c rest _
    obtain ⟨f, e, hf⟩ := exec_keepsForm c
    rw [e, State.run_next] at h
    cases h
    have k := (Steady.refl (f s.w)).mirrorStep (n := s.w)
    exact ⟨k.fuse.trans (hf s.w).1, k.canonical ∘ (hf s.w).2⟩

/-- Settles O3: each command runs as an effect on the controller, beside the queue. -/
theorem everyCommandCompletes : Obligations.EveryCommandCompletes := by
  intro c m q
  obtain ⟨f, e, -⟩ := exec_keepsForm c
  exact ⟨_, e ⟨m, q⟩⟩

/-- Settles O4: every effect in turn keeps the canonical form. -/
theorem canonicalFormKept : Obligations.CanonicalFormKept := fun _ _ h hs => (step_keepsForm hs).2 h

/-- Settles O5: no effect writes the fuse code. -/
theorem variantNeverChanges : Obligations.VariantNeverChanges := fun _ _ hs => (step_keepsForm hs).1
end Sys2Proof.Machine
end

section
/-! SUPPORT.  How a clause about a command is met: from the command's effect, where it stays and
what it leaves; and what a register of a Sward's slots is. -/

namespace Sys2Proof.Machine

/-- A clause holds of a command that runs an effect which stays within the area and leaves what
the clause says. -/
theorem Gives.of_effect {c : Instr} {m : Wafer} {A : Area} {P : Wafer → Prop} (f : Wafer → Wafer)
    (e : ∀ s, exec c s = s.run f) (w : Within A m (f m)) (h : P (f m)) : Gives c m A P :=
  fun q => ⟨f m, e ⟨m, q⟩, w, h⟩

/-- A command without an effect here. -/
theorem Gives.of_idle {c : Instr} {m : Wafer} {A : Area} {P : Wafer → Prop} (f : Wafer → Wafer)
    (e : ∀ s, exec c s = s.run f) (i : f m = m) (h : P m) : Gives c m A P :=
  .of_effect f e (i.symm ▸ .refl A m) (i.symm ▸ h)

/-- Settles O7. -/
theorem resetState : Obligations.ResetState := by
  refine ⟨rfl, rfl, rfl, rfl, ⟨?_, ?_, ?_⟩, ?_⟩
  · exact ⟨.nil, by simp [Wafer.reset]⟩
  · exact ⟨.nil, by simp [Wafer.reset]⟩
  · exact ⟨.nil, by simp [Wafer.reset]⟩
  · decide +kernel

end Sys2Proof.Machine
end

section
/-! The engine's configuration: what a write of an engine register leaves pending, and where a
write of a slot's state word goes. -/

namespace Sys2Proof.Machine

variable {m : Wafer} {p : Nat}

/-! ### Pending writes -/

/-- A write of a register that exists waits in its one pending copy. -/
theorem pendConfig_eq {off : Nat} (h : (lookupReg m.fuse (place (swd p + off))).isSome = true) (data : Word) :
    pendConfig p off data m = (m.modSward p fun x => { x with pendWrites := (x.pendWrites.filter fun e => e.1 != off) ++
      [(off, data ||| (((m.sward p).pendingCopy off).getD 0 &&& actionBit off))] }).setB (swd p) SWD_SCHED.HOLD_PEND
        (m.on (swd p) SWD_SCHED.HOLD) := by
  have hn : (lookupReg m.fuse (place (swd p + off))).isNone = false := by
    simpa [Option.isNone_iff_eq_none, Option.isSome_iff_ne_none] using h
  rw [pendConfig, hn, if_neg (by simp)]
  rfl

/-- A flag reads back what was written to it. -/
theorem Wafer.on_setB (m : Wafer) (b : Nat) (f : Fld) (v : Bool) (hl : f.lo + f.wid ≤ 32) (hw : 0 < f.wid) :
    (m.setB b f v).on b f = v := by
  obtain ⟨n, hn⟩ : ∃ n, f.wid = n + 1 := ⟨f.wid - 1, by omega⟩
  have : bit v < 2 ^ f.wid := by
    have := Nat.one_le_two_pow (n := n)
    rw [hn, pow_succ]; cases v <;> simp [bit]; omega
  rw [Wafer.on, Wafer.setB, m.get_set b f _ hl, Nat.mod_eq_of_lt this]
  cases v <;> rfl

/-- A whole word reads as the number it holds. -/
theorem getBits_word (w : Word) : getBits w 0 32 = w.toNat := by
  rw [getBits, pow_zero, Nat.div_one, Nat.mod_eq_of_lt w.isLt]

/-- What waits for a boundary, and the hold that keeps it waiting, is all that a pending write
changes. -/
theorem pendConfig_within (A : Area) {off : Nat} (data : Word)
    (hf : (swd p, SWD_SCHED.HOLD_PEND) ∈ A.fields) (hs : A.swards p = true) : Within A m (pendConfig p off data m) := by
  unfold pendConfig
  split
  · exact .refl A m
  · exact ((Within.refl A m).modSward p _ hs).set _ _ _ (.inl hf)

theorem pendConfig_pendWrites {off : Nat} (h : (lookupReg m.fuse (place (swd p + off))).isSome = true) (data : Word) :
    ((pendConfig p off data m).sward p).pendWrites = ((m.sward p).pendWrites.filter fun e => e.1 != off) ++
      [(off, data ||| (((m.sward p).pendingCopy off).getD 0 &&& actionBit off))] := by
  rw [pendConfig_eq h, Wafer.setB, Wafer.sward_set, Wafer.sward_modSward]

theorem pendConfig_holdPend {off : Nat} (h : (lookupReg m.fuse (place (swd p + off))).isSome = true) (data : Word) :
    (pendConfig p off data m).on (swd p) SWD_SCHED.HOLD_PEND = m.on (swd p) SWD_SCHED.HOLD := by
  rw [pendConfig_eq h, Wafer.on_setB _ _ _ _ (by decide) (by decide)]

/-- An action that is asked for again adds nothing to what was asked for. -/
theorem or_actionBit (x w : Word) (off : Nat) : x ||| 0x40000000 ||| (w &&& actionBit off) = x ||| 0x40000000 := by
  rw [actionBit]
  split
  · ext i; simp; grind
  · simp

/-- A write that asks for an action waits as it was written. -/
theorem pendConfig_action_pendWrites {off : Nat} (h : (lookupReg m.fuse (place (swd p + off))).isSome = true) (x : Word) :
    ((pendConfig p off (x ||| 0x40000000) m).sward p).pendWrites =
      ((m.sward p).pendWrites.filter fun e => e.1 != off) ++ [(off, x ||| 0x40000000)] := by
  rw [pendConfig_pendWrites h, or_actionBit]

/-! ### Writes of registers -/

/-- A write takes the writable bits of a register that has no W1C bits (Table 0.6). -/
theorem plainWrite_masked {a i j : Nat} {d : RegDesc} {c : RegCtx} (h : lookupReg m.fuse (place a) = some (d, c, i, j))
    (hi : i < d.roFrom) (hc : d.w1c = 0) (data : Word) :
    plainWrite a data m = m.putWord a ((m.word a &&& ~~~BitVec.ofNat 32 (d.rw ||| d.rws ||| d.rwp)) |||
      (data &&& BitVec.ofNat 32 (d.rw ||| d.rws ||| d.rwp))) := by
  rw [plainWrite, h]
  simp only [if_pos hi, hc]
  rw [BitVec.and_zero, BitVec.not_zero, BitVec.and_allOnes]

theorem lookupReg_sward {o i j : Nat} {d : RegDesc} (fuse : Nat) (hp : p < 64) (ho : o < 0x40000)
    (hd : findReg swardRegs o = some (d, i, j)) : lookupReg fuse (place (swd p + o)) = some (d, ⟨fuse, p, false⟩, i, j) := by
  rw [place_sward hp ho, lookupReg, hd]
  rfl

/-- A register all of whose bits are writable takes the word. -/
theorem plainWrite_sward_whole {o i j : Nat} {d : RegDesc} (hp : p < 64) (ho : o < 0x40000)
    (hd : findReg swardRegs o = some (d, i, j)) (hi : i < d.roFrom) (hm : d.rw ||| d.rws ||| d.rwp = 0xFFFFFFFF)
    (hc : d.w1c = 0) (data : Word) : plainWrite (swd p + o) data m = m.putWord (swd p + o) data := by
  have hall : BitVec.ofNat 32 0xFFFFFFFF = BitVec.allOnes 32 := rfl
  rw [plainWrite_masked (lookupReg_sward _ hp ho hd) hi hc, hm, hall, BitVec.not_allOnes, BitVec.and_zero, BitVec.zero_or,
    BitVec.and_allOnes]

theorem writable_sward {o i j : Nat} {d : RegDesc} (fuse : Nat) (hp : p < 64) (ho : o < 0x40000)
    (hd : findReg swardRegs o = some (d, i, j)) (hi : i < d.roFrom) (hm : d.rw ||| d.rws ||| d.rwp ≠ 0) :
    writable fuse (swd p + o) = true := by
  rw [writable, lookupReg_sward _ hp ho hd]
  simp [hi, hm]

theorem wordWrite_sward {off : Nat} (i : Issuer) (hp : p < 64) (ho : off < 0x40000) (data : Word) (m : Wafer) :
    wordWrite i (swd p + off) data m = swardWrite p off data m := by
  rw [wordWrite, place_sward hp ho]

/-! ### The state words of a slot -/

/-- Offset of word `w` of slot `k` in its Sward (Table 6.6). -/
abbrev slotOff (k w : Nat) : Nat := 0x4000 + 0x40 * k + 4 * w

/-- The state words of the slots that firmware can write. -/
abbrev slotReg (w : Nat) : RegDesc := arrayReg (0x4000 + 4 * w) 0x40 256 0xFFFFFFFF 0 0 0 0

/-- Firmware writes every bit of a state word. -/
theorem slotReg_mask (w : Nat) : (slotReg w).rw ||| (slotReg w).rws ||| (slotReg w).rwp = 0xFFFFFFFF := by
  simp [arrayReg]

/-- Registers before a state word lie below the slots or hold an earlier word of each slot. -/
theorem RegDesc.find_slotOff {d : RegDesc} {k w : Nat} (hw : w < 16)
    (h : d.last < 0x4000 ∨ d.stride0 = 0x40 ∧ d.count0 = 256 ∧ d.count1 = 1 ∧ 0x4000 ≤ d.base ∧ d.base < 0x4000 + 4 * w) :
    d.find (slotOff k w) = none := by
  rcases h with h | ⟨hs, h0, h1, hb, hv⟩
  · exact find_high (by simp only [slotOff]; omega)
  · simp only [RegDesc.find, hs, h0, h1]
    rw [if_neg]
    rintro ⟨-, -, hj, hr⟩
    rw [Nat.lt_one_iff.1 hj, Nat.zero_mul] at hr
    simp only [slotOff] at hr
    omega

theorem findReg_slotState {k w : Nat} (hk : k < 256) (hw : 10 ≤ w ∧ w < 15) :
    findReg swardRegs (slotOff k w) = some (slotReg w, k, 0) := by
  have hpre : ∀ w < 15, 10 ≤ w → ∀ d ∈ swardRegs.take (swardRegs1.length + 6 + w),
      d.last < 0x4000 ∨ d.stride0 = 0x40 ∧ d.count0 = 256 ∧ d.count1 = 1 ∧ 0x4000 ≤ d.base ∧ d.base < 0x4000 + 4 * w := by
    decide
  have hdrop : swardRegs.drop (swardRegs1.length + 6 + w) =
      slotReg w :: swardRegs.drop (swardRegs1.length + 6 + w + 1) := by
    obtain ⟨hl, hh⟩ := hw
    interval_cases w <;> rfl
  rw [← List.take_append_drop (swardRegs1.length + 6 + w) swardRegs,
    findReg_append fun d hd => d.find_slotOff (by omega) (hpre w hw.2 hw.1 d hd), hdrop, findReg]
  have hfind : (slotReg w).find (slotOff k w) = some (k, 0) := by
    simp only [RegDesc.find, arrayReg, slotOff]
    have h1 : (0x4000 + 0x40 * k + 4 * w - (0x4000 + 4 * w)) / 64 = k := by omega
    simp only [OfNat.ofNat_ne_one, reduceIte, h1]
    rw [if_pos (by omega)]
    simp; omega
  rw [hfind]

theorem slotReg_roFrom {k : Nat} (hk : k < 256) (w : Nat) : k < (slotReg w).roFrom := Nat.lt_trans hk (by simp [arrayReg])

/-- A state word takes every bit of what is written to it. -/
theorem plainWrite_slotState {k w : Nat} (hp : p < 64) (hk : k < 256) (hw : 10 ≤ w ∧ w < 15) (data : Word) :
    plainWrite (swd p + slotOff k w) data m = m.putWord (swd p + slotOff k w) data :=
  plainWrite_sward_whole hp (by simp only [slotOff]; omega) (findReg_slotState hk hw) (slotReg_roFrom hk w) (slotReg_mask w)
    rfl data

theorem writable_slotState (fuse : Nat) {k w : Nat} (hp : p < 64) (hk : k < 256) (hw : 10 ≤ w ∧ w < 15) :
    writable fuse (swd p + slotOff k w) = true :=
  writable_sward fuse hp (by simp only [slotOff]; omega) (findReg_slotState hk hw) (slotReg_roFrom hk w)
    (by rw [slotReg_mask]; decide)

/-- The low word of a slot's integrator is its word 10. -/
theorem isPairLow_slotOff {k w : Nat} (hp : p < 64) (hk : k < 256) (hw : w < 16) :
    isPairLow (swd p + slotOff k w) = (w == 10) := by
  rw [isPairLow, place_sward hp (by simp only [slotOff]; omega)]
  rw [Bool.eq_iff_iff]
  simp [slotOff]
  omega

/-- The high word of a slot's integrator is its word 11. -/
theorem isPairHigh_slotOff {k w : Nat} (hp : p < 64) (hk : k < 256) (hw : w < 16) (h0 : 0 < w) :
    isPairHigh (swd p + slotOff k w) = (w == 11) := by
  have h4 : 4 ≤ swd p + slotOff k w := by simp only [slotOff]; omega
  have hb : swd p + slotOff k w - 4 = swd p + slotOff k (w - 1) := by simp only [slotOff]; omega
  rw [isPairHigh, hb, isPairLow_slotOff hp hk (by omega), Bool.eq_iff_iff]
  simp [h4]

/-- A write of a state word reaches the slot it belongs to. -/
theorem wordWrite_slotState {k w : Nat} (i : Issuer) (hp : p < 64) (hk : k < 256) (hw : 10 ≤ w ∧ w < 16) (data : Word)
    (m : Wafer) : wordWrite i (swd p + slotOff k w) data m = slotStateWrite p k w data m := by
  have hnum : (slotOff k w - 0x4000) / 0x40 = k := by simp only [slotOff]; omega
  have hword : slotOff k w % 0x40 / 4 = w := by simp only [slotOff]; omega
  have hpend : isPendingConfig (slotOff k w) = false := by simp [isPendingConfig, slotOff]; omega
  rw [wordWrite_sward i hp (by simp only [slotOff]; omega), swardWrite]
  repeat rw [if_neg (by simp only [slotOff]; omega)]
  rw [hpend, if_neg (by simp), if_pos (by simp only [slotOff]; omega), hnum, hword]

/-! ### Halves of a 64-bit value (R13) -/

/-- The low half of a value waits for the high half. -/
theorem latchedWrite_low {i : Issuer} {a : Nat} (data : Word) (hi : i ≠ .own) (hl : isPairLow a = true)
    (hw : writable m.fuse a = true) :
    latchedWrite i a data m =
      (0, m.modHeath fun h => { h with lowHeld := Store.set noLatch h.lowHeld (heldKey i) (some (a, data)) }) := by
  simp [latchedWrite, hi, hl, hw]

/-- The high half applies with the low half that its interface holds. -/
theorem latchedWrite_high {i : Issuer} {a l : Nat} {w : Word} (data : Word) (hi : i ≠ .own) (hl : isPairLow a = false)
    (hh : isPairHigh a = true) (hw : writable m.fuse a = true)
    (held : Store.get noLatch m.heath.lowHeld (heldKey i) = some (l, w)) (ha : l + 4 = a) :
    latchedWrite i a data m = (2, wordWrite i a data (wordWrite i l w
      (m.modHeath fun h => { h with lowHeld := Store.set noLatch h.lowHeld (heldKey i) none }))) := by
  simp [latchedWrite, hi, hl, hh, hw, held, ha]

/-- A register of its own is written as the word comes. -/
theorem latchedWrite_word {a : Nat} (i : Issuer) (data : Word) (hl : isPairLow a = false) (hh : isPairHigh a = false) :
    latchedWrite i a data m = (1, wordWrite i a data m) := by
  simp [latchedWrite, hl, hh]

/-! ### Rows -/

/-- A write of a state word goes through the service window, where the Sward takes accesses. -/
theorem doSlotStateWrite_eq {p : Fin 64} (h : swardAnswers p m = true) (k : Fin 256) (word : Fin 6) (data : Word) :
    doSlotStateWrite p k word data m =
      (latchedWrite (.window false) (swd p + slotOff k (10 + word.val)) data m).2 := by
  have ha : swd p + 0x4000 + 0x40 * k.val + 4 * (10 + word.val) = swd p + slotOff k (10 + word.val) := by
    simp only [slotOff]; omega
  rw [doSlotStateWrite, if_pos h, ha]

/-- A state word that is no half of the integrator is written as it comes. -/
theorem doSlotStateWrite_word {p : Fin 64} (h : swardAnswers p m = true) (k : Fin 256) {word : Fin 6}
    (hw : 1 < word.val) (data : Word) :
    doSlotStateWrite p k word data m = slotStateWrite p k (10 + word.val) data m := by
  have hl : isPairLow (swd p + slotOff k (10 + word.val)) = false := by
    rw [isPairLow_slotOff p.isLt k.isLt (by omega), beq_eq_false_iff_ne]; omega
  have hh : isPairHigh (swd p + slotOff k (10 + word.val)) = false := by
    rw [isPairHigh_slotOff p.isLt k.isLt (by omega) (by omega), beq_eq_false_iff_ne]; omega
  rw [doSlotStateWrite_eq h, latchedWrite_word _ _ hl hh, wordWrite_slotState _ p.isLt k.isLt (by omega)]

theorem slotStateWrite_busy {k w : Nat} {data : Word} (h : slotBusy p k m = true) :
    slotStateWrite p k w data m = m.set (swd p) SWD_ESTAT.STATE_WERR 1 := by
  rw [slotStateWrite, if_pos h]

theorem slotStateWrite_idle {k w : Nat} (hp : p < 64) (hk : k < 256) (hw : 10 ≤ w ∧ w < 15) (h : slotBusy p k m = false)
    (data : Word) : slotStateWrite p k w data m = m.putWord (swd p + slotOff k w) data := by
  have ha : swd p + 0x4000 + 0x40 * k + 4 * w = swd p + slotOff k w := by simp only [slotOff]; omega
  rw [slotStateWrite, h, if_neg (by simp), ha, plainWrite_slotState hp hk hw]

/-- A register that is not written reads as before. -/
theorem Wafer.get_putWord_ne {a b : Nat} {f : Fld} (m : Wafer) (v : Word) (h : b + f.off ≠ a) :
    (m.putWord a v).get b f = m.get b f := by
  rw [Wafer.get, m.word_putWord_ne v h, Wafer.get]

theorem pendingRead_putWord {off a : Nat} (v : Word) (h : swd p + off ≠ a) :
    pendingRead p off (m.putWord a v) = pendingRead p off m := by
  rw [pendingRead, m.sward_putWord, m.putWord_fuse, m.word_putWord_ne v h, pendingRead]

/-- Whether a slot is busy does not hang on its state words. -/
theorem slotBusy_putWord {k w : Nat} (hw : 10 ≤ w ∧ w < 16) (v : Word) :
    slotBusy p k (m.putWord (swd p + slotOff k w) v) = slotBusy p k m := by
  have hne : swd p + (0x4000 + 0x40 * k) ≠ swd p + slotOff k w := by simp only [slotOff]; omega
  rw [slotBusy, Wafer.on, m.get_putWord_ne v hne, pendingRead_putWord v hne, slotBusy, Wafer.on]

theorem slotBusy_modHeath {k : Nat} (f : HeathSt → HeathSt) : slotBusy p k (m.modHeath f) = slotBusy p k m := by
  rw [slotBusy, Wafer.on, m.get_modHeath, pendingRead, m.sward_modHeath, m.word_modHeath, m.modHeath_fuse, slotBusy,
    Wafer.on, pendingRead]

/-- What a window holds of a value's low half is forgotten. -/
abbrev dropHeld (m : Wafer) : Wafer := m.modHeath fun h => { h with lowHeld := Store.set noLatch h.lowHeld 0 none }

/-- The high word of an idle slot's integrator applies both. -/
theorem doSlotStateWrite_high {p : Fin 64} (h : swardAnswers p m = true) {k : Fin 256} (hb : slotBusy p k m = false)
    {lo : Word} (held : Store.get noLatch m.heath.lowHeld 0 = some (swd p + 0x4028 + 0x40 * k.val, lo)) (data : Word) :
    doSlotStateWrite p k 1 data m =
      ((dropHeld m).putWord (swd p + slotOff k 10) lo).putWord (swd p + slotOff k 11) data := by
  have hlo : swd p + 0x4028 + 0x40 * k.val = swd p + slotOff k 10 := by simp only [slotOff]; omega
  have hl : isPairLow (swd p + slotOff k 11) = false := by rw [isPairLow_slotOff p.isLt k.isLt (by omega)]; rfl
  have hh : isPairHigh (swd p + slotOff k 11) = true := by
    rw [isPairHigh_slotOff p.isLt k.isLt (by omega) (by omega)]; rfl
  have hw := writable_slotState m.fuse p.isLt k.isLt (w := 11) (by omega)
  have held' : Store.get noLatch m.heath.lowHeld (heldKey (.window false)) = some (swd p + slotOff k 10, lo) := by
    rw [← hlo]; exact held
  have hb' : slotBusy p k (dropHeld m) = false := by rw [slotBusy_modHeath]; exact hb
  have h11 : 10 + (1 : Fin 6).val = 11 := rfl
  have hkey : heldKey (.window false) = 0 := rfl
  rw [doSlotStateWrite_eq h, h11, latchedWrite_high data (by simp) hl hh hw held' (by simp only [slotOff]; omega), hkey]
  dsimp only
  rw [wordWrite_slotState _ p.isLt k.isLt (by omega), wordWrite_slotState _ p.isLt k.isLt (by omega),
    slotStateWrite_idle p.isLt k.isLt (by omega) hb',
    slotStateWrite_idle p.isLt k.isLt (by omega) (by rw [slotBusy_putWord (by omega)]; exact hb')]

/-- A stored word reads back in a field that is the whole register. -/
theorem Wafer.get_putWord_word (m : Wafer) {a b : Nat} {f : Fld} (v : Word) (ha : a = b + f.off) (hlo : f.lo = 0)
    (hwid : f.wid = 32) : (m.putWord a v).get b f = v.toNat := by
  rw [ha, Wafer.get, m.word_putWord, hlo, hwid, getBits_word]

/-- A whole register of the area takes a word. -/
theorem Within.putField {A : Area} {m₀ : Wafer} (h : Within A m₀ m) {a b : Nat} {f : Fld} (v : Word) (ha : a = b + f.off)
    (hlo : f.lo = 0) (hwid : f.wid = 32) (hf : (b, f) ∈ A.fields) : Within A m₀ (m.putWord a v) :=
  h.putWord a v fun i hi => .inl ⟨(b, f), hf, ha, hlo ▸ Nat.zero_le i, by dsimp only; omega⟩

/-- Settles O24. -/
theorem engineConfiguration : Obligations.EngineConfiguration := by
  refine ⟨?_, ?_, ?_, ?_, ?_, ?_, ?_, ?_, ?_⟩
  · intro m p off data hpend hreg
    refine .of_effect _ (fun _ => rfl) ?_ ?_
    all_goals rw [doSwardConfigWrite, if_pos hpend]
    · exact pendConfig_within _ _ (by simp) (by simp)
    · exact ⟨pendConfig_pendWrites hreg data, pendConfig_holdPend hreg data⟩
  · intro m p k word data hans hword hbusy
    refine .of_effect _ (fun _ => rfl) ?_ ?_
    all_goals rw [doSlotStateWrite_word hans k hword, slotStateWrite_busy hbusy]
    · exact (Within.refl _ m).set _ _ _ (by simp)
    · rw [Wafer.on, m.get_set _ _ _ (by decide)]
      rfl
  · intro m p k data hans hidle
    have hout : swd p + slotOff k (10 + (4 : Fin 6).val) = swd p + (SWD_SOUT.OUT k).off := by simp only [slotOff]; omega
    refine .of_effect _ (fun _ => rfl) ?_ ?_
    all_goals rw [doSlotStateWrite_word hans k (by decide), slotStateWrite_idle p.isLt k.isLt (by decide) hidle]
    · exact (Within.refl _ m).putField _ hout rfl rfl (by simp)
    · exact m.get_putWord_word _ hout rfl rfl
  · intro m p k data hans
    have hlow : isPairLow (swd p + slotOff k (10 + (0 : Fin 6).val)) = true := by
      rw [isPairLow_slotOff p.isLt k.isLt (by decide)]; rfl
    have hw := writable_slotState m.fuse p.isLt k.isLt (w := 10 + (0 : Fin 6).val) (by decide)
    refine .of_effect _ (fun _ => rfl) ?_ ?_
    all_goals rw [doSlotStateWrite_eq hans, latchedWrite_low data (by simp) hlow hw]
    · dsimp only
      exact .modHeath (.refl _ m) _ rfl
    · have ha : swd p + slotOff k (10 + (0 : Fin 6).val) = swd p + 0x4028 + 0x40 * k.val := by simp only [slotOff]; omega
      simpa [heldKey] using ha
  · intro m p k lo data hans hidle held
    have hlo : swd p + slotOff k 10 = swd p + (SWD_SINTLO.INTEG_LO k).off := by simp only [slotOff]; omega
    have hhi : swd p + slotOff k 11 = swd p + (SWD_SINTHI.INTEG_HI k).off := by simp only [slotOff]; omega
    have hne : swd p + (SWD_SINTLO.INTEG_LO k).off ≠ swd p + slotOff k 11 := by simp only [slotOff]; omega
    refine .of_effect _ (fun _ => rfl) ?_ ?_
    all_goals rw [doSlotStateWrite_high hans hidle held]
    · exact ((((Within.refl _ m).modHeath _ rfl).putField _ hlo rfl rfl (by simp)).putField _ hhi rfl rfl (by simp))
    · refine ⟨?_, Wafer.get_putWord_word _ _ hhi rfl rfl, ?_⟩
      · rw [Wafer.get_putWord_ne _ _ hne, Wafer.get_putWord_word _ _ hlo rfl rfl]
      · simp
  · intro m p k word data hans
    refine .of_idle _ (fun _ => rfl) ?_ rfl
    rw [doSlotStateWrite, hans, if_neg (by simp)]
  · intro m p k hreg
    exact .of_effect _ (fun _ => rfl) (pendConfig_within _ _ (by simp) (by simp)) (pendConfig_action_pendWrites hreg _)
  · intro m p k hreg
    exact .of_effect _ (fun _ => rfl) (pendConfig_within _ _ (by simp) (by simp)) (pendConfig_action_pendWrites hreg _)
  · intro m p k hreg
    exact .of_effect _ (fun _ => rfl) (pendConfig_within _ _ (by simp) (by simp)) (pendConfig_action_pendWrites hreg _)

end Sys2Proof.Machine
end

section
/-! Counting and reporting: what a Sward's counters and its report queue change, and that nothing
else of the Sward does. -/

namespace Sys2Proof.Machine

variable {m₀ m : Wafer} {p : Nat}

/-- The hidden state of a Sward beside its reports and the mark of a counter overflow. -/
def SwardSt.besideReports (x : SwardSt) : SwardSt :=
  { x with reports := [], reportSeq := 0, uncounted := [], ovfSnap := false }

/-- Where a Sward counts and reports. -/
def countArea (p : Nat) : Area := { blocks := [(swd p + 0xA000, 0xC00)], swards := (· == p), sends := true }

/-- From the first controller to the second a Sward has only counted and reported. -/
structure Counts (p : Nat) (m m' : Wafer) : Prop where
  within : Within (countArea p) m m'
  hidden : (m'.sward p).besideReports = (m.sward p).besideReports

namespace Counts

@[refl] theorem refl (p : Nat) (m : Wafer) : Counts p m m := ⟨.refl _ m, rfl⟩

theorem putWord (h : Counts p m₀ m) (off : Nat) (v : Word) (ho : 0xA000 ≤ off ∧ off < 0xAC00) :
    Counts p m₀ (m.putWord (swd p + off) v) :=
  have hb : (swd p + 0xA000, 0xC00) ∈ (countArea p).blocks := List.mem_singleton_self _
  have hr : swd p + 0xA000 ≤ swd p + off ∧ swd p + off < swd p + 0xA000 + 0xC00 := by omega
  ⟨h.within.putWord _ _ fun _ _ => .inr ⟨_, hb, hr⟩, by rw [m.sward_putWord, h.hidden]⟩

theorem set (h : Counts p m₀ m) (f : Fld) (v : Nat) (ho : 0xA000 ≤ f.off ∧ f.off < 0xAC00) :
    Counts p m₀ (m.set (swd p) f v) := h.putWord _ _ ho

theorem modSward (h : Counts p m₀ m) (f : SwardSt → SwardSt) (hf : ∀ x, (f x).besideReports = x.besideReports := by intro; rfl) :
    Counts p m₀ (m.modSward p f) :=
  ⟨h.within.modSward p f (beq_self_eq_true p), by rw [m.sward_modSward, hf, h.hidden]⟩

theorem send (h : Counts p m₀ m) (k : OutKind) (d : Nat) (l : List Nat) : Counts p m₀ (m.send k d l) :=
  ⟨h.within.send k d l rfl, h.hidden⟩

theorem ite {c : Prop} [Decidable c] {a b : Wafer} (ha : Counts p m₀ a) (hb : Counts p m₀ b) :
    Counts p m₀ (if c then a else b) := by
  split
  · exact ha
  · exact hb

/-- A register that is none of the counters' reads as before. -/
theorem get (h : Counts p m₀ m) (f : Fld) (hf : f.off < 0xA000 ∨ 0xAC00 ≤ f.off) :
    m.get (swd p) f = m₀.get (swd p) f :=
  h.within.get _ _ fun i _ _ _ hb => by
    rcases hb with ⟨e, he, -⟩ | ⟨e, he, h1, h2⟩
    · exact absurd he List.not_mem_nil
    · rw [List.mem_singleton.1 he] at h1 h2
      dsimp only at h1 h2
      omega

theorem fromBuild (h : Counts p m₀ m) : (m.sward p).fromBuild = (m₀.sward p).fromBuild :=
  show (m.sward p).besideReports.fromBuild = _ by rw [h.hidden]; rfl

theorem fullEnd (h : Counts p m₀ m) : (m.sward p).fullEnd = (m₀.sward p).fullEnd :=
  show (m.sward p).besideReports.fullEnd = _ by rw [h.hidden]; rfl

theorem walk (h : Counts p m₀ m) : (m.sward p).walk = (m₀.sward p).walk :=
  show (m.sward p).besideReports.walk = _ by rw [h.hidden]; rfl

theorem access (h : Counts p m₀ m) (l : Nat) : (m.sward p).access l = (m₀.sward p).access l :=
  show (m.sward p).besideReports.access l = _ by rw [h.hidden]; rfl

theorem queueReport (h : Counts p m₀ m) (e : FaultEvent) : Counts p m₀ (queueReport p e m) :=
  .ite (.send (.modSward h _) _ _ _) (.modSward h _)

theorem swardFault (h : Counts p m₀ m) (code a b : Nat) : Counts p m₀ (swardFault p code a b m) := h.queueReport _

theorem setCounter (h : Counts p m₀ m) {k : Nat} (hk : k < 128) (v : Nat) : Counts p m₀ (setCounter p k v m) :=
  (h.set _ _ (by simp; omega)).set _ _ (by simp; omega)

theorem overflowMark (h : Counts p m₀ m) {k : Nat} (hk : k < 128) : Counts p m₀ (overflowMark p k m) := by
  unfold Machine.overflowMark
  extract_lets b m1 m3 m4 m5 m6 m7
  have k1 : Counts p m₀ m1 := h.putWord _ _ (by simp; omega)
  have k3 : Counts p m₀ m3 := .ite (k1.swardFault _ _ _) k1
  have k4 : Counts p m₀ m4 := .ite (k3.set _ _ (by decide)) k3
  have k7 : Counts p m₀ m7 := ((((k4.set _ _ (by decide)).set _ _ (by decide)).set _ _ (by decide)).set _ _ (by decide)).set _ _ (by decide)
  exact .ite ((k7.set _ _ (by decide)).modSward _) k3

theorem overflowActions (h : Counts p m₀ m) {k : Nat} (hk : k < 128) : Counts p m₀ (overflowActions p k m) := by
  have a := h.overflowMark hk
  have b (m : Wafer) (h : Counts p m₀ m) : Counts p m₀ (bumpOverflows p m).2 := h.setCounter (by decide) _
  exact .ite (.ite ((b _ (b _ a)).overflowMark (by decide)) (b _ a)) a

theorem count (h : Counts p m₀ m) {k : Nat} (hk : k < 128) (n : Nat) (e : EventAttr) : Counts p m₀ (count p k n e m) :=
  .ite h (.ite (h.setCounter hk _) ((h.setCounter hk _).overflowActions hk))

theorem tally (h : Counts p m₀ m) {k : Nat} (hk : k < 128) : Counts p m₀ (tally p k m) := h.count hk _ _

end Counts

end Sys2Proof.Machine
end

section
/-! The ladder banks: what an entry of a bank reads as, the check of the shadow bank, its copy, and
the commands of SWD_LDCMD. -/

namespace Sys2Proof.Machine

variable {m₀ m : Wafer} {p : Nat}

/-! ### Fields and flags -/

/-- Fields of one block are apart where their registers or their bits are. -/
theorem apart_of (b : Nat) {f g : Fld} (h : f.off ≠ g.off ∨ f.lo + f.wid ≤ g.lo ∨ g.lo + g.wid ≤ f.lo) : Apart b f b g := by
  rcases h with h | h
  · exact .inl (by omega)
  · exact .inr h

theorem Wafer.on_set_ne (m : Wafer) {b : Nat} {f g : Fld} (v : Nat)
    (h : f.off ≠ g.off ∨ f.lo + f.wid ≤ g.lo ∨ g.lo + g.wid ≤ f.lo) : (m.set b f v).on b g = m.on b g := by
  rw [Wafer.on, m.get_set_ne v (apart_of b h), Wafer.on]

theorem Wafer.on_set_one (m : Wafer) (b : Nat) (f : Fld) (h : f.lo + f.wid ≤ 32) (hw : 0 < f.wid) :
    (m.set b f 1).on b f = true := m.on_setB b f true h hw

theorem Wafer.on_set_zero (m : Wafer) (b : Nat) (f : Fld) (h : f.lo + f.wid ≤ 32) (hw : 0 < f.wid) :
    (m.set b f 0).on b f = false := m.on_setB b f false h hw

@[simp] theorem Wafer.on_modSward (m : Wafer) (q : Nat) (f : SwardSt → SwardSt) (b : Nat) (g : Fld) :
    (m.modSward q f).on b g = m.on b g := rfl

@[simp] theorem shadow_setShadow (p : Nat) {st : Nat} (h : st < 16) (m : Wafer) : shadow p (setShadow p st m) = st := by
  rw [shadow, setShadow, m.get_set _ _ _ (by decide)]
  exact Nat.mod_eq_of_lt h

theorem on_setShadow (m : Wafer) (st : Nat) {g : Fld}
    (h : SWD_LDSTAT.SH_STATE.off ≠ g.off ∨ SWD_LDSTAT.SH_STATE.lo + SWD_LDSTAT.SH_STATE.wid ≤ g.lo ∨
      g.lo + g.wid ≤ SWD_LDSTAT.SH_STATE.lo) : (setShadow p st m).on (swd p) g = m.on (swd p) g := m.on_set_ne st h

@[simp] theorem sward_setShadow (st q : Nat) (m : Wafer) : (setShadow p st m).sward q = m.sward q := m.sward_set _ _ _ _

/-! ### The check of the shadow bank (R246) -/

/-- The CRC of the shadow bank differs from the one expected. -/
def crcDiffers (p : Nat) (m : Wafer) : Bool := bankCrc p 0x3000 m != m.get (swd p) SWD_LDSHCRC.SH_CRC

/-- An entry of the shadow bank lies out of range or has a reserved bit set. -/
def entryBad (p : Nat) (m : Wafer) : Bool :=
  (List.range 64).any fun t => (List.range 32).any fun n =>
    decide (vcode (ladderEntry p 0x3000 t n m) < 200 ∨ 360 < vcode (ladderEntry p 0x3000 t n m) ∨
      ladderEntry p 0x3000 t n m / 2 ^ 9 % 2 ^ 6 ≠ 0)

/-- Codes of a Tussock in the shadow bank fall. -/
def codesFall (p : Nat) (m : Wafer) : Bool :=
  (List.range 64).any fun t => (List.range 31).any fun n =>
    decide (vcode (ladderEntry p 0x3000 t (n + 1) m) < vcode (ladderEntry p 0x3000 t n m))

/-- A flag is set where something was found. -/
def raiseFlag (p : Nat) (f : Fld) (found : Bool) (m : Wafer) : Wafer := if found then m.set (swd p) f 1 else m

/-- The flags of what a check found. -/
def checkFlags (p : Nat) (crc range mono : Bool) (m : Wafer) : Wafer :=
  raiseFlag p SWD_LDSTAT.MONO_ERR mono (raiseFlag p SWD_LDSTAT.RANGE_ERR range (raiseFlag p SWD_LDSTAT.CRC_ERR crc m))

/-- A FULL walk whose bank failed is over. -/
def fullFailed (p : Nat) (m : Wafer) : Wafer :=
  if (m.sward p).fullEnd then
    (m.modSward p fun x => { x with fullEnd := false }).set (swd p) SWD_LDSTAT.FULL_BUSY 0
  else m

/-- What becomes of a bank that fails its check. -/
def checkFailed (p : Nat) (crc range mono : Bool) (m : Wafer) : Wafer :=
  let m := fullFailed p (swardFault p 32 (4 * bit crc + 2 * bit range + bit mono) 0
    (tally p 32 (checkFlags p crc range mono m)))
  setShadow p (if (m.sward p).fromBuild then shCOPY else shFAIL) m

/-- A check sees three faults, and passes a bank that has none. -/
theorem doLadderCheckDone_check {p : Fin 64} (h : shadow p m = shCHECK) :
    doLadderCheckDone p m =
      if !crcDiffers p m && !entryBad p m && !codesFall p m then setShadow p shPEND m
      else checkFailed p (crcDiffers p m) (entryBad p m) (codesFall p m) m := by
  rw [doLadderCheckDone, if_pos h]
  rfl

theorem doLadderCheckDone_fail {p : Fin 64} (h : shadow p m = shCHECK)
    (hf : crcDiffers p m = true ∨ entryBad p m = true ∨ codesFall p m = true) :
    doLadderCheckDone p m = checkFailed p (crcDiffers p m) (entryBad p m) (codesFall p m) m := by
  rw [doLadderCheckDone_check h, if_neg]
  rcases hf with hf | hf | hf <;> simp [hf]

theorem entryBad_iff : entryBad p m = true ↔ ∃ (t : Fin 64) (r : Fin 32),
    vcode (ladderEntry p 0x3000 t r m) < 200 ∨ 360 < vcode (ladderEntry p 0x3000 t r m) ∨
      ladderEntry p 0x3000 t r m / 2 ^ 9 % 2 ^ 6 ≠ 0 := by
  simp only [entryBad, List.any_eq_true, List.mem_range, decide_eq_true_eq]
  exact ⟨fun ⟨t, ht, r, hr, h⟩ => ⟨⟨t, ht⟩, ⟨r, hr⟩, h⟩, fun ⟨t, r, h⟩ => ⟨t, t.isLt, r, r.isLt, h⟩⟩

theorem codesFall_iff : codesFall p m = true ↔ ∃ (t : Fin 64) (r : Fin 31),
    vcode (ladderEntry p 0x3000 t (r.val + 1) m) < vcode (ladderEntry p 0x3000 t r m) := by
  simp only [codesFall, List.any_eq_true, List.mem_range, decide_eq_true_eq]
  exact ⟨fun ⟨t, ht, r, hr, h⟩ => ⟨⟨t, ht⟩, ⟨r, hr⟩, h⟩, fun ⟨t, r, h⟩ => ⟨t, t.isLt, r, r.isLt, h⟩⟩

section
variable {crc range mono : Bool}

theorem raiseFlag_sward (f : Fld) (found : Bool) (q : Nat) : (raiseFlag p f found m).sward q = m.sward q := by
  cases found
  · rfl
  · exact m.sward_set _ _ _ _

theorem raiseFlag_keeps {A : Area} (h : Keeps A m₀ m) (hp : SwardIn A p) {f : Fld} (hf : f.off < 0x40000) (found : Bool) :
    Keeps A m₀ (raiseFlag p f found m) := .ite (fun _ => h.swardSet hp 1 hf) fun _ => h

theorem raiseFlag_on {f g : Fld} (found : Bool) (h : f.off ≠ g.off ∨ f.lo + f.wid ≤ g.lo ∨ g.lo + g.wid ≤ f.lo) :
    (raiseFlag p f found m).on (swd p) g = m.on (swd p) g := by
  cases found
  · rfl
  · exact m.on_set_ne 1 h

theorem raiseFlag_on_self {f : Fld} (h : f.lo + f.wid ≤ 32) (hw : 0 < f.wid) : (raiseFlag p f true m).on (swd p) f = true :=
  m.on_set_one _ _ h hw

theorem checkFlags_sward (q : Nat) : (checkFlags p crc range mono m).sward q = m.sward q := by
  rw [checkFlags, raiseFlag_sward, raiseFlag_sward, raiseFlag_sward]

theorem checkFlags_keeps {A : Area} (hp : SwardIn A p) : Keeps A m (checkFlags p crc range mono m) :=
  raiseFlag_keeps (raiseFlag_keeps (raiseFlag_keeps (.refl A m) hp (by decide) _) hp (by decide) _) hp (by decide) _

theorem checkFlags_crc : (checkFlags p true range mono m).on (swd p) SWD_LDSTAT.CRC_ERR = true := by
  rw [checkFlags, raiseFlag_on _ (by decide), raiseFlag_on _ (by decide), raiseFlag_on_self (by decide) (by decide)]

theorem checkFlags_range : (checkFlags p crc true mono m).on (swd p) SWD_LDSTAT.RANGE_ERR = true := by
  rw [checkFlags, raiseFlag_on _ (by decide), raiseFlag_on_self (by decide) (by decide)]

theorem checkFlags_mono : (checkFlags p crc range true m).on (swd p) SWD_LDSTAT.MONO_ERR = true := by
  rw [checkFlags, raiseFlag_on_self (by decide) (by decide)]

theorem fullFailed_keeps {A : Area} (h : Keeps A m₀ m) (hp : SwardIn A p) : Keeps A m₀ (fullFailed p m) :=
  .ite (fun _ => (h.swardMod hp _).swardSet hp 0 (by decide)) fun _ => h

theorem fullFailed_fromBuild : ((fullFailed p m).sward p).fromBuild = (m.sward p).fromBuild := by
  unfold fullFailed
  split
  · rw [Wafer.sward_set, Wafer.sward_modSward]
  · rfl

theorem fullFailed_on {g : Fld} (hg : SWD_LDSTAT.FULL_BUSY.off ≠ g.off ∨ 27 ≤ g.lo ∨ g.lo + g.wid ≤ 26) :
    (fullFailed p m).on (swd p) g = m.on (swd p) g := by
  unfold fullFailed
  split
  · rw [Wafer.on_set_ne _ _ hg, Wafer.on_modSward]
  · rfl

theorem fullFailed_busy (h : (m.sward p).fullEnd = true) : (fullFailed p m).on (swd p) SWD_LDSTAT.FULL_BUSY = false := by
  rw [fullFailed, if_pos h]
  exact Wafer.on_set_zero _ _ _ (by decide) (by decide)

theorem checkFailed_within : Within (swardArea p) m (checkFailed p crc range mono m) :=
  have hp := swardArea_swardIn p
  (setShadow_keeps (fullFailed_keeps (swardFault_keeps (tally_keeps (checkFlags_keeps hp) hp (by decide)) hp _ _ _) hp)
    hp _).within

/-- The fault report of a failed check counts and reports only. -/
theorem checkReport_counts (n : Nat) : Counts p m (swardFault p 32 n 0 (tally p 32 m)) :=
  ((Counts.refl p m).tally (by decide)).swardFault _ _ _

theorem checkFailed_shadow :
    shadow p (checkFailed p crc range mono m) = if (m.sward p).fromBuild then shCOPY else shFAIL := by
  have hb (n : Nat) (k : Wafer) : ((swardFault p 32 n 0 (tally p 32 k)).sward p).fromBuild = (k.sward p).fromBuild :=
    (checkReport_counts n).fromBuild
  rw [checkFailed, shadow_setShadow _ (by split <;> decide), fullFailed_fromBuild, hb, checkFlags_sward]

/-- A flag of the check other than FULL_BUSY stands as the check set it. -/
theorem checkFailed_on {g : Fld} (ho : g.off = 0x48) (hg : g.lo + g.wid ≤ 26) :
    (checkFailed p crc range mono m).on (swd p) g = (checkFlags p crc range mono m).on (swd p) g := by
  rw [checkFailed, on_setShadow _ _ (.inr (.inr (by simp; omega))), fullFailed_on (.inr (.inr hg)), Wafer.on,
    (checkReport_counts _).get g (by omega), Wafer.on]

theorem checkFailed_busy (h : (m.sward p).fullEnd = true) :
    (checkFailed p crc range mono m).on (swd p) SWD_LDSTAT.FULL_BUSY = false := by
  have he (n : Nat) (k : Wafer) : ((swardFault p 32 n 0 (tally p 32 k)).sward p).fullEnd = (k.sward p).fullEnd :=
    (checkReport_counts n).fullEnd
  rw [checkFailed, on_setShadow _ _ (by decide), fullFailed_busy (by rw [he, checkFlags_sward, h])]

end

end Sys2Proof.Machine
end

section
/-! Writes of the shadow bank, its copy, and the actions of SWD_LDCMD. -/

namespace Sys2Proof.Machine

variable {m₀ m : Wafer} {p : Nat}

/-! ### Words of a bank -/

/-- A field within a field. -/
theorem getBits_sub (w : Word) (lo k n i : Nat) (h : k + n ≤ i) : getBits w lo i / 2 ^ k % 2 ^ n = getBits w (lo + k) n := by
  obtain ⟨j, rfl⟩ := Nat.exists_eq_add_of_le h
  rw [getBits, getBits, Nat.add_assoc, pow_add 2 k, Nat.mod_mul_right_div_self, Nat.div_div_eq_div_mul, ← pow_add,
    Nat.mod_mod_of_dvd _ (pow_dvd_pow 2 (Nat.le_add_right n j))]

/-- Two entries stand in each word of a bank. -/
theorem ladderField_word (bank t i : Nat) (j : Fin 2) :
    ladderField bank t (2 * i + j.val) = ⟨bank + 0x40 * t + 4 * i, 16 * j.val, 16⟩ := by
  have hd : (2 * i + j.val) / 2 = i := by omega
  have hm : (2 * i + j.val) % 2 = j.val := by omega
  rw [ladderField, hd, hm]

/-- The register of a word of the shadow bank. -/
abbrev shadowReg : RegDesc := ⟨0x3000, 0x40, 64, 4, 16, 0x81FF81FF, 0, 0, 0, 5000, false, fun _ _ j => curveWord j⟩

theorem findReg_shadow {t i : Nat} (ht : t < 64) (hi : i < 16) :
    findReg swardRegs (0x3000 + 0x40 * t + 4 * i) = some (shadowReg, t, i) := by
  have he : swardRegs.drop (swardRegs1.length + 4) =
      ⟨0x2000, 0x40, 64, 4, 16, 0, 0, 0, 0, 5000, false, fun _ _ j => curveWord j⟩ :: shadowReg ::
      swardRegs.drop (swardRegs1.length + 6) := rfl
  have h0 : 0x3000 + 0x40 * t + 4 * i - 0x3000 = 0x40 * t + 4 * i := by omega
  have h1 : (0x40 * t + 4 * i) / 0x40 = t := by omega
  have h2 : 0x40 * t + 4 * i - t * 0x40 = 4 * i := by omega
  have h3 : 4 * i / 4 = i := by omega
  have hfind : shadowReg.find (0x3000 + 0x40 * t + 4 * i) = some (t, i) := by
    simp only [RegDesc.find, h0, h1]
    simp only [Nat.reduceEqDiff, if_false, h2, h3]
    rw [if_pos (by omega)]
  rw [swardRegs_ladder (by omega), he, findReg, RegDesc.find_high (by simp only [RegDesc.last]; omega)]
  dsimp only
  rw [findReg, hfind]

/-- A write of a shadow word leaves its reserved bits. -/
theorem plainWrite_shadow (hp : p < 64) {t i : Nat} (ht : t < 64) (hi : i < 16) (data : Word) :
    plainWrite (swd p + (0x3000 + 0x40 * t + 4 * i)) data m =
      m.putWord (swd p + (0x3000 + 0x40 * t + 4 * i))
        ((m.word (swd p + (0x3000 + 0x40 * t + 4 * i)) &&& ~~~0x81FF81FF) ||| (data &&& 0x81FF81FF)) := by
  have hro : t < shadowReg.roFrom := Nat.lt_trans ht (by decide)
  exact plainWrite_masked (lookupReg_sward _ hp (by omega) (findReg_shadow ht hi)) hro rfl data

/-- The bits of a shadow word that a write takes. -/
theorem shadowMask_bit {i : Nat} (hi : i < 32) : (0x81FF81FF : Word).getLsbD i = (decide (i % 16 < 9) || i % 16 == 15) := by
  have : ∀ i < 32, (0x81FF81FF : Word).getLsbD i = (decide (i % 16 < 9) || i % 16 == 15) := by decide
  exact this i hi

theorem shadowWord_bit (w data : Word) {i : Nat} (hi : i < 32) :
    ((w &&& ~~~0x81FF81FF) ||| (data &&& 0x81FF81FF)).getLsbD i =
      if i % 16 < 9 ∨ i % 16 = 15 then data.getLsbD i else w.getLsbD i := by
  rw [BitVec.getLsbD_or, BitVec.getLsbD_and, BitVec.getLsbD_and, BitVec.getLsbD_not, shadowMask_bit hi]
  by_cases h1 : i % 16 < 9
  · simp [h1, hi]
  · by_cases h2 : i % 16 = 15
    · simp [h2]
    · simp [h1, h2, hi, beq_eq_false_iff_ne.2 h2]

/-- An entry written in FW: its code and MEAS from the data, its reserved bits as before. -/
theorem ladderEntry_written {t i : Nat} (data : Word) (j : Fin 2) (n : Wafer)
    (hn : n = m.putWord (swd p + (0x3000 + 0x40 * t + 4 * i))
      ((m.word (swd p + (0x3000 + 0x40 * t + 4 * i)) &&& ~~~0x81FF81FF) ||| (data &&& 0x81FF81FF))) :
    vcode (ladderEntry p 0x3000 t (2 * i + j.val) n) = data.toNat / 2 ^ (16 * j.val) % 2 ^ 9 ∧
      ladderEntry p 0x3000 t (2 * i + j.val) n / 2 ^ 15 = data.toNat / 2 ^ (16 * j.val + 15) % 2 ∧
      ladderEntry p 0x3000 t (2 * i + j.val) n / 2 ^ 9 % 2 ^ 6 = ladderEntry p 0x3000 t (2 * i + j.val) m / 2 ^ 9 % 2 ^ 6 := by
  have hlt (w : Word) : getBits w (16 * j.val) 16 / 2 ^ 15 = getBits w (16 * j.val) 16 / 2 ^ 15 % 2 ^ 1 :=
    (Nat.mod_eq_of_lt (by have := getBits_lt w (16 * j.val) 16; omega)).symm
  simp only [ladderEntry, Wafer.get, ladderField_word]
  rw [hn, m.word_putWord, vcode]
  refine ⟨?_, ?_, ?_⟩
  · have h := getBits_sub ((m.word (swd p + (0x3000 + 0x40 * t + 4 * i)) &&& ~~~0x81FF81FF) ||| (data &&& 0x81FF81FF))
      (16 * j.val) 0 9 16 (by decide)
    rw [pow_zero, Nat.div_one, Nat.add_zero] at h
    rw [h]
    exact getBits_congr fun b hb h1 h2 => by rw [shadowWord_bit _ _ hb, if_pos (by omega)]
  · rw [hlt, getBits_sub _ _ _ _ _ (by decide)]
    exact getBits_congr (lo := 16 * j.val + 15) (wid := 1) fun b hb h1 h2 => by
      rw [shadowWord_bit _ _ hb, if_pos (by omega)]
  · rw [getBits_sub _ _ _ _ _ (by decide), getBits_sub _ _ _ _ _ (by decide)]
    exact getBits_congr fun b hb h1 h2 => by rw [shadowWord_bit _ _ hb, if_neg (by omega)]

/-! ### The copy of a bank -/

/-- The first `n` words of a bank copied. -/
def copyWords (p src dst n : Nat) (m : Wafer) : Wafer :=
  (List.range n).foldl (fun m i => m.putWord (swd p + dst + 4 * i) (m.word (swd p + src + 4 * i))) m

theorem copyBank_eq (p src dst : Nat) (m : Wafer) : copyBank p src dst m = copyWords p src dst 1024 m := rfl

theorem copyWords_succ (src dst n : Nat) : copyWords p src dst (n + 1) m =
    (copyWords p src dst n m).putWord (swd p + dst + 4 * n) ((copyWords p src dst n m).word (swd p + src + 4 * n)) := by
  rw [copyWords, List.range_succ, List.foldl_append]
  rfl

theorem copyWords_word_ne {src dst n a : Nat} (h : ∀ i < n, a ≠ swd p + dst + 4 * i) :
    (copyWords p src dst n m).word a = m.word a := by
  induction n with
  | zero => rfl
  | succ n ih => rw [copyWords_succ, Wafer.word_putWord_ne _ _ (h n (by omega)), ih fun i hi => h i (by omega)]

/-- A copied word reads as its source did, where the banks do not overlap. -/
theorem copyWords_word {src dst n i : Nat} (hd : src + 0x1000 ≤ dst) (hn : n ≤ 1024) (hi : i < n) :
    (copyWords p src dst n m).word (swd p + dst + 4 * i) = m.word (swd p + src + 4 * i) := by
  induction n with
  | zero => omega
  | succ n ih =>
    rw [copyWords_succ]
    rcases Nat.lt_succ_iff_lt_or_eq.1 hi with h | rfl
    · rw [Wafer.word_putWord_ne _ _ (by omega), ih (by omega) h]
    · rw [Wafer.word_putWord, copyWords_word_ne fun j hj => by omega]

theorem copyWords_within {A : Area} (src dst n : Nat) (hn : n ≤ 1024) (hA : (swd p + dst, 0x1000) ∈ A.blocks) :
    Within A m (copyWords p src dst n m) := by
  induction n with
  | zero => exact .refl A m
  | succ n ih =>
    have hr : swd p + dst ≤ swd p + dst + 4 * n ∧ swd p + dst + 4 * n < swd p + dst + 0x1000 := by omega
    rw [copyWords_succ]
    exact (ih (by omega)).putWord _ _ fun _ _ => .inr ⟨_, hA, hr⟩

/-- An entry of the copied bank reads as the entry it came from. -/
theorem ladderEntry_copied {t r : Nat} (ht : t < 64) (hr : r < 32) :
    ladderEntry p 0x3000 t r (copyBank p 0x2000 0x3000 m) = ladderEntry p 0x2000 t r m := by
  have ha (bank : Nat) : swd p + (bank + 0x40 * t + 4 * (r / 2)) = swd p + bank + 4 * (16 * t + r / 2) := by omega
  rw [ladderEntry, ladderEntry, Wafer.get, Wafer.get]
  simp only [ladderField]
  rw [ha, ha, copyBank_eq, copyWords_word (by decide) (by decide) (by omega)]

/-! ### The commands (R263) -/

theorem ladderCommand_swap : ladderCommand p 0x80000000 m =
    if !m.on (swd p) SWD_LDSTAT.FULL_BUSY && (shadow p m == shBUILD || shadow p m == shFW) then
      beginCheck p (shadow p m == shBUILD) m
    else m.set (swd p) SWD_LDSTAT.CMD_REJ 1 := rfl

theorem ladderCommand_resync : ladderCommand p 0x40000000 m =
    if !m.on (swd p) SWD_LDSTAT.FULL_BUSY && (shadow p m == shBUILD || shadow p m == shFW || shadow p m == shFAIL) then
      setShadow p shCOPY (abandonWalk p m)
    else m.set (swd p) SWD_LDSTAT.CMD_REJ 1 := rfl

theorem ladderCommand_fwOpen : ladderCommand p 0x20000000 m =
    if !m.on (swd p) SWD_LDSTAT.FULL_BUSY && (shadow p m == shSYNCED || shadow p m == shBUILD) then
      setShadow p shFW (abandonWalk p m)
    else m.set (swd p) SWD_LDSTAT.CMD_REJ 1 := rfl

/-- A FULL walk that has begun. -/
def beginFull (p : Nat) (m : Wafer) : Wafer :=
  (m.modSward p fun x => { x with fullRung := 0, fullDone := [], fullSince := some x.frame, fullEnd := false }).set (swd p)
    SWD_LDSTAT.FULL_BUSY 1

theorem ladderCommand_full : ladderCommand p 0x10000000 m =
    if !m.on (swd p) SWD_LDSTAT.FULL_BUSY && shadow p m == shSYNCED && (m.sward p).walk.isNone then beginFull p m
    else m.set (swd p) SWD_LDSTAT.CMD_REJ 1 := rfl

theorem beginCheck_fromBuild (build : Bool) : ((beginCheck p build m).sward p).fromBuild = build := by
  rw [beginCheck, sward_setShadow, Wafer.sward_modSward]

theorem shadow_beginCheck (build : Bool) : shadow p (beginCheck p build m) = shCHECK := shadow_setShadow p (by decide) _

/-- A command that its state does not allow is rejected. -/
theorem Gives.of_rejected {c : Instr} {p : Fin 64} (f : Wafer → Wafer) (e : ∀ s, exec c s = s.run f)
    (h : f m = m.set (swd p) SWD_LDSTAT.CMD_REJ 1) :
    Gives c m { fields := [(swd p, SWD_LDSTAT.CMD_REJ)] } fun n => n.on (swd p) SWD_LDSTAT.CMD_REJ = true := by
  refine .of_effect f e ?_ ?_
  all_goals rw [h]
  · exact (Within.refl _ m).set _ _ _ (by simp)
  · exact m.on_set_one _ _ (by decide) (by decide)

/-- After a walk is abandoned there is none. -/
theorem abandonWalk_walk : ((abandonWalk p m).sward p).walk = none := by
  unfold abandonWalk
  split
  · assumption
  · dsimp only
    rw [((Counts.refl p _).tally (by decide)).walk, Wafer.sward_modSward]

theorem abandonWalk_keeps {A : Area} (h : Keeps A m₀ m) (hp : SwardIn A p) : Keeps A m₀ (abandonWalk p m) := by
  unfold abandonWalk
  split
  · exact h
  · refine tally_keeps (.swardMod ?_ hp _) hp (by decide)
    have hr : swd p ≤ swd p + SWD_LDRES.NEW.off ∧ swd p + SWD_LDRES.NEW.off < swd p + 0x40000 := by simp
    have k := (h.putWord (swd p + SWD_LDRES.NEW.off) 0 ⟨_, hp.block, hr⟩).swardSet hp (f := SWD_LDRES.ABORT) 1 (by decide)
    exact (((((k.swardSet hp _ (by decide)).swardSet hp _ (by decide)).swardSet hp _ (by decide)).swardSet hp _
      (by decide)).swardSet hp _ (by decide))

/-- The actions that end a walk and set the state of the shadow bank. -/
theorem abandon_setShadow (st : Nat) (h : st < 16) :
    Within (swardArea p) m (setShadow p st (abandonWalk p m)) ∧ shadow p (setShadow p st (abandonWalk p m)) = st ∧
      ((setShadow p st (abandonWalk p m)).sward p).walk = none :=
  ⟨(setShadow_keeps (abandonWalk_keeps (.refl _ m) (swardArea_swardIn p)) (swardArea_swardIn p) _).within,
    shadow_setShadow p h _, by rw [sward_setShadow, abandonWalk_walk]⟩

/-- A write that only asks for a walk of a Tussock. -/
theorem ladderCommand_walkReq (t : Fin 64) : ladderCommand p (BitVec.ofNat 32 (0x08000000 + t)) m =
    m.modSward p fun x =>
      { x with walkPrio := if x.walkPrio.contains t.val then x.walkPrio else x.walkPrio ++ [t.val] } := by
  have hbits : ∀ t : Fin 64, (BitVec.ofNat 32 (0x08000000 + t)).getLsbD 31 = false ∧
      (BitVec.ofNat 32 (0x08000000 + t)).getLsbD 30 = false ∧ (BitVec.ofNat 32 (0x08000000 + t)).getLsbD 29 = false ∧
      (BitVec.ofNat 32 (0x08000000 + t)).getLsbD 28 = false ∧ (BitVec.ofNat 32 (0x08000000 + t)).getLsbD 27 = true ∧
      (BitVec.ofNat 32 (0x08000000 + t)).getLsbD 26 = false ∧ getBits (BitVec.ofNat 32 (0x08000000 + t)) 0 6 = t.val := by
    decide
  obtain ⟨h31, h30, h29, h28, h27, h26, ht⟩ := hbits t
  simp only [ladderCommand, ladderAction, ladderRequests, h31, h30, h29, h28, h27, h26, ht]
  rfl

theorem ladderCommand_kaFail (t : Fin 64) : ladderCommand p (BitVec.ofNat 32 (0x04000000 + t)) m =
    m.modSward p fun x => { x with kaFail := t.val :: x.kaFail } := by
  have hbits : ∀ t : Fin 64, (BitVec.ofNat 32 (0x04000000 + t)).getLsbD 31 = false ∧
      (BitVec.ofNat 32 (0x04000000 + t)).getLsbD 30 = false ∧ (BitVec.ofNat 32 (0x04000000 + t)).getLsbD 29 = false ∧
      (BitVec.ofNat 32 (0x04000000 + t)).getLsbD 28 = false ∧ (BitVec.ofNat 32 (0x04000000 + t)).getLsbD 27 = false ∧
      (BitVec.ofNat 32 (0x04000000 + t)).getLsbD 26 = true ∧ getBits (BitVec.ofNat 32 (0x04000000 + t)) 0 6 = t.val := by
    decide
  obtain ⟨h31, h30, h29, h28, h27, h26, ht⟩ := hbits t
  simp only [ladderCommand, ladderAction, ladderRequests, h31, h30, h29, h28, h27, h26, ht]
  rfl

/-- Settles O28. -/
theorem ladderBanks : Obligations.LadderBanks := by
  refine ⟨?_, ?_, ?_, ?_, ?_, ?_, ?_, ?_, ?_, ?_, ?_, ?_, ?_, ?_, ?_, ?_, ?_⟩
  · intro m p t i data hst
    refine .of_effect _ (fun _ => rfl) ?_ ?_
    all_goals rw [doLadderShadowWrite, ladderShadowWrite, if_neg hst]
    · exact (Within.refl _ m).set _ _ _ (by simp)
    · exact m.on_set_one _ _ (by decide) (by decide)
  · intro m p t i data hst
    refine .of_effect _ (fun _ => rfl) ?_ ?_
    all_goals rw [doLadderShadowWrite, ladderShadowWrite, if_pos hst, plainWrite_shadow p.isLt t.isLt i.isLt]
    · exact (Within.refl _ m).putWord _ _ fun _ _ => .inr ⟨_, List.mem_singleton_self _, by omega⟩
    · exact fun j => ladderEntry_written data j _ rfl
  · intro m p t r hst hbad
    have hrange : entryBad p m = true := entryBad_iff.2 ⟨t, r, hbad⟩
    refine .of_effect _ (fun _ => rfl) ?_ ?_
    all_goals rw [doLadderCheckDone_fail hst (.inr (.inl hrange)), hrange]
    · exact checkFailed_within
    · exact ⟨by rw [checkFailed_on rfl (by decide), checkFlags_range], checkFailed_shadow, checkFailed_busy⟩
  · intro m p t r hst hbad
    have hfall : codesFall p m = true := codesFall_iff.2 ⟨t, r, hbad⟩
    refine .of_effect _ (fun _ => rfl) ?_ ?_
    all_goals rw [doLadderCheckDone_fail hst (.inr (.inr hfall)), hfall]
    · exact checkFailed_within
    · exact ⟨by rw [checkFailed_on rfl (by decide), checkFlags_mono], checkFailed_shadow⟩
  · intro m p hst hbad
    have hcrc : crcDiffers p m = true := bne_iff_ne.2 hbad
    refine .of_effect _ (fun _ => rfl) ?_ ?_
    all_goals rw [doLadderCheckDone_fail hst (.inl hcrc), hcrc]
    · exact checkFailed_within
    · exact ⟨by rw [checkFailed_on rfl (by decide), checkFlags_crc], checkFailed_shadow⟩
  · intro m p hst hcrc hrange hrise
    have h1 : crcDiffers p m = false := bne_eq_false_iff_eq.2 hcrc
    have h2 : entryBad p m = false := by
      rw [← Bool.not_eq_true, entryBad_iff]
      rintro ⟨t, r, h⟩
      obtain ⟨ha, hb, hc⟩ := hrange t r
      rcases h with h | h | h <;> omega
    have h3 : codesFall p m = false := by
      rw [← Bool.not_eq_true, codesFall_iff]
      rintro ⟨t, r, h⟩
      exact absurd h (Nat.not_lt.2 (hrise t r))
    have hpass : (!crcDiffers p m && !entryBad p m && !codesFall p m) = true := by rw [h1, h2, h3]; rfl
    refine .of_effect _ (fun _ => rfl) ?_ ?_
    all_goals rw [doLadderCheckDone_check hst, if_pos hpass]
    · exact (Within.refl _ m).set _ _ _ (by simp)
    · exact shadow_setShadow _ (by decide) _
  · intro m p hst
    refine .of_effect _ (fun _ => rfl) ?_ ?_
    all_goals rw [doLadderCopyDone, if_pos hst]
    · exact ((copyWords_within _ _ _ (by decide) (by simp)).set _ _ _ (by simp)).set _ _ _ (by simp)
    · refine ⟨shadow_setShadow _ (by decide) _, fun t r => ?_, ?_⟩
      · rw [setShadow, ladderEntry, Wafer.get_set_ne _ _ (apart_of _ (.inl (by simp [ladderField]; omega))),
          Wafer.get_set_ne _ _ (apart_of _ (.inl (by simp [ladderField]; omega)))]
        exact ladderEntry_copied t.isLt r.isLt
      · rw [setShadow, Wafer.get_set_ne _ _ (apart_of _ (by decide)), Wafer.get_set _ _ _ _ (by decide),
          Wafer.get, copyBank_eq, copyWords_word_ne fun i hi => by simp; omega]
        exact Nat.mod_eq_of_lt (getBits_lt _ _ _)
  · intro m p hbusy hst
    have hok : (!m.on (swd p) SWD_LDSTAT.FULL_BUSY && (shadow p m == shBUILD || shadow p m == shFW)) = true := by
      simp [hbusy, hst]
    refine .of_effect _ (fun _ => rfl) ?_ ?_
    all_goals rw [doSwap, ladderCommand_swap, if_pos hok]
    · exact ((Within.refl _ m).modSward _ _ (by simp)).set _ _ _ (by simp)
    · exact ⟨shadow_beginCheck _, beginCheck_fromBuild _⟩
  · intro m p h
    refine .of_rejected _ (fun _ => rfl) ?_
    rw [doSwap, ladderCommand_swap, if_neg]
    rcases h with h | ⟨h1, h2⟩ <;> simp [*]
  · intro m p hbusy hst
    have hok : (!m.on (swd p) SWD_LDSTAT.FULL_BUSY &&
        (shadow p m == shBUILD || shadow p m == shFW || shadow p m == shFAIL)) = true := by
      simp [hbusy, or_assoc, hst]
    have h := abandon_setShadow (p := p) (m := m) shCOPY (by decide)
    refine .of_effect _ (fun _ => rfl) ?_ ?_
    all_goals rw [doResync, ladderCommand_resync, if_pos hok]
    · exact h.1
    · exact h.2
  · intro m p hbusy hst
    have hok : (!m.on (swd p) SWD_LDSTAT.FULL_BUSY && (shadow p m == shSYNCED || shadow p m == shBUILD)) = true := by
      simp [hbusy, hst]
    have h := abandon_setShadow (p := p) (m := m) shFW (by decide)
    refine .of_effect _ (fun _ => rfl) ?_ ?_
    all_goals rw [doFwOpen, ladderCommand_fwOpen, if_pos hok]
    · exact h.1
    · exact h.2
  · intro m p hbusy hst hwalk
    have hok : (!m.on (swd p) SWD_LDSTAT.FULL_BUSY && shadow p m == shSYNCED && (m.sward p).walk.isNone) = true := by
      simp [hbusy, hst, hwalk]
    have hx : ((beginFull p m).sward p) =
        { m.sward p with fullRung := 0, fullDone := [], fullSince := some (m.sward p).frame, fullEnd := false } := by
      rw [beginFull, Wafer.sward_set, Wafer.sward_modSward]
    refine .of_effect _ (fun _ => rfl) ?_ ?_
    all_goals rw [doFull, ladderCommand_full, if_pos hok]
    · exact ((Within.refl _ m).modSward _ _ (by simp)).set _ _ _ (by simp)
    · rw [hx]
      exact ⟨Wafer.on_set_one _ _ _ (by decide) (by decide), rfl, rfl, rfl, rfl⟩
  · intro m p h
    refine .of_rejected _ (fun _ => rfl) ?_
    rw [doFull, ladderCommand_full, if_neg]
    rcases h with h | h | h <;> simp [h]
  · intro m p h
    refine .of_rejected _ (fun _ => rfl) ?_
    rw [doResync, ladderCommand_resync, if_neg]
    rcases h with h | ⟨h1, h2, h3⟩ <;> simp [*]
  · intro m p h
    refine .of_rejected _ (fun _ => rfl) ?_
    rw [doFwOpen, ladderCommand_fwOpen, if_neg]
    rcases h with h | ⟨h1, h2⟩ <;> simp [*]
  · intro m p t
    refine .of_effect _ (fun _ => rfl) ?_ ?_
    all_goals rw [doWalkReq, ladderCommand_walkReq]
    · exact (Within.refl _ m).modSward _ _ (by simp)
    · rw [Wafer.sward_modSward]
  · intro m p t
    refine .of_effect _ (fun _ => rfl) ?_ ?_
    all_goals rw [doKaFail, ladderCommand_kaFail]
    · exact (Within.refl _ m).modSward _ _ (by simp)
    · rw [Wafer.sward_modSward]

end Sys2Proof.Machine
end

section
/-! Faults at the active Heath and the registers past them: a fault, whatever its severity, adds
messages and leaves the registers of the interfaces as they were; the service window's refusals. -/

namespace Sys2Proof.Machine

variable {m₀ m : Wafer} {a : Nat}

/-- From the first controller to the second the register at `a` keeps its word and messages are
only added. -/
structure Reacts (a : Nat) (m m' : Wafer) : Prop where
  word : m'.word a = m.word a
  out : ∃ l, m'.out = l ++ m.out

namespace Reacts

@[refl] theorem refl (a : Nat) (m : Wafer) : Reacts a m m := ⟨rfl, [], rfl⟩

theorem putWord (h : Reacts a m₀ m) {b : Nat} (v : Word) (hb : a ≠ b) : Reacts a m₀ (m.putWord b v) :=
  ⟨(m.word_putWord_ne v hb).trans h.word, h.out⟩

theorem modHeath (h : Reacts a m₀ m) (f : HeathSt → HeathSt) : Reacts a m₀ (m.modHeath f) := ⟨h.word, h.out⟩

theorem setSource (h : Reacts a m₀ m) (c : Nat) (x : SourceSt) : Reacts a m₀ (m.setSource c x) := ⟨h.word, h.out⟩

theorem send (h : Reacts a m₀ m) (k : OutKind) (d : Nat) (l : List Nat) : Reacts a m₀ (m.send k d l) := by
  obtain ⟨hw, s, hs⟩ := h
  exact ⟨hw, ⟨k, d, l⟩ :: s, by rw [m.send_out, hs]; rfl⟩

theorem ite {c : Prop} [Decidable c] {x y : Wafer} (hx : Reacts a m₀ x) (hy : Reacts a m₀ y) :
    Reacts a m₀ (if c then x else y) := by
  split
  · exact hx
  · exact hy

theorem fold {α : Type} (h : Reacts a m₀ m) (l : List α) (f : Wafer → α → Wafer)
    (hf : ∀ m x, x ∈ l → Reacts a m₀ m → Reacts a m₀ (f m x)) : Reacts a m₀ (l.foldl f m) := by
  induction l generalizing m with
  | nil => exact h
  | cons x t ih => exact ih (hf m x (by simp) h) fun m y hy => hf m y (by simp [hy])

/-- A message sent before stands among the messages after. -/
theorem contains (h : Reacts a m₀ m) {x : Out} (hx : m₀.out.contains x = true) : m.out.contains x = true := by
  obtain ⟨-, l, hl⟩ := h
  rw [hl, List.contains_iff_mem, List.mem_append]
  exact .inr (List.contains_iff_mem.1 hx)

theorem get (h : Reacts a m₀ m) {b : Nat} {f : Fld} (ha : b + f.off = a) : m.get b f = m₀.get b f := by
  rw [Wafer.get, Wafer.get, ha, h.word]

/-! ### Faults: every register they write lies below 0x41000 -/

section
variable (ha : 0x41000 ≤ a)
include ha

theorem set (h : Reacts a m₀ m) {f : Fld} (v : Nat) (hf : f.off < 0x41000) : Reacts a m₀ (m.set 0 f v) :=
  h.putWord _ (by omega)

theorem incSat (h : Reacts a m₀ m) {f : Fld} (hf : f.off < 0x41000) : Reacts a m₀ (m.incSat 0 f) :=
  .ite (h.set ha _ hf) h

theorem setPairBit (h : Reacts a m₀ m) {lo hi : Fld} (hl : lo.off < 0x41000) (hh : hi.off < 0x41000) (c : Nat) (v : Bool) :
    Reacts a m₀ (setPairBit lo hi c v m) := h.putWord _ (by split <;> omega)

theorem putWords (h : Reacts a m₀ m) (b : Nat) (l : List Nat) (hb : b + 4 * l.length ≤ 0x41000) :
    Reacts a m₀ (putWords b l m) :=
  h.fold _ _ fun _ e he k => by
    have : e.1 < l.length := by simpa using (List.of_mem_zip he).1
    exact k.putWord _ (by omega)

theorem contEval (h : Reacts a m₀ m) : Reacts a m₀ (contEval m) :=
  (h.set ha _ (by decide)).set ha _ (by decide)

theorem beginRegion (h : Reacts a m₀ m) {r : Nat} (hr : r < 6) : Reacts a m₀ (beginRegion r m) := by
  unfold Machine.beginRegion
  extract_lets b seq slot j m1 m2 m3
  have k1 : Reacts a m₀ m1 := h.modHeath _
  have k2 : Reacts a m₀ m2 := .ite (k1.modHeath _) k1
  have k3 : Reacts a m₀ m3 := k2.set ha _ (by simp; omega)
  exact .ite ((k3.set ha _ (by decide)).set ha _ (by decide)) (k3.set ha _ (by decide))

theorem nvmNext (h : Reacts a m₀ m) : Reacts a m₀ (nvmNext m) := by
  unfold Machine.nvmNext
  extract_lets b m1
  have k1 : Reacts a m₀ m1 := .ite (h.beginRegion ha (by decide)) h
  refine .ite k1 ?_
  split
  · rename_i r hr
    have hm := List.mem_of_mem_filter (List.mem_of_mem_head? hr)
    have : r < 6 := by simp at hm; omega
    exact .ite k1 (k1.beginRegion ha this)
  · exact k1

theorem nvmQueue (h : Reacts a m₀ m) (r : Nat) : Reacts a m₀ (nvmQueue r m) :=
  .ite (.ite (h.set ha _ (by decide)) h) ((h.set ha _ (by decide)).nvmNext ha)

theorem alarm (h : Reacts a m₀ m) (c : Nat) : Reacts a m₀ (alarm c m) :=
  .ite h ((h.setPairBit ha (by decide) (by decide) _ _).modHeath _)

theorem capture (h : Reacts a m₀ m) (x : FifoEntry) (hc : x.event.code < 64) : Reacts a m₀ (capture x m) :=
  .ite (h.incSat ha (by simp; omega)) ((h.modHeath _).set ha _ (by decide))

theorem firstError (h : Reacts a m₀ m) (e : FaultEvent) : Reacts a m₀ (firstError e m) :=
  .ite (h.incSat ha (by decide)) (h.putWords ha _ _ (by simp))

theorem lastFault (h : Reacts a m₀ m) (x : FifoEntry) : Reacts a m₀ (lastFault x m) := by
  have hn : m.get 0 HTH_LFCTL.NEXT < 2 ^ 4 := getBits_lt _ _ _
  exact (((h.set ha _ (by decide)).incSat ha (by decide)).putWords ha _ _ (by simp [withCrc, recordWords]; omega)).nvmQueue
    ha 5

theorem waferTrip (h : Reacts a m₀ m) (x : FifoEntry) : Reacts a m₀ (waferTrip x m) :=
  have k : Reacts a m₀ (((m.modFault fun f => { f with flTrip := true }).send .waferTrip 64 []).set 0 HTH_FSTAT.WTRIP 1) :=
    ((h.modHeath _).send _ _ _).set ha _ (by decide)
  Reacts.lastFault ha (.ite (k.set ha _ (by decide)) k) x

theorem partitionTrip (h : Reacts a m₀ m) (parts : List Nat) : Reacts a m₀ (partitionTrip parts m) :=
  (h.set ha _ (by decide)).fold _ _ fun _ _ _ k => (k.send _ _ _).modHeath _

theorem severityAction (h : Reacts a m₀ m) (x : FifoEntry) (parts : List Nat) : Reacts a m₀ (severityAction x parts m) := by
  unfold Machine.severityAction
  split
  · exact (h.setSource _ _).contEval ha
  · exact h.partitionTrip ha _
  · exact h.waferTrip ha _
  · exact h

theorem episodeEvent (h : Reacts a m₀ m) (x : FifoEntry) (parts : List Nat) (was : Bool) :
    Reacts a m₀ (episodeEvent x parts was m) := by
  unfold Machine.episodeEvent
  dsimp only
  split
  · exact h.setSource _ _
  · exact .ite ((h.setSource _ _).setPairBit ha (by decide) (by decide) _ _) h

/-- A fault other than a phase retired in a report. -/
theorem heathEvent (h : Reacts a m₀ m) (e : FaultEvent) (hc : e.code < 64) (h1 : e.code ≠ 1) (sub : Nat) :
    Reacts a m₀ (heathEvent e sub m) := by
  have hr (m : Wafer) : retireReport e m = m := if_neg fun h => h1 h.1
  unfold Machine.heathEvent
  extract_lets c m1 sev x parts was m2 m3 m4
  have k1 : Reacts a m₀ m1 := by
    rw [show m1 = _ from hr _]
    exact h.set ha _ (by simp [c]; omega)
  have k2 : Reacts a m₀ m2 := .ite (k1.alarm ha _) k1
  have k3 : Reacts a m₀ m3 := k2.episodeEvent ha _ _ _
  have k4 : Reacts a m₀ m4 := .ite (k3.firstError ha e) k3
  exact .ite (.ite (k1.firstError ha e) k1) ((k4.severityAction ha _ _).capture ha _ hc)

theorem accessError (h : Reacts a m₀ m) (master ty err b : Nat) : Reacts a m₀ (accessError master ty err b m) :=
  h.heathEvent ha _ (show 57 < 64 by decide) (show 57 ≠ 1 by decide) _

end

end Reacts

/-! ### Refusals at the service window (R406, R428) -/

theorem windowError_keeps {A : Area} (h : Keeps A m₀ m) (hh : HeathIn A) (err b : Nat) : Keeps A m₀ (windowError err b m) :=
  Keeps.send ((h.incSat _ _ (hh.has (by decide))).heathSet hh _ (by decide)) _ _ _ hh.sends

theorem windowRefuse_keeps {A : Area} (h : Keeps A m₀ m) (hh : HeathIn A) (ty err b : Nat) :
    Keeps A m₀ (windowRefuse ty err b m) := heathFault_keeps (windowError_keeps h hh _ _) hh (by decide) _ _

/-- A refused access leaves its code and an ERROR response. -/
theorem windowRefuse_shows (ty b : Nat) {err : Nat} (he : err < 8) :
    (windowRefuse ty err b m).get 0 HTH_SWSTAT.LAST_ERR = err ∧
      (windowRefuse ty err b m).out.contains ⟨.windowError, 64, [err, b]⟩ = true := by
  have h : Reacts (0 + HTH_SWSTAT.LAST_ERR.off) (windowError err b m) (windowRefuse ty err b m) :=
    (Reacts.refl _ _).accessError (by decide) _ _ _ _
  refine ⟨?_, h.contains ?_⟩
  · rw [h.get rfl, windowError, Wafer.get_send, Wafer.get_set _ _ _ _ (by decide)]
    exact Nat.mod_eq_of_lt he
  · rw [windowError, Wafer.send_out, List.contains_cons, beq_self_eq_true, Bool.true_or]

end Sys2Proof.Machine
end

section
/-! Register accesses from outside: where an address leads, what the service window does with a
request that it takes, and what a Sward that answers has changed. -/

namespace Sys2Proof.Machine

variable {m₀ m : Wafer} {p : Nat} {i : Issuer}

/-! ### Addresses -/

theorem toNat_ofNat_swd {p o : Nat} (hp : p < 64) (ho : o < 0x100000) :
    (BitVec.ofNat 30 (swd p + o)).toNat = swd p + o := by
  have hs : swd p + o < 2 ^ 30 := by simp only [swd]; omega
  rw [BitVec.toNat_ofNat, Nat.mod_eq_of_lt hs]

theorem place_heath {a : Nat} (h : a < 0x1000000) : place a = .heath a := by rw [place, if_pos h]

/-- An aligned address outside the logical window leads to itself. -/
theorem target_direct {a : Nat} (h4 : a % 4 = 0) (hw : a < 0x108000 ∨ 0x109000 ≤ a) : target i a m = (directErr a m, a) := by
  rw [target, if_neg (by omega), if_neg (by omega)]

theorem directErr_heath {a : Nat} (h : a < 0x1000000) (hm : mapped a = true) : directErr a m = 0 := by
  rw [directErr, place_heath h]
  simp [placePart, hm]

theorem directErr_sward {o : Nat} (hp : p < 64) (ho : o < 0x40000) (hr : (findReg swardRegs o).isSome = true)
    (hb : (m.sward p).passedBy = false) : directErr (swd p + o) m = 0 := by
  rw [directErr, mapped, place_sward hp ho]
  simp [placePart, hb, lookupReg, hr]

/-- A register of the Heath is where its address says. -/
theorem target_heath {a : Nat} (h4 : a % 4 = 0) (hw : a < 0x108000) (hm : mapped a = true) : target i a m = (0, a) := by
  rw [target_direct h4 (.inl hw), directErr_heath (by omega) hm]

/-- A register of a Sward in service is where its address says. -/
theorem target_sward {o : Nat} (hp : p < 64) (ho : o < 0x40000) (h4 : o % 4 = 0) (hr : (findReg swardRegs o).isSome = true)
    (hb : (m.sward p).passedBy = false) : target i (swd p + o) m = (0, swd p + o) := by
  have h : (swd p + o) % 4 = 0 ∧ 0x109000 ≤ swd p + o := by simp only [swd]; omega
  rw [target_direct h.1 (.inr h.2), directErr_sward hp ho hr hb]

/-- A Sward that answers is not passed by. -/
theorem passedBy_of_answers (h : swardAnswers p m = true) : (m.sward p).passedBy = false := by
  simp only [swardAnswers, Bool.and_eq_true, Bool.not_eq_true'] at h
  exact h.2

/-- The record ring and HTH_LFREC are the Heath's. -/
theorem readsRecord_high {a : Nat} (h : 0x1000000 ≤ a) : readsRecord a = false := by
  simp [readsRecord]; omega

/-! ### What an access does at its place -/

theorem access_heath {write : Option Word} {a b : Nat} (ht : target i a m = (0, b)) (hb : b < 0x1000000) :
    access i write a m = (.made (deliver i write b m).2.1, (deliver i write b m).2.2) := by
  rw [access, ht, place_heath hb]
  rfl

theorem access_sward {write : Option Word} {a o : Nat} (hp : p < 64) (ho : o < 0x40000) (ht : target i a m = (0, swd p + o))
    (h : swardAnswers p m = true) :
    access i write a m = (.made (deliver i write (swd p + o) (accessAnswered i p (swd p + o) (tally p 55 m))).2.1,
      count p (if write.isSome then 61 else 60) (deliver i write (swd p + o) (accessAnswered i p (swd p + o) (tally p 55 m))).1
        (issuerAttr i (swd p + o)) (deliver i write (swd p + o) (accessAnswered i p (swd p + o) (tally p 55 m))).2.2) := by
  simp only [access, ht, place_sward hp ho, h, ne_eq, not_true_eq_false, if_false, if_true]

theorem access_refused {write : Option Word} {a e b : Nat} (ht : target i a m = (e, b)) (he : e ≠ 0) :
    access i write a m = (.refused e b, m) := by
  rw [access, ht, if_pos he]

/-! ### The service window -/

section
variable {super : Bool} {a : Nat} {write : Option Word} {n : Wafer}

/-- A request that the window takes: a Heath is active and not halted, and none is outstanding. -/
structure WindowOpen (m : Wafer) : Prop where
  active : m.heath.active = true
  runs : m.on 0 HTH_BUSTAT.HALT = false
  free : m.heath.swOut = none

theorem windowAccess_made (h : WindowOpen m) {w : Word} (hr : readsRecord (target (.window super) a m).2 = false)
    (ha : access (.window super) write a m = (.made w, n)) :
    windowAccess super 15 write a m = portDone (.window super) write.isSome a (target (.window super) a m).2 w n := by
  simp [windowAccess, windowBusy, h.active, h.runs, h.free, hr, ha]

theorem windowAccess_waits (h : WindowOpen m) (hr : readsRecord (target (.window super) a m).2 = false)
    (ha : access (.window super) write a m = (.waits, n)) : windowAccess super 15 write a m = n := by
  simp [windowAccess, windowBusy, h.active, h.runs, h.free, hr, ha]

theorem windowAccess_refused (h : WindowOpen m) {e b : Nat} (hr : readsRecord b = false)
    (ht : target (.window super) a m = (e, b)) (he : e ≠ 0) :
    windowAccess super 15 write a m = windowRefuse (if write.isSome then 2 else 1) e b m := by
  simp [windowAccess, windowBusy, h.active, h.runs, h.free, hr, ht, access_refused ht he]

/-- A write that no mirror record covers is answered at once. -/
theorem portDone_write {b : Nat} {w : Word} (hact : n.heath.active = true) (hb : ¬ (b < 0x1000000 ∧ mirrors n = true)) :
    portDone (.window super) true a b w n = n.send .windowOk 64 [a] := by
  simp only [portDone, if_true, windowWriteDone, hact, Bool.true_eq_false, if_false, if_neg hb]

end

/-! ### Reads of 64-bit values (R13) -/

theorem latchedRead_low {k a : Nat} (hi : i ≠ .own) (hl : isPairLow a = true) :
    latchedRead i k a m = ((wordRead i a m).1, (wordRead i a m).2.modHeath fun h =>
      { h with latches := Store.set noLatch h.latches k (some (a + 4, (wordRead i (a + 4) m).1)) }) := by
  simp only [latchedRead, if_neg hi, hl, if_true]

theorem latchedRead_latched {k a : Nat} {w : Word} (hi : i ≠ .own) (hl : isPairLow a = false)
    (h : Store.get noLatch m.heath.latches k = some (a, w)) : latchedRead i k a m = (w, m) := by
  simp [latchedRead, hi, hl, h]

theorem latchedRead_word {k a : Nat} (hl : isPairLow a = false)
    (h : (Store.get noLatch m.heath.latches k).map Prod.fst ≠ some a) : latchedRead i k a m = wordRead i a m := by
  simp only [latchedRead, hl, Bool.false_eq_true, if_false]
  split
  · rfl
  · split
    · rename_i h' w hs
      rw [if_neg]
      rintro rfl
      exact h (by rw [hs]; rfl)
    · rfl

theorem wordRead_wtimeLow : wordRead i 0x60000 m = (BitVec.ofNat 32 m.wtime, m) := rfl
theorem wordRead_wtimeHigh : wordRead i 0x60004 m = (BitVec.ofNat 32 (m.wtime / 2 ^ 32), m) := rfl

/-! ### A Sward that has answered -/

/-- A register outside the area keeps its word. -/
theorem Within.word {A : Area} (h : Within A m₀ m) {a : Nat} (ha : ∀ i, i < 32 → ¬ A.Bit a i) : m.word a = m₀.word a :=
  BitVec.eq_of_getLsbD_eq fun i hi => h.regs a i hi (ha i hi)

theorem Counts.word (h : Counts p m₀ m) {a : Nat} (ha : a < swd p + 0xA000 ∨ swd p + 0xAC00 ≤ a) : m.word a = m₀.word a :=
  h.within.word fun i _ hb => by
    rcases hb with ⟨e, he, -⟩ | ⟨e, he, h1, h2⟩
    · exact absurd he List.not_mem_nil
    · rw [List.mem_singleton.1 he] at h1 h2
      dsimp only at h1 h2
      omega

theorem Counts.heath (h : Counts p m₀ m) : m.heath = m₀.heath := h.within.heath rfl

/-- A bit of a pair of whole registers changes. -/
theorem Within.setPairBit {A : Area} (h : Within A m₀ m) {lo hi : Fld} (hl : (0, lo) ∈ A.fields) (hh : (0, hi) ∈ A.fields)
    (wl : lo.lo = 0 ∧ lo.wid = 32) (wh : hi.lo = 0 ∧ hi.wid = 32) (c : Nat) (v : Bool) :
    Within A m₀ (setPairBit lo hi c v m) := by
  unfold Machine.setPairBit
  split
  · exact h.putField _ (Nat.zero_add _).symm wl.1 wl.2 hl
  · exact h.putField _ (Nat.zero_add _).symm wh.1 wh.2 hh

/-- Where the answer of a Sward to an access shows: at the Heath, and in the Sward's counters. -/
structure AnswerIn (A : Area) (p : Nat) : Prop where
  lo : (0, HTH_UNREACH_LO.UNREACH) ∈ A.fields
  hi : (0, HTH_UNREACH_HI.UNREACH) ∈ A.fields
  heath : A.heath = true
  sward : SwardIn A p

/-- The Heath's marks of unreachable Swards, a Sward's own registers and state, and messages. -/
abbrev answerArea (p : Nat) : Area :=
  { fields := [(0, HTH_UNREACH_LO.UNREACH), (0, HTH_UNREACH_HI.UNREACH)], blocks := [(swd p, 0x40000)],
    swards := (· == p), heath := true, sends := true }

theorem answerArea_answerIn (p : Nat) : AnswerIn (answerArea p) p := ⟨by simp, by simp, rfl, ⟨by simp, by simp, rfl⟩⟩

theorem delivered_within {A : Area} (h : Within A m₀ m) (hA : AnswerIn A p) (k : UnicastKind) (a : Nat) :
    Within A m₀ (delivered p k a m) :=
  Within.setPairBit (h.modHeath _ hA.heath) hA.lo hA.hi (by decide) (by decide) _ _

theorem delivered_heath (k : UnicastKind) (a : Nat) :
    (delivered p k a m).heath = { m.heath with unicasts := m.heath.unicasts.filter fun x => !isUnicast p k a x } := rfl

theorem delivered_sward (k : UnicastKind) (a q : Nat) : (delivered p k a m).sward q = m.sward q := by
  rw [delivered, setPairBit, Wafer.sward_putWord, Wafer.sward_modHeath]

theorem delivered_word (k : UnicastKind) {a b : Nat} (hb : 0x60 ≤ b) : (delivered p k a m).word b = m.word b := by
  rw [delivered, setPairBit, Wafer.word_putWord_ne _ _ (by split <;> simp <;> omega), Wafer.word_modHeath]

/-- A register of a Sward in the area takes a word. -/
theorem Within.swardWord {A : Area} (h : Within A m₀ m) (hp : SwardIn A p) (v : Word) {o : Nat} (ho : o < 0x40000) :
    Within A m₀ (m.putWord (swd p + o) v) := by
  have hr : swd p ≤ swd p + o ∧ swd p + o < swd p + 0x40000 := by omega
  exact h.putWord _ _ fun _ _ => .inr ⟨_, hp.block, hr⟩

/-- A Sward has answered an access of the service window. -/
def windowTaken (p a : Nat) (m : Wafer) : Wafer := (delivered p .access a m).modHeath fun h => { h with swOut := none }

theorem accessAnswered_window (super : Bool) (a : Nat) : accessAnswered (.window super) p a m = windowTaken p a m := rfl

section
variable {a : Nat}

theorem windowTaken_within {A : Area} (h : Within A m₀ m) (hA : AnswerIn A p) : Within A m₀ (windowTaken p a m) :=
  (delivered_within h hA _ _).modHeath _ hA.heath

theorem windowTaken_heath : (windowTaken p a m).heath =
    { m.heath with unicasts := m.heath.unicasts.filter fun x => !isUnicast p .access a x, swOut := none } := rfl

theorem windowTaken_sward (q : Nat) : (windowTaken p a m).sward q = m.sward q := by
  rw [windowTaken, Wafer.sward_modHeath, delivered_sward]

theorem windowTaken_word {b : Nat} (hb : 0x60 ≤ b) : (windowTaken p a m).word b = m.word b := by
  rw [windowTaken, Wafer.word_modHeath, delivered_word _ hb]

/-- A register that a Sward's answer leaves: none of its counters', and none of the Heath's first. -/
theorem windowTaken_tally_word {b : Nat} (hb : 0x60 ≤ b) (hc : b < swd p + 0xA000 ∨ swd p + 0xAC00 ≤ b) :
    (windowTaken p a (tally p 55 m)).word b = m.word b := by
  rw [windowTaken_word hb, (Counts.tally (.refl p m) (by decide)).word hc]

theorem windowTaken_tally_within {A : Area} (hA : AnswerIn A p) : Within A m (windowTaken p a (tally p 55 m)) :=
  windowTaken_within (tally_keeps (.refl A m) hA.sward (by decide)).within hA

theorem windowTaken_tally_heath : (windowTaken p a (tally p 55 m)).heath =
    { m.heath with unicasts := m.heath.unicasts.filter fun x => !isUnicast p .access a x, swOut := none } := by
  rw [windowTaken_heath, (Counts.tally (.refl p m) (by decide)).heath]

end

/-- A window write to a Sward in service: the Sward answers, its register takes the word, and the
window answers OK. -/
theorem windowAccess_swardWrite {super : Bool} {o : Nat} {data : Word} (hw : WindowOpen m) (hp : p < 64) (ho : o < 0x40000)
    (h4 : o % 4 = 0) (hr : (findReg swardRegs o).isSome = true) (hs : swardAnswers p m = true) {k : Nat} {n : Wafer}
    (hn : latchedWrite (.window super) (swd p + o) data (windowTaken p (swd p + o) (tally p 55 m)) = (k, n))
    (hact : n.heath.active = true) :
    windowAccess super 15 (some data) (swd p + o) m =
      (count p 61 k (issuerAttr (.window super) (swd p + o)) n).send .windowOk 64 [swd p + o] := by
  have ht := target_sward (i := .window super) hp ho h4 hr (passedBy_of_answers hs)
  have hb : 0x1000000 ≤ swd p + o := by simp only [swd]; omega
  have ha := access_sward (write := some data) hp ho ht hs
  rw [deliver, accessAnswered_window, hn] at ha
  simp only [Option.isSome_some, if_true] at ha
  rw [windowAccess_made hw (by rw [ht]; exact readsRecord_high hb) ha, ht]
  exact portDone_write (by rw [((Counts.refl p n).count (by decide) _ _).heath, hact]) fun h => absurd h.1 (by omega)

/-- A user aperture shows WTIME and the words of its Sward (Table 11.6). -/
theorem issuedAccess_aperture {g : Fin 4096} {super : Bool} {be o : Nat} {write : Option Word} (hp : p < 64)
    (ho : 0xA000 ≤ o ∧ o < 0xB000) : issuedAccess (.aperture g super) be write (swd p + o) m =
      apertureAccess g super write.isSome p (o - 0xA000) m := by
  rw [issuedAccess, place_sward hp (by omega)]
  exact if_pos ho

theorem issuedReg_aperture {g : Fin 4096} {super : Bool} {a o : Nat} (h : place a = .sward p o) :
    issuedReg (.aperture g super) a m = (apertureReg p (o - 0xA000)).getD a := by
  rw [issuedReg.eq_def]
  split
  · rename_i heq
    rw [h] at heq
    cases heq
    rfl
  · rename_i hne
    exact absurd h (hne _ _ _ _ rfl)

/-- A read that is allowed, of an offset that shows a register. -/
theorem apertureAccess_read {g : Fin 4096} {super : Bool} {o a : Nat} (h : (m.sward p).rst = false)
    (he : super = true ∨ m.on (swd p) SWD_UAPCTL.USER_EN = true) (ha : apertureReg p o = some a) {w : Word} {n : Wafer}
    (hr : latchedRead (.aperture g super) (2 + 4096 * p + g.val) a m = (w, n)) :
    apertureAccess g super false p o m =
      (count p 65 1 (issuerAttr (.aperture g super) (swd p + 0xA000 + o)) n).send .apertureData g [o, w.toNat] := by
  have hopen : (!super && !m.on (swd p) SWD_UAPCTL.USER_EN) = false := by
    rcases he with he | he <;> simp [he]
  simp only [apertureAccess, h, hopen, ha, latchKey, hr, Bool.false_eq_true, if_false]

end Sys2Proof.Machine
end

section
/-! The halves of 64-bit values through the service window and the user aperture (R13). -/

namespace Sys2Proof.Machine

variable {m : Wafer}

theorem issuedReg_window {super : Bool} {a b e : Nat} (h : target (.window super) a m = (e, b)) :
    issuedReg (.window super) a m = b := by
  rw [issuedReg.eq_def]
  simp only [h]

/-- The register at SWD_TDEST_LO, and at SWD_TDEST_HI. -/
theorem findReg_tdestLow : findReg swardRegs 0xB048 = some (plainReg 0xB048 0 0 0xFFFFFFFF 0 0, 0, 0) := rfl
theorem findReg_tdestHigh : findReg swardRegs 0xB04C = some (plainReg 0xB04C 0 0 0xFFFFFFFF 0 0, 0, 0) := rfl

/-- Past SWD_TACFG only SWD_TRCFG has a write rule of its own. -/
theorem swardWrite_plain {p off : Nat} (h : 0xB000 < off ∧ off ≠ 0xB080) (data : Word) :
    swardWrite p off data m = plainWrite (swd p + off) data m := by
  have hpend : isPendingConfig off = false := by simp [isPendingConfig]; omega
  rw [swardWrite, hpend]
  simp only [Bool.false_eq_true, if_false]
  repeat rw [if_neg (by omega)]

theorem target_wtime {i : Issuer} {a : Nat} (h : a = 0x60000 ∨ a = 0x60004) : target i a m = (0, a) := by
  rcases h with rfl | rfl <;> exact target_heath (by decide) (by decide) (by decide)

/-- A read of a Heath register through the window answers what the window's latch and the register
give. -/
theorem windowAccess_heathRead {super : Bool} {a : Nat} (hw : WindowOpen m) (ht : target (.window super) a m = (0, a))
    (ha : a < 0x1000000) (hr : readsRecord a = false) {w : Word} {n : Wafer}
    (hd : latchedRead (.window super) 0 a m = (w, n)) :
    windowAccess super 15 none a m = n.send .windowData 64 [a, w.toNat] := by
  have hacc := access_heath (write := none) ht ha
  have hk : latchKey (.window super) 0 = 0 := rfl
  rw [deliver, hk, hd] at hacc
  rw [windowAccess_made hw (by rw [ht]; exact hr) hacc]
  rfl

/-- The high word of WTIME is latched under a key. -/
def latchWtime (k : Nat) (m : Wafer) : Wafer :=
  m.modHeath fun h => { h with latches := Store.set noLatch h.latches k (some (0x60004, BitVec.ofNat 32 (m.wtime / 2 ^ 32))) }

theorem latchWtime_latches (k : Nat) : Store.get noLatch (latchWtime k m).heath.latches k =
    some (0x60004, BitVec.ofNat 32 (m.wtime / 2 ^ 32)) := by
  rw [latchWtime, Wafer.modHeath_heath, Store.get_set_same]

/-- A read of WTIME_LO through an interface that latches. -/
theorem latchedRead_wtimeLow {i : Issuer} (k : Nat) (hi : i ≠ .own) :
    latchedRead i k 0x60000 m = (BitVec.ofNat 32 m.wtime, latchWtime k m) := by
  rw [latchedRead_low hi (by decide), wordRead_wtimeLow, wordRead_wtimeHigh]
  rfl

section
variable {super : Bool}

/-- A read of WTIME_LO through the window latches WTIME_HI. -/
theorem lowWordRead_wtime (hw : WindowOpen m) : doLowWordRead (.window super) 0x60000 m =
    (latchWtime 0 m).send .windowData 64 [0x60000, m.wtime % 2 ^ 32] := by
  have ha : (0x60000 : BitVec 30).toNat = 0x60000 := rfl
  have ht := target_wtime (i := .window super) (m := m) (.inl rfl)
  rw [doLowWordRead, ha, issuedReg_window ht, if_pos (by decide)]
  exact windowAccess_heathRead hw ht (by decide) (by decide) (latchedRead_wtimeLow 0 (by simp))

/-- A read of WTIME_HI answers what the latch holds of it. -/
theorem highWordRead_wtime (hw : WindowOpen m) {w : Word} (hd : latchedRead (.window super) 0 0x60004 m = (w, m)) :
    doHighWordRead (.window super) 0x60004 m = m.send .windowData 64 [0x60004, w.toNat] := by
  have ha : (0x60004 : BitVec 30).toNat = 0x60004 := rfl
  have ht := target_wtime (i := .window super) (m := m) (.inr rfl)
  rw [doHighWordRead, ha, issuedReg_window ht, if_pos (by decide)]
  exact windowAccess_heathRead hw ht (by decide) (by decide) hd

end

/-! ### Writes of SWD_TDEST -/

section
variable {super : Bool} {p : Fin 64}

/-- The window holds the low half of SWD_TDEST. -/
def holdLow (p : Nat) (data : Word) (m : Wafer) : Wafer :=
  m.modHeath fun h => { h with lowHeld := Store.set noLatch h.lowHeld 0 (some (swd p + 0xB048, data)) }

theorem holdLow_lowHeld (p : Nat) (data : Word) :
    Store.get noLatch (holdLow p data m).heath.lowHeld 0 = some (swd p + 0xB048, data) := by
  rw [holdLow, Wafer.modHeath_heath, Store.get_set_same]

theorem count_none (p k : Nat) (e : EventAttr) : count p k 0 e m = m := if_pos (.inl rfl)

theorem lowWordWrite_tdest (hw : WindowOpen m) (hs : swardAnswers p m = true) (data : Word) :
    doLowWordWrite (.window super) (BitVec.ofNat 30 (swd p + 0xB048)) data m =
      (holdLow p data (windowTaken p (swd p + 0xB048) (tally p 55 m))).send .windowOk 64 [swd p + 0xB048] := by
  have hreg : (findReg swardRegs 0xB048).isSome = true := by rw [findReg_tdestLow]; rfl
  have ht := target_sward (i := .window super) p.isLt (by decide) (by decide) hreg (passedBy_of_answers hs)
  have hl : isPairLow (swd p + 0xB048) = true := by rw [isPairLow, place_sward p.isLt (by decide)]; rfl
  have hn := latchedWrite_low (i := .window super) (m := windowTaken p (swd p + 0xB048) (tally p 55 m)) data (by simp) hl
    (writable_sward _ p.isLt (by decide) findReg_tdestLow (by decide) (by decide))
  have hact : (holdLow p data (windowTaken p (swd p + 0xB048) (tally p 55 m))).heath.active = true := by
    rw [holdLow, Wafer.modHeath_heath, windowTaken_tally_heath]; exact hw.active
  rw [doLowWordWrite, toNat_ofNat_swd p.isLt (by decide), issuedReg_window ht, if_pos hl]
  show windowAccess super 15 (some data) _ m = _
  rw [windowAccess_swardWrite hw p.isLt (by decide) (by decide) hreg hs hn hact, count_none]
  rfl

/-- SWD_TDEST written whole. -/
def putTdest (p : Nat) (low high : Word) (m : Wafer) : Wafer :=
  (m.putWord (swd p + 0xB048) low).putWord (swd p + 0xB04C) high

theorem putTdest_within {A : Area} {m₀ : Wafer} (h : Within A m₀ m) (hp : SwardIn A p) {low high : Word} :
    Within A m₀ (putTdest p low high m) := (h.swardWord hp low (by decide)).swardWord hp high (by decide)

theorem highWordWrite_tdest (hw : WindowOpen m) (hs : swardAnswers p m = true) {low : Word} (data : Word)
    (held : Store.get noLatch m.heath.lowHeld 0 = some (swd p + 0xB048, low)) :
    doHighWordWrite (.window super) (BitVec.ofNat 30 (swd p + 0xB04C)) data m =
      (count p 61 2 (issuerAttr (.window super) (swd p + 0xB04C))
        (putTdest p low data (dropHeld (windowTaken p (swd p + 0xB04C) (tally p 55 m))))).send .windowOk 64
          [swd p + 0xB04C] := by
  have hreg : (findReg swardRegs 0xB04C).isSome = true := by rw [findReg_tdestHigh]; rfl
  have ht := target_sward (i := .window super) p.isLt (by decide) (by decide) hreg (passedBy_of_answers hs)
  have hl : isPairLow (swd p + 0xB04C) = false := by rw [isPairLow, place_sward p.isLt (by decide)]; rfl
  have hh : isPairHigh (swd p + 0xB04C) = true := by
    have h4 : 4 ≤ swd p + 0xB04C ∧ swd p + 0xB04C - 4 = swd p + 0xB048 := by omega
    rw [isPairHigh, h4.2, isPairLow, place_sward p.isLt (by decide)]
    simp [h4.1]
  have held' : Store.get noLatch (windowTaken p (swd p + 0xB04C) (tally p 55 m)).heath.lowHeld (heldKey (.window super)) =
      some (swd p + 0xB048, low) := by
    rw [windowTaken_tally_heath]; exact held
  have hn := latchedWrite_high (i := .window super) data (by simp) hl hh
    (writable_sward _ p.isLt (by decide) findReg_tdestHigh (by decide) (by decide)) held' (by omega)
  rw [wordWrite_sward _ p.isLt (by decide), wordWrite_sward _ p.isLt (by decide), swardWrite_plain (by decide),
    swardWrite_plain (by decide), plainWrite_sward_whole p.isLt (by decide) findReg_tdestLow (by decide) rfl rfl,
    plainWrite_sward_whole p.isLt (by decide) findReg_tdestHigh (by decide) rfl rfl] at hn
  have hact : (putTdest p low data (dropHeld (windowTaken p (swd p + 0xB04C) (tally p 55 m)))).heath.active = true := by
    rw [putTdest, Wafer.putWord_heath, Wafer.putWord_heath, Wafer.modHeath_heath, windowTaken_tally_heath]
    exact hw.active
  rw [doHighWordWrite, toNat_ofNat_swd p.isLt (by decide), issuedReg_window ht, if_pos hh]
  exact windowAccess_swardWrite hw p.isLt (by decide) (by decide) hreg hs hn hact

end

/-! ### The user aperture -/

theorem apertureReg_wtimeLow (p : Nat) : apertureReg p 0x704 = some 0x60000 := rfl
theorem apertureReg_wtimeHigh (p : Nat) : apertureReg p 0x708 = some 0x60004 := rfl

section
variable {p : Fin 64} {g : Fin 4096}

theorem lowWordRead_aperture (hrst : (m.sward p).rst = false) :
    doLowWordRead (.aperture g true) (BitVec.ofNat 30 (swd p + 0xA704)) m =
      (count p 65 1 (issuerAttr (.aperture g true) (swd p + 0xA000 + 0x704)) (latchWtime (2 + 4096 * p.val + g.val) m)).send
        .apertureData g [0x704, m.wtime % 2 ^ 32] := by
  have hreg : issuedReg (.aperture g true) (swd p + 0xA704) m = 0x60000 := by
    rw [issuedReg_aperture (place_sward p.isLt (by decide)), apertureReg_wtimeLow, Option.getD_some]
  rw [doLowWordRead, toNat_ofNat_swd p.isLt (by decide), hreg, if_pos (by decide),
    issuedAccess_aperture p.isLt (by decide)]
  exact apertureAccess_read hrst (.inl rfl) rfl (latchedRead_wtimeLow _ (by simp))

theorem highWordRead_aperture (hrst : (m.sward p).rst = false) {v : Word}
    (h : Store.get noLatch m.heath.latches (2 + 4096 * p.val + g.val) = some (0x60004, v)) :
    doHighWordRead (.aperture g true) (BitVec.ofNat 30 (swd p + 0xA708)) m =
      (count p 65 1 (issuerAttr (.aperture g true) (swd p + 0xA000 + 0x708)) m).send .apertureData g [0x708, v.toNat] := by
  have hreg : issuedReg (.aperture g true) (swd p + 0xA708) m = 0x60004 := by
    rw [issuedReg_aperture (place_sward p.isLt (by decide)), apertureReg_wtimeHigh, Option.getD_some]
  rw [doHighWordRead, toNat_ofNat_swd p.isLt (by decide), hreg, if_pos (by decide),
    issuedAccess_aperture p.isLt (by decide)]
  exact apertureAccess_read hrst (.inl rfl) rfl (latchedRead_latched (by simp) (by decide) h)

end

/-- The message just sent stands among the messages. -/
theorem Wafer.contains_send (m : Wafer) (k : OutKind) (d : Nat) (l : List Nat) :
    (m.send k d l).out.contains ⟨k, d, l⟩ = true := by
  rw [Wafer.send_out, List.contains_cons, beq_self_eq_true, Bool.true_or]

/-- Settles O50. -/
theorem splitWords : Obligations.SplitWords := by
  refine ⟨?_, ?_, ?_, ?_, ?_, ?_, ?_, ?_⟩
  · intro m super hact hrun hfree
    have hw : WindowOpen m := ⟨hact, hrun, hfree⟩
    refine .of_effect _ (fun _ => rfl) ?_ ?_
    all_goals rw [lowWordRead_wtime hw]
    · exact ((Within.refl _ m).modHeath _ rfl).send _ _ _ rfl
    · exact ⟨rfl, latchWtime_latches 0⟩
  · intro m super v hact hrun hfree hv
    have hd := latchedRead_latched (i := .window super) (by simp) (by decide) hv
    refine .of_effect _ (fun _ => rfl) ?_ ?_
    all_goals rw [highWordRead_wtime ⟨hact, hrun, hfree⟩ hd]
    · exact (Within.refl _ m).send _ _ _ rfl
    · rfl
  · intro m p super data hact hrun _ hfree hs _
    have hA := answerArea_answerIn p
    refine .of_effect _ (fun _ => rfl) ?_ ?_
    all_goals rw [lowWordWrite_tdest ⟨hact, hrun, hfree⟩ hs]
    · exact ((windowTaken_tally_within hA).modHeath _ rfl).send _ _ _ rfl
    · refine ⟨holdLow_lowHeld _ _, ?_⟩
      rw [Wafer.word_send, holdLow, Wafer.word_modHeath, windowTaken_tally_word (by simp only [swd]; omega) (by omega)]
  · intro m p super low data hact hrun _ hfree hs _ held
    have hA := answerArea_answerIn p
    have hc := Counts.count (.refl p (putTdest p low data (dropHeld (windowTaken p (swd p + 0xB04C) (tally p 55 m)))))
      (k := 61) (by decide) 2 (issuerAttr (.window super) (swd p + 0xB04C))
    refine .of_effect _ (fun _ => rfl) ?_ ?_
    all_goals rw [highWordWrite_tdest ⟨hact, hrun, hfree⟩ hs data held]
    · exact .send (.trans (putTdest_within (.modHeath (windowTaken_tally_within hA) _ rfl) hA.sward)
        (count_keeps (.refl _ _) hA.sward (by decide) _ _).within) _ _ _ rfl
    · rw [Wafer.word_send, Wafer.word_send, Wafer.send_heath, hc.word (by omega), hc.word (by omega), hc.heath]
      refine ⟨⟨?_, Wafer.word_putWord _ _ _⟩, ?_⟩
      · rw [putTdest, Wafer.word_putWord_ne _ _ (by omega), Wafer.word_putWord]
      · rw [putTdest, Wafer.putWord_heath, Wafer.putWord_heath, Wafer.modHeath_heath, Store.get_set_same]
  · intro m super hact hrun hfree hnone
    have hd := latchedRead_word (i := .window super) (m := m) (k := 0) (a := 0x60004) (by decide) (by rw [hnone]; simp)
    rw [wordRead_wtimeHigh] at hd
    refine .of_effect _ (fun _ => rfl) ?_ ?_
    all_goals rw [highWordRead_wtime ⟨hact, hrun, hfree⟩ hd]
    · exact (Within.refl _ m).send _ _ _ rfl
    · rfl
  · intro m p g hrst
    have hA : SwardIn { swardArea p with heath := true } p := ⟨by simp [swardArea], by simp [swardArea], rfl⟩
    have hc := Counts.count (.refl p (latchWtime (2 + 4096 * p.val + g.val) m)) (k := 65) (by decide) 1
      (issuerAttr (.aperture g true) (swd p + 0xA000 + 0x704))
    refine .of_effect _ (fun _ => rfl) ?_ ?_
    all_goals rw [lowWordRead_aperture hrst]
    · exact .send (count_keeps ((Keeps.refl _ m).modHeath _ rfl) hA (by decide) _ _).within _ _ _ rfl
    · exact ⟨Wafer.contains_send _ _ _ _, by rw [Wafer.send_heath, hc.heath, latchWtime_latches]⟩
  · intro m p g v hrst hv
    refine .of_effect _ (fun _ => rfl) ?_ ?_
    all_goals rw [highWordRead_aperture hrst hv]
    · exact .send (count_keeps (.refl _ m) (swardArea_swardIn p) (by decide) _ _).within _ _ _ rfl
    · exact Wafer.contains_send _ _ _ _
  · intro m i a h
    refine .of_idle _ (fun _ => rfl) ?_ rfl
    rw [doLowWordRead, h, if_neg (by simp)]

end Sys2Proof.Machine
end

section
/-! Writes and refusals at the service window and the block bridge. -/

namespace Sys2Proof.Machine

variable {m₀ m : Wafer} {super : Bool}

/-- A write through a mask stores the field that the mask covers. -/
theorem mask_eq_setBits (w data : Word) (lo wid : Nat) :
    (w &&& ~~~bitMask lo wid) ||| (data &&& bitMask lo wid) = setBits w lo wid (getBits data lo wid) := by
  refine BitVec.eq_of_getLsbD_eq fun i hi => ?_
  rw [setBits_bit _ _ _ _ _ hi, BitVec.getLsbD_or, BitVec.getLsbD_and, BitVec.getLsbD_and, BitVec.getLsbD_not, bitMask_bit,
    getBits_testBit]
  by_cases h1 : lo ≤ i
  · by_cases h2 : i < lo + wid
    · have h3 : i - lo < wid := by omega
      simp [h1, h2, h3, hi]
    · simp [h2, hi]
  · simp [h1, hi]

/-! ### HTH_LSEL (R57) -/

theorem findReg_lsel : findReg heathRegs 0x100004 = some (plainReg 0x100004 0xFFF 0 0 0 0, 0, 0) := rfl

theorem plainWrite_lsel (data : Word) : plainWrite 0x100004 data m = m.set 0 HTH_LSEL.LOG (getBits data 0 12) := by
  have hm : BitVec.ofNat 32 0xFFF = bitMask 0 12 := rfl
  have hw : 0 + HTH_LSEL.LOG.off = 0x100004 := rfl
  have hreg : lookupReg m.fuse (place 0x100004) = some (plainReg 0x100004 0xFFF 0 0 0 0, ⟨m.fuse, 0, false⟩, 0, 0) := by
    rw [place_heath (by decide), lookupReg, findReg_lsel]
    rfl
  rw [plainWrite_masked hreg (by decide) rfl, Wafer.set, hw, ← mask_eq_setBits, ← hm]
  rfl

theorem wordWrite_lsel_window (data : Word) :
    wordWrite (.window super) 0x100004 data m = m.set 0 HTH_LSEL.LOG (getBits data 0 12) := by
  rw [wordWrite, place_heath (by decide)]
  exact plainWrite_lsel data

theorem wordWrite_lsel_smbus (data : Word) :
    wordWrite .smbus 0x100004 data m = m.modHeath fun h => { h with lselSmb := data &&& 0xFFF } := by
  rw [wordWrite, place_heath (by decide)]
  rfl

theorem target_lsel {i : Issuer} : target i 0x100004 m = (0, 0x100004) :=
  target_heath (by decide) (by decide) (by decide)

/-- A write of HTH_LSEL through the window, but for its answer. -/
theorem registerWrite_lsel_window (hw : WindowOpen m) (data : Word) :
    doRegisterWrite (.window super) 15 0x100004 data m =
      windowWriteDone 0x100004 0x100004 (m.set 0 HTH_LSEL.LOG (getBits data 0 12)) := by
  have hd : deliver (.window super) (some data) 0x100004 m = (1, 0, m.set 0 HTH_LSEL.LOG (getBits data 0 12)) := by
    rw [deliver, latchedWrite_word _ _ (by decide) (by decide), wordWrite_lsel_window]
  have hacc := access_heath (write := some data) (target_lsel (i := .window super) (m := m)) (by decide)
  rw [hd] at hacc
  show windowAccess super 15 (some data) 0x100004 m = _
  rw [windowAccess_made hw (by rw [target_lsel]; decide) hacc, target_lsel]
  rfl

/-- HTH_LSEL is not where the Heaths show each other. -/
theorem mirrors_lsel (v : Nat) : mirrors (m.set 0 HTH_LSEL.LOG v) = mirrors m := by
  rw [mirrors, m.set_heath, m.on_set_ne v (by decide), mirrors]

/-- The block bridge has an HTH_LSEL of its own. -/
theorem registerWrite_lsel_smbus (hact : m.heath.active = true) (hrun : m.on 0 HTH_BUSTAT.HALT = false) (data : Word) :
    doRegisterWrite .smbus 15 0x100004 data m =
      (m.modHeath fun h => { h with lselSmb := data &&& 0xFFF }).inc 0 HTH_SMBCNT.TXN_OK := by
  have hd : deliver .smbus (some data) 0x100004 m =
      (1, 0, m.modHeath fun h => { h with lselSmb := data &&& 0xFFF }) := by
    rw [deliver, latchedWrite_word _ _ (by decide) (by decide), wordWrite_lsel_smbus]
  have hacc := access_heath (write := some data) (target_lsel (i := .smbus) (m := m)) (by decide)
  rw [hd] at hacc
  show bridgeAccess (some data) 0x100004 m = _
  simp only [bridgeAccess, hact, hrun, hacc, Bool.true_eq_false, Bool.false_eq_true, false_and, if_false, Option.isSome_some,
    true_or, if_true, portDone]

/-! ### SWD_TACFG (R367) -/

theorem findReg_tacfg : findReg swardRegs 0xB000 = some (plainReg 0xB000 0 0 0x8000001F 0 0xA, 0, 0) := rfl

theorem isSome_tacfg : (findReg swardRegs 0xB000).isSome = true := by rw [findReg_tacfg]; rfl

/-- A window width past 20 shows its clamp. -/
def widthClamp (p : Nat) (data : Word) (m : Wafer) : Wafer :=
  if 20 < getBits data 0 5 then m.set (swd p) SWD_TASTAT.WCLAMP 1 else m

/-- SWD_TACFG after a write. -/
def tacfgWord (w data : Word) : Word := (w &&& ~~~0x8000001F) ||| (data &&& 0x8000001F)

theorem getBits_tacfgWord (w data : Word) : getBits (tacfgWord w data) 0 5 = getBits data 0 5 := by
  have hm : ∀ i < 5, (0x8000001F : Word).getLsbD i = true := by decide
  refine getBits_congr fun i hi _ h5 => ?_
  rw [tacfgWord, BitVec.getLsbD_or, BitVec.getLsbD_and, BitVec.getLsbD_and, BitVec.getLsbD_not, hm i (by omega)]
  simp

theorem swardWrite_tacfg {p : Nat} (hp : p < 64) (data : Word) : swardWrite p 0xB000 data m =
    widthClamp p data (m.putWord (swd p + 0xB000) (tacfgWord (m.word (swd p + 0xB000)) data)) := by
  have hpw : plainWrite (swd p + 0xB000) data m =
      m.putWord (swd p + 0xB000) (tacfgWord (m.word (swd p + 0xB000)) data) :=
    plainWrite_masked (lookupReg_sward _ hp (by decide) findReg_tacfg) (by decide) rfl data
  have hpend : isPendingConfig 0xB000 = false := by decide
  rw [swardWrite, hpend]
  simp only [Bool.false_eq_true, if_false]
  repeat rw [if_neg (by decide)]
  rw [if_pos trivial, hpw, widthClamp]

/-- A write of SWD_TACFG through the window. -/
theorem registerWrite_tacfg {p : Fin 64} (hw : WindowOpen m) (hs : swardAnswers p m = true) (data : Word) :
    doRegisterWrite (.window super) 15 (BitVec.ofNat 30 (swd p + 0xB000)) data m =
      (count p 61 1 (issuerAttr (.window super) (swd p + 0xB000))
        (widthClamp p data ((windowTaken p (swd p + 0xB000) (tally p 55 m)).putWord (swd p + 0xB000)
          (tacfgWord ((windowTaken p (swd p + 0xB000) (tally p 55 m)).word (swd p + 0xB000)) data)))).send .windowOk 64
            [swd p + 0xB000] := by
  have hl : isPairLow (swd p + 0xB000) = false := by rw [isPairLow, place_sward p.isLt (by decide)]; rfl
  have hh : isPairHigh (swd p + 0xB000) = false := by
    have h4 : swd p + 0xB000 - 4 = swd p + 0xAFFC := by omega
    rw [isPairHigh, h4, isPairLow, place_sward p.isLt (by decide)]
    simp
  have hn : latchedWrite (.window super) (swd p + 0xB000) data (windowTaken p (swd p + 0xB000) (tally p 55 m)) = _ :=
    latchedWrite_word _ data hl hh
  rw [wordWrite_sward _ p.isLt (by decide), swardWrite_tacfg p.isLt] at hn
  have hact : (widthClamp p data ((windowTaken p (swd p + 0xB000) (tally p 55 m)).putWord (swd p + 0xB000)
      (tacfgWord ((windowTaken p (swd p + 0xB000) (tally p 55 m)).word (swd p + 0xB000)) data))).heath.active = true := by
    rw [widthClamp]
    split
    · rw [Wafer.set_heath, Wafer.putWord_heath, windowTaken_tally_heath]; exact hw.active
    · rw [Wafer.putWord_heath, windowTaken_tally_heath]; exact hw.active
  rw [doRegisterWrite, toNat_ofNat_swd p.isLt (by decide)]
  exact windowAccess_swardWrite hw p.isLt (by decide) (by decide) isSome_tacfg hs hn hact

theorem widthClamp_winN (p : Nat) (w data : Word) :
    (widthClamp p data (m.putWord (swd p + 0xB000) (tacfgWord w data))).get (swd p) SWD_TACFG.WIN_N = getBits data 0 5 := by
  have h : (m.putWord (swd p + 0xB000) (tacfgWord w data)).get (swd p) SWD_TACFG.WIN_N = getBits data 0 5 := by
    rw [Wafer.get, Wafer.word_putWord, getBits_tacfgWord]
  rw [widthClamp]
  split
  · rw [Wafer.get_set_ne _ _ (apart_of _ (by decide)), h]
  · exact h

theorem widthClamp_within {A : Area} {p : Nat} (h : Within A m₀ m) (hp : SwardIn A p) (data : Word) :
    Within A m₀ (widthClamp p data m) := by
  rw [widthClamp]
  split
  · exact h.set _ _ _ (hp.has (by decide))
  · exact h

end Sys2Proof.Machine
end

section
/-! Refused requests, accesses to units through the access channel, accesses that wait, and the
user aperture. -/

namespace Sys2Proof.Machine

variable {m₀ m : Wafer} {super : Bool} {p : Nat}

/-! ### Refusals -/

theorem sendFrame_keeps {A : Area} (h : Keeps A m₀ m) (hh : HeathIn A) (d : Nat) (l : List Nat) :
    Keeps A m₀ (sendFrame d l m) :=
  .ite (fun _ => (h.heathMod hh _).send _ _ _ hh.sends) fun _ => (h.incSat _ _ (hh.has (by decide))).heathMod hh _

theorem resendFrames_keeps {A : Area} (h : Keeps A m₀ m) (hh : HeathIn A) : Keeps A m₀ (resendFrames m) :=
  .ite (fun _ => h) fun _ => (h.heathMod hh _).fold _ _ fun _ _ _ k => sendFrame_keeps k hh _ _

/-- A request that is not a whole word. -/
theorem windowAccess_partWord {be a : Nat} {write : Option Word} (hw : WindowOpen m) (hbe : be ≠ 15) :
    windowAccess super be write a m = windowRefuse (if write.isSome then 2 else 1) 2 a m := by
  simp [windowAccess, windowBusy, hw.active, hw.runs, hw.free, hbe]

/-- A write to a misaligned address; where that names the record ring, waiting frames go first. -/
theorem windowAccess_misaligned {a : Nat} {data : Word} (hw : WindowOpen m) (h4 : a % 4 ≠ 0) :
    windowAccess super 15 (some data) a m = windowRefuse 2 2 a (if readsRecord a then resendFrames m else m) := by
  have ht (n : Wafer) : target (.window super) a n = (2, a) := by rw [target, if_pos h4]
  simp [windowAccess, windowBusy, hw.active, hw.runs, hw.free, ht, access_refused (ht _) (by decide)]

/-- A refused request shows its code, and stays with the Heath. -/
theorem Gives.of_refused {c : Instr} {f : Wafer → Wafer} {n : Wafer} {ty err a : Nat} (e : ∀ s, exec c s = s.run f)
    (hf : f m = windowRefuse ty err a n) (hn : Keeps heathArea m n) (he : err < 8) :
    Gives c m heathArea fun n => n.get 0 HTH_SWSTAT.LAST_ERR = err ∧
      n.out.contains ⟨.windowError, 64, [err, a]⟩ = true := by
  refine .of_effect f e ?_ ?_
  all_goals rw [hf]
  · exact (windowRefuse_keeps hn heathArea_heathIn _ _ _).within
  · exact windowRefuse_shows ty a he

/-- ERR codes are those of R428. -/
theorem target_err_lt (i : Issuer) (a : Nat) (m : Wafer) : (target i a m).1 < 8 := by
  have hd (b : Nat) : directErr b m < 8 := by
    unfold directErr
    extract_lets gone
    cases gone <;> cases mapped b <;> simp
  simp only [target]
  split_ifs
  · show 2 < 8; decide
  · dsimp only; exact hd _
  · show 4 < 8; decide
  · dsimp only; exact hd _

/-! ### The logical window (R57) -/

/-- The word of the logical window leads to the unit that the map names. -/
theorem target_logical {o : Nat} (ho : o < 1024) (g : Nat)
    (hv : m.on 0 (HTH_LMAP.VALID (m.get 0 HTH_LSEL.LOG)) = true) (hg : m.get 0 (HTH_LMAP.PHYS (m.get 0 HTH_LSEL.LOG)) = g) :
    target (.window super) (0x108000 + 4 * o) m = (directErr (tus g + 4 * o) m, tus g + 4 * o) := by
  have hl : lsel (.window super) m = m.get 0 HTH_LSEL.LOG := rfl
  have hb : 0x108000 + 4 * o - 0x108000 = 4 * o := by omega
  rw [target, if_neg (by omega), if_pos (by omega)]
  dsimp only
  rw [hl, if_pos hv, hg, hb]

theorem target_logical_invalid {o : Nat} (ho : o < 1024)
    (hv : m.on 0 (HTH_LMAP.VALID (m.get 0 HTH_LSEL.LOG)) = false) :
    target (.window super) (0x108000 + 4 * o) m = (4, 0x108000 + 4 * o) := by
  have hl : lsel (.window super) m = m.get 0 HTH_LSEL.LOG := rfl
  rw [target, if_neg (by omega), if_pos (by omega)]
  dsimp only
  rw [hl, hv, if_neg (by simp)]

theorem place_tussock {g off : Nat} (hg : g < 4096) (ho : off < 0x1000) : place (tus g + off) = .tussock g off := by
  have hs : tus g + off = 0x1000000 + g / 64 * 0x100000 + 0x40000 + g % 64 * 0x1000 + off := rfl
  have h1 : (tus g + off - 0x1000000) / 0x100000 = g / 64 := by omega
  have h2 : (tus g + off - 0x1000000) % 0x100000 = 0x40000 + g % 64 * 0x1000 + off := by omega
  have h3 : 64 * (g / 64) + (0x40000 + g % 64 * 0x1000 + off - 0x40000) / 0x1000 = g := by omega
  have h4 : (0x40000 + g % 64 * 0x1000 + off) % 0x1000 = off := by omega
  have h5 : ¬ tus g + off < 0x1000000 ∧ tus g + off < 0x5000000 := by omega
  have h6 : ¬ 0x40000 + g % 64 * 0x1000 + off < 0x40000 ∧ 0x40000 + g % 64 * 0x1000 + off < 0x80000 := by omega
  rw [place, if_neg h5.1, if_pos h5.2]
  dsimp only
  rw [h1, h2, if_neg h6.1, if_pos h6.2, h3, h4]

/-- A register of a unit whose Sward is in service can be accessed. -/
theorem directErr_tussock {g off : Nat} (hg : g < 4096) (ho : off < 0x1000) (hm : mapped (tus g + off) = true)
    (hb : (m.sward (g / 64)).passedBy = false) : directErr (tus g + off) m = 0 := by
  rw [directErr, hm, place_tussock hg ho]
  simp [placePart, hb]

/-! ### The access channel (R207) -/

/-- An access joins its unit's queue. -/
def enqueued (u : UnitId) (x : UnitAccess) (m : Wafer) : Wafer :=
  (tally u.part 55 m).modSward u.part fun y =>
    { y with accQ := Store.set noAccess y.accQ u.loc ((m.sward u.part).access u.loc ++ [x]) }

section
variable {u : UnitId} {x : UnitAccess}

theorem enqueueAccess_room (hs : swardAnswers u.part m = true) (hq : ((m.sward u.part).access u.loc).length < 16) :
    enqueueAccess u x m = (true, enqueued u x m) := by
  have hfull : (!swardAnswers u.part m || decide (16 ≤ ((m.sward u.part).access u.loc).length)) = false := by
    rw [hs, decide_eq_false (by omega)]
    rfl
  simp only [enqueueAccess, passedBy_of_answers hs, Bool.false_eq_true, if_false, hfull]
  rfl

theorem enqueued_access : ((enqueued u x m).sward u.part).access u.loc = (m.sward u.part).access u.loc ++ [x] := by
  rw [enqueued, Wafer.sward_modSward, SwardSt.access, Store.get_set_same]

theorem enqueued_heath : (enqueued u x m).heath = m.heath := by
  rw [enqueued, Wafer.modSward_heath, (Counts.tally (.refl _ m) (by decide)).heath]

theorem enqueued_keeps {A : Area} (h : Keeps A m₀ m) (hp : SwardIn A u.part) : Keeps A m₀ (enqueued u x m) :=
  (tally_keeps h hp (by decide)).swardMod hp _

end

/-! ### Accesses that wait -/

section
variable {a : Nat} {write : Option Word}

/-- The Heath repeats an access until it is answered. -/
def repeats (i : Issuer) (p a : Nat) (write : Option Word) (m : Wafer) : Wafer :=
  if m.heath.unicasts.any (isUnicast p .access a) then m
  else unicast p .access a [(issuerAttr i a).mkind, if write.isSome then 2 else 1, (issuerAttr i a).priv,
    (write.getD 0).toNat] m

theorem repeats_sward (i : Issuer) (q : Nat) : (repeats i p a write m).sward q = m.sward q := by
  unfold repeats
  split
  · rfl
  · rw [unicast, Wafer.sward_modHeath]

/-- The access is among those that the Heath repeats. -/
theorem repeats_any (i : Issuer) : (repeats i p a write m).heath.unicasts.any (isUnicast p .access a) = true := by
  unfold repeats
  split
  · assumption
  · simp [unicast, isUnicast]

theorem repeats_within {A : Area} (h : Within A m₀ m) (hA : A.heath = true) (i : Issuer) :
    Within A m₀ (repeats i p a write m) := by
  unfold repeats
  split
  · exact h
  · exact h.modHeath _ hA

/-- A window access that waits for the access channel, or for a Sward that does not answer. -/
theorem accessWaits_window : accessWaits (.window super) p a write m =
    (repeats (.window super) p a write m).modHeath fun h => { h with swOut := some (a, none) } := rfl

/-- A window access to a Sward that does not answer. -/
theorem access_sward_waits {i : Issuer} {o : Nat} (hp : p < 64) (ho : o < 0x40000) (ht : target i a m = (0, swd p + o))
    (h : swardAnswers p m = false) : access i write a m = (.waits, accessWaits i p (swd p + o) write m) := by
  simp only [access, ht, place_sward hp ho, h, ne_eq, not_true_eq_false, Bool.false_eq_true, if_false]

end

/-! ### Units through the logical window -/

section
variable {g : Fin 4096} {o : Nat}

theorem access_tussock {i : Issuer} {write : Option Word} {a : Nat} (ho : o < 0x1000) (ht : target i a m = (0, tus g + o)) :
    access i write a m = accessUnit (.tussock g) o i write m := by
  have hg : Fin.ofNat 4096 g.val = g := Fin.ext (Nat.mod_eq_of_lt g.isLt)
  simp only [access, ht, place_tussock g.isLt ho, hg, ne_eq, not_true_eq_false, if_false]

/-- A read of a unit waits for its data once its Sward has taken it. -/
theorem accessUnit_read {u : UnitId} (hs : swardAnswers u.part m = true)
    (hq : ((m.sward u.part).access u.loc).length < 16) :
    accessUnit u o (.window super) none m = (.waits, count u.part 60 1 (issuerAttr (.window super) (u.base + o))
      (accessWaits (.window super) u.part (u.base + o) none (enqueued u ⟨o, 0, true, .window super⟩ m))) := by
  simp [accessUnit, unitAccess, enqueueAccess_room hs hq, hs]

/-- A write to a unit is answered once its Sward has taken it. -/
theorem unitAccess_write {u : UnitId} {data : Word} (hs : swardAnswers u.part m = true)
    (hq : ((m.sward u.part).access u.loc).length < 16) :
    unitAccess u o (some data) (.window super) m =
      (true, windowTaken u.part (u.base + o) (enqueued u ⟨o, data, false, .window super⟩ m)) := by
  simp [unitAccess, enqueueAccess_room hs hq, accessAnswered_window]

theorem accessUnit_write {u : UnitId} {data : Word} (hs : swardAnswers u.part m = true)
    (hq : ((m.sward u.part).access u.loc).length < 16) :
    accessUnit u o (.window super) (some data) m = (.made 0, count u.part 61 1 (issuerAttr (.window super) (u.base + o))
      (windowTaken u.part (u.base + o) (enqueued u ⟨o, data, false, .window super⟩ m))) := by
  simp [accessUnit, unitAccess_write hs hq]

end

/-! ### ACCESS_CHANNEL_ENQUEUE -/

section
variable {u : UnitId} {off : Fin 1024} {data : Word} {read : Bool}

/-- A message that arrives for the first time at a stop in service takes effect. -/
theorem received_once (f : Wafer → Wafer) (hb : (m.sward p).passedBy = false) (hd : m.heath.dups.contains p = false) :
    received p f m = f m := by
  rw [received, hb, hd, if_neg (by simp), if_neg (by simp)]

theorem accessChannelEnqueue_own (hd : m.heath.dups.contains u.part = false) (hs : swardAnswers u.part m = true)
    (hq : ((m.sward u.part).access u.loc).length < 16) : doAccessChannelEnqueue u off data read .own m =
      delivered u.part .config (u.base + 4 * off.val) (enqueued u ⟨4 * off.val, data, read, .own⟩ m) := by
  rw [doAccessChannelEnqueue, received_once _ (passedBy_of_answers hs) hd]
  simp [isPort, enqueueAccess_room hs hq]
  rintro super ⟨⟩

theorem accessChannelEnqueue_window (hact : m.heath.active = true) (hd : m.heath.dups.contains u.part = false)
    (hw : m.heath.swOut.isSome = true) (hs : swardAnswers u.part m = true)
    (hq : ((m.sward u.part).access u.loc).length < 16) : doAccessChannelEnqueue u off data false (.window super) m =
      (windowTaken u.part (u.base + 4 * off.val) (enqueued u ⟨4 * off.val, data, false, .window super⟩ m)).send .windowOk 64
        [u.base + 4 * off.val] := by
  have hb : ¬ u.base + 4 * off.val < 0x1000000 := by
    have := u.base_range
    simp only [swd] at this
    omega
  have hport := portDone_write (super := super) (a := u.base + 4 * off.val) (b := u.base + 4 * off.val) (w := 0)
    (n := windowTaken u.part (u.base + 4 * off.val) (enqueued u ⟨4 * off.val, data, false, .window super⟩ m))
    (by rw [windowTaken_heath, enqueued_heath]; exact hact) fun h => hb h.1
  rw [doAccessChannelEnqueue, received_once _ (passedBy_of_answers hs) hd]
  simp only [isPort, Bool.false_eq_true, if_false, if_true, unitAccess_write hs hq, hw, Bool.and_self]
  exact hport

end

section
variable {u : UnitId} {off : Fin 1024} {data : Word} {read : Bool}

/-- At a full queue an access is not accepted. -/
theorem accessChannelEnqueue_full (hd : m.heath.dups.contains u.part = false)
    (hq : 16 ≤ ((m.sward u.part).access u.loc).length) :
    doAccessChannelEnqueue u off data read .own m = m ∨ doAccessChannelEnqueue u off data read .own m = tally u.part 56 m := by
  cases hb : (m.sward u.part).passedBy with
  | true =>
    left
    rw [doAccessChannelEnqueue, received, if_pos ⟨u.part_lt, hb⟩]
    rintro super ⟨⟩
  | false =>
    right
    have hfull : (!swardAnswers u.part m || decide (16 ≤ ((m.sward u.part).access u.loc).length)) = true := by
      rw [decide_eq_true hq, Bool.or_true]
    rw [doAccessChannelEnqueue, received_once _ hb hd]
    · simp [isPort, enqueueAccess, hb, hfull]
    · rintro super ⟨⟩

/-- A message at a stop that is passed by, or a second copy, takes no effect on the Sward. -/
theorem received_never (f : Wafer → Wafer) (hp : p < 64)
    (h : (m.sward p).passedBy = true ∨ m.heath.dups.contains p = true) :
    received p f m = m ∨ received p f m = m.modHeath fun x => { x with dups := x.dups.filter fun k => k != p } := by
  unfold received
  split
  · exact .inl rfl
  · rename_i hb
    rcases h with h | h
    · exact absurd ⟨hp, h⟩ hb
    · rw [if_pos h]
      exact .inr rfl

end

theorem accessChannelEnqueue_never {u : UnitId} {off : Fin 1024} {data : Word} {read : Bool} {i : Issuer}
    (h : (m.sward u.part).passedBy = true ∨ m.heath.dups.contains u.part = true) :
    doAccessChannelEnqueue u off data read i m = m ∨ doAccessChannelEnqueue u off data read i m =
      m.modHeath fun x => { x with dups := x.dups.filter fun k => k != u.part } := by
  unfold doAccessChannelEnqueue
  exact received_never _ u.part_lt h

/-! ### Accesses through the logical window -/

section
variable {g : Fin 4096} {o : Fin 1024}

/-- The map leads the logical window to unit g, whose Sward has room for its access. -/
structure LogicalOpen (g : Fin 4096) (o : Fin 1024) (m : Wafer) : Prop where
  valid : m.on 0 (HTH_LMAP.VALID (m.get 0 HTH_LSEL.LOG)) = true
  phys : m.get 0 (HTH_LMAP.PHYS (m.get 0 HTH_LSEL.LOG)) = g
  mapped : mapped (tus g + 4 * o.val) = true
  answers : swardAnswers (UnitId.tussock g).part m = true
  room : ((m.sward (UnitId.tussock g).part).access (UnitId.tussock g).loc).length < 16

theorem LogicalOpen.target (h : LogicalOpen g o m) :
    target (.window super) (0x108000 + 4 * o.val) m = (0, tus g + 4 * o.val) := by
  rw [target_logical o.isLt g h.valid h.phys, directErr_tussock g.isLt (by omega) h.mapped (passedBy_of_answers h.answers)]

theorem tus_ge (g : Nat) : 0x1000000 ≤ tus g := by simp only [tus, swd]; omega

/-- A read through the logical window waits for the channel. -/
theorem logicalWindowAccess_read (hw : WindowOpen m) (h : LogicalOpen g o m) :
    doLogicalWindowAccess (.window super) 15 o none m =
      count (UnitId.tussock g).part 60 1 (issuerAttr (.window super) (tus g + 4 * o.val))
        (accessWaits (.window super) (UnitId.tussock g).part (tus g + 4 * o.val) none
          (enqueued (.tussock g) ⟨4 * o.val, 0, true, .window super⟩ m)) := by
  have hacc := accessUnit_read (super := super) (o := 4 * o.val) h.answers h.room
  rw [← access_tussock (by omega) h.target] at hacc
  exact windowAccess_waits hw (by rw [h.target]; exact readsRecord_high (Nat.le_add_right_of_le (tus_ge _))) hacc

/-- A write through the logical window is answered once it is queued. -/
theorem logicalWindowAccess_write (hw : WindowOpen m) (h : LogicalOpen g o m) (data : Word) :
    doLogicalWindowAccess (.window super) 15 o (some data) m =
      (count (UnitId.tussock g).part 61 1 (issuerAttr (.window super) (tus g + 4 * o.val))
        (windowTaken (UnitId.tussock g).part (tus g + 4 * o.val)
          (enqueued (.tussock g) ⟨4 * o.val, data, false, .window super⟩ m))).send .windowOk 64 [0x108000 + 4 * o.val] := by
  have hacc := accessUnit_write (super := super) (o := 4 * o.val) (data := data) h.answers h.room
  rw [← access_tussock (by omega) h.target] at hacc
  have hb : 0x1000000 ≤ tus g + 4 * o.val := Nat.le_add_right_of_le (tus_ge _)
  have hm := windowAccess_made hw (by rw [h.target]; exact readsRecord_high hb) hacc
  rw [h.target] at hm
  refine hm.trans (portDone_write ?_ fun k => absurd k.1 (by omega))
  rw [((Counts.refl _ _).count (by decide) _ _).heath, windowTaken_heath, enqueued_heath]
  exact hw.active

end

end Sys2Proof.Machine
end

section
/-! The user aperture, reads of peaks, and the accesses that the obligation on windows names. -/

namespace Sys2Proof.Machine

variable {m₀ m : Wafer} {p : Nat}

/-! ### The user aperture (R385) -/

section
variable {g : Fin 4096} {super : Bool} {o : Nat}

theorem apertureAccess_reset {write : Bool} (h : (m.sward p).rst = true) : apertureAccess g super write p o m = m := by
  simp [apertureAccess, h]

/-- A write is refused, and counted. -/
theorem apertureAccess_write (h : (m.sward p).rst = false) : apertureAccess g super true p o m =
    count p 66 1 (issuerAttr (.aperture g super) (swd p + 0xA000 + o)) m := by
  simp [apertureAccess, h]

/-- A user without USER_EN is shown zero. -/
theorem apertureAccess_denied (h : (m.sward p).rst = false) (he : m.on (swd p) SWD_UAPCTL.USER_EN = false) :
    apertureAccess g false false p o m =
      (count p 66 1 (issuerAttr (.aperture g false) (swd p + 0xA000 + o)) m).send .apertureData g [o, 0] := by
  simp [apertureAccess, h, he]

theorem apertureReg_frame (p : Nat) : apertureReg p 0x700 = some (swd p + 0x800C) := rfl

/-- The frame number of a Sward. -/
theorem wordRead_frame {i : Issuer} (hp : p < 64) :
    wordRead i (swd p + 0x800C) m = (BitVec.ofNat 32 (m.sward p).frame, m) := by
  rw [wordRead, place_sward hp (by decide)]
  simp only [swardRead]
  repeat rw [if_neg (by decide)]
  rw [if_pos trivial]

end

/-! ### Peaks (R371) -/

/-- No register that shows what its unit derives lies among the peaks. -/
theorem unitOverlays_off (u : UnitId) {e : Fld × Nat} (he : e ∈ unitOverlays u m) : e.1.off < 0x600 := by
  simp only [unitOverlays, List.mem_append, List.mem_flatMap, List.mem_filter, List.mem_range,
    List.mem_cons, List.not_mem_nil, or_false] at he
  rcases he with ((rfl | ⟨s, ⟨hs, -⟩, rfl | rfl | rfl⟩) | ⟨q, rfl | rfl, rfl | rfl⟩) | he
  any_goals (dsimp only; omega)
  split at he
  · exact absurd he List.not_mem_nil
  · simp only [List.mem_cons, List.not_mem_nil, or_false] at he
    rcases he with rfl | rfl | rfl | rfl | rfl | rfl | rfl <;> dsimp only <;> omega

/-- Past the overlaid registers a unit shows the word that is stored. -/
theorem unitWord_high {u : UnitId} {off : Nat} (h : 0x600 ≤ off) : unitWord u off m = m.word (u.base + off) := by
  have hnil : ((unitOverlays u m).filter fun e => e.1.off == off) = [] := by
    rw [List.filter_eq_nil_iff]
    intro e he
    have := unitOverlays_off u he
    simp; omega
  simp only [unitWord, hnil, List.foldl_nil, ite_self]

theorem PeakReg.off_ge (k : PeakReg) : 0x600 ≤ k.off := by
  cases k <;> simp only [PeakReg.off] <;> omega

/-- A read of a peak answers it and leaves its sentinel. -/
theorem doPeakRead_runs {i : Issuer} {u : UnitId} {k : PeakReg} {v : Nat} (hr : swathRuns u m = true)
    (hv : peakSentinel u k.off = some v) : doPeakRead i u k m =
      (m.putWord (u.base + k.off) (BitVec.ofNat 32 v)).send .readData u.part
        [u.base + k.off, (m.word (u.base + k.off)).toNat, (issuerAttr i (u.base + k.off)).mkind] := by
  rw [doPeakRead, if_pos hr]
  simp only [unitRead, hv, unitWord_high k.off_ge]

end Sys2Proof.Machine
end

section
/-! Settling the obligation on register accesses, in a namespace of its own: the model has a
function of the theorem's name. -/

namespace Sys2Proof.Settled

open Sys2Proof.Machine

variable {m : Wafer}

/-- Settles O51. -/
theorem windowAccess : Obligations.WindowAccess := by
  refine ⟨?_, ?_, ?_, ?_, ?_, ?_, ?_, ?_, ?_, ?_, ?_, ?_, ?_, ?_, ?_, ?_, ?_, ?_, ?_, ?_, ?_, ?_, ?_, ?_⟩
  · intro m super data hact hrun hstby hfree
    have hmir : ¬ (0x100004 < 0x1000000 ∧ mirrors (m.set 0 HTH_LSEL.LOG (getBits data 0 12)) = true) := by
      rw [mirrors_lsel, mirrors, hstby, Bool.and_false]; simp
    have hdone : windowWriteDone 0x100004 0x100004 (m.set 0 HTH_LSEL.LOG (getBits data 0 12)) = _ :=
      portDone_write (super := super) (w := 0) hact hmir
    refine .of_effect _ (fun _ => rfl) ?_ ?_
    all_goals rw [registerWrite_lsel_window ⟨hact, hrun, hfree⟩, hdone]
    · exact ((Within.refl _ m).set _ _ _ (by simp)).send _ _ _ rfl
    · refine ⟨?_, rfl⟩
      rw [Wafer.get_send, m.get_set _ _ _ (by decide)]
      exact Nat.mod_eq_of_lt (getBits_lt _ _ _)
  · intro m p super data hact hrun _ hfree hs _
    have hA := answerArea_answerIn p
    have hc (n : Wafer) := Counts.count (.refl p n) (k := 61) (by decide) 1 (issuerAttr (.window super) (swd p + 0xB000))
    refine .of_effect _ (fun _ => rfl) ?_ ?_
    all_goals rw [registerWrite_tacfg ⟨hact, hrun, hfree⟩ hs]
    · exact .send (.trans (widthClamp_within (.swardWord (windowTaken_tally_within hA) hA.sward _ (by decide)) hA.sward _)
        (count_keeps (.refl _ _) hA.sward (by decide) _ _).within) _ _ _ rfl
    · refine ⟨?_, fun h20 => ?_, Wafer.contains_send _ _ _ _⟩
      · rw [Wafer.get_send, (hc _).get _ (by decide), widthClamp_winN]
      · rw [Wafer.on, Wafer.get_send, (hc _).get _ (by decide), widthClamp, if_pos h20, ← Wafer.on]
        exact Wafer.on_set_one _ _ _ (by decide) (by decide)
  · intro m super be a data hact hrun hfree hbe
    have hbe' : be.toNat ≠ 15 := fun h => hbe (BitVec.eq_of_toNat_eq h)
    exact .of_refused (fun _ => rfl) (windowAccess_partWord ⟨hact, hrun, hfree⟩ hbe') (.refl _ m) (by decide)
  · intro m super a data hact hrun hfree h4
    refine .of_refused (fun _ => rfl) (windowAccess_misaligned ⟨hact, hrun, hfree⟩ h4) ?_ (by decide)
    exact .ite (fun _ => resendFrames_keeps (.refl _ m) heathArea_heathIn) fun _ => .refl _ m
  · intro m super be a data hbusy
    have hretry : doRegisterWrite (.window super) be a data m = m.send .windowRetry 64 [a.toNat] := by
      show Machine.windowAccess super be.toNat (some data) a.toNat m = _
      simp [Machine.windowAccess, windowBusy, hbusy]
    refine .of_effect _ (fun _ => rfl) ?_ ?_
    all_goals rw [hretry]
    · exact (Within.refl _ m).send _ _ _ rfl
    · rfl
  · intro m super g o hact hrun hfree hv hg hm hs hq
    have hw : WindowOpen m := ⟨hact, hrun, hfree⟩
    have hp : SwardIn
        { blocks := [(swd (g.val / 64), 0x40000)], swards := (· == g.val / 64), heath := true, sends := true }
        (UnitId.tussock g).part :=
      ⟨by simp [UnitId.part], by simp [UnitId.part], rfl⟩
    have hc (n : Wafer) := Counts.count (.refl (UnitId.tussock g).part n) (k := 60) (by decide) 1
      (issuerAttr (.window super) (tus g + 4 * o.val))
    refine .of_effect _ (fun _ => rfl) ?_ ?_
    all_goals rw [logicalWindowAccess_read hw ⟨hv, hg, hm, hs, hq⟩, accessWaits_window]
    · exact .trans (.modHeath (repeats_within (enqueued_keeps (.refl _ m) hp).within rfl _) _ rfl)
        (count_keeps (.refl _ _) hp (by decide) _ _).within
    · refine ⟨((hc _).access _).trans ?_, by rw [(hc _).heath, Wafer.modHeath_heath]⟩
      rw [Wafer.sward_modHeath, repeats_sward]
      exact enqueued_access
  · intro m super g o data hact hrun hfree hv hg hm hs hq
    have hw : WindowOpen m := ⟨hact, hrun, hfree⟩
    have hA := answerArea_answerIn (UnitId.tussock g).part
    have hc (n : Wafer) := Counts.count (.refl (UnitId.tussock g).part n) (k := 61) (by decide) 1
      (issuerAttr (.window super) (tus g + 4 * o.val))
    refine .of_effect _ (fun _ => rfl) ?_ ?_
    all_goals rw [logicalWindowAccess_write hw ⟨hv, hg, hm, hs, hq⟩]
    · exact .send (.trans (windowTaken_within (enqueued_keeps (.refl _ m) hA.sward).within hA)
        (count_keeps (.refl _ _) hA.sward (by decide) _ _).within) _ _ _ rfl
    · refine ⟨?_, Wafer.contains_send _ _ _ _, by rw [Wafer.send_heath, (hc _).heath, windowTaken_heath]⟩
      rw [Wafer.sward_send]
      refine ((hc _).access _).trans ?_
      rw [windowTaken_sward]
      exact enqueued_access
  · intro m super o write hact hrun hfree hv
    have ht := target_logical_invalid (super := super) o.isLt hv
    have hr : readsRecord (0x108000 + 4 * o.val) = false := by simp [readsRecord]; omega
    exact .of_refused (fun _ => rfl) (windowAccess_refused ⟨hact, hrun, hfree⟩ hr ht (by decide)) (.refl _ m) (by decide)
  · intro m i u k v hr hv
    refine .of_effect _ (fun _ => rfl) ?_ ?_
    all_goals rw [doPeakRead_runs hr hv]
    · exact ((Within.refl _ m).putWord _ _ fun _ _ => .inr ⟨_, List.mem_singleton_self _, by dsimp only; omega⟩).send
        _ _ _ rfl
    · exact ⟨by rw [Wafer.word_send, Wafer.word_putWord], rfl⟩
  · intro m i u k hr
    refine .of_idle _ (fun _ => rfl) ?_ rfl
    rw [doPeakRead, hr, if_neg (by simp)]
  · intro m u off data read hd hs hq
    have hA := answerArea_answerIn u.part
    refine .of_effect _ (fun _ => rfl) ?_ ?_
    all_goals rw [accessChannelEnqueue_own hd hs hq]
    · exact delivered_within (enqueued_keeps (.refl _ m) hA.sward).within hA _ _
    · refine ⟨by rw [delivered_sward, enqueued_access], ?_⟩
      rw [delivered_heath]
      simp [List.any_filter]
  · intro m u off data super hact hd hw hs hq
    have hA := answerArea_answerIn u.part
    refine .of_effect _ (fun _ => rfl) ?_ ?_
    all_goals rw [accessChannelEnqueue_window hact hd hw hs hq]
    · exact (windowTaken_within (enqueued_keeps (.refl _ m) hA.sward).within hA).send _ _ _ rfl
    · exact ⟨by rw [Wafer.sward_send, windowTaken_sward, enqueued_access],
        by rw [Wafer.send_heath, windowTaken_heath], Wafer.contains_send _ _ _ _⟩
  · intro m u off data read hd hq
    refine .of_effect _ (fun _ => rfl) ?_ ?_
    all_goals rcases accessChannelEnqueue_full (off := off) (data := data) (read := read) hd hq with h | h <;> rw [h]
    · exact (tally_keeps (.refl _ m) (swardArea_swardIn _) (by decide)).within
    · exact (Counts.tally (.refl _ m) (by decide)).access _
  · intro m u off data read i h
    refine .of_effect _ (fun _ => rfl) ?_ ?_
    all_goals rcases accessChannelEnqueue_never (off := off) (data := data) (read := read) (i := i) h with hr | hr <;> rw [hr]
    · exact .modHeath (.refl _ m) _ rfl
    · rw [Wafer.sward_modHeath]
  · intro m p g super o hrst
    refine .of_effect _ (fun _ => rfl) ?_ ?_
    all_goals rw [doApertureRead, apertureAccess_write hrst]
    exact (count_keeps (.refl _ m) (swardArea_swardIn p) (by decide) _ _).within
  · intro m p g super write o hrst
    exact .of_idle _ (fun _ => rfl) (apertureAccess_reset hrst) rfl
  · intro m p g super hrst he hlatch
    have ho : 4 * (0x1C0 : Fin 1024).val = 0x700 := rfl
    have hl : isPairLow (swd p + 0x800C) = false := by rw [isPairLow, place_sward p.isLt (by decide)]; rfl
    have hr := latchedRead_word (i := .aperture g super) hl hlatch
    rw [wordRead_frame p.isLt] at hr
    refine .of_effect _ (fun _ => rfl) ?_ ?_
    all_goals rw [doApertureRead, ho, apertureAccess_read hrst he (apertureReg_frame p) hr]
    · exact .send (count_keeps (.refl _ m) (swardArea_swardIn p) (by decide) _ _).within _ _ _ rfl
    · rw [BitVec.toNat_ofNat]
      exact Wafer.contains_send _ _ _ _
  · intro m p g o hrst he
    refine .of_effect _ (fun _ => rfl) ?_ ?_
    all_goals rw [doApertureRead, apertureAccess_denied hrst he]
    · exact .send (count_keeps (.refl _ m) (swardArea_swardIn p) (by decide) _ _).within _ _ _ rfl
    · exact Wafer.contains_send _ _ _ _
  · intro m super data hmir hrun hfree
    have hact : m.heath.active = true := by
      simp only [mirrors, Bool.and_eq_true] at hmir
      exact hmir.1
    have hdone : windowWriteDone 0x100004 0x100004 (m.set 0 HTH_LSEL.LOG (getBits data 0 12)) =
        (m.set 0 HTH_LSEL.LOG (getBits data 0 12)).modHeath fun h => { h with swOut := some (0x100004, some (nextRecord m)) } := by
      rw [windowWriteDone, if_neg (by rw [Wafer.set_heath, hact]; simp), mirrors_lsel, if_pos ⟨by decide, hmir⟩]
      rfl
    refine .of_effect _ (fun _ => rfl) ?_ ?_
    all_goals rw [registerWrite_lsel_window ⟨hact, hrun, hfree⟩, hdone]
    · exact ((Within.refl _ m).set _ _ _ (by simp)).modHeath _ rfl
    · refine ⟨?_, rfl⟩
      rw [Wafer.get_modHeath, m.get_set _ _ _ (by decide)]
      exact Nat.mod_eq_of_lt (getBits_lt _ _ _)
  · intro m data hact hrun
    refine .of_effect _ (fun _ => rfl) ?_ ?_
    all_goals rw [registerWrite_lsel_smbus hact hrun]
    · exact (Within.modHeath (.refl _ m) _ rfl).set _ _ _ (by simp)
    · exact ⟨rfl, Wafer.get_set_ne _ _ (apart_of _ (by decide)), Wafer.get_set _ _ _ _ (by decide)⟩
  · intro m p g super be o data hrst
    have hwrite : doRegisterWrite (.aperture g super) be (BitVec.ofNat 30 (swd p + 0xA000 + 4 * o.val)) data m =
        count p 66 1 (issuerAttr (.aperture g super) (swd p + 0xA000 + 4 * o.val)) m := by
      rw [Nat.add_assoc, doRegisterWrite, toNat_ofNat_swd p.isLt (by omega), issuedAccess_aperture p.isLt (by omega),
        Nat.add_sub_cancel_left, Option.isSome_some, apertureAccess_write hrst, Nat.add_assoc]
    refine .of_effect _ (fun _ => rfl) ?_ hwrite
    rw [hwrite]
    exact (count_keeps (.refl _ m) (swardArea_swardIn p) (by decide) _ _).within
  · intro m p super data hact hrun hfree hb hs
    have hw : WindowOpen m := ⟨hact, hrun, hfree⟩
    have ht := target_sward (i := .window super) p.isLt (by decide) (by decide) isSome_tacfg hb
    have hwait : doRegisterWrite (.window super) 15 (BitVec.ofNat 30 (swd p + 0xB000)) data m =
        (repeats (.window super) p (swd p + 0xB000) (some data) m).modHeath
          fun h => { h with swOut := some (swd p + 0xB000, none) } := by
      rw [doRegisterWrite, toNat_ofNat_swd p.isLt (by decide), ← accessWaits_window]
      exact windowAccess_waits hw (by rw [ht]; exact readsRecord_high (by simp only [swd]; omega))
        (access_sward_waits p.isLt (by decide) ht hs)
    refine .of_effect _ (fun _ => rfl) ?_ ?_
    all_goals rw [hwait]
    · exact .modHeath (repeats_within (.refl _ m) rfl _) _ rfl
    · exact ⟨rfl, repeats_any _⟩
  · intro m super a data e b hact hrun hfree ht he hr
    have he8 : e < 8 := by have := target_err_lt (.window super) a.toNat m; rwa [ht] at this
    exact .of_refused (fun _ => rfl) (windowAccess_refused ⟨hact, hrun, hfree⟩ hr ht he) (.refl _ m) he8
  · intro m super be a data hact hrun hfree
    have hidle : doRegisterWrite (.window super) be a data m = m := by
      show Machine.windowAccess super be.toNat (some data) a.toNat m = _
      simp [Machine.windowAccess, windowBusy, hact, hrun, hfree]
    exact .of_idle _ (fun _ => rfl) hidle rfl

end Sys2Proof.Settled
end

section
/-! A Heath that overheats without an alarm: where HTH_FSEV[58] holds the severity of a mere
report, source 58 is counted and its pending bit stays clear. -/

namespace Sys2Proof.Machine

/-- Heath A is active and bring-up has begun, and the severity of source 58 is 1, as no write of
HTH_FSEV leaves it (R392) but as no clause of O55 rules out. -/
def overTempReported : Wafer :=
  (Wafer.reset.set 0 (HTH_FSEV.SEV 58) 1).modHeath fun h => { h with active := true, bringUp := 1 }

/-- Severity 1 raises no alarm (R393, R399), so H_B goes over temperature with source 58 not
pending. -/
theorem not_pending_overTempReported :
    pending 58 (doHeathDieOverTemp 1 0 overTempReported) = false := by decide

/-- The record for the standby is no register's, so an alarm pends as the effect left it. -/
theorem pending_mirrorStep (c : Nat) (m n : Wafer) : pending c (mirrorStep m n) = pending c n := by
  simp [pending, pairBit, Wafer.get, Wafer.word]

/-- A statement of what a command gives speaks of its effect, up to the record for the standby. -/
theorem Gives.effect {c : Instr} {m : Wafer} {A : Area} {P : Wafer → Prop} (f : Wafer → Wafer)
    (e : ∀ s, exec c s = s.run f) (g : Gives c m A P) :
    ∃ n, mirrorStep m n = mirrorStep m (f m) ∧ P n := by
  obtain ⟨n, hn, -, hp⟩ := g []
  refine ⟨n, ?_, hp⟩
  rw [e] at hn
  simpa [State.run, eq_comm] using hn

/-- Refutes O55: the clause of HEATH_DIE_OVER_TEMP for a Heath that is not the active one says that
source 58 is pending, with no hypothesis on HTH_FSEV[58]; at severity 1, which is below that
register's MIN, the event is counted and raises no alarm. -/
theorem not_bringUp : ¬ Obligations.BringUp := by
  unfold Obligations.BringUp
  rintro ⟨-, -, -, -, -, -, -, -, -, -, -, -, -, -, -, -, -, -, -, -, overTemp, -, -⟩
  have gives := overTemp overTempReported 1 0 (by decide) (by decide) (by decide) (by decide) (by decide)
  obtain ⟨n, same, -, -, -, pends⟩ := gives.effect (doHeathDieOverTemp 1 0) (fun _ => rfl)
  have unraised : pending 58 n = false := by
    rw [← pending_mirrorStep 58 overTempReported n, same, pending_mirrorStep,
      not_pending_overTempReported]
  rw [unraised] at pends
  contradiction

end Sys2Proof.Machine
end

section
/-! WTIME: one step either leaves it no lower or starts it at zero, at the release of the Heaths from
a reset in which VSTBY was lost (R50). -/

namespace Sys2Proof.Machine

/-- The release of the Heaths moves WTIME only where VSTBY was lost, and then to zero. -/
theorem doHeathResetRelease_wtime (straps : Fin 4) (test : Bool) (m : Wafer) :
    m.wtime ≤ (doHeathResetRelease straps test m).wtime ∨
      (m.heath.vstbyLost = true ∧ (doHeathResetRelease straps test m).wtime = 0) := by
  unfold doHeathResetRelease
  split
  · cases h : m.heath.vstbyLost with
    | false => exact .inl (Steady.refl m).modHeath.set.setB.setB.setStep.time
    | true => exact .inr ⟨rfl, rfl⟩
  · exact .inl (le_refl _)

/-- Settles O6: every effect but that release is steady. -/
theorem timeNeverStepsBack : Obligations.TimeNeverStepsBack := by
  intro s t hstep
  unfold step at hstep
  split at hstep
  case h_1 =>
    cases hstep
    exact .inl (le_refl _)
  case h_2 c rest hq =>
    by_cases hc : ∃ straps test, c = .heathResetRelease straps test
    · obtain ⟨straps, test, rfl⟩ := hc
      cases hstep
      rcases doHeathResetRelease_wtime straps test s.w with h | ⟨hlost, hzero⟩
      · exact .inl (by simpa using h)
      · exact .inr ⟨⟨straps, test, rest, hq⟩, hlost, by simpa using hzero⟩
    · obtain ⟨f, e, steady⟩ := exec_runsSteadily c fun straps test k => hc ⟨straps, test, k⟩
      rw [e, State.run_next] at hstep
      cases hstep
      exact .inl (by simpa using (steady s.w).time)

end Sys2Proof.Machine
end

section
/-! A trip message given up that leaves a trip message behind: where HTH_FSEV[42] holds the
severity of a partition trip, giving up the message of a trip trips its partition again. -/

namespace Sys2Proof.Machine

/-- The trip message to partition 0 that no Sward answered for 1 ms. -/
def unansweredTrip : Unicast := ⟨0, .trip, 0, 0, 1, []⟩

/-- The active Heath waits for the answer of partition 0 to a trip, and source 42 (a message given
up) has the severity of a partition trip. -/
def tripsOnAbandon : Wafer :=
  (Wafer.reset.set 0 (HTH_FSEV.SEV 42) 4).modHeath fun h => { h with active := true, unicasts := [unansweredTrip] }

/-- The first trip message is dropped; source 42 then trips partition 0, which sends another. -/
theorem tripsOnAbandon_awaits :
    (doHedgerowAbandon 0 .trip 0 800000 tripsOnAbandon).heath.unicasts.any (isUnicast 0 .trip 0) = true := by
  decide

/-- The record for the standby leaves the unicasts that await an answer. -/
theorem unicasts_mirrorStep (m n : Wafer) : (mirrorStep m n).heath.unicasts = n.heath.unicasts := by
  rcases mirrorStep_cases m n with h | ⟨-, h⟩ | h <;> rw [h] <;> rfl

/-- Refutes O45: HEDGEROW_ABANDON says that no message of the kind given up to that partition awaits
an answer any more, with no hypothesis on HTH_FSEV[42]; at severity 4, the one of a partition trip,
giving up a trip message sends the partition its trip again. -/
theorem not_hedgerowAndTimeBase : ¬ Obligations.HedgerowAndTimeBase := by
  unfold Obligations.HedgerowAndTimeBase
  rintro ⟨-, -, -, -, -, -, -, -, -, -, -, -, -, abandon, -⟩
  have gives := abandon tripsOnAbandon 0 .trip unansweredTrip 800000 (by decide) (by decide) (by decide)
  obtain ⟨n, same, -, dropped⟩ := gives.effect (doHedgerowAbandon 0 .trip 0 800000) (fun _ => rfl)
  have awaits : n.heath.unicasts.any (isUnicast 0 .trip 0) = true := by
    rw [← unicasts_mirrorStep tripsOnAbandon n, same, unicasts_mirrorStep, tripsOnAbandon_awaits]
  have gone : n.heath.unicasts.any (isUnicast 0 .trip 0) = false := dropped
  rw [gone] at awaits
  contradiction

end Sys2Proof.Machine
end

section
/-! A takeover that reaches beyond the controller's registers: a Sward that came out of reset while
no Heath was active waits for its SWD_SCHED, and the Heath that takes over writes it. -/

namespace Sys2Proof.Machine

/-- The standby Heath after POWER_READY and bring-up; Sward 0 has come out of its reset and waits
for its SWD_SCHED, which was last written with RUN set. -/
def awaitsSchedule : Wafer :=
  (Wafer.reset.modHeath fun h =>
    { h with standby := true, ready := true, bringUp := 11, sched := Store.set zeroWord h.sched 0 0x80000000 }).modSward 0
      fun x => { x with schedDue := true }

theorem awaitsSchedule_stopped : awaitsSchedule.word (swd 0 + SWD_SCHED.RUN.off) = 0 := by decide

/-- The Heath that takes over writes the SWD_SCHED of Sward 0 (R326). -/
theorem awaitsSchedule_runs :
    (doHeathTakeover 0 awaitsSchedule).word (swd 0 + SWD_SCHED.RUN.off) = 0x80000000 := by
  decide +kernel

/-- The record for the standby is no register's. -/
theorem word_mirrorStep (m n : Wafer) (a : Nat) : (mirrorStep m n).word a = n.word a := by
  simp [Wafer.word]

/-- A statement of what a command gives bounds the words that its effect changes. -/
theorem Gives.word {c : Instr} {m : Wafer} {A : Area} {P : Wafer → Prop} (f : Wafer → Wafer)
    (e : ∀ s, exec c s = s.run f) (g : Gives c m A P) {a : Nat} (outside : ∀ i, i < 32 → ¬ A.Bit a i) :
    (f m).word a = m.word a := by
  obtain ⟨n, hn, within, -⟩ := g []
  rw [e] at hn
  have same : mirrorStep m n = mirrorStep m (f m) := by simpa [State.run, eq_comm] using hn
  rw [← word_mirrorStep m (f m), ← same, word_mirrorStep, within.word outside]

/-- Refutes O46: HEATH_TAKEOVER says that the only registers a takeover changes are the
controller's own, below address 0x1000000; where a Sward still waits for its SWD_SCHED after a
Sward reset (R326), the Heath that takes over writes that register of the Sward too. -/
theorem not_heathPair : ¬ Obligations.HeathPair := by
  unfold Obligations.HeathPair
  rintro ⟨-, takeover, -⟩
  have gives := takeover awaitsSchedule 0 (by decide) (by decide)
  have kept := gives.word (doHeathTakeover 0) (fun _ => rfl) (a := swd 0 + SWD_SCHED.RUN.off)
    (by simp [Area.Bit, swd])
  rw [awaitsSchedule_runs, awaitsSchedule_stopped] at kept
  contradiction

end Sys2Proof.Machine
end

section
/-! What a field reads after writes to other fields of its block, after the operations that write
no register, and after a Sward has counted; a register that a masked write changes in part. -/

namespace Sys2Proof.Machine

variable {A : Area} {m₀ m : Wafer} {p : Nat}

/-! ### Fields of one block -/

/-- A write to a field of a block leaves the block's other fields alone. -/
theorem Wafer.get_set_beside (m : Wafer) {b : Nat} {f g : Fld} (v : Nat)
    (h : f.off ≠ g.off ∨ f.lo + f.wid ≤ g.lo ∨ g.lo + g.wid ≤ f.lo) : (m.set b f v).get b g = m.get b g :=
  m.get_set_ne v (apart_of b h)

/-- A field reads back a number that it can hold. -/
theorem Wafer.get_set_fits (m : Wafer) (b : Nat) {f : Fld} {v : Nat} (h : f.lo + f.wid ≤ 32 ∧ v < 2 ^ f.wid) :
    (m.set b f v).get b f = v := by
  rw [m.get_set b f v h.1, Nat.mod_eq_of_lt h.2]

/-- A flag that was set, and of more bits than none. -/
theorem Wafer.on_set_one_of (m : Wafer) (b : Nat) {f : Fld} (h : f.lo + f.wid ≤ 32 ∧ 0 < f.wid) :
    (m.set b f 1).on b f = true := m.on_set_one b f h.1 h.2

theorem Wafer.on_set_zero_of (m : Wafer) (b : Nat) {f : Fld} (h : f.lo + f.wid ≤ 32 ∧ 0 < f.wid) :
    (m.set b f 0).on b f = false := m.on_set_zero b f h.1 h.2

@[simp] theorem Wafer.on_send (m : Wafer) (k : OutKind) (d : Nat) (l : List Nat) (b : Nat) (g : Fld) :
    (m.send k d l).on b g = m.on b g := rfl

@[simp] theorem Wafer.on_at (m : Wafer) (w b : Nat) (g : Fld) : (m.at w).on b g = m.on b g := rfl

@[simp] theorem Wafer.on_modHeath (m : Wafer) (f : HeathSt → HeathSt) (b : Nat) (g : Fld) :
    (m.modHeath f).on b g = m.on b g := rfl

@[simp] theorem Wafer.on_modUnit (m : Wafer) (u : UnitId) (f : UnitSt → UnitSt) (b : Nat) (g : Fld) :
    (m.modUnit u f).on b g = m.on b g := rfl

/-- A field of another register than the one that was stored. -/
theorem Wafer.on_putWord_ne (m : Wafer) {a b : Nat} {f : Fld} (v : Word) (h : b + f.off ≠ a) :
    (m.putWord a v).on b f = m.on b f := by
  rw [Wafer.on, Wafer.get, m.word_putWord_ne v h, Wafer.on, Wafer.get]

theorem Wafer.on_of_word {m n : Wafer} {b : Nat} {f : Fld} (h : n.word (b + f.off) = m.word (b + f.off)) :
    n.on b f = m.on b f := by
  rw [Wafer.on, Wafer.get, h, Wafer.on, Wafer.get]

/-! ### A masked write -/

/-- Bits that a masked write takes. -/
theorem getBits_masked {lo wid M : Nat} (w data : Word)
    (h : ∀ i, i < 32 → lo ≤ i → i < lo + wid → (BitVec.ofNat 32 M).getLsbD i = true) :
    getBits ((w &&& ~~~BitVec.ofNat 32 M) ||| (data &&& BitVec.ofNat 32 M)) lo wid = getBits data lo wid :=
  getBits_congr fun i hi h1 h2 => by
    have := h i hi h1 h2
    rw [BitVec.getLsbD_or, BitVec.getLsbD_and, BitVec.getLsbD_and, BitVec.getLsbD_not, this]
    simp

/-- Bits that a W1C write clears. -/
theorem getBits_w1c {lo wid mask : Nat} {data : Word} (w : Word)
    (h : ∀ i, i < 32 → lo ≤ i → i < lo + wid → (data &&& BitVec.ofNat 32 mask).getLsbD i = true) :
    getBits (w &&& ~~~(data &&& BitVec.ofNat 32 mask)) lo wid = 0 := by
  have hz : getBits (0 : Word) lo wid = 0 := by simp [getBits]
  rw [← hz]
  refine getBits_congr fun i hi h1 h2 => ?_
  rw [BitVec.getLsbD_and, BitVec.getLsbD_not, h i hi h1 h2]
  simp

/-- A flag whose bits a W1C write clears. -/
theorem Wafer.on_w1c (m : Wafer) (b : Nat) {f : Fld} {mask : Nat} {data : Word}
    (h : ∀ i, i < 32 → f.lo ≤ i → i < f.lo + f.wid → (data &&& BitVec.ofNat 32 mask).getLsbD i = true) :
    (m.w1c (b + f.off) mask data).on b f = false := by
  rw [Wafer.on, Wafer.get, Wafer.w1c, Wafer.word_putWord, getBits_w1c _ h]
  rfl

/-! ### Counting -/

/-- What a Sward keeps beside its reports stays as it was. -/
theorem Counts.keeps {α : Type} (h : Counts p m₀ m) (f : SwardSt → α)
    (hf : ∀ x : SwardSt, f x = f x.besideReports := by intro; rfl) : f (m.sward p) = f (m₀.sward p) := by
  rw [hf, h.hidden, ← hf]

theorem Counts.on (h : Counts p m₀ m) (f : Fld) (hf : f.off < 0xA000 ∨ 0xAC00 ≤ f.off) :
    m.on (swd p) f = m₀.on (swd p) f := by rw [Wafer.on, h.get f hf, Wafer.on]

/-- A change of header levels counts at most. -/
theorem Counts.setHeader (f : SwardSt → SwardSt) : Counts p (m.modSward p f) (setHeader p f m) :=
  .ite (.refl p _) (.tally (.refl p _) (by decide))

end Sys2Proof.Machine
end

section
/-! The remap window (R31 to R33): a write of HTH_MAPCTL that clears no flag, and the pending copy
that a COMMIT writes out. -/

namespace Sys2Proof.Machine

/-! ### A register word written back -/

/-- The wafer with the word at an address stored again. -/
def Wafer.rewrite (m : Wafer) (a : Nat) : Wafer := m.putWord a (m.word a)

/-- Writing back a word changes no word. -/
@[simp] theorem Wafer.word_rewrite (m : Wafer) (a b : Nat) : (m.rewrite a).word b = m.word b := by
  by_cases h : b = a
  · rw [h, Wafer.rewrite, Wafer.word_putWord]
  · rw [Wafer.rewrite, m.word_putWord_ne _ h]

@[simp] theorem Wafer.get_rewrite (m : Wafer) (a b : Nat) (f : Fld) : (m.rewrite a).get b f = m.get b f := by
  rw [Wafer.get, m.word_rewrite, Wafer.get]

@[simp] theorem Wafer.on_rewrite (m : Wafer) (a b : Nat) (f : Fld) : (m.rewrite a).on b f = m.on b f := by
  rw [Wafer.on, m.get_rewrite, Wafer.on]

@[simp] theorem Wafer.rewrite_heath (m : Wafer) (a : Nat) : (m.rewrite a).heath = m.heath := rfl

theorem Within.rewrite {A : Area} {m₀ m : Wafer} (h : Within A m₀ m) (a : Nat) : Within A m₀ (m.rewrite a) :=
  h.trans ⟨rfl, fun b i _ _ => by rw [m.word_rewrite], fun _ _ => rfl, fun _ _ => rfl, fun _ => rfl,
    fun _ => rfl, fun _ => rfl⟩

/-- A write that sets none of the flags' bits clears none of them. -/
theorem Wafer.w1c_of_none (m : Wafer) (a mask : Nat) (data : Word) (h : data &&& BitVec.ofNat 32 mask = 0) :
    m.w1c a mask data = m.rewrite a := by
  rw [Wafer.w1c, h, Wafer.rewrite]
  congr 1
  exact BitVec.and_allOnes

/-! ### The pending copy -/

@[simp] theorem mapPending_rewrite (m : Wafer) (a n : Nat) : mapPending n (m.rewrite a) = mapPending n m := by
  rw [mapPending, m.word_rewrite, m.rewrite_heath, mapPending]

@[simp] theorem mapUnique_rewrite (m : Wafer) (a : Nat) : mapUnique (m.rewrite a) = mapUnique m := by
  simp only [mapUnique, mapPending_rewrite]

/-- The map with a list of entries written, the first of them last. -/
def mapWritten (l : List (Fin 4096 × Word)) (m : Wafer) : Wafer :=
  l.foldr (fun e m => m.putWord (0x101000 + 4 * e.1.val) e.2) m

/-- Of the entries with one number the first is the one that the map holds. -/
theorem word_mapWritten (l : List (Fin 4096 × Word)) (m : Wafer) (k : Fin 4096) :
    (mapWritten l m).word (0x101000 + 4 * k.val) = mapPending k (m.modHeath fun h => { h with mapPend := l }) := by
  rw [mapPending, Wafer.modHeath_heath, Wafer.word_modHeath]
  induction l with
  | nil => rfl
  | cons e t ih =>
    show ((mapWritten t m).putWord _ _).word _ = _
    by_cases h : e.1.val = k.val
    · rw [List.find?_cons_of_pos (by simpa using h), ← h, Wafer.word_putWord]
    · rw [List.find?_cons_of_neg (by simpa using h), Wafer.word_putWord_ne _ _ (by omega), ih]

/-- The map with the pending entries written holds the pending copy. -/
theorem word_mapWritten_pending {m n : Wafer} (k : Fin 4096)
    (hw : n.word (0x101000 + 4 * k.val) = m.word (0x101000 + 4 * k.val)) :
    (mapWritten m.heath.mapPend n).word (0x101000 + 4 * k.val) = mapPending k m := by
  rw [word_mapWritten, mapPending, Wafer.modHeath_heath, Wafer.word_modHeath, hw, mapPending]

/-- Writing entries changes no register beside the map. -/
theorem word_mapWritten_ne (l : List (Fin 4096 × Word)) (m : Wafer) {a : Nat} (h : a < 0x101000) :
    (mapWritten l m).word a = m.word a := by
  induction l with
  | nil => rfl
  | cons e t ih => exact (Wafer.word_putWord_ne _ _ (by omega)).trans ih

theorem get_mapWritten (l : List (Fin 4096 × Word)) (m : Wafer) (f : Fld) (h : f.off < 0x101000) :
    (mapWritten l m).get 0 f = m.get 0 f := by
  rw [Wafer.get, word_mapWritten_ne l m (by omega), Wafer.get]

theorem Within.mapWritten {A : Area} {m₀ m : Wafer} (h : Within A m₀ m) (l : List (Fin 4096 × Word))
    (hA : (0x101000, 0x4000) ∈ A.blocks) : Within A m₀ (mapWritten l m) := by
  induction l with
  | nil => exact h
  | cons e t ih => exact ih.putWord _ _ fun _ _ => .inr ⟨_, hA, by dsimp only; omega, by dsimp only; omega⟩

/-- Closing the window changes no word of the map. -/
theorem word_mapClose (m : Wafer) (k : Fin 4096) :
    (mapClose m).word (0x101000 + 4 * k.val) = m.word (0x101000 + 4 * k.val) := by
  rw [mapClose, Wafer.word_set_ne _ _ (by dsimp only; omega), Wafer.word_modHeath]

theorem Within.mapClose {A : Area} {m₀ m : Wafer} (h : Within A m₀ m) (hh : A.heath = true)
    (hf : (0, HTH_MAPCTL.OPEN) ∈ A.fields) : Within A m₀ (mapClose m) :=
  (h.modHeath _ hh).set _ _ _ (.inl hf)

theorem on_mapClose (m : Wafer) : (mapClose m).on 0 HTH_MAPCTL.OPEN = false :=
  Wafer.on_set_zero _ _ _ (by decide) (by decide)

/-! ### Writes of HTH_MAPCTL -/

/-- COMMIT of a copy with no physical number twice. -/
theorem mapCommit_unique {m : Wafer} (h : mapUnique m = true) :
    mapCommit m = mapClose (mapWritten m.heath.mapPend (m.inc 0 HTH_MAPCTL.MAP_GEN)) := by
  rw [mapCommit, if_pos h]
  rfl

/-- COMMIT of a copy with a physical number twice. -/
theorem mapCommit_twice {m : Wafer} (h : mapUnique m = false) :
    mapCommit m = mapClose (m.set 0 HTH_MAPCTL.MAP_ERR 1) := by
  rw [mapCommit, if_neg (by simp [h])]

theorem doMapOpen_closed {m : Wafer} (h : m.on 0 HTH_MAPCTL.OPEN = false) :
    doMapOpen m = mapOpen (m.rewrite 0x100000) := by
  rw [doMapOpen, mapctlWrite, m.w1c_of_none _ _ _ (by decide)]
  simp [h]

theorem doMapOpen_opened {m : Wafer} (h : m.on 0 HTH_MAPCTL.OPEN = true) :
    doMapOpen m = m.rewrite 0x100000 := by
  rw [doMapOpen, mapctlWrite, m.w1c_of_none _ _ _ (by decide)]
  simp [h]

theorem doMapDiscard_closed {m : Wafer} (h : m.on 0 HTH_MAPCTL.OPEN = false) :
    doMapDiscard m = m.rewrite 0x100000 := by
  rw [doMapDiscard, mapctlWrite, m.w1c_of_none _ _ _ (by decide)]
  simp [h]

theorem doMapDiscard_opened {m : Wafer} (h : m.on 0 HTH_MAPCTL.OPEN = true) :
    doMapDiscard m = mapClose (m.rewrite 0x100000) := by
  rw [doMapDiscard, mapctlWrite, m.w1c_of_none _ _ _ (by decide)]
  simp [h]

theorem doMapCommit_opened {m : Wafer} (opens : Bool) (h : m.on 0 HTH_MAPCTL.OPEN = true) :
    doMapCommit opens m = mapCommit (m.rewrite 0x100000) := by
  have hb : (BitVec.ofNat 32 (2 + bit opens)).getLsbD 1 = true := by cases opens <;> rfl
  rw [doMapCommit, mapctlWrite, m.w1c_of_none _ _ _ (by cases opens <;> rfl), Wafer.on_rewrite, h, hb]

theorem doMapCommit_closed {m : Wafer} (opens : Bool) (h : m.on 0 HTH_MAPCTL.OPEN = false) :
    doMapCommit opens m = (m.rewrite 0x100000).set 0 HTH_MAPCTL.MAP_WERR 1 := by
  have hb : (BitVec.ofNat 32 (2 + bit opens)).getLsbD 1 = true := by cases opens <;> rfl
  rw [doMapCommit, mapctlWrite, m.w1c_of_none _ _ _ (by cases opens <;> rfl), Wafer.on_rewrite, h, hb]

/-- An entry of the pending copy reads as it was last written. -/
theorem mapPending_written (m : Wafer) (k : Fin 4096) (w : Word) (l : List (Fin 4096 × Word)) :
    mapPending k (m.modHeath fun h => { h with mapPend := (k, w) :: l }) = w := by
  rw [mapPending, Wafer.modHeath_heath, List.find?_cons_of_pos (by simp)]

/-- What COMMIT in an open window leaves behind, for a copy in order and for one that is not. -/
theorem mapCommit_gives (m : Wafer) :
    (mapCommit m).on 0 HTH_MAPCTL.OPEN = false ∧
    (mapCommit m).heath.mapPend = [] ∧
    (mapUnique m = true → (mapCommit m).get 0 HTH_MAPCTL.MAP_GEN = (m.get 0 HTH_MAPCTL.MAP_GEN + 1) % 256) ∧
    (mapUnique m = true → ∀ k : Fin 4096, (mapCommit m).word (0x101000 + 4 * k.val) = mapPending k m) ∧
    (mapUnique m = false → (mapCommit m).on 0 HTH_MAPCTL.MAP_ERR = true ∧
      ∀ k : Fin 4096, (mapCommit m).word (0x101000 + 4 * k.val) = m.word (0x101000 + 4 * k.val)) := by
  cases h : mapUnique m with
  | true =>
    rw [mapCommit_unique h]
    refine ⟨on_mapClose _, rfl, fun _ => ?_, fun _ k => ?_, fun e => by simp at e⟩
    · rw [mapClose, Wafer.get_set_ne _ _ (apart_of _ (by decide)), Wafer.get_modHeath,
        get_mapWritten _ _ _ (by decide), Wafer.inc, Wafer.get_set _ _ _ _ (by decide)]
      rfl
    · rw [word_mapClose, Wafer.inc, word_mapWritten_pending k (Wafer.word_set_ne _ _ (by dsimp only; omega))]
  | false =>
    rw [mapCommit_twice h]
    refine ⟨on_mapClose _, rfl, fun e => by simp at e, fun e => by simp at e, fun _ => ⟨?_, fun k => ?_⟩⟩
    · rw [mapClose, Wafer.on_set_ne _ _ (by decide), Wafer.on_modHeath]
      exact Wafer.on_set_one _ _ _ (by decide) (by decide)
    · rw [word_mapClose, Wafer.word_set_ne _ _ (by dsimp only; omega)]

theorem Within.mapCommit {A : Area} {m₀ m : Wafer} (h : Within A m₀ m) (hh : A.heath = true)
    (hb : (0x101000, 0x4000) ∈ A.blocks) (hg : (0, HTH_MAPCTL.MAP_GEN) ∈ A.fields)
    (he : (0, HTH_MAPCTL.MAP_ERR) ∈ A.fields) (ho : (0, HTH_MAPCTL.OPEN) ∈ A.fields) :
    Within A m₀ (mapCommit m) := by
  cases hu : mapUnique m with
  | true =>
    rw [mapCommit_unique hu]
    exact ((h.set _ _ _ (.inl hg)).mapWritten _ hb).mapClose hh ho
  | false =>
    rw [mapCommit_twice hu]
    exact (h.set _ _ _ (.inl he)).mapClose hh ho

/-- Settles O49, case by case: each command is a write of HTH_MAPCTL that clears no flag, or a write
of the map. -/
theorem remapWindow : Obligations.RemapWindow := by
  unfold Obligations.RemapWindow
  refine ⟨?_, ?_, ?_, ?_, ?_, ?_, ?_, ?_, ?_⟩
  · intro m hopen hprst
    have hp : prstAll (m.rewrite 0x100000) = true := hprst
    refine .of_effect _ (fun _ => rfl) ?_ ?_
    all_goals rw [doMapOpen_closed hopen, mapOpen, if_pos hp]
    · exact ((Within.refl _ m).rewrite _ |>.modHeath _ rfl).set _ _ _ (by simp)
    · exact ⟨Wafer.on_set_one _ _ _ (by decide) (by decide), rfl, rfl⟩
  · intro m hopen
    refine .of_effect _ (fun _ => rfl) ?_ ?_
    all_goals rw [doMapOpen_opened hopen]
    · exact (Within.refl _ m).rewrite _
    · rw [Wafer.rewrite_heath]
  · intro m hopen
    refine .of_effect _ (fun _ => rfl) ?_ ?_
    all_goals rw [doMapDiscard_closed hopen]
    · exact (Within.refl _ m).rewrite _
    · rw [Wafer.on_rewrite, hopen]
  · intro m hopen hprst
    have hp : ¬ prstAll (m.rewrite 0x100000) = true := by
      show ¬ prstAll m = true
      simp [hprst]
    refine .of_effect _ (fun _ => rfl) ?_ ?_
    all_goals rw [doMapOpen_closed hopen, mapOpen, if_neg hp]
    · exact ((Within.refl _ m).rewrite _).set _ _ _ (by simp)
    · exact Wafer.on_set_one _ _ _ (by decide) (by decide)
  · intro m opens hopen
    refine .of_effect _ (fun _ => rfl) ?_ ?_
    all_goals rw [doMapCommit_opened opens hopen]
    · exact ((Within.refl _ m).rewrite _).mapCommit rfl (by simp) (by simp) (by simp) (by simp)
    · simpa using mapCommit_gives (m.rewrite 0x100000)
  · intro m opens hopen
    refine .of_effect _ (fun _ => rfl) ?_ ?_
    all_goals rw [doMapCommit_closed opens hopen]
    · exact ((Within.refl _ m).rewrite _).set _ _ _ (by simp)
    · exact Wafer.on_set_one _ _ _ (by decide) (by decide)
  · intro m hopen
    refine .of_effect _ (fun _ => rfl) ?_ ?_
    all_goals rw [doMapDiscard_opened hopen]
    · exact ((Within.refl _ m).rewrite _).mapClose rfl (by simp)
    · exact ⟨on_mapClose _, rfl⟩
  · intro m k data hopen
    refine .of_effect _ (fun _ => rfl) ?_ ?_
    all_goals rw [doLmapWrite, lmapWrite, if_pos hopen]
    · exact (Within.refl _ m).modHeath _ rfl
    · exact mapPending_written _ _ _ _
  · intro m k data hopen
    refine .of_effect _ (fun _ => rfl) ?_ ?_
    all_goals rw [doLmapWrite, lmapWrite, if_neg (by simp [hopen])]
    · exact (Within.refl _ m).set _ _ _ (by simp)
    · exact Wafer.on_set_one _ _ _ (by decide) (by decide)

end Sys2Proof.Machine
end

section
/-! Domain control of a partition (R303), its trips (R396 to R398) and its FENCE line (R77). -/

namespace Sys2Proof.Machine

variable {A : Area} {m₀ m : Wafer} {p : Nat}

/-! ### SWD_DOMCTL -/

/-- SWD_DOMCTL (Table 9.14): its bits 1 to 7 are writable. -/
def domctlReg : RegDesc :=
  ⟨0x1000, 4, 1, 4, 1, 0, 0, 0xFE, 0, 5000, false, fun c _ _ => if isEdge c.index then 0xCA else 0x0A⟩

theorem findReg_domctl : findReg swardRegs 0x1000 = some (domctlReg, 0, 0) := rfl

/-- SWD_DOMCTL takes a write in its writable bits. -/
theorem plainWrite_domctl (hp : p < 64) (data : Word) : plainWrite (swd p + 0x1000) data m =
    m.putWord (swd p + 0x1000)
      ((m.word (swd p + 0x1000) &&& ~~~BitVec.ofNat 32 0xFE) ||| (data &&& BitVec.ofNat 32 0xFE)) :=
  plainWrite_masked (lookupReg_sward _ hp (by decide) findReg_domctl) (by decide) rfl data

/-- The target that a write of SWD_DOMCTL leaves: a partition without an edge has no LINK and MIF. -/
def domctlTaken (p : Nat) (data : Word) : Word := if isEdge p then data else data &&& 0x3E

/-- A field of SWD_DOMCTL that every partition has reads as written. -/
theorem getBits_domctlTaken (data : Word) {lo wid : Nat} (h : lo + wid ≤ 6 ∧ 1 ≤ lo) :
    getBits (domctlTaken p data) lo wid = getBits data lo wid := by
  unfold domctlTaken
  split
  · rfl
  · refine getBits_congr fun i hi h1 h2 => ?_
    have : ∀ j : Fin 32, 1 ≤ j.val → j.val < 6 → (0x3E : Word).getLsbD j.val = true := by decide
    rw [BitVec.getLsbD_and, this ⟨i, hi⟩ (by dsimp only; omega) (by dsimp only; omega), Bool.and_true]

/-- LINK and MIF read as written at an edge and as 0 elsewhere. -/
theorem getBits_domctlTaken_edge (data : Word) {lo : Nat} (h : lo = 6 ∨ lo = 7) :
    getBits (domctlTaken p data) lo 1 = if isEdge p then getBits data lo 1 else 0 := by
  unfold domctlTaken
  split
  · rfl
  · have hz : getBits (0 : Word) lo 1 = 0 := by simp [getBits]
    rw [← hz]
    refine getBits_congr fun i hi h1 h2 => ?_
    have : ∀ j : Fin 32, 6 ≤ j.val → (0x3E : Word).getLsbD j.val = false := by decide
    rw [BitVec.getLsbD_and, this ⟨i, hi⟩ (by dsimp only; omega), Bool.and_false]
    exact (BitVec.getLsbD_zero).symm

/-- A request that the target adjusts (R306). -/
def domAdjusted (data : Word) : Bool :=
  data.getLsbD 1 && (decide (getBits data 2 2 < 2) || data.getLsbD 4 || data.getLsbD 5)

/-- The register with a write taken, and the flag of an adjusted request. -/
def domctlStored (p : Nat) (data : Word) (m : Wafer) : Wafer :=
  let n := plainWrite (swd p + 0x1000) (domctlTaken p data) m
  if domAdjusted data then n.set (swd p) SWD_DOMSTAT.DOM_ADJ 1 else n

theorem domctlWrite_eq (data : Word) : domctlWrite p data m =
    if data.getLsbD 4 ∧ (domctlStored p data m).on (swd p) SWD_BSTAT.FENCE = false then
      (domctlStored p data m).set (swd p) SWD_DOMSTAT.SPINE_REJ 1
    else domctlStored p data m := rfl

theorem domctlStored_word (hp : p < 64) (data : Word) : (domctlStored p data m).word (swd p + 0x1000) =
    (m.word (swd p + 0x1000) &&& ~~~BitVec.ofNat 32 0xFE) |||
      (domctlTaken p data &&& BitVec.ofNat 32 0xFE) := by
  rw [domctlStored, plainWrite_domctl hp]
  split
  · rw [Wafer.word_set_ne _ _ (by simp), Wafer.word_putWord]
  · rw [Wafer.word_putWord]

theorem domctlStored_fence (hp : p < 64) (data : Word) :
    (domctlStored p data m).on (swd p) SWD_BSTAT.FENCE = m.on (swd p) SWD_BSTAT.FENCE := by
  rw [domctlStored, plainWrite_domctl hp]
  split
  · rw [Wafer.on_set_ne _ _ (by decide), Wafer.on_putWord_ne _ _ (by simp)]
  · rw [Wafer.on_putWord_ne _ _ (by simp)]

theorem domctlStored_adjusted {data : Word} (h : domAdjusted data = true) :
    (domctlStored p data m).on (swd p) SWD_DOMSTAT.DOM_ADJ = true := by
  rw [domctlStored, if_pos h]
  exact Wafer.on_set_one _ _ _ (by decide) (by decide)

/-- Only the flags of SWD_DOMSTAT follow the store. -/
theorem domctlWrite_word (data : Word) : (domctlWrite p data m).word (swd p + 0x1000) =
    (domctlStored p data m).word (swd p + 0x1000) := by
  rw [domctlWrite_eq]
  split
  · rw [Wafer.word_set_ne _ _ (by simp)]
  · rfl

/-- A field of SWD_DOMCTL reads as the write left it. -/
theorem domctlWrite_get (hp : p < 64) (data : Word) (f : Fld) (ho : f.off = 0x1000)
    (h : 1 ≤ f.lo ∧ f.lo + f.wid ≤ 8) :
    (domctlWrite p data m).get (swd p) f = getBits (domctlTaken p data) f.lo f.wid := by
  rw [Wafer.get, ho, domctlWrite_word, domctlStored_word hp]
  refine getBits_masked _ _ fun i hi h1 h2 => ?_
  have : ∀ j : Fin 32, 1 ≤ j.val → j.val < 8 → (BitVec.ofNat 32 0xFE).getLsbD j.val = true := by decide
  exact this ⟨i, hi⟩ (by dsimp only; omega) (by dsimp only; omega)

theorem domctlWrite_adjusted {data : Word} (h : domAdjusted data = true) :
    (domctlWrite p data m).on (swd p) SWD_DOMSTAT.DOM_ADJ = true := by
  rw [domctlWrite_eq]
  split
  · rw [Wafer.on_set_ne _ _ (by decide), domctlStored_adjusted h]
  · exact domctlStored_adjusted h

theorem domctlWrite_rejected (hp : p < 64) {data : Word} (h : data.getLsbD 4 = true)
    (hf : m.on (swd p) SWD_BSTAT.FENCE = false) : (domctlWrite p data m).on (swd p) SWD_DOMSTAT.SPINE_REJ = true := by
  rw [domctlWrite_eq, domctlStored_fence hp, if_pos ⟨h, hf⟩]
  exact Wafer.on_set_one _ _ _ (by decide) (by decide)

theorem domctlStored_within (hp : p < 64) (data : Word) (hb : (swd p + 0x1000, 4) ∈ A.blocks)
    (hf : (swd p, SWD_DOMSTAT.DOM_ADJ) ∈ A.fields) : Within A m (domctlStored p data m) := by
  have h := (Within.refl A m).putWord (swd p + 0x1000) ((m.word (swd p + 0x1000) &&&
    ~~~BitVec.ofNat 32 0xFE) ||| (domctlTaken p data &&& BitVec.ofNat 32 0xFE))
    fun _ _ => .inr ⟨_, hb, le_refl _, by dsimp only; omega⟩
  rw [← plainWrite_domctl hp] at h
  unfold domctlStored
  split
  · exact h.set _ _ _ (.inl hf)
  · exact h

theorem domctlWrite_within (hp : p < 64) (data : Word) (hb : (swd p + 0x1000, 4) ∈ A.blocks)
    (ha : (swd p, SWD_DOMSTAT.DOM_ADJ) ∈ A.fields) (hr : (swd p, SWD_DOMSTAT.SPINE_REJ) ∈ A.fields) :
    Within A m (domctlWrite p data m) := by
  have h := domctlStored_within (m := m) hp data hb ha
  rw [domctlWrite_eq]
  split
  · exact h.set _ _ _ (.inl hr)
  · exact h

/-! ### CORE_HOLD -/

/-- A write of CORE_HOLD alone clears none of the flags beside it. -/
theorem domstatWrite_hold : domstatWrite p 0x20000000 m =
    if shutdownLatched p m then m.rewrite (swd p + 0x1004)
    else (m.rewrite (swd p + 0x1004)).w1c (swd p + 0x1004) 0x20000000 0x20000000 := by
  have hl : shutdownLatched p (m.rewrite (swd p + 0x1004)) = shutdownLatched p m := by
    simp only [shutdownLatched, Wafer.on_rewrite]
  rw [domstatWrite, m.w1c_of_none _ _ _ (by decide), hl]

theorem domstatWrite_held (h : shutdownLatched p m = true) :
    domstatWrite p 0x20000000 m = m.rewrite (swd p + 0x1004) := by rw [domstatWrite_hold, if_pos h]

theorem domstatWrite_cleared (h : shutdownLatched p m = false) : domstatWrite p 0x20000000 m =
    (m.rewrite (swd p + 0x1004)).w1c (swd p + 0x1004) 0x20000000 0x20000000 := by
  rw [domstatWrite_hold, h, if_neg (by simp)]

/-- A W1C write stays within the area that names the bits it may clear. -/
theorem Within.w1c (h : Within A m₀ m) {a mask : Nat} {data : Word}
    (hf : ∀ i, i < 32 → (data &&& BitVec.ofNat 32 mask).getLsbD i = true → A.Bit a i) : Within A m₀ (m.w1c a mask data) :=
  h.trans ⟨rfl, fun b i hi hb => by
    by_cases hba : b = a
    · subst hba
      have hz : (data &&& BitVec.ofNat 32 mask).getLsbD i = false := by
        by_contra hz
        exact hb (hf i hi (by simpa using hz))
      rw [Wafer.w1c, Wafer.word_putWord, BitVec.getLsbD_and, BitVec.getLsbD_not, hz]
      simp [hi]
    · rw [Wafer.w1c, m.word_putWord_ne _ hba], fun _ _ => rfl, fun _ _ => rfl, fun _ => rfl, fun _ => rfl, fun _ => rfl⟩

/-! ### Trips -/

theorem coreHold_hold : (coreHold p m).on (swd p) SWD_DOMSTAT.CORE_HOLD = true :=
  Wafer.on_set_one _ _ _ (by decide) (by decide)

theorem coreHold_sward : (coreHold p m).sward p = { m.sward p with afterTrip := true } := by
  rw [coreHold, Wafer.sward_set, Wafer.sward_modSward]

theorem coreHold_keeps (h : Keeps A m₀ m) (hp : SwardIn A p) : Keeps A m₀ (coreHold p m) :=
  (h.swardMod hp _).swardSet hp _ (by decide)

theorem waferTripAction_keeps (h : Keeps A m₀ m) (hp : SwardIn A p) : Keeps A m₀ (waferTripAction p m) :=
  ((((coreHold_keeps h hp).swardSet hp _ (by decide)).swardSet hp _ (by decide)).swardSet hp _ (by decide)).swardSet hp _
    (by decide)

/-- The targets of a Sward after a wafer trip. -/
theorem waferTripAction_targets : (waferTripAction p m).get (swd p) SWD_DOMCTL.CORE = 0 ∧
    (waferTripAction p m).get (swd p) SWD_DOMCTL.ARR = 0 ∧ (waferTripAction p m).get (swd p) SWD_DOMCTL.LINK = 0 ∧
    (waferTripAction p m).get (swd p) SWD_DOMCTL.MIF = 0 := by
  simp (disch := decide) only [waferTripAction, Wafer.get_set_beside, Wafer.get_set_fits, and_self]

theorem waferTripAction_hold : (waferTripAction p m).on (swd p) SWD_DOMSTAT.CORE_HOLD = true := by
  simp (disch := decide) only [waferTripAction, Wafer.on_set_ne, coreHold_hold]

/-- A wafer trip leaves every flag beside SWD_DOMCTL and CORE_HOLD. -/
theorem waferTripAction_flag {f : Fld} (h : f.off ≠ 0x1000 ∧ f.off ≠ 0x1004) :
    (waferTripAction p m).on (swd p) f = m.on (swd p) f := by
  rw [waferTripAction, Wafer.on_set_ne _ _ (.inl (Ne.symm h.1)), Wafer.on_set_ne _ _ (.inl (Ne.symm h.1)),
    Wafer.on_set_ne _ _ (.inl (Ne.symm h.1)), Wafer.on_set_ne _ _ (.inl (Ne.symm h.1)), coreHold,
    Wafer.on_set_ne _ _ (.inl (Ne.symm h.2)), Wafer.on_modSward]

theorem waferTripAction_sward : (waferTripAction p m).sward p = { m.sward p with afterTrip := true } := by
  rw [waferTripAction, Wafer.sward_set, Wafer.sward_set, Wafer.sward_set, Wafer.sward_set, coreHold_sward]

theorem waferTripAction_out : (waferTripAction p m).out = m.out := by
  rw [waferTripAction, Wafer.set_out, Wafer.set_out, Wafer.set_out, Wafer.set_out, coreHold, Wafer.set_out, Wafer.modSward_out]

theorem partitionTripReceive_taken (hb : (m.sward p).passedBy = false) (hd : m.heath.dups.contains p = false)
    (hr : (m.sward p).rst = false) :
    received p (fun m => if (m.sward p).rst then tally p 56 m else coreHold p (tally p 55 (answered p .trip m))) m =
      coreHold p (tally p 55 (answered p .trip m)) := by
  rw [received_once _ hb hd, hr, if_neg (by simp)]

theorem wtripReceive_taken (hb : (m.sward p).passedBy = false) (hd : m.heath.dups.contains p = false)
    (hr : (m.sward p).rst = false) :
    received p (fun m => if (m.sward p).rst then m else waferTripAction p (tally p 55 m)) m =
      waferTripAction p (tally p 55 m) := by
  rw [received_once _ hb hd, hr, if_neg (by simp)]

/-- No wafer trip takes effect where the message does not, or in a Sward's reset. -/
theorem wtripReceive_never (hp : p < 64)
    (h : (m.sward p).passedBy = true ∨ m.heath.dups.contains p = true ∨ (m.sward p).rst = true) :
    received p (fun m => if (m.sward p).rst then m else waferTripAction p (tally p 55 m)) m = m ∨
    received p (fun m => if (m.sward p).rst then m else waferTripAction p (tally p 55 m)) m =
      m.modHeath fun x => { x with dups := x.dups.filter fun k => k != p } := by
  by_cases hn : (m.sward p).passedBy = true ∨ m.heath.dups.contains p = true
  · exact received_never _ hp hn
  · simp only [not_or, Bool.not_eq_true] at hn
    obtain ⟨hb, hd⟩ := hn
    have hr : (m.sward p).rst = true := ((h.resolve_left (by simp [hb])).resolve_left (by rw [hd]; exact Bool.false_ne_true))
    left
    rw [received_once _ hb hd, hr, if_pos rfl]

theorem answered_within (h : Within A m₀ m) (hA : AnswerIn A p) (q : Nat) (k : UnicastKind) :
    Within A m₀ (answered q k m) := (h.modHeath _ hA.heath).setPairBit hA.lo hA.hi (by decide) (by decide) _ _

/-- An edge on FL_TRIP that is forwarded. -/
def flTripTaken (p w : Nat) (m : Wafer) : Wafer :=
  waferTripAction p
    ((((m.at w).modSward p fun x => { x with flAt := some w }).send .faultLine p []).set (swd p) SWD_FSTAT.FL_SEEN 1)

theorem doFlTripEdge_eq (p : Fin 64) (w : Nat) : doFlTripEdge p w m =
    if (m.sward p).rst || !((m.sward p).flAt.all fun t => decide (t + 3200 ≤ w)) then m.at w else flTripTaken p w m := by
  unfold doFlTripEdge flTripTaken
  cases h : (m.sward p).flAt with
  | none => simp [h]
  | some t =>
    simp [h]

/-! ### FENCE -/

/-- The FENCE line at a level, as the Sward's register shows it and its partition sees it. -/
def fenced (p : Nat) (level : Bool) (m : Wafer) : Wafer :=
  (m.setB (swd p) SWD_BSTAT.FENCE level).send .fence p [bit level]

theorem fenced_fence (level : Bool) : (fenced p level m).on (swd p) SWD_BSTAT.FENCE = level := by
  rw [fenced, Wafer.on_send, Wafer.on_setB _ _ _ _ (by decide) (by decide)]

theorem fenced_get {level : Bool} {f : Fld} (h : f.off ≠ SWD_BSTAT.FENCE.off) :
    (fenced p level m).get (swd p) f = m.get (swd p) f := by
  rw [fenced, Wafer.get_send, Wafer.setB, Wafer.get_set_beside _ _ (.inl (Ne.symm h))]

theorem fenced_sward (level : Bool) : (fenced p level m).sward p = m.sward p := by
  rw [fenced, Wafer.sward_send, Wafer.setB, Wafer.sward_set]

theorem fenced_keeps (h : Keeps A m₀ m) (hp : SwardIn A p) (level : Bool) : Keeps A m₀ (fenced p level m) :=
  (h.swardSet hp _ (by decide)).send _ _ _ hp.sends

/-- The mesh packets that a rising FENCE drops are counted. -/
def meshDropped (p : Nat) (m : Wafer) : Wafer :=
  count p 50 (m.sward p).mesh.length (hwEvent p) ((m.modSward p fun x => { x with mesh := [] }).set (swd p) SWD_BSTAT.MESH_DROP 1)

theorem meshDropped_counts :
    Counts p ((m.modSward p fun x => { x with mesh := [] }).set (swd p) SWD_BSTAT.MESH_DROP 1) (meshDropped p m) :=
  .count (.refl p _) (by decide) _ _

theorem meshDropped_keeps (h : Keeps A m₀ m) (hp : SwardIn A p) : Keeps A m₀ (meshDropped p m) :=
  count_keeps ((h.swardMod hp _).swardSet hp _ (by decide)) hp (by decide) _ _

theorem meshDropped_mesh : ((meshDropped p m).sward p).mesh = [] := by
  rw [meshDropped_counts.keeps SwardSt.mesh, Wafer.sward_set, Wafer.sward_modSward]

theorem meshDropped_flag : (meshDropped p m).on (swd p) SWD_BSTAT.MESH_DROP = true := by
  rw [meshDropped_counts.on _ (by decide), Wafer.on_set_one _ _ _ (by decide) (by decide)]

theorem meshDropped_fence : (meshDropped p m).on (swd p) SWD_BSTAT.FENCE = m.on (swd p) SWD_BSTAT.FENCE := by
  rw [meshDropped_counts.on _ (by decide), Wafer.on_set_ne _ _ (by decide), Wafer.on_modSward]

/-- A rising FENCE drops what mesh packets there are. -/
theorem doFenceChange_rising {p : Fin 64} (h : m.on (swd p) SWD_BSTAT.FENCE = false) : doFenceChange p true m =
    if (m.sward p).mesh = [] then fenced p true m else meshDropped p (fenced p true m) := by
  rw [doFenceChange, h, if_neg (by simp)]
  simp only [if_true]
  by_cases hm : (m.sward p).mesh = []
  · have hz : ((fenced p true m).sward p).mesh.length = 0 := by rw [fenced_sward, hm, List.length_nil]
    rw [if_pos hm]
    exact if_pos hz
  · have hz : ¬ ((fenced p true m).sward p).mesh.length = 0 := by rwa [fenced_sward, List.length_eq_zero_iff]
    rw [if_neg hm]
    exact if_neg hz

/-- A falling FENCE with SPINE on changes only the line. -/
theorem doFenceChange_falling_on {p : Fin 64} (h : m.on (swd p) SWD_BSTAT.FENCE = true) (hs : (m.sward p).hdrSpine = true) :
    doFenceChange p false m = fenced p false m := by
  rw [doFenceChange, h, if_neg (by simp)]
  have hn : ((fenced p false m).sward p).hdrSpine = true := by rw [fenced_sward, hs]
  exact (if_neg Bool.false_ne_true).trans (if_pos hn)

/-- The error of a FENCE that falls while SPINE is off (R77). -/
def fenceFault (p : Nat) (m : Wafer) : Wafer := swardFault p 35 0 0 ((fenced p false m).set (swd p) SWD_BSTAT.FENCE_ERR 1)

theorem doFenceChange_falling_off {p : Fin 64} (h : m.on (swd p) SWD_BSTAT.FENCE = true) (hs : (m.sward p).hdrSpine = false) :
    doFenceChange p false m = spineAtOnce p (fenceFault p m) := by
  have hn : ¬ ((fenced p false m).sward p).hdrSpine = true := by rw [fenced_sward, hs]; exact Bool.false_ne_true
  rw [doFenceChange, h, if_neg (by simp)]
  exact (if_neg Bool.false_ne_true).trans (if_neg hn)

theorem fenceFault_counts : Counts p ((fenced p false m).set (swd p) SWD_BSTAT.FENCE_ERR 1) (fenceFault p m) :=
  .swardFault (.refl p _) _ _ _

theorem fenceFault_keeps (h : Keeps A m₀ m) (hp : SwardIn A p) : Keeps A m₀ (fenceFault p m) :=
  swardFault_keeps ((fenced_keeps h hp _).swardSet hp _ (by decide)) hp _ _ _

theorem fenceFault_flag : (fenceFault p m).on (swd p) SWD_BSTAT.FENCE_ERR = true := by
  rw [fenceFault_counts.on _ (by decide), Wafer.on_set_one _ _ _ (by decide) (by decide)]

theorem fenceFault_fence : (fenceFault p m).on (swd p) SWD_BSTAT.FENCE = false := by
  rw [fenceFault_counts.on _ (by decide), Wafer.on_set_ne _ _ (by decide), fenced_fence]

theorem fenceFault_rst : ((fenceFault p m).sward p).rst = (m.sward p).rst := by
  rw [fenceFault_counts.keeps SwardSt.rst, Wafer.sward_set, fenced_sward]

theorem fenceFault_logic : (fenceFault p m).get (swd p) SWD_DOMSTAT.LOGIC_ST = m.get (swd p) SWD_DOMSTAT.LOGIC_ST := by
  rw [fenceFault_counts.get _ (by decide), Wafer.get_set_beside _ _ (by decide), fenced_get (by decide)]

/-- SPINE's header is on, its state between off and on. -/
def spineRising (p : Nat) (m : Wafer) : Wafer :=
  setHeader p (fun x => { x with hdrSpine := true }) (m.set (swd p) SWD_DOMSTAT.SPINE_ST 1)

theorem spineRising_counts : Counts p ((m.set (swd p) SWD_DOMSTAT.SPINE_ST 1).modSward p fun x => { x with hdrSpine := true })
    (spineRising p m) := .setHeader _

theorem spineRising_keeps (h : Keeps A m₀ m) (hp : SwardIn A p) : Keeps A m₀ (spineRising p m) :=
  setHeader_keeps (h.swardSet hp _ (by decide)) hp _

theorem spineRising_spine : ((spineRising p m).sward p).hdrSpine = true ∧
    (spineRising p m).get (swd p) SWD_DOMSTAT.SPINE_ST = 1 := by
  refine ⟨?_, ?_⟩
  · rw [spineRising_counts.keeps SwardSt.hdrSpine, Wafer.sward_modSward]
  · rw [spineRising_counts.get _ (by decide), Wafer.get_modSward, Wafer.get_set_fits _ _ (by decide)]

theorem spineRising_flag {f : Fld} (h : f.off < 0x1000) : (spineRising p m).on (swd p) f = m.on (swd p) f := by
  rw [spineRising_counts.on f (.inl (by omega)), Wafer.on_modSward, Wafer.on_set_ne _ _ (.inl (by dsimp only; omega))]

/-- SPINE is switched on as a step of its own, beside another step, or not at all. -/
theorem spineAtOnce_eq : spineAtOnce p m =
    if (m.sward p).rst = true ∨ m.get (swd p) SWD_DOMSTAT.LOGIC_ST ≠ 2 then m
    else if (m.sward p).dom = .idle ∨ (m.sward p).dom = .off3 then spineRising p (beginStep p .on3 m)
    else spineRising p m := by
  simp only [spineAtOnce, Bool.or_eq_true, bne_iff_ne, ne_eq]
  rfl

theorem spineAtOnce_keeps (h : Keeps A m₀ m) (hp : SwardIn A p) : Keeps A m₀ (spineAtOnce p m) := by
  rw [spineAtOnce_eq]
  exact .ite (fun _ => h) fun _ => .ite (fun _ => spineRising_keeps (h.swardMod hp _) hp) fun _ => spineRising_keeps h hp

theorem spineAtOnce_flag {f : Fld} (h : f.off < 0x1000) : (spineAtOnce p m).on (swd p) f = m.on (swd p) f := by
  rw [spineAtOnce_eq]
  split
  · rfl
  · split
    · rw [spineRising_flag h, beginStep, Wafer.on_modSward]
    · rw [spineRising_flag h]

theorem spineAtOnce_spine (hr : (m.sward p).rst = false) (hl : m.get (swd p) SWD_DOMSTAT.LOGIC_ST = 2) :
    ((spineAtOnce p m).sward p).hdrSpine = true ∧ (spineAtOnce p m).get (swd p) SWD_DOMSTAT.SPINE_ST = 1 := by
  rw [spineAtOnce_eq, if_neg (by simp [hr, hl])]
  split
  · exact spineRising_spine
  · exact spineRising_spine

/-- Settles O41, clause by clause. -/
theorem domainTrips : Obligations.DomainTrips := by
  unfold Obligations.DomainTrips
  refine ⟨?_, ?_, ?_, ?_, ?_, ?_, ?_, ?_, ?_, ?_, ?_, ?_, ?_, ?_⟩
  · intro m p data
    refine .of_effect _ (fun _ => rfl) (domctlWrite_within p.isLt data (by simp) (by simp) (by simp)) ?_
    refine ⟨?_, ?_, fun h => domctlWrite_rejected p.isLt h, ?_, ?_, ?_, ⟨?_, ?_⟩, ?_⟩
    · exact (domctlWrite_get p.isLt _ _ rfl (by decide)).trans (getBits_domctlTaken _ (by decide))
    · exact (domctlWrite_get p.isLt _ _ rfl (by decide)).trans (getBits_domctlTaken _ (by decide))
    · exact fun h1 h2 => domctlWrite_adjusted (by simp [domAdjusted, h1, h2])
    · exact (domctlWrite_get p.isLt _ _ rfl (by decide)).trans (getBits_domctlTaken_edge _ (.inl rfl))
    · exact (domctlWrite_get p.isLt _ _ rfl (by decide)).trans (getBits_domctlTaken_edge _ (.inr rfl))
    · exact (domctlWrite_get p.isLt _ _ rfl (by decide)).trans (getBits_domctlTaken _ (by decide))
    · exact (domctlWrite_get p.isLt _ _ rfl (by decide)).trans (getBits_domctlTaken _ (by decide))
    · exact fun h1 h2 => domctlWrite_adjusted (by rw [domAdjusted, h1, Bool.or_assoc, h2, Bool.or_true, Bool.and_true])
  · intro m p hs
    refine .of_effect _ (fun _ => rfl) ?_ ?_
    all_goals rw [doCoreHoldClear, domstatWrite_cleared hs]
    · refine ((Within.refl _ m).rewrite _).w1c fun i hi hb => .inl ⟨_, List.mem_singleton_self _, rfl, ?_⟩
      have : ∀ j : Fin 32, ((0x20000000 : Word) &&& BitVec.ofNat 32 0x20000000).getLsbD j.val = true → j.val = 29 := by decide
      have := this ⟨i, hi⟩ hb
      dsimp only at this ⊢
      omega
    · refine Wafer.on_w1c _ (swd p) (f := SWD_DOMSTAT.CORE_HOLD) fun i hi h1 h2 => ?_
      have hi : i = 29 := by dsimp only at h1 h2; omega
      rw [hi]
      decide
  · intro m p hs
    refine .of_effect _ (fun _ => rfl) ?_ ?_
    all_goals rw [doCoreHoldClear, domstatWrite_held hs]
    · exact (Within.refl _ m).rewrite _
    · rw [Wafer.on_rewrite]
  · intro m p hb hd hr
    have hA := answerArea_answerIn p
    refine .of_effect _ (fun _ => rfl) ?_ ?_
    all_goals rw [doPartitionTripReceive, partitionTripReceive_taken hb hd hr]
    · exact (answered_within (.refl _ m) hA _ _).trans (coreHold_keeps (tally_keeps (.refl _ _) hA.sward (by decide)) hA.sward).within
    · exact ⟨coreHold_hold, by rw [coreHold_sward]⟩
  · intro m p h
    refine .of_effect _ (fun _ => rfl) ?_ ?_
    all_goals
      rw [doPartitionTripReceive]
      rcases received_never (m := m) (fun m => if (m.sward p).rst then tally p 56 m else
        coreHold p (tally p 55 (answered p .trip m))) p.isLt h with e | e <;> rw [e]
    · exact .modHeath (.refl _ m) _ rfl
    · rw [Wafer.on_modHeath]
  · intro m p hb hd hr
    have hp := swardArea_swardIn p
    refine .of_effect _ (fun _ => rfl) ?_ ?_
    all_goals rw [doWtripReceive, wtripReceive_taken hb hd hr]
    · exact (waferTripAction_keeps (tally_keeps (.refl _ m) hp (by decide)) hp).within
    · exact ⟨waferTripAction_hold, by rw [waferTripAction_sward], waferTripAction_targets⟩
  · intro m p h
    refine .of_effect _ (fun _ => rfl) ?_ ?_
    all_goals rw [doWtripReceive]; rcases wtripReceive_never p.isLt h with e | e <;> rw [e]
    · exact .modHeath (.refl _ m) _ rfl
    · rw [Wafer.get_modHeath]
  · intro m p w hr ha
    have he : doFlTripEdge p w m = flTripTaken p w m := by rw [doFlTripEdge_eq, hr, ha, if_neg (by simp)]
    have hp : SwardIn { swardArea p with time := true } p := ⟨by simp [swardArea], by simp [swardArea], rfl⟩
    refine .of_effect _ (fun _ => rfl) ?_ ?_
    all_goals rw [he, flTripTaken]
    · exact (waferTripAction_keeps (((((Keeps.refl _ m).at w rfl).swardMod hp _).send _ _ _ hp.sends).swardSet hp _
        (by decide)) hp).within
    · refine ⟨?_, waferTripAction_hold, waferTripAction_targets.1, ?_, ?_⟩
      · rw [waferTripAction_flag (by decide), Wafer.on_set_one _ _ _ (by decide) (by decide)]
      · rw [waferTripAction_sward, Wafer.sward_set, Wafer.sward_send, Wafer.sward_modSward]
      · rw [waferTripAction_out, Wafer.set_out, Wafer.send_out, Wafer.modSward_out, Wafer.at_out]
  · intro m p w hr
    refine .of_effect _ (fun _ => rfl) ?_ ?_
    all_goals rw [doFlTripEdge_eq, hr, if_pos (by simp)]
    · exact (Within.refl _ m).at w rfl
    · rw [Wafer.get_at]
  · intro m p t w ht hw
    refine .of_effect _ (fun _ => rfl) ?_ ?_
    all_goals rw [doFlTripEdge_eq, ht, if_pos (by simp [hw])]
    · exact (Within.refl _ m).at w rfl
    · rw [Wafer.get_at]
  · intro m p h
    have hp := swardArea_swardIn p
    have hk := fenced_keeps (.refl _ m) hp true
    refine .of_effect _ (fun _ => rfl) ?_ ?_
    all_goals rw [doFenceChange_rising h]; split
    · exact hk.within
    · exact (meshDropped_keeps hk hp).within
    · rename_i hm
      exact ⟨fenced_fence _, by rw [fenced_sward, hm], fun hn => absurd hm hn⟩
    · exact ⟨by rw [meshDropped_fence, fenced_fence], meshDropped_mesh, fun _ => meshDropped_flag⟩
  · intro m p h hs
    have hp := swardArea_swardIn p
    refine .of_effect _ (fun _ => rfl) ?_ ?_
    all_goals rw [doFenceChange_falling_off h hs]
    · exact (spineAtOnce_keeps (fenceFault_keeps (.refl _ m) hp) hp).within
    · refine ⟨?_, ?_, fun hr hl => spineAtOnce_spine (fenceFault_rst.trans hr) (fenceFault_logic.trans hl)⟩
      · rw [spineAtOnce_flag (by decide), fenceFault_fence]
      · rw [spineAtOnce_flag (by decide), fenceFault_flag]
  · intro m p h hs
    refine .of_effect _ (fun _ => rfl) ?_ ?_
    all_goals rw [doFenceChange_falling_on h hs]
    · exact ((Within.refl _ m).set _ _ _ (by simp)).send _ _ _ rfl
    · exact ⟨fenced_fence _, by rw [fenced, Wafer.send_out, Wafer.setB, Wafer.set_out, bit, if_neg Bool.false_ne_true]⟩
  · intro m p level h
    refine .of_idle _ (fun _ => rfl) ?_ rfl
    rw [doFenceChange]
    exact if_pos h

end Sys2Proof.Machine
end

section
/-! Partition reset, switch-on grants and the sequence table (R76, R310 to R312, R330). -/

namespace Sys2Proof.Machine

variable {A : Area} {m₀ m : Wafer} {p : Nat}

/-! ### Return of a whole partition (R329) -/

/-- The hidden state of a Sward beside the integrators that wait to be cleared. -/
def SwardSt.besideClears (x : SwardSt) : SwardSt := { x with intClr := [] }

/-- From the first controller to the second only slots of a Sward were cleared. -/
structure ClearsSlots (p : Nat) (m m' : Wafer) : Prop where
  within : Within { blocks := [(swd p + 0x4000, 0x4000)], swards := (· == p) } m m'
  hidden : (m'.sward p).besideClears = (m.sward p).besideClears

@[refl] theorem ClearsSlots.refl (p : Nat) (m : Wafer) : ClearsSlots p m m := ⟨.refl _ m, rfl⟩

theorem ClearsSlots.trans {m' : Wafer} (h : ClearsSlots p m₀ m) (k : ClearsSlots p m m') : ClearsSlots p m₀ m' :=
  ⟨h.within.trans k.within, k.hidden.trans h.hidden⟩

/-- A register outside the slots reads as before. -/
theorem ClearsSlots.get (h : ClearsSlots p m₀ m) (f : Fld) (hf : f.off < 0x4000 ∨ 0x8000 ≤ f.off) :
    m.get (swd p) f = m₀.get (swd p) f :=
  h.within.get _ _ fun i _ _ _ hb => by
    rcases hb with ⟨e, he, -⟩ | ⟨e, he, h1, h2⟩
    · exact absurd he List.not_mem_nil
    · rw [List.mem_singleton.1 he] at h1 h2
      dsimp only at h1 h2
      omega

theorem ClearsSlots.on (h : ClearsSlots p m₀ m) (f : Fld) (hf : f.off < 0x4000 ∨ 0x8000 ≤ f.off) :
    m.on (swd p) f = m₀.on (swd p) f := by rw [Wafer.on, h.get f hf, Wafer.on]

/-- What a Sward keeps beside the integrators to clear stays as it was. -/
theorem ClearsSlots.keeps {α : Type} (h : ClearsSlots p m₀ m) (f : SwardSt → α)
    (hf : ∀ x : SwardSt, f x = f x.besideClears := by intro; rfl) : f (m.sward p) = f (m₀.sward p) := by
  rw [hf, h.hidden, ← hf]

/-- The integrator and the notch of a slot are cleared. -/
theorem clearSlot_clears {n : Nat} (hn : n < 256) : ClearsSlots p m
    (clearNotch p n (m.modSward p fun x => { x with intClr := n :: x.intClr.filter fun k => k != n })) := by
  refine ⟨(((Within.refl _ m).modSward p _ (beq_self_eq_true p)).set _ _ _ ?_).set _ _ _ ?_, ?_⟩
  · exact .inr ⟨_, List.mem_singleton_self _, by dsimp only; omega, by dsimp only; omega⟩
  · exact .inr ⟨_, List.mem_singleton_self _, by dsimp only; omega, by dsimp only; omega⟩
  · rw [clearNotch, Wafer.sward_set, Wafer.sward_set, Wafer.sward_modSward]
    rfl

theorem mem_enabledSlots_lt {n : Nat} (h : n ∈ enabledSlots p m) : n < 256 :=
  List.mem_range.1 (List.mem_filter.1 h).1

theorem clearAllSlots_clears : ClearsSlots p m (clearAllSlots p m) := by
  have hl : ∀ n ∈ enabledSlots p m, n < 256 := fun n => mem_enabledSlots_lt
  unfold clearAllSlots
  generalize enabledSlots p m = l at hl
  induction l generalizing m with
  | nil => exact .refl p m
  | cons n t ih =>
    exact (clearSlot_clears (hl n (by simp))).trans (ih fun k hk => hl k (by simp [hk]))

theorem partitionReturn_clears : ClearsSlots p (beginReturn p (unitsOf p) m) (partitionReturn p m) := clearAllSlots_clears

/-- A return of the whole partition stays with its Sward. -/
theorem partitionReturn_within (h : Within A m₀ m) (hp : SwardIn A p) : Within A m₀ (partitionReturn p m) := by
  have hc := (partitionReturn_clears (p := p) (m := m)).within
  refine (h.modSward p _ hp.hidden).trans ⟨hc.fuse, fun a i hi ha => hc.regs a i hi fun hb => ha ?_,
    fun u _ => hc.units u rfl, fun q hq => hc.swards q ?_, fun _ => hc.heath rfl, fun _ => hc.sends rfl, fun _ => hc.time rfl⟩
  · rcases hb with ⟨e, he, -⟩ | ⟨e, he, h1, h2⟩
    · exact absurd he List.not_mem_nil
    · rw [List.mem_singleton.1 he] at h1 h2
      dsimp only at h1 h2
      exact .inr ⟨_, hp.block, by dsimp only; omega, by dsimp only; omega⟩
  · have : q ≠ p := by rintro rfl; rw [hp.hidden] at hq; contradiction
    simpa using this

/-- Every unit of the partition returns. -/
theorem partitionReturn_returning {u : Nat} (hu : u ∈ unitsOf p) :
    ((partitionReturn p m).sward p).returning.contains u = true := by
  rw [partitionReturn_clears.keeps SwardSt.returning, beginReturn, Wafer.sward_modSward, List.contains_iff_mem]
  exact List.mem_append_left _ hu

theorem partitionReturn_on {f : Fld} (hf : f.off < 0x4000 ∨ 0x8000 ≤ f.off) :
    (partitionReturn p m).on (swd p) f = m.on (swd p) f := by
  rw [partitionReturn_clears.on f hf, beginReturn, Wafer.on_modSward]

theorem partitionReturn_heath : (partitionReturn p m).heath = m.heath := by
  rw [partitionReturn_clears.within.heath rfl, beginReturn, Wafer.modSward_heath]

/-! ### PRST -/

/-- The PRST line at a level, as the Sward's register shows it, its partition sees it and the Heath
has had it reported. -/
def prstShown (p : Nat) (level : Bool) (m : Wafer) : Wafer :=
  ((m.setB (swd p) SWD_BSTAT.PRST level).send .prst p [bit level]).modHeath fun h =>
    { h with prst := if level then p :: h.prst.filter (fun k => k != p) else h.prst.filter fun k => k != p }

theorem doPrstChange_eq (p : Fin 64) (level : Bool) : doPrstChange p level m =
    if m.on (swd p) SWD_BSTAT.PRST = level then m
    else if level then prstShown p level m
    else closeWindowPrst (partitionReturn p (prstShown p level m)) := by
  unfold doPrstChange prstShown
  rfl

theorem prstShown_within (h : Within A m₀ m) (level : Bool) (hh : A.heath = true) (hs : A.sends = true)
    (hf : (swd p, SWD_BSTAT.PRST) ∈ A.fields ∨
      ∃ k ∈ A.blocks, k.1 ≤ swd p + SWD_BSTAT.PRST.off ∧ swd p + SWD_BSTAT.PRST.off < k.1 + k.2) :
    Within A m₀ (prstShown p level m) := ((h.set _ _ _ hf).send _ _ _ hs).modHeath _ hh

theorem prstShown_on (level : Bool) : (prstShown p level m).on (swd p) SWD_BSTAT.PRST = level := by
  rw [prstShown, Wafer.on_modHeath, Wafer.on_send, Wafer.on_setB _ _ _ _ (by decide) (by decide)]

theorem prstShown_prst (level : Bool) : (prstShown p level m).heath.prst =
    if level then p :: m.heath.prst.filter (fun k => k != p) else m.heath.prst.filter fun k => k != p := by
  rw [prstShown, Wafer.modHeath_heath, Wafer.send_heath, Wafer.setB_heath]

theorem prstShown_out (level : Bool) : (prstShown p level m).out = ⟨.prst, p, [bit level]⟩ :: m.out := by
  rw [prstShown, Wafer.modHeath_out, Wafer.send_out, Wafer.setB_out]

theorem closeWindowPrst_within (h : Within A m₀ m) (hh : A.heath = true) (ho : (0, HTH_MAPCTL.OPEN) ∈ A.fields)
    (hr : (0, HTH_MAPCTL.OPEN_REJ) ∈ A.fields) : Within A m₀ (closeWindowPrst m) := by
  unfold closeWindowPrst
  split
  · exact ((h.modHeath _ hh).set _ _ _ (.inl ho)).set _ _ _ (.inl hr)
  · exact h

theorem closeWindowPrst_open : (closeWindowPrst m).on 0 HTH_MAPCTL.OPEN = false := by
  unfold closeWindowPrst
  split
  · rw [Wafer.on_set_ne _ _ (by decide), Wafer.on_set_zero _ _ _ (by decide) (by decide)]
  · rename_i h
    simpa using h

theorem closeWindowPrst_on {f : Fld} : (closeWindowPrst m).on (swd p) f = m.on (swd p) f := by
  unfold closeWindowPrst
  split
  · rw [Wafer.on_of_word (Wafer.word_set_ne _ _ (swd_ne_heath p (by decide))),
      Wafer.on_of_word (Wafer.word_set_ne _ _ (swd_ne_heath p (by decide))), Wafer.on_modHeath]
  · rfl

theorem closeWindowPrst_sward (q : Nat) : (closeWindowPrst m).sward q = m.sward q := by
  unfold closeWindowPrst
  split
  · rw [Wafer.sward_set, Wafer.sward_set, Wafer.sward_modHeath]
  · rfl

theorem closeWindowPrst_prst : (closeWindowPrst m).heath.prst = m.heath.prst := by
  unfold closeWindowPrst
  split
  · rw [Wafer.set_heath, Wafer.set_heath, Wafer.modHeath_heath]
  · rfl

/-! ### Grants (R310, R311) -/

/-- A grant leaves the Heath for a Sward. -/
def grantSent (p : Nat) (m : Wafer) : Wafer :=
  unicast p .grant 0 [] ((m.modHeath fun h => { h with sonLast := some m.wtime, sonQ := h.sonQ.erase p }).send
    .switchOnGrant p [])

theorem sendGrant_eq : sendGrant p m = takeGrant p (grantSent p m) := rfl

theorem grantSent_within (h : Within A m₀ m) (hh : A.heath = true) (hs : A.sends = true) : Within A m₀ (grantSent p m) := by
  unfold grantSent unicast
  exact ((h.modHeath _ hh).send _ _ _ hs).modHeath _ hh

theorem grantSent_sward (q : Nat) : (grantSent p m).sward q = m.sward q := by
  rw [grantSent, unicast, Wafer.sward_modHeath, Wafer.sward_send, Wafer.sward_modHeath]

theorem grantSent_on (b : Nat) (f : Fld) : (grantSent p m).on b f = m.on b f := by
  rw [grantSent, unicast, Wafer.on_modHeath, Wafer.on_send, Wafer.on_modHeath]

theorem grantSent_sonQ : (grantSent p m).heath.sonQ = m.heath.sonQ.erase p := by
  rw [grantSent, unicast, Wafer.modHeath_heath, Wafer.send_heath, Wafer.modHeath_heath]

/-- The Sward counts the grant that it answers. -/
def grantAnswered (p : Nat) (m : Wafer) : Wafer := tally p 58 (tally p 55 (answered p .grant m))

theorem takeGrant_taken (hb : (m.sward p).passedBy = false) (hr : (m.sward p).rst = false) : takeGrant p m =
    ((grantAnswered p m).set (swd p) SWD_DOMSTAT.GRANTED 1).set (swd p) SWD_DOMSTAT.SON_WAIT 0 := by
  rw [takeGrant, hb, hr, if_neg Bool.false_ne_true, if_neg Bool.false_ne_true]
  rfl

theorem takeGrant_passedBy (hb : (m.sward p).passedBy = true) : takeGrant p m = m := by rw [takeGrant, if_pos hb]

theorem grantAnswered_counts : Counts p (answered p .grant m) (grantAnswered p m) :=
  .tally (.tally (.refl p _) (by decide)) (by decide)

theorem grantAnswered_within (h : Within A m₀ m) (hA : AnswerIn A p) : Within A m₀ (grantAnswered p m) :=
  (answered_within h hA p .grant).trans
    (tally_keeps (tally_keeps (.refl A _) hA.sward (by decide)) hA.sward (by decide)).within

/-- What the Heath keeps beside the messages that await an answer. -/
theorem grantAnswered_heath : (grantAnswered p m).heath =
    { m.heath with unicasts := m.heath.unicasts.filter fun x => !(x.part == p && x.kind == .grant) } := by
  rw [grantAnswered_counts.heath, answered, setPairBit, Wafer.putWord_heath, Wafer.modHeath_heath]

/-- A grant that its Sward takes. -/
structure Granted (p : Nat) (m n : Wafer) : Prop where
  granted : n.on (swd p) SWD_DOMSTAT.GRANTED = true
  waits : n.on (swd p) SWD_DOMSTAT.SON_WAIT = false
  sonQ : n.heath.sonQ = m.heath.sonQ.erase p
  sonLast : n.heath.sonLast = some m.wtime
  sonNext : n.heath.sonNext = m.heath.sonNext
  sonOrder : n.heath.sonOrder = m.heath.sonOrder

theorem sendGrant_taken (hb : (m.sward p).passedBy = false) (hr : (m.sward p).rst = false) : sendGrant p m =
    ((grantAnswered p (grantSent p m)).set (swd p) SWD_DOMSTAT.GRANTED 1).set (swd p) SWD_DOMSTAT.SON_WAIT 0 := by
  rw [sendGrant_eq, takeGrant_taken (by rw [grantSent_sward, hb]) (by rw [grantSent_sward, hr])]

theorem sendGrant_granted (hb : (m.sward p).passedBy = false) (hr : (m.sward p).rst = false) :
    Granted p m (sendGrant p m) := by
  have hg := sendGrant_taken hb hr
  have hh := congrArg Wafer.heath hg
  rw [Wafer.set_heath, Wafer.set_heath, grantAnswered_heath] at hh
  refine ⟨?_, ?_, by rw [hh]; rfl, by rw [hh]; rfl, by rw [hh]; rfl, by rw [hh]; rfl⟩
  · rw [hg, Wafer.on_set_ne _ _ (by decide), Wafer.on_set_one _ _ _ (by decide) (by decide)]
  · rw [hg, Wafer.on_set_zero _ _ _ (by decide) (by decide)]

theorem sendGrant_within (h : Within A m₀ m) (hA : AnswerIn A p) (hb : (m.sward p).passedBy = false)
    (hr : (m.sward p).rst = false) : Within A m₀ (sendGrant p m) := by
  have k {f : Fld} (hf : f.off < 0x40000) : ∃ k ∈ A.blocks, k.1 ≤ swd p + f.off ∧ swd p + f.off < k.1 + k.2 :=
    ⟨_, hA.sward.block, by dsimp only; omega, by dsimp only; omega⟩
  rw [sendGrant_taken hb hr]
  exact ((grantAnswered_within (grantSent_within h hA.heath hA.sward.sends) hA).set _ _ _ (.inr (k (by decide)))).set _ _ _
    (.inr (k (by decide)))

theorem sendGrant_passedBy (hb : (m.sward p).passedBy = true) : sendGrant p m = grantSent p m := by
  rw [sendGrant_eq, takeGrant_passedBy (by rw [grantSent_sward, hb])]

theorem grantSpaced_eq (gap : Nat) : grantSpaced gap m = m.heath.sonLast.all fun t => decide (t + 800000 * gap ≤ m.wtime) := by
  rw [grantSpaced]
  cases m.heath.sonLast <;> rfl

theorem seqEntry_at (i w : Nat) : seqEntry i (m.at w) = seqEntry i m := rfl

theorem seqLeft_at (w : Nat) : seqLeft (m.at w) = seqLeft m := rfl

/-- The order is over, and the first in the queue that has passed its test is granted when its gap
has passed. -/
theorem doSwitchOnGrant_queue {w : Nat} (ha : m.heath.active = true) (hb : 9 ≤ m.heath.bringUp)
    (ho : m.heath.sonOrder = false) (hq : (m.heath.sonQ.find? fun q => !m.heath.katFailed.contains q) = some p)
    (hs : (m.heath.sonLast.all fun t => decide (t + 800000 ≤ max m.wtime w)) = true) :
    doSwitchOnGrant w m = sendGrant p (m.at w) := by
  have hg : grantSpaced 1 (m.at w) = true := by rw [grantSpaced_eq]; exact hs
  have hq' : ((m.at w).heath.sonQ.find? fun q => !(m.at w).heath.katFailed.contains q) = some p := hq
  unfold doSwitchOnGrant
  rw [if_neg (by simp [ha, Nat.not_lt.2 hb]), if_neg (by simp [ho]), hq']
  exact if_pos hg

/-- The next partition of the order is granted when its gap has passed. -/
theorem doSwitchOnGrant_order {w i : Nat} {rest : List Nat} (ha : m.heath.active = true) (hb : 9 ≤ m.heath.bringUp)
    (ho : m.heath.sonOrder = true) (hl : seqLeft m = i :: rest)
    (hs : (m.heath.sonLast.all fun t => decide (t + 800000 * (seqEntry i m).2.1 ≤ max m.wtime w)) = true) :
    doSwitchOnGrant w m = sendGrant (seqEntry i m).1
      ((m.at w).modHeath fun h => { h with sonNext := i + 1, sonOrder := !rest.isEmpty }) := by
  have hg : grantSpaced (seqEntry i (m.at w)).2.1 (m.at w) = true := by rw [grantSpaced_eq, seqEntry_at]; exact hs
  have hl' : seqLeft (m.at w) = i :: rest := by rw [seqLeft_at, hl]
  unfold doSwitchOnGrant
  rw [if_neg (by simp [ha, Nat.not_lt.2 hb]), if_pos (by rw [Wafer.at_heath, ho]), hl', ← seqEntry_at i w]
  exact if_pos hg

/-- No grant is sent before its time. -/
theorem doSwitchOnGrant_idle {w : Nat} (h : m.heath.active = false ∨ m.heath.bringUp < 9 ∨
    (m.heath.sonOrder = false ∧ (m.heath.sonLast.any fun t => decide (max m.wtime w < t + 800000)) = true)) :
    doSwitchOnGrant w m = m.at w := by
  unfold doSwitchOnGrant
  by_cases hn : (!(m.at w).heath.active || decide ((m.at w).heath.bringUp < 9)) = true
  · exact if_pos hn
  · rw [if_neg hn]
    obtain ⟨ho, hs⟩ : m.heath.sonOrder = false ∧ (m.heath.sonLast.any fun t => decide (max m.wtime w < t + 800000)) = true := by
      simp only [Wafer.at_heath, Bool.or_eq_true, Bool.not_eq_true', not_or, Bool.not_eq_false] at hn
      rcases h with h | h | h
      · rw [hn.1] at h; contradiction
      · exact absurd (decide_eq_true h) hn.2
      · exact h
    have hg : grantSpaced 1 (m.at w) = false := by
      rw [grantSpaced_eq, Wafer.at_heath, Wafer.at_wtime]
      cases ht : m.heath.sonLast with
      | none => rw [ht] at hs; contradiction
      | some t =>
        rw [ht] at hs
        rw [Option.any_some, decide_eq_true_eq] at hs
        rw [Option.all_some, decide_eq_false_iff_not]
        omega
    rw [if_neg (by simp [ho])]
    split
    · rw [hg, if_neg Bool.false_ne_true]
    · rfl

/-! ### The sequence table (R312) -/

/-- The bits that a register takes, those it clears, and whether it is one of its writable elements. -/
def writeMask (x : RegDesc × Nat × Nat) : Nat × Nat × Bool :=
  (x.1.rw ||| x.1.rws ||| x.1.rwp, x.1.w1c, decide (x.2.1 < x.1.roFrom))

/-- A register of the Heath takes its writable bits. -/
theorem plainWrite_heath {o M : Nat} (ho : o < 0x1000000) (h : (findReg heathRegs o).map writeMask = some (M, 0, true))
    (data : Word) : plainWrite o data m =
      m.putWord o ((m.word o &&& ~~~BitVec.ofNat 32 M) ||| (data &&& BitVec.ofNat 32 M)) := by
  obtain ⟨⟨d, i, j⟩, hd, hm⟩ := Option.map_eq_some_iff.1 h
  simp only [writeMask, Prod.mk.injEq, decide_eq_true_eq] at hm
  obtain ⟨hM, hc, hi⟩ := hm
  have hreg : lookupReg m.fuse (place o) = some (d, ⟨m.fuse, 0, false⟩, i, j) := by
    rw [place_heath ho, lookupReg, hd]
    rfl
  rw [plainWrite_masked hreg hi hc, hM]

theorem writeMask_seq : ∀ i : Fin 64, (findReg heathRegs (0x100 + 4 * i.val)).map writeMask = some (0x8000FF3F, 0, true) := by
  decide

theorem plainWrite_seq (i : Fin 64) (data : Word) : plainWrite (0x100 + 4 * i.val) data m =
    m.putWord (0x100 + 4 * i.val) ((m.word (0x100 + 4 * i.val) &&& ~~~BitVec.ofNat 32 0x8000FF3F) |||
      (data &&& BitVec.ofNat 32 0x8000FF3F)) := plainWrite_heath (by omega) (writeMask_seq i) data

/-- The flag of a table that names a partition twice is none of the table's. -/
theorem seqWrite_word (i j : Nat) (data : Word) :
    (seqWrite i data m).word (0x100 + 4 * j) = (plainWrite (0x100 + 4 * i) data m).word (0x100 + 4 * j) := by
  rw [seqWrite]
  split
  · rfl
  · rw [Wafer.word_set_ne _ _ (by dsimp only; omega)]

theorem seqValid_congr {n : Wafer} (h : ∀ j, n.word (0x100 + 4 * j) = m.word (0x100 + 4 * j)) : seqValid n = seqValid m := by
  have hg (j : Nat) : n.get 0 (HTH_SEQ.PART j) = m.get 0 (HTH_SEQ.PART j) := by
    rw [Wafer.get, Nat.zero_add, h, Wafer.get, Nat.zero_add]
  simp only [seqValid, hg]

theorem seqWrite_flag (i : Nat) (data : Word) (h : seqValid (seqWrite i data m) = false) :
    (seqWrite i data m).on 0 HTH_BUSTAT.SEQ_ERR = true := by
  rw [seqValid_congr fun j => seqWrite_word i j data] at h
  rw [seqWrite, h, if_neg Bool.false_ne_true, Wafer.on_set_one _ _ _ (by decide) (by decide)]

theorem seqWrite_get (i : Fin 64) (data : Word) {lo wid : Nat}
    (h : ∀ k : Fin 32, lo ≤ k.val → k.val < lo + wid → (0x8000FF3F : Word).getLsbD k.val = true) :
    (seqWrite i data m).get 0 ⟨0x100 + 4 * i.val, lo, wid⟩ = getBits data lo wid := by
  rw [Wafer.get, Nat.zero_add, seqWrite_word, plainWrite_seq, Wafer.word_putWord]
  exact getBits_masked _ _ fun k hk h1 h2 => h ⟨k, hk⟩ h1 h2

theorem seqWrite_within (i : Fin 64) (data : Word) (hb : (0x100 + 4 * i.val, 4) ∈ A.blocks)
    (hf : (0, HTH_BUSTAT.SEQ_ERR) ∈ A.fields) : Within A m (seqWrite i data m) := by
  have h : Within A m (plainWrite (0x100 + 4 * i.val) data m) := by
    rw [plainWrite_seq]
    exact (Within.refl A m).putWord _ _ fun _ _ => .inr ⟨_, hb, le_refl _, by dsimp only; omega⟩
  rw [seqWrite]
  split
  · exact h
  · exact h.set _ _ _ (.inl hf)

/-- Where a switch-on grant shows: where the answer of its Sward does, and in the time. -/
abbrev grantArea (p : Nat) : Area := { answerArea p with time := true }

theorem grantArea_answerIn (p : Nat) : AnswerIn (grantArea p) p := ⟨by simp, by simp, rfl, ⟨by simp, by simp, rfl⟩⟩

/-- No switch-on is asked for. -/
theorem doSwitchOnRequest_idle {p : Fin 64} (h : (m.sward p).rst = true ∨ (m.sward p).waitEnum = true ∨
    m.on (swd p) SWD_DOMSTAT.GRANTED = true ∨ m.on (swd p) SWD_DOMSTAT.SON_WAIT = true ∨
    needsGrant p (nextDomStep p m) m = false) : doSwitchOnRequest p m = m := by
  unfold doSwitchOnRequest
  rw [if_pos]
  simpa [or_assoc] using h

/-- A switch-on is asked for. -/
theorem doSwitchOnRequest_due {p : Fin 64} (hr : (m.sward p).rst = false) (he : (m.sward p).waitEnum = false)
    (hg : m.on (swd p) SWD_DOMSTAT.GRANTED = false) (hw : m.on (swd p) SWD_DOMSTAT.SON_WAIT = false)
    (hn : needsGrant p (nextDomStep p m) m = true) : doSwitchOnRequest p m =
      ((m.set (swd p) SWD_DOMSTAT.SON_WAIT 1).send .switchOnRequest p []).modHeath
        fun h => { h with sonQ := h.sonQ ++ [p.val] } := by
  unfold doSwitchOnRequest
  rw [if_neg (by simp [hr, he, hg, hw, hn])]

/-- Settles O42, clause by clause. -/
theorem switchOn : Obligations.SwitchOn := by
  unfold Obligations.SwitchOn
  refine ⟨?_, ?_, ?_, ?_, ?_, ?_, ?_, ?_, ?_, ?_⟩
  · intro m p h
    refine .of_effect _ (fun _ => rfl) ?_ ?_
    all_goals rw [doPrstChange_eq, h, if_neg Bool.false_ne_true, if_pos rfl]
    · exact prstShown_within (.refl _ m) _ rfl rfl (by simp)
    · refine ⟨prstShown_on _, ?_, prstShown_out _⟩
      rw [prstShown_prst, if_pos rfl, List.contains_cons, beq_self_eq_true, Bool.true_or]
  · intro m p h
    refine .of_effect _ (fun _ => rfl) ?_ ?_
    all_goals rw [doPrstChange_eq, h, if_neg (by simp), if_neg Bool.false_ne_true]
    · exact closeWindowPrst_within (partitionReturn_within (prstShown_within (.refl _ m) _ rfl rfl (.inr (by simp)))
        ⟨by simp, by simp, rfl⟩) rfl (by simp) (by simp)
    · refine ⟨?_, fun u hu => ?_, closeWindowPrst_open, ?_⟩
      · rw [closeWindowPrst_on, partitionReturn_on (by decide), prstShown_on]
      · rw [closeWindowPrst_sward, partitionReturn_returning hu]
      · rw [closeWindowPrst_prst, partitionReturn_heath, prstShown_prst, if_neg Bool.false_ne_true]
        simp
  · intro m p hr he hg hw hn
    refine .of_effect _ (fun _ => rfl) ?_ ?_
    all_goals rw [doSwitchOnRequest_due hr he hg hw hn]
    · exact (((Within.refl _ m).set _ _ _ (by simp)).send _ _ _ rfl).modHeath _ rfl
    · refine ⟨?_, by rw [Wafer.modHeath_heath, Wafer.send_heath, Wafer.set_heath], ?_⟩
      · rw [Wafer.on_modHeath, Wafer.on_send, Wafer.on_set_one _ _ _ (by decide) (by decide)]
      · rw [Wafer.modHeath_out, Wafer.send_out, Wafer.set_out]
  · intro m p w ha hb ho hq hs hpass hr
    have hpass' : ((m.at w).sward p).passedBy = false := by rw [Wafer.sward_at, hpass]
    have hr' : ((m.at w).sward p).rst = false := by rw [Wafer.sward_at, hr]
    have hg := sendGrant_granted hpass' hr'
    refine .of_effect _ (fun _ => rfl) ?_ ?_
    all_goals rw [doSwitchOnGrant_queue ha hb ho hq hs]
    · exact sendGrant_within ((Within.refl _ m).at w rfl) (grantArea_answerIn p) hpass' hr'
    · exact ⟨hg.granted, hg.waits, by rw [hg.sonQ, Wafer.at_heath], by rw [hg.sonLast, Wafer.at_wtime]⟩
  · intro m p i rest w ha hb ho hl hp hs hpass hr
    have hpass' (f : HeathSt → HeathSt) : (((m.at w).modHeath f).sward p).passedBy = false := by
      rw [Wafer.sward_modHeath, Wafer.sward_at, hpass]
    have hr' (f : HeathSt → HeathSt) : (((m.at w).modHeath f).sward p).rst = false := by
      rw [Wafer.sward_modHeath, Wafer.sward_at, hr]
    have hg := sendGrant_granted (hpass' fun h => { h with sonNext := i + 1, sonOrder := !rest.isEmpty }) (hr' _)
    refine .of_effect _ (fun _ => rfl) ?_ ?_
    all_goals rw [doSwitchOnGrant_order ha hb ho hl hs, hp]
    · exact sendGrant_within (((Within.refl _ m).at w rfl).modHeath _ rfl) (grantArea_answerIn p) (hpass' _) (hr' _)
    · refine ⟨hg.granted, ?_, ?_, ?_⟩
      · rw [hg.sonNext, Wafer.modHeath_heath]
      · rw [hg.sonOrder, Wafer.modHeath_heath]
      · rw [hg.sonLast, Wafer.modHeath_wtime, Wafer.at_wtime]
  · intro m w h
    refine .of_effect _ (fun _ => rfl) ?_ ?_
    all_goals rw [doSwitchOnGrant_idle h]
    · exact (Within.refl _ m).at w rfl
    · rw [Wafer.at_heath]
  · intro m p w ha hb ho hq hs hpass
    refine .of_effect _ (fun _ => rfl) ?_ ?_
    all_goals rw [doSwitchOnGrant_queue ha hb ho hq hs, sendGrant_passedBy (by rw [Wafer.sward_at, hpass])]
    · exact grantSent_within ((Within.refl _ m).at w rfl) rfl rfl
    · exact ⟨by rw [grantSent_on, Wafer.on_at], by rw [grantSent_sonQ, Wafer.at_heath]⟩
  · intro m i data
    refine .of_effect _ (fun _ => rfl) (seqWrite_within i data (by simp) (by simp)) ⟨?_, ?_, seqWrite_flag i data⟩
    · exact seqWrite_get i data (by decide)
    · exact seqWrite_get i data (by decide)
  · intro m p level h
    refine .of_idle _ (fun _ => rfl) ?_ rfl
    rw [doPrstChange_eq, if_pos h]
  · intro m p h
    exact .of_idle _ (fun _ => rfl) (doSwitchOnRequest_idle h) rfl

end Sys2Proof.Machine
end

section
/-! What the reset of a unit leaves (R320 to R324): its registers at their Reset values but for the
bits that survive, and its hidden state. -/

namespace Sys2Proof.Machine

variable {A : Area} {m₀ m : Wafer} {p : Nat} {u : UnitId}

/-! ### The register at a unit's address -/

theorem edgePart_ord : ∀ e : Fin 28, edgeOrd (edgePart e.val) = e.val ∧ isEdge (edgePart e.val) = true := by decide

theorem place_verge {n o : Nat} (hn : n < 224) (ho : o < 0x1000) : place (vrg n + o) = .verge n o := by
  have he : n / 8 < 28 := by omega
  obtain ⟨hord, hedge⟩ := edgePart_ord ⟨n / 8, he⟩
  dsimp only at hord hedge
  have hp := edgePart_lt (n / 8)
  generalize hq : edgePart (n / 8) = q at *
  have hs : vrg n + o = 0x1000000 + q * 0x100000 + 0x80000 + n % 8 * 0x1000 + o := by rw [vrg, hq, swd]
  have h1 : (vrg n + o - 0x1000000) / 0x100000 = q := by omega
  have h2 : (vrg n + o - 0x1000000) % 0x100000 = 0x80000 + n % 8 * 0x1000 + o := by omega
  have h3 : 8 * (n / 8) + (0x80000 + n % 8 * 0x1000 + o - 0x80000) / 0x1000 = n := by omega
  have h4 : (0x80000 + n % 8 * 0x1000 + o) % 0x1000 = o := by omega
  have h5 : ¬ vrg n + o < 0x1000000 ∧ vrg n + o < 0x5000000 := by omega
  have h6 : ¬ 0x80000 + n % 8 * 0x1000 + o < 0x40000 ∧ ¬ 0x80000 + n % 8 * 0x1000 + o < 0x80000 ∧
      0x80000 + n % 8 * 0x1000 + o < 0x88000 := by omega
  rw [place, if_neg h5.1, if_pos h5.2]
  dsimp only
  rw [h1, h2, if_neg h6.1, if_neg h6.2.1, if_pos ⟨h6.2.2, hedge⟩, hord, h3, h4]

/-- A register that both kinds of unit have. -/
theorem lookupReg_unit (fuse : Nat) (u : UnitId) {o i j : Nat} {d : RegDesc} (ho : o < 0x1000)
    (hd : findReg unitRegs o = some (d, i, j)) (ht : d.tussockOnly = false) :
    ∃ c, lookupReg fuse (place (u.base + o)) = some (d, c, i, j) := by
  cases u with
  | tussock g =>
    refine ⟨⟨fuse, g, false⟩, ?_⟩
    rw [UnitId.base, place_tussock g.isLt ho, lookupReg, hd]
    rfl
  | verge n =>
    refine ⟨⟨fuse, n, true⟩, ?_⟩
    rw [UnitId.base, place_verge n.isLt ho, lookupReg, hd]
    simp [RegDesc.inVerge, ht]

/-! ### A block at its reset values -/

/-- What a word keeps and what it takes, put together again. -/
theorem and_or_and_not (w k : Word) : (w &&& k) ||| (w &&& ~~~k) = w := by
  ext i hi
  simp only [BitVec.getElem_or, BitVec.getElem_and, BitVec.getElem_not]
  cases w[i] <;> cases k[i] <;> rfl

/-- A register at its reset value stays there. -/
theorem resetRegister_reset (fuse : Nat) (all : Bool) (a : Nat) :
    resetRegister fuse all a (resetWord fuse a) = resetWord fuse a := by
  unfold resetRegister
  split
  · rfl
  · exact and_or_and_not _ _

/-- What a reset of a block makes of the word at an address. -/
def resetIn (fuse lo len a : Nat) (w : Word) : Word :=
  if lo ≤ a ∧ a < lo + len then resetRegister fuse false a w else w

theorem resetIn_reset (fuse lo len a : Nat) : resetIn fuse lo len a (resetWord fuse a) = resetWord fuse a := by
  unfold resetIn
  split
  · exact resetRegister_reset _ _ _
  · rfl

theorem word_resetBlock (lo len a : Nat) : (resetBlock lo len m).word a = resetIn m.fuse lo len a (m.word a) :=
  Store.get_map (resetWord m.fuse) (resetIn m.fuse lo len) m.regs a (resetIn_reset _ _ _ _)

theorem resetBlock_within (lo len : Nat) (h : Within A m₀ m) (hb : (lo, len) ∈ A.blocks) : Within A m₀ (resetBlock lo len m) :=
  h.trans ⟨rfl, fun a i _ ha => by
    rw [word_resetBlock, resetIn, if_neg]
    exact fun hr => ha (.inr ⟨_, hb, hr⟩), fun _ _ => rfl, fun _ _ => rfl, fun _ => rfl, fun _ => rfl, fun _ => rfl⟩

/-- Bits that survive a reset (RWS and RWP). -/
theorem getBits_resetRegister_kept {fuse a i j lo wid : Nat} {d : RegDesc} {c : RegCtx} (w : Word)
    (hd : lookupReg fuse (place a) = some (d, c, i, j))
    (h : ∀ k : Fin 32, lo ≤ k.val → k.val < lo + wid → (BitVec.ofNat 32 (d.rws ||| d.rwp)).getLsbD k.val = true) :
    getBits (resetRegister fuse false a w) lo wid = getBits w lo wid := by
  rw [resetRegister, hd]
  refine getBits_congr fun k hk h1 h2 => ?_
  have := h ⟨k, hk⟩ h1 h2
  simp only [Bool.false_eq_true, if_false, BitVec.getLsbD_or, BitVec.getLsbD_and, BitVec.getLsbD_not, this]
  simp

/-- Bits that a reset takes back. -/
theorem getBits_resetRegister_lost {fuse a i j lo wid : Nat} {d : RegDesc} {c : RegCtx} (w : Word)
    (hd : lookupReg fuse (place a) = some (d, c, i, j))
    (h : ∀ k : Fin 32, lo ≤ k.val → k.val < lo + wid → (BitVec.ofNat 32 (d.rws ||| d.rwp)).getLsbD k.val = false) :
    getBits (resetRegister fuse false a w) lo wid = getBits (BitVec.ofNat 32 (d.reset c i j)) lo wid := by
  have hr : resetWord fuse a = BitVec.ofNat 32 (d.reset c i j) := by rw [resetWord, hd]
  rw [← hr, resetRegister, hd]
  refine getBits_congr fun k hk h1 h2 => ?_
  have := h ⟨k, hk⟩ h1 h2
  simp only [Bool.false_eq_true, if_false, BitVec.getLsbD_or, BitVec.getLsbD_and, BitVec.getLsbD_not, this]
  simp [hk]

/-! ### The registers of a unit after its reset -/

theorem word_resetUnit {o : Nat} (ho : o < 0x1000) : (resetBlock u.base 0x1000 m).word (u.base + o) =
    resetRegister m.fuse false (u.base + o) (m.word (u.base + o)) := by
  rw [word_resetBlock, resetIn, if_pos ⟨by omega, by omega⟩]

/-- A field of TSK_CTL and one of TSK_RSTAT read zero after a reset. -/
theorem get_resetUnit_zero {o i j lo wid : Nat} {d : RegDesc} (ho : o < 0x1000)
    (hd : findReg unitRegs o = some (d, i, j)) (ht : d.tussockOnly = false) (hr : ∀ c, d.reset c i j = 0)
    (h : ∀ k : Fin 32, lo ≤ k.val → k.val < lo + wid → (BitVec.ofNat 32 (d.rws ||| d.rwp)).getLsbD k.val = false) :
    getBits ((resetBlock u.base 0x1000 m).word (u.base + o)) lo wid = 0 := by
  obtain ⟨c, hc⟩ := lookupReg_unit m.fuse u ho hd ht
  rw [word_resetUnit ho, getBits_resetRegister_lost _ hc h, hr]
  simp [getBits]

theorem findReg_ctl : findReg unitRegs 4 = some (plainReg 4 0x77 0 0 0 0, 0, 0) := rfl

theorem findReg_rstat (q : Fin 2) : findReg unitRegs (0x128 + 0x40 * q.val) = some (arrayReg 0x128 0x40 2 0 0x70 0 0 0, q.val, 0) := by
  match q with
  | 0 => rfl
  | 1 => rfl

/-- TSK_PHHLTH (Table 5.7): RETIRE survives a reset. -/
def phhlthReg : RegDesc := ⟨0x404, 0x20, 4, 4, 1, 0, 0x4000000, 0x80000000, 0, 5000, false, fun c s _ => slotReset 0 c s⟩

theorem findReg_phhlth (s : Fin 4) : findReg unitRegs (0x404 + 0x20 * s.val) = some (phhlthReg, s.val, 0) := by
  match s with
  | 0 => rfl
  | 1 => rfl
  | 2 => rfl
  | 3 => rfl

theorem resetUnit_enabled (q : Fin 2) : railEnabled u q.val (resetBlock u.base 0x1000 m) = false := by
  have hz (lo : Nat) (h : ∀ k : Fin 32, lo ≤ k.val → k.val < lo + 1 → (BitVec.ofNat 32 (0 ||| 0)).getLsbD k.val = false) :
      getBits ((resetBlock u.base 0x1000 m).word (u.base + 4)) lo 1 = 0 :=
    get_resetUnit_zero (by decide) findReg_ctl rfl (fun _ => rfl) h
  match q with
  | 0 => rw [railEnabled, Wafer.on, Wafer.get]; exact (congrArg (· != 0) (hz 0 (by decide))).trans rfl
  | 1 => rw [railEnabled, Wafer.on, Wafer.get]; exact (congrArg (· != 0) (hz 1 (by decide))).trans rfl

theorem resetUnit_state (q : Fin 2) : railState u q.val (resetBlock u.base 0x1000 m) = rOFF :=
  get_resetUnit_zero (o := 0x128 + 0x40 * q.val) (lo := 0) (wid := 3) (by omega) (findReg_rstat q) rfl (fun _ => rfl)
    (show ∀ k : Fin 32, 0 ≤ k.val → k.val < 0 + 3 → (BitVec.ofNat 32 (0 ||| 0)).getLsbD k.val = false by decide)

theorem resetUnit_retire (s : Fin 4) :
    (resetBlock u.base 0x1000 m).on u.base (TSK_PHHLTH.RETIRE s) = m.on u.base (TSK_PHHLTH.RETIRE s) := by
  have ho : 0x404 + 0x20 * s.val < 0x1000 := by omega
  have hk : ∀ k : Fin 32, 31 ≤ k.val → k.val < 31 + 1 → (BitVec.ofNat 32 (0x80000000 ||| 0)).getLsbD k.val = true := by decide
  obtain ⟨c, hc⟩ := lookupReg_unit m.fuse u ho (findReg_phhlth s) rfl
  rw [Wafer.on, Wafer.get, word_resetUnit ho, getBits_resetRegister_kept _ hc hk, Wafer.on, Wafer.get]

/-! ### The four ports -/

@[simp] theorem Wafer.word_modPort (m : Wafer) (u : UnitId) (n : Nat) (f : PortSt → PortSt) (a : Nat) :
    (m.modPort u n f).word a = m.word a := rfl

@[simp] theorem Wafer.on_modPort (m : Wafer) (u : UnitId) (n : Nat) (f : PortSt → PortSt) (b : Nat) (g : Fld) :
    (m.modPort u n f).on b g = m.on b g := rfl

@[simp] theorem Wafer.unit_modPort (m : Wafer) (u : UnitId) (n : Nat) (f : PortSt → PortSt) :
    (m.modPort u n f).unit u = (m.unit u).setPort n (f ((m.unit u).port n)) := by
  rw [Wafer.modPort, Wafer.unit_modUnit]

/-- Each port of a unit changes in its own way. -/
def Wafer.modPorts (m : Wafer) (u : UnitId) (f : Nat → PortSt → PortSt) : Wafer :=
  (List.range 4).foldl (fun m n => m.modPort u n (f n)) m

/-- A unit with each port changed in its own way. -/
def UnitSt.withPorts (x : UnitSt) (f : Nat → PortSt → PortSt) : UnitSt :=
  { x with port0 := f 0 x.port0, port1 := f 1 x.port1, port2 := f 2 x.port2, port3 := f 3 x.port3 }

theorem UnitSt.port_withPorts (x : UnitSt) (f : Nat → PortSt → PortSt) (k : Fin 4) :
    (x.withPorts f).port k.val = f k.val (x.port k.val) := by
  match k with
  | 0 => rfl
  | 1 => rfl
  | 2 => rfl
  | 3 => rfl

theorem Wafer.unit_modPorts (m : Wafer) (u : UnitId) (f : Nat → PortSt → PortSt) :
    (m.modPorts u f).unit u = (m.unit u).withPorts f := by
  show ((((m.modPort u 0 (f 0)).modPort u 1 (f 1)).modPort u 2 (f 2)).modPort u 3 (f 3)).unit u = _
  rw [Wafer.unit_modPort, Wafer.unit_modPort, Wafer.unit_modPort, Wafer.unit_modPort]
  rfl

@[simp] theorem Wafer.word_modPorts (m : Wafer) (u : UnitId) (f : Nat → PortSt → PortSt) (a : Nat) :
    (m.modPorts u f).word a = m.word a := by
  show ((((m.modPort u 0 (f 0)).modPort u 1 (f 1)).modPort u 2 (f 2)).modPort u 3 (f 3)).word a = _
  rw [Wafer.word_modPort, Wafer.word_modPort, Wafer.word_modPort, Wafer.word_modPort]

@[simp] theorem Wafer.on_modPorts (m : Wafer) (u : UnitId) (f : Nat → PortSt → PortSt) (b : Nat) (g : Fld) :
    (m.modPorts u f).on b g = m.on b g := Wafer.on_of_word (m.word_modPorts u f _)

theorem Within.modPorts (h : Within A m₀ m) (hu : A.units u = true) (f : Nat → PortSt → PortSt) :
    Within A m₀ (m.modPorts u f) :=
  h.fold _ _ fun _ _ _ k => k.modUnit u _ hu

/-- What each port becomes may depend on anything but the ports. -/
theorem foldl_modPort (f : Wafer → Nat → PortSt → PortSt) (hf : ∀ m n g k, f (m.modPort u n g) k = f m k) :
    (List.range 4).foldl (fun m n => m.modPort u n (f m n)) m = m.modPorts u (f m) := by
  show (((m.modPort u 0 (f m 0)).modPort u 1 (f _ 1)).modPort u 2 (f _ 2)).modPort u 3 (f _ 3) =
    (((m.modPort u 0 (f m 0)).modPort u 1 (f m 1)).modPort u 2 (f m 2)).modPort u 3 (f m 3)
  rw [hf, hf, hf, hf, hf, hf]

/-! ### CLEAR -/

/-- RETIRED of each phase as the surviving RETIRE has it. -/
def retiredShown (u : UnitId) (m : Wafer) : Wafer :=
  (List.range 4).foldl (fun m s => m.setB u.base (TSK_PHSTAT.RETIRED s) (m.on u.base (TSK_PHHLTH.RETIRE s))) m

/-- The registers of a unit in CLEAR. -/
def clearedRegs (u : UnitId) (m : Wafer) : Wafer :=
  lossFlags u (retiredShown u ((resetBlock u.base 0x1000 m).set u.base TSK_RST.RESTORE 0))

/-- The hidden state of a unit in CLEAR, or in its power-on reset. -/
def clearedSt (por : Bool) (old : UnitSt) : UnitSt :=
  { rst := if por then .powerOn else .clear, arrRet := old.arrRet, pgSpine := old.pgSpine,
    sentArrRet := old.sentArrRet, sentCore := old.sentCore,
    port0 := keptPort old.port0, port1 := keptPort old.port1, port2 := keptPort old.port2, port3 := keptPort old.port3,
    iportVld := old.iportVld, iportTkn := old.iportTkn,
    iportD := old.iportD, lnk := old.lnk, rung := old.rung }

/-- What a port drives in a reset (R66). -/
def clearedPort (por : Bool) (u : UnitId) (m : Wafer) (n : Nat) (p : PortSt) : PortSt :=
  { p with reqOut := if por || m.on u.base (TSK_TIESTAT.TIED_OFF n) then 0 else 2 }

theorem clearUnit_eq (por : Bool) : clearUnit u por m =
    let n := (clearedRegs u m).modUnit u fun _ => clearedSt por (m.unit u)
    if u.isVerge then n else n.modPorts u (clearedPort por u n) := by
  dsimp only
  rw [← foldl_modPort (fun n => clearedPort por u n) fun m n g k => by
    funext q
    rw [clearedPort, Wafer.on_modPort, clearedPort]]
  rfl

theorem retiredShown_within (h : Within A m₀ m) (hu : UnitIn A u) : Within A m₀ (retiredShown u m) :=
  h.fold _ _ fun m s hs h => by
    have : s < 4 := List.mem_range.1 hs
    exact h.set _ _ _ (.inr ⟨_, hu.block, by dsimp only; omega, by dsimp only; omega⟩)

theorem lossFlags_within (h : Within A m₀ m) (hu : UnitIn A u) : Within A m₀ (lossFlags u m) := by
  have k {n : Wafer} {f : Fld} (v : Nat) (h : Within A m₀ n) (hf : f.off < 0x1000) : Within A m₀ (n.set u.base f v) :=
    h.set _ _ _ (.inr ⟨_, hu.block, by dsimp only; omega, by dsimp only; omega⟩)
  unfold lossFlags
  split
  · exact k _ (k _ h (by decide)) (by decide)
  · exact k _ (k _ h (by decide)) (by decide)

theorem clearedRegs_within (h : Within A m₀ m) (hu : UnitIn A u) : Within A m₀ (clearedRegs u m) :=
  lossFlags_within (retiredShown_within ((resetBlock_within _ _ h hu.block).set _ _ _
    (.inr ⟨_, hu.block, by dsimp only; omega, by dsimp only; omega⟩)) hu) hu

theorem clearUnit_within (h : Within A m₀ m) (hu : UnitIn A u) (por : Bool) : Within A m₀ (clearUnit u por m) := by
  rw [clearUnit_eq]
  dsimp only
  have k := (clearedRegs_within h hu).modUnit u (fun _ => clearedSt por (m.unit u)) hu.hidden
  split
  · exact k
  · exact k.modPorts hu.hidden _

theorem lossFlags_word {o : Nat} (ho : o ≠ 0x4CC) : (lossFlags u m).word (u.base + o) = m.word (u.base + o) := by
  unfold lossFlags
  split
  · rw [Wafer.setB, Wafer.word_set_ne _ _ (by dsimp only; omega), Wafer.setB, Wafer.word_set_ne _ _ (by dsimp only; omega)]
  · rw [Wafer.setB, Wafer.word_set_ne _ _ (by dsimp only; omega), Wafer.setB, Wafer.word_set_ne _ _ (by dsimp only; omega)]

/-- The registers beside TSK_PHSTAT. -/
theorem retiredShown_word {o : Nat} (ho : ∀ s : Fin 4, o ≠ 0x208 + 0x20 * s.val) :
    (retiredShown u m).word (u.base + o) = m.word (u.base + o) := by
  have h0 := ho 0; have h1 := ho 1; have h2 := ho 2; have h3 := ho 3
  unfold retiredShown
  show ((((m.setB _ _ _).setB _ _ _).setB _ _ _).setB _ _ _).word _ = _
  rw [Wafer.setB, Wafer.word_set_ne _ _ (by simp at *; omega), Wafer.setB, Wafer.word_set_ne _ _ (by simp at *; omega),
    Wafer.setB, Wafer.word_set_ne _ _ (by simp at *; omega), Wafer.setB, Wafer.word_set_ne _ _ (by simp at *; omega)]

/-- RETIRED shows what RETIRE holds. -/
theorem retiredShown_retired (s : Fin 4) :
    (retiredShown u m).on u.base (TSK_PHSTAT.RETIRED s) = m.on u.base (TSK_PHHLTH.RETIRE s) := by
  unfold retiredShown
  show ((((m.setB _ (TSK_PHSTAT.RETIRED 0) _).setB _ (TSK_PHSTAT.RETIRED 1) _).setB _ (TSK_PHSTAT.RETIRED 2) _).setB _
    (TSK_PHSTAT.RETIRED 3) _).on _ _ = _
  match s with
  | 0 =>
    simp (disch := decide) only [Wafer.setB, Wafer.on_set_ne]
    exact Wafer.on_setB _ _ (TSK_PHSTAT.RETIRED 0) _ (by decide) (by decide)
  | 1 =>
    simp (disch := decide) only [Wafer.setB, Wafer.on_set_ne]
    exact Wafer.on_setB _ _ (TSK_PHSTAT.RETIRED 1) _ (by decide) (by decide)
  | 2 =>
    simp (disch := decide) only [Wafer.setB, Wafer.on_set_ne]
    exact Wafer.on_setB _ _ (TSK_PHSTAT.RETIRED 2) _ (by decide) (by decide)
  | 3 =>
    simp (disch := decide) only [Wafer.setB, Wafer.on_set_ne]
    exact Wafer.on_setB _ _ (TSK_PHSTAT.RETIRED 3) _ (by decide) (by decide)

/-- The registers of a unit in CLEAR beside TSK_RST, TSK_PHSTAT and TSK_HSTAT. -/
theorem clearedRegs_word {o : Nat} (ho : o ≠ 0x1C ∧ o ≠ 0x4CC ∧ ∀ s : Fin 4, o ≠ 0x208 + 0x20 * s.val) :
    (clearedRegs u m).word (u.base + o) = (resetBlock u.base 0x1000 m).word (u.base + o) := by
  rw [clearedRegs, lossFlags_word ho.2.1, retiredShown_word ho.2.2, Wafer.word_set_ne _ _ (by dsimp only; omega)]

/-- Ports and hidden state are no register's. -/
theorem clearUnit_word (por : Bool) (a : Nat) : (clearUnit u por m).word a = (clearedRegs u m).word a := by
  rw [clearUnit_eq]
  dsimp only
  split
  · rw [Wafer.word_modUnit]
  · rw [Wafer.word_modPorts, Wafer.word_modUnit]

theorem clearUnit_enabled (por : Bool) (q : Fin 2) : railEnabled u q.val (clearUnit u por m) = false := by
  have hoff : (enField q.val).off = 4 := by
    match q with
    | 0 => rfl
    | 1 => rfl
  rw [← resetUnit_enabled (u := u) (m := m) q, railEnabled, railEnabled]
  refine Wafer.on_of_word ?_
  rw [clearUnit_word, hoff, clearedRegs_word ⟨by decide, by decide, fun s => by omega⟩]

theorem clearUnit_state (por : Bool) (q : Fin 2) : railState u q.val (clearUnit u por m) = rOFF := by
  have ho : 0x128 + 0x40 * q.val ≠ 0x1C ∧ 0x128 + 0x40 * q.val ≠ 0x4CC ∧
      ∀ s : Fin 4, 0x128 + 0x40 * q.val ≠ 0x208 + 0x20 * s.val := ⟨by omega, by omega, fun s => by omega⟩
  rw [← resetUnit_state (u := u) (m := m) q, railState, railState, Wafer.get, clearUnit_word, clearedRegs_word ho, Wafer.get]

theorem clearUnit_retire (por : Bool) (s : Fin 4) :
    (clearUnit u por m).on u.base (TSK_PHHLTH.RETIRE s) = m.on u.base (TSK_PHHLTH.RETIRE s) := by
  have ho : 0x404 + 0x20 * s.val ≠ 0x1C ∧ 0x404 + 0x20 * s.val ≠ 0x4CC ∧
      ∀ t : Fin 4, 0x404 + 0x20 * s.val ≠ 0x208 + 0x20 * t.val := ⟨by omega, by omega, fun t => by omega⟩
  rw [← resetUnit_retire (m := m) s]
  refine Wafer.on_of_word ?_
  rw [clearUnit_word, clearedRegs_word ho]

/-- RETIRED shows what the surviving RETIRE holds. -/
theorem clearUnit_retired (por : Bool) (s : Fin 4) :
    (clearUnit u por m).on u.base (TSK_PHSTAT.RETIRED s) = m.on u.base (TSK_PHHLTH.RETIRE s) := by
  have ho : 0x208 + 0x20 * s.val ≠ 0x4CC := by omega
  have hr : (resetBlock u.base 0x1000 m |>.set u.base TSK_RST.RESTORE 0).on u.base (TSK_PHHLTH.RETIRE s) =
      m.on u.base (TSK_PHHLTH.RETIRE s) := by
    rw [Wafer.on_set_ne _ _ (.inl (by dsimp only; omega)), resetUnit_retire]
  rw [← hr, ← retiredShown_retired s]
  refine Wafer.on_of_word ?_
  rw [clearUnit_word, clearedRegs, lossFlags_word ho]

theorem clearUnit_rst (por : Bool) : ((clearUnit u por m).unit u).rst = if por then .powerOn else .clear := by
  rw [clearUnit_eq]
  dsimp only
  split
  · rw [Wafer.unit_modUnit, clearedSt]
  · rw [Wafer.unit_modPorts, Wafer.unit_modUnit]
    rfl

/-- In its power-on reset a unit drives no tie request. -/
theorem clearUnit_reqOut (k : Fin 4) : (((clearUnit u true m).unit u).port k.val).reqOut = 0 := by
  have hk : ((clearedSt true (m.unit u)).port k.val).reqOut = 0 := by
    match k with
    | 0 => rfl
    | 1 => rfl
    | 2 => rfl
    | 3 => rfl
  rw [clearUnit_eq]
  dsimp only
  split
  · rw [Wafer.unit_modUnit, hk]
  · rw [Wafer.unit_modPorts, UnitSt.port_withPorts, clearedPort, Bool.true_or, if_pos rfl]

theorem clearUnit_keeps (u : UnitId) (por : Bool) (m : Wafer) : Within (unitArea u) m (clearUnit u por m) :=
  clearUnit_within (.refl _ m) (unitArea_unitIn u) por

theorem clearUnit_sward (por : Bool) (q : Nat) : (clearUnit u por m).sward q = m.sward q :=
  (clearUnit_keeps u por m).swards q rfl

theorem clearUnit_heath (por : Bool) : (clearUnit u por m).heath = m.heath := (clearUnit_keeps u por m).heath rfl

/-- A reset of a unit leaves every register of its Sward's own. -/
theorem clearUnit_get_sward (por : Bool) (p : Nat) (f : Fld) (hf : f.off < 0x40000) :
    (clearUnit u por m).get (swd p) f = m.get (swd p) f :=
  (clearUnit_keeps u por m).get _ _ fun i _ _ _ hb => by
    rcases hb with ⟨e, he, -⟩ | ⟨e, he, h1, h2⟩
    · exact absurd he List.not_mem_nil
    · rw [List.mem_singleton.1 he] at h1 h2
      have := u.base_range
      dsimp only [swd] at *
      omega

end Sys2Proof.Machine
end

section
/-! A unit's release from reset (R324), its power-on reset and that of a Sward (R54), and its
telemetry window (R367). -/

namespace Sys2Proof.Machine

variable {A : Area} {m₀ m : Wafer} {p : Nat} {u : UnitId}

/-! ### What a rail's new state leaves alone -/

/-- From the first controller to the second a unit's reset, the states and enables of its
rails and the tie requests that it drives stay, but for a request of a burst. -/
structure Calm (u : UnitId) (m m' : Wafer) : Prop where
  restore : m'.on u.base TSK_RST.RESTORE = m.on u.base TSK_RST.RESTORE
  state : ∀ q : Fin 2, railState u q.val m' = railState u q.val m
  enabled : ∀ q : Fin 2, railEnabled u q.val m' = railEnabled u q.val m
  rst : (m'.unit u).rst = (m.unit u).rst
  req : ∀ k : Fin 4, ((m.unit u).port k.val).reqOut ≠ 1 →
    ((m'.unit u).port k.val).reqOut = ((m.unit u).port k.val).reqOut

/-- A change of a unit's hidden state that leaves its reset and what its ports drive. -/
def KeepsRequests (f : UnitSt → UnitSt) : Prop :=
  ∀ x, (f x).rst = x.rst ∧ ∀ k, ((f x).port k).reqOut = (x.port k).reqOut

theorem keepsRequests_setRail (q : Nat) (f : UnitSt → RailSt) : KeepsRequests fun x => x.setRail q (f x) := by
  intro x
  unfold UnitSt.setRail
  split
  · exact ⟨rfl, fun k => by unfold UnitSt.port; split <;> rfl⟩
  · exact ⟨rfl, fun k => by unfold UnitSt.port; split <;> rfl⟩

theorem keepsRequests_setPhase (s : Nat) (f : UnitSt → PhaseSt) : KeepsRequests fun x => x.setPhase s (f x) := by
  intro x
  unfold UnitSt.setPhase
  split
  all_goals exact ⟨rfl, fun k => by unfold UnitSt.port; split <;> rfl⟩

/-- The ports beside 0, 1 and 2 are one. -/
theorem UnitSt.port_setPort (x : UnitSt) (n k : Nat) (y : PortSt) :
    (x.setPort n y).port k = if min n 3 = min k 3 then y else x.port k := by
  rcases n with _ | _ | _ | n <;> rcases k with _ | _ | _ | k <;> simp [UnitSt.setPort, UnitSt.port]

theorem UnitSt.port_eq (x : UnitSt) {n k : Nat} (h : min n 3 = min k 3) : x.port n = x.port k := by
  rcases n with _ | _ | _ | n <;> rcases k with _ | _ | _ | k <;> simp [UnitSt.port] at h ⊢

theorem UnitSt.setPort_rst (x : UnitSt) (n : Nat) (y : PortSt) : (x.setPort n y).rst = x.rst := by
  unfold UnitSt.setPort
  split <;> rfl

theorem enField_off (q : Nat) : (enField q).off = 4 := by
  unfold enField
  split <;> rfl

namespace Calm

@[refl] theorem refl (u : UnitId) (m : Wafer) : Calm u m m := ⟨rfl, fun _ => rfl, fun _ => rfl, rfl, fun _ _ => rfl⟩

theorem trans {m' : Wafer} (h : Calm u m₀ m) (k : Calm u m m') : Calm u m₀ m' where
  restore := k.restore.trans h.restore
  state q := (k.state q).trans (h.state q)
  enabled q := (k.enabled q).trans (h.enabled q)
  rst := k.rst.trans h.rst
  req i hi := by
    have e := h.req i hi
    rw [k.req i (by rw [e]; exact hi), e]

theorem ite {c : Prop} [Decidable c] {a b : Wafer} (ha : Calm u m₀ a) (hb : Calm u m₀ b) : Calm u m₀ (if c then a else b) := by
  split
  · exact ha
  · exact hb

theorem fold {α : Type} (h : Calm u m₀ m) (l : List α) (f : Wafer → α → Wafer)
    (hf : ∀ m x, Calm u m₀ m → Calm u m₀ (f m x)) : Calm u m₀ (l.foldl f m) := by
  induction l generalizing m with
  | nil => exact h
  | cons x t ih => exact ih (hf m x h)

/-- A field that is neither RESTORE nor a rail's state or enable. -/
theorem set (h : Calm u m₀ m) (f : Fld) (v : Nat) (hr : f.off ≠ 0x1C ∧ f.off ≠ 4 := by simp)
    (hs : 3 ≤ f.lo ∨ f.off ≠ 0x128 ∧ f.off ≠ 0x168 := by simp) :
    Calm u m₀ (m.set u.base f v) :=
  h.trans ⟨m.on_set_ne v (.inl hr.1), fun q => m.get_set_beside v (by dsimp only; omega),
    fun q => m.on_set_ne v (.inl (by rw [enField_off]; exact hr.2)), by rw [m.unit_set],
    fun _ _ => by rw [m.unit_set]⟩

theorem modUnit (h : Calm u m₀ m) (f : UnitSt → UnitSt)
    (hf : KeepsRequests f := by intro _; exact ⟨rfl, fun _ => rfl⟩) : Calm u m₀ (m.modUnit u f) :=
  h.trans ⟨by rw [Wafer.on_modUnit], fun q => by rw [railState, Wafer.get_modUnit, railState],
    fun q => by rw [railEnabled, Wafer.on_modUnit, railEnabled],
    by rw [m.unit_modUnit, (hf _).1], fun k _ => by rw [m.unit_modUnit, (hf _).2]⟩

theorem modRail (h : Calm u m₀ m) (q : Nat) (f : RailSt → RailSt) : Calm u m₀ (m.modRail u q f) :=
  h.modUnit _ (keepsRequests_setRail q _)

theorem modPhase (h : Calm u m₀ m) (s : Nat) (f : PhaseSt → PhaseSt) : Calm u m₀ (m.modPhase u s f) :=
  h.modUnit _ (keepsRequests_setPhase s _)

/-- A port goes on driving what it drives, or gives up the request of a burst. -/
theorem modPort (h : Calm u m₀ m) (n : Nat) (f : PortSt → PortSt)
    (hf : ∀ x, (f x).reqOut = x.reqOut ∨ ((m.unit u).port n).reqOut = 1 := by intro _; exact .inl rfl) : Calm u m₀ (m.modPort u n f) := by
  refine h.trans ⟨by rw [Wafer.on_modPort], fun q => by rw [railState, Wafer.get_modPort, railState],
    fun q => by rw [railEnabled, Wafer.on_modPort, railEnabled], ?_, fun k hk => ?_⟩
  · rw [m.unit_modPort, UnitSt.setPort_rst]
  · rw [m.unit_modPort, UnitSt.port_setPort]
    split
    · rename_i e
      rw [UnitSt.port_eq _ e] at hf ⊢
      exact (hf _).resolve_right hk
    · rfl

theorem logEntries (h : Calm u m₀ m) (outcome : Nat) (l : List IntentEntry) : Calm u m₀ (logEntries u outcome l m) :=
  h.fold _ _ fun m e h => .ite h <| by
    have k {n : Wafer} (f : Fld) (v : Nat) (h : Calm u m₀ n) (hf : 0x600 ≤ f.off) : Calm u m₀ (n.set u.base f v) :=
      h.set f v ⟨by omega, by omega⟩ (by omega)
    exact k _ _ (k _ _ (k _ _ (k _ _ (k _ _ h (by simp; omega)) (by simp; omega)) (by simp; omega)) (by simp; omega)) (by decide)

theorem freeIntents (h : Calm u m₀ m) (gone : IntentEntry → Bool) : Calm u m₀ (freeIntents u gone m) := by
  unfold Machine.freeIntents
  exact (h.logEntries 7 _).modUnit _

theorem coreEval (h : Calm u m₀ m) : Calm u m₀ (coreEval u m) :=
  .ite (.freeIntents (h.modUnit _) _) h

theorem openSide (h : Calm u m₀ m) (n : Nat) : Calm u m₀ (openSide u n m) :=
  ((h.modPort n _).set _ 0).set _ 0

theorem openAllSides (h : Calm u m₀ m) : Calm u m₀ (openAllSides u m) :=
  h.fold _ _ fun _ _ k => .openSide (.ite (k.modPort _ _) k) _

theorem leaveReg (h : Calm u m₀ m) (q : Nat) : Calm u m₀ (leaveReg u q m) := by
  have k := (h.freeIntents fun e => e.rail = q).modRail q fun r => { r with uvHeld := false, regSeen := true }
  exact .ite (.openAllSides ((k.modUnit _).set _ 0)) k

theorem burstOver (h : Calm u m₀ m) : Calm u m₀ (burstOver u m) := by
  refine .ite (.fold ((h.set _ 0).set _ 1) _ _ fun m n k => ?_) h
  split
  · rename_i hc
    exact k.modPort n _ fun _ => .inr hc.1
  · exact k

theorem strFall (h : Calm u m₀ m) : Calm u m₀ (strFall u m) :=
  .ite ((h.modUnit _).set _ 0) h

theorem railOff (h : Calm u m₀ m) (q : Nat) : Calm u m₀ (railOff u q m) :=
  ((h.fold _ _ fun _ _ k => k.modPhase _ _).modRail q _).set _ 0 (by simp; omega)

end Calm

/-- A rail that enters DELAY takes that state, and all else is calm. -/
theorem enterState_delay (q : Nat) : ∃ n : Wafer, Calm u m n ∧
    Calm u (n.set u.base (TSK_RSTAT.STATE q) rDELAY) (enterState u q rDELAY m) := by
  unfold enterState
  extract_lets m1 m2 m3 off m4 m5 halted old m6 m7 m8
  have k1 : Calm u m m1 := .ite (.leaveReg (.refl u m) q) (.refl u m)
  have k2 : Calm u m m2 := .ite (k1.modRail q _) k1
  have k3 : Calm u m m3 := .ite (.fold (k2.set _ 0 (by simp; omega) (.inr (by simp; omega))) _ _ fun _ _ k => k.modPhase _ _) k2
  have koff : Calm u m off := k3.railOff q
  have k4 : Calm u m m4 := .ite k3 (.ite (.strFall (.burstOver koff)) koff)
  have k5 : Calm u m m5 := k4.modRail q _
  have k6 : Calm u m m6 := .ite (k5.modUnit _) k5
  have k7 : Calm u m m7 := .ite (k6.modRail q _) k6
  refine ⟨m7, k7, ?_⟩
  rw [if_neg (by simp)]
  exact .coreEval (.set (.refl u _) TSK_STAT.VIB_STOP _)

/-- What the start of a rail of a unit that leaves reset changes of what is calm elsewhere. -/
structure Starts (u : UnitId) (q : Fin 2) (m m' : Wafer) : Prop where
  restore : m'.on u.base TSK_RST.RESTORE = m.on u.base TSK_RST.RESTORE
  other : ∀ r : Fin 2, r ≠ q → railState u r.val m' = railState u r.val m
  started : railEnabled u q.val m = true → railState u q.val m' = rDELAY
  enabled : ∀ r : Fin 2, railEnabled u r.val m' = railEnabled u r.val m
  rst : (m'.unit u).rst = (m.unit u).rst
  req : ∀ k : Fin 4, ((m.unit u).port k.val).reqOut ≠ 1 →
    ((m'.unit u).port k.val).reqOut = ((m.unit u).port k.val).reqOut

/-- An enabled rail starts. -/
def startRail (u : UnitId) (q : Nat) (m : Wafer) : Wafer := if railEnabled u q m then enterState u q rDELAY m else m

theorem startRail_starts (q : Fin 2) : Starts u q m (startRail u q.val m) := by
  unfold startRail
  split
  · obtain ⟨n, h, k⟩ := enterState_delay (u := u) (m := m) q.val
    refine ⟨?_, fun r hr => ?_, fun _ => ?_, fun r => ?_, ?_, fun i hi => ?_⟩
    · rw [k.restore, Wafer.on_set_ne _ _ (.inl (by dsimp only; omega)), h.restore]
    · have hn : q.val ≠ r.val := fun e => hr (Fin.ext e.symm)
      rw [k.state, railState, Wafer.get_set_beside _ _ (.inl (by dsimp only; omega)), ← railState, h.state]
    · rw [k.state, railState, Wafer.get_set_fits _ _ (show 0 + 3 ≤ 32 ∧ rDELAY < 2 ^ 3 by decide)]
    · rw [k.enabled, railEnabled, Wafer.on_set_ne _ _ (.inl (by rw [enField_off]; dsimp only; omega)), ← railEnabled, h.enabled]
    · rw [k.rst, Wafer.unit_set, h.rst]
    · have e := h.req i hi
      rw [k.req i (by rw [Wafer.unit_set, e]; exact hi), Wafer.unit_set, e]
  · rename_i hn
    exact ⟨rfl, fun _ _ => rfl, fun e => absurd e hn, fun _ => rfl, rfl, fun _ _ => rfl⟩

/-! ### Release (R324) -/

/-- What a port drives after the release (R66). -/
def releasedPort (u : UnitId) (m : Wafer) (n : Nat) (p : PortSt) : PortSt :=
  { p with reqOut := if m.on u.base TSK_HSTAT.ADOPTED && !m.on u.base (TSK_TIESTAT.TIED_OFF n) then 2 else 0,
           used01 := p.reqWire == 1 }

theorem portsAtRelease_eq : portsAtRelease u m = m.modPorts u (releasedPort u m) := by
  rw [← foldl_modPort (releasedPort u) fun m n g k => by
    funext q
    rw [releasedPort, Wafer.on_modPort, Wafer.on_modPort, releasedPort]]
  rfl

/-- The unit out of reset, before its rails start. -/
def outOfReset (u : UnitId) (m : Wafer) : Wafer :=
  let n := (m.modUnit u fun x => { x with rst := .run }).set u.base TSK_RST.RESTORE 0
  if u.isVerge then n else portsAtRelease u n

theorem releaseUnit_eq (h : (m.unit u).rst = .restore) :
    releaseUnit u m = startRail u 1 (startRail u 0 (outOfReset u m)) := by
  rw [releaseUnit, if_pos h]
  rfl

theorem outOfReset_rst : ((outOfReset u m).unit u).rst = .run := by
  unfold outOfReset
  split
  · rw [Wafer.unit_set, Wafer.unit_modUnit]
  · rw [portsAtRelease_eq, Wafer.unit_modPorts, Wafer.unit_set, Wafer.unit_modUnit]
    rfl

theorem outOfReset_on (f : Fld) : (outOfReset u m).on u.base f = (m.set u.base TSK_RST.RESTORE 0).on u.base f := by
  have hw (f' : UnitSt → UnitSt) (a : Nat) : ((m.modUnit u f').set u.base TSK_RST.RESTORE 0).word a =
      (m.set u.base TSK_RST.RESTORE 0).word a := rfl
  unfold outOfReset
  split
  · exact Wafer.on_of_word (hw _ _)
  · rw [portsAtRelease_eq, Wafer.on_modPorts]
    exact Wafer.on_of_word (hw _ _)

theorem outOfReset_req (hv : u.isVerge = false) (k : Fin 4) : (((outOfReset u m).unit u).port k.val).reqOut =
    if m.on u.base TSK_HSTAT.ADOPTED = true ∧ m.on u.base (TSK_TIESTAT.TIED_OFF k.val) = false then 2 else 0 := by
  unfold outOfReset
  rw [hv, if_neg Bool.false_ne_true, portsAtRelease_eq, Wafer.unit_modPorts, UnitSt.port_withPorts, releasedPort,
    Wafer.on_set_ne _ _ (by decide), Wafer.on_modUnit, Wafer.on_set_ne _ _ (.inl (by simp)), Wafer.on_modUnit]
  simp

theorem outOfReset_within (h : Within A m₀ m) (hu : UnitIn A u) : Within A m₀ (outOfReset u m) := by
  have k := (h.modUnit u (fun x => { x with rst := .run }) hu.hidden).set u.base TSK_RST.RESTORE 0
    (.inr ⟨_, hu.block, by dsimp only; omega, by dsimp only; omega⟩)
  unfold outOfReset
  split
  · exact k
  · rw [portsAtRelease_eq]
    exact k.modPorts hu.hidden _

theorem startRail_within (h : Within A m m₀) (hu : UnitIn A u) (q : Fin 2) : Within A m (startRail u q.val m₀) := by
  unfold startRail
  split
  · exact h.trans (enterState_keeps (.refl A m₀) hu q.isLt _).within
  · exact h

/-- What a release leaves (R324). -/
theorem releaseUnit_gives (h : (m.unit u).rst = .restore) :
    ((releaseUnit u m).unit u).rst = .run ∧ (releaseUnit u m).on u.base TSK_RST.RESTORE = false ∧
    (∀ q : Fin 2, railEnabled u q.val m = true → railState u q.val (releaseUnit u m) = rDELAY) ∧
    (u.isVerge = false → ∀ k : Fin 4, (((releaseUnit u m).unit u).port k.val).reqOut =
      if m.on u.base TSK_HSTAT.ADOPTED = true ∧ m.on u.base (TSK_TIESTAT.TIED_OFF k.val) = false then 2 else 0) := by
  have s0 := startRail_starts (u := u) (m := outOfReset u m) 0
  have s1 := startRail_starts (u := u) (m := startRail u 0 (outOfReset u m)) 1
  have hen (q : Fin 2) : railEnabled u q.val (outOfReset u m) = railEnabled u q.val m := by
    rw [railEnabled, outOfReset_on, Wafer.on_set_ne _ _ (.inl (by rw [enField_off]; decide)), railEnabled]
  rw [releaseUnit_eq h]
  refine ⟨?_, ?_, fun q hq => ?_, fun hv k => ?_⟩
  · exact s1.rst.trans (s0.rst.trans outOfReset_rst)
  · refine s1.restore.trans (s0.restore.trans ?_)
    rw [outOfReset_on, Wafer.on_set_zero _ _ _ (by decide) (by decide)]
  · match q with
    | 0 => exact (s1.other 0 (by decide)).trans (s0.started ((hen 0).trans hq))
    | 1 => exact s1.started ((s0.enabled 1).trans ((hen 1).trans hq))
  · have hr := outOfReset_req (m := m) hv k
    have hn : (((outOfReset u m).unit u).port k.val).reqOut ≠ 1 := by
      rw [hr]
      split <;> decide
    have e0 := s0.req k hn
    rw [← hr, ← e0]
    exact s1.req k (fun e => hn (e0.symm.trans e))

/-! ### VIB at the presence comparator (R315) -/

theorem vibGone_cases (p : Nat) (m : Wafer) :
    (vibGone p m = m ∧ p ≠ if m.heath.activeId = 0 then 0 else 63) ∨
    (p = (if m.heath.activeId = 0 then 0 else 63) ∧
      (vibGone p m = (m.modHeath fun h => { h with vibHeld := false }).set 0 HTH_PINSTAT.VIB_PRES 0 ∨
       vibGone p m = ((m.modHeath fun h => { h with vibHeld := false }).set 0 HTH_PINSTAT.VIB_PRES 0).set 0
         HTH_BUSTAT.VIB_WAIT 1)) := by
  unfold vibGone
  by_cases h : p = if m.heath.activeId = 0 then 0 else 63
  · rw [if_pos h]
    refine .inr ⟨h, ?_⟩
    dsimp only
    split
    · exact .inr rfl
    · exact .inl rfl
  · exact .inl ⟨if_neg h, h⟩

theorem vibGone_within (h : Within A m₀ m) (p : Nat) (hh : A.heath = true) (hp : (0, HTH_PINSTAT.VIB_PRES) ∈ A.fields)
    (hw : (0, HTH_BUSTAT.VIB_WAIT) ∈ A.fields) : Within A m₀ (vibGone p m) := by
  have k := (h.modHeath (fun h => { h with vibHeld := false }) hh).set 0 HTH_PINSTAT.VIB_PRES 0 (.inl hp)
  rcases vibGone_cases p m with ⟨e, -⟩ | ⟨-, e | e⟩ <;> rw [e]
  · exact h
  · exact k
  · exact k.set _ _ _ (.inl hw)

theorem vibGone_unit (p : Nat) (v : UnitId) : (vibGone p m).unit v = m.unit v := by
  rcases vibGone_cases p m with ⟨e, -⟩ | ⟨-, e | e⟩ <;> rw [e]
  · rw [Wafer.unit_set, Wafer.unit_modHeath]
  · rw [Wafer.unit_set, Wafer.unit_set, Wafer.unit_modHeath]

theorem vibGone_sward (p q : Nat) : (vibGone p m).sward q = m.sward q := by
  rcases vibGone_cases p m with ⟨e, -⟩ | ⟨-, e | e⟩ <;> rw [e]
  · rw [Wafer.sward_set, Wafer.sward_modHeath]
  · rw [Wafer.sward_set, Wafer.sward_set, Wafer.sward_modHeath]

/-- The registers past the Heath's own. -/
theorem vibGone_word (p : Nat) {a : Nat} (ha : 0x1000000 ≤ a) : (vibGone p m).word a = m.word a := by
  rcases vibGone_cases p m with ⟨e, -⟩ | ⟨-, e | e⟩ <;> rw [e]
  · rw [Wafer.word_set_ne _ _ (by dsimp only; omega), Wafer.word_modHeath]
  · rw [Wafer.word_set_ne _ _ (by dsimp only; omega), Wafer.word_set_ne _ _ (by dsimp only; omega), Wafer.word_modHeath]

theorem vibGone_held (p : Nat) : (vibGone p m).heath.vibHeld =
    (m.heath.vibHeld && decide (p ≠ if m.heath.activeId = 0 then 0 else 63)) := by
  rcases vibGone_cases p m with ⟨e, h⟩ | ⟨h, e | e⟩ <;> rw [e]
  · rw [decide_eq_true h, Bool.and_true]
  · rw [Wafer.set_heath, Wafer.modHeath_heath, decide_eq_false (not_not_intro h), Bool.and_false]
  · rw [Wafer.set_heath, Wafer.set_heath, Wafer.modHeath_heath, decide_eq_false (not_not_intro h), Bool.and_false]

theorem vibGone_on_unit (p : Nat) (f : Fld) : (vibGone p m).on u.base f = m.on u.base f :=
  Wafer.on_of_word (vibGone_word p (by have := u.base_range; simp only [swd] at this; omega))

theorem vibGone_get_unit (p : Nat) (f : Fld) : (vibGone p m).get u.base f = m.get u.base f := by
  rw [Wafer.get, vibGone_word p (by have := u.base_range; simp only [swd] at this; omega), Wafer.get]

theorem vibGone_on_sward (p q : Nat) (f : Fld) : (vibGone p m).on (swd q) f = m.on (swd q) f :=
  Wafer.on_of_word (vibGone_word p (by simp only [swd]; omega))

/-! ### A Sward's registers back at their reset values -/

/-- Reads of a store in which the keys of a kind were dropped. -/
theorem Store.get_drop {α : Type} (d : Nat → α) (P : Nat → Bool) (l : Store α) (k : Nat) :
    Store.get d (l.filter fun e => !P e.1) k = if P k then d k else Store.get d l k := by
  induction l with
  | nil => simp [Store.get]
  | cons e t ih =>
    obtain ⟨j, v⟩ := e
    cases hj : P j with
    | true =>
      rw [List.filter_cons_of_neg (by simp [hj]), ih, Store.get]
      split
      · rfl
      · rw [if_neg]
        rintro rfl
        contradiction
    | false =>
      rw [List.filter_cons_of_pos (by simp [hj]), Store.get, ih, Store.get]
      by_cases hk : j = k
      · rw [if_pos hk, if_pos hk, ← hk, hj, if_neg Bool.false_ne_true]
      · rw [if_neg hk, if_neg hk]

/-- The words of a range of registers dropped to their reset values. -/
def dropRegs (p size : Nat) (m : Wafer) : Wafer :=
  { m with regs := m.regs.filter fun e => !decide (swd p ≤ e.1 ∧ e.1 < swd p + size) }

theorem dropRegs_word (p size a : Nat) : (dropRegs p size m).word a =
    if swd p ≤ a ∧ a < swd p + size then resetWord m.fuse a else m.word a := by
  have h := Store.get_drop (resetWord m.fuse) (fun a => decide (swd p ≤ a ∧ a < swd p + size)) m.regs a
  simp only [decide_eq_true_eq] at h
  exact h

theorem clearSwardRegs_eq (p size : Nat) : clearSwardRegs p size m =
    (dropRegs p size m).set (swd p) ⟨8, 0, 2⟩ (getBits (m.word (swd p + 8)) 0 2) := rfl

theorem dropRegs_sward (p size q : Nat) : (dropRegs p size m).sward q = m.sward q := rfl

theorem dropRegs_within (h : Within A m₀ m) (size : Nat) (hb : (swd p, size) ∈ A.blocks) : Within A m₀ (dropRegs p size m) :=
  h.trans ⟨rfl, fun a i _ ha => by
    rw [dropRegs_word, if_neg]
    exact fun hr => ha (.inr ⟨_, hb, hr⟩), fun _ _ => rfl, fun _ _ => rfl, fun _ => rfl, fun _ => rfl, fun _ => rfl⟩

theorem clearSwardRegs_within (h : Within A m₀ m) {size : Nat} (hs : 8 < size) (hb : (swd p, size) ∈ A.blocks) :
    Within A m₀ (clearSwardRegs p size m) := by
  rw [clearSwardRegs_eq]
  exact (dropRegs_within h size hb).set _ _ _ (.inr ⟨_, hb, by dsimp only; omega, by dsimp only; omega⟩)

/-- A register in the range reads its reset value; TSK_BSTAT's pins apart. -/
theorem clearSwardRegs_word {size o : Nat} (ho : o < size) (h8 : o ≠ 8) :
    (clearSwardRegs p size m).word (swd p + o) = resetWord m.fuse (swd p + o) := by
  rw [clearSwardRegs_eq, Wafer.word_set_ne _ _ (by dsimp only; omega), dropRegs_word, if_pos ⟨by omega, by omega⟩]

/-- FENCE and PRST read their pins. -/
theorem clearSwardRegs_pins (size : Nat) :
    getBits ((clearSwardRegs p size m).word (swd p + 8)) 0 2 = getBits (m.word (swd p + 8)) 0 2 := by
  rw [clearSwardRegs_eq]
  have h := (dropRegs p size m).get_set (swd p) ⟨8, 0, 2⟩ (getBits (m.word (swd p + 8)) 0 2) (by decide)
  exact h.trans (Nat.mod_eq_of_lt (getBits_lt _ _ _))

theorem clearSwardRegs_fence (size : Nat) :
    (clearSwardRegs p size m).on (swd p) SWD_BSTAT.FENCE = m.on (swd p) SWD_BSTAT.FENCE := by
  have hb (w : Word) : getBits w 0 1 = getBits w 0 2 % 2 := by
    rw [getBits, getBits, Nat.mod_mod_of_dvd _ (by decide), pow_one]
  rw [Wafer.on, Wafer.get, hb, clearSwardRegs_pins, ← hb, Wafer.on, Wafer.get]

/-! ### The telemetry window (R367) -/

theorem findReg_tcfg : findReg unitRegs 0x600 = some (plainReg 0x600 0x1F 0 0 0 0xA, 0, 0) := rfl

theorem plainWrite_tcfg (data : Word) : plainWrite (u.base + 0x600) data m =
    m.putWord (u.base + 0x600) ((m.word (u.base + 0x600) &&& ~~~BitVec.ofNat 32 0x1F) ||| (data &&& BitVec.ofNat 32 0x1F)) := by
  obtain ⟨c, hc⟩ := lookupReg_unit m.fuse u (o := 0x600) (by decide) findReg_tcfg rfl
  exact plainWrite_masked hc (by decide) rfl data

/-- The window length as written, before its clamp. -/
theorem get_plainWrite_tcfg (k : Fin 32) :
    (plainWrite (u.base + 0x600) (BitVec.ofNat 32 k) m).get u.base TSK_TCFG.WIN_N = k.val := by
  have hd : ∀ k : Fin 32, getBits (BitVec.ofNat 32 k.val) 0 5 = k.val := by decide
  have hm : ∀ i : Fin 32, 0 ≤ i.val → i.val < 0 + 5 → (BitVec.ofNat 32 0x1F).getLsbD i.val = true := by decide
  rw [plainWrite_tcfg, Wafer.get, Wafer.word_putWord]
  exact (getBits_masked _ _ fun i hi h1 h2 => hm ⟨i, hi⟩ h1 h2).trans (hd k)

/-- The register with the window length as written. -/
def telemetryWritten (u : UnitId) (k : Nat) (m : Wafer) : Wafer := plainWrite (u.base + 0x600) (BitVec.ofNat 32 k) m

/-- TSK_TCFG takes a word in an area that names all of it. -/
theorem Within.tcfg (h : Within A m₀ m) (hf : (u.base, (⟨0x600, 0, 32⟩ : Fld)) ∈ A.fields) (w : Word) :
    Within A m₀ (m.putWord (u.base + 0x600) w) :=
  h.putWord _ _ fun i hi => .inl ⟨_, hf, rfl, Nat.zero_le i, by dsimp only; omega⟩

theorem telemetryWritten_within (h : Within A m₀ m) (hf : (u.base, (⟨0x600, 0, 32⟩ : Fld)) ∈ A.fields) (k : Nat) :
    Within A m₀ (telemetryWritten u k m) := by
  rw [telemetryWritten, plainWrite_tcfg]
  exact h.tcfg hf _

/-- A window length past 20 is taken as 20, with a flag. -/
theorem doTelemetryWindowWrite_eq (k : Fin 32) : doTelemetryWindowWrite u k m =
    if 20 < k.val then ((telemetryWritten u k m).set u.base TSK_TCFG.WIN_N 20).set u.base TSK_TSTAT.WCLAMP 1
    else telemetryWritten u k m := by
  have hn : (telemetryWritten u k m).get u.base TSK_TCFG.WIN_N = k.val := get_plainWrite_tcfg k
  have hs : ∀ k : Fin 32, (BitVec.ofNat 32 k.val).getLsbD 31 = false := by decide
  rw [doTelemetryWindowWrite, tcfgWrite, hs k, if_neg Bool.false_ne_true]
  show clampField u.base TSK_TCFG.WIN_N 0 20 (some TSK_TSTAT.WCLAMP) (telemetryWritten u k m) = _
  rw [clampField, hn]
  dsimp only
  by_cases hk : 20 < k.val
  · have hc : clampN 0 20 k.val = 20 := by rw [clampN, if_neg (Nat.not_lt_zero _), if_pos hk]
    rw [if_pos (.inr hk), if_pos hk, hc]
  · rw [if_neg (by omega), if_neg hk]

/-- Settles O23, clause by clause. -/
theorem unitResetAndWindow : Obligations.UnitResetAndWindow := by
  unfold Obligations.UnitResetAndWindow
  refine ⟨?_, ?_, ?_, ?_, ?_, ?_⟩
  · intro m u
    refine .of_effect _ (fun _ => rfl) ?_ ?_
    all_goals rw [doTvddPorAssert]
    · exact vibGone_within (clearUnit_within (.refl _ m) ⟨by simp, by simp⟩ true) _ rfl (by simp) (by simp)
    · refine ⟨?_, fun q => ⟨?_, ?_⟩, fun s => ⟨?_, ?_⟩, fun k => ?_, ?_⟩
      · rw [vibGone_unit, clearUnit_rst, if_pos rfl]
      · rw [railState, vibGone_get_unit, ← railState, clearUnit_state]
      · rw [railEnabled, vibGone_on_unit, ← railEnabled, clearUnit_enabled]
      · rw [vibGone_on_unit, clearUnit_retire]
      · rw [vibGone_on_unit, clearUnit_retired]
      · rw [vibGone_unit, clearUnit_reqOut]
      · rw [vibGone_held, clearUnit_heath]
  · intro m p
    refine .of_effect _ (fun _ => rfl) ?_ ?_
    all_goals rw [doTvddPorAssert]
    · refine vibGone_within ?_ _ rfl (by simp) (by simp)
      exact (clearSwardRegs_within ((Within.refl _ m).modSward p _ (by simp)) (by decide) (by simp)).modSward p _ (by simp)
    · have hs : (clearSward p (clearSwardRegs p 0x40000 (m.modSward p fun x => { x with por := true }))).sward p =
          { frame := (m.sward p).frame, rst := true, bypass := (m.sward p).bypass, por := true,
            lnkRaw := (m.sward p).lnkRaw, lnkSince := (m.sward p).lnkSince } := by
        rw [clearSward, Wafer.sward_modSward, clearSwardRegs_eq, Wafer.sward_set]
        rw [dropRegs_sward, Wafer.sward_modSward]
      refine ⟨?_, ?_, ?_, ?_, ?_⟩
      · rw [vibGone_sward, hs]
      · rw [vibGone_sward, hs]
      · rw [vibGone_sward, hs]
      · have hr : resetWord m.fuse (swd p + 0x8000) = 0 := by rw [resetWord_sward _ p.isLt (by decide)]; rfl
        rw [vibGone_on_sward, clearSward, Wafer.on_modSward, Wafer.on, Wafer.get, clearSwardRegs_word (by decide) (by decide)]
        rw [Wafer.modSward_fuse, hr]
        rfl
      · rw [vibGone_on_sward, clearSward, Wafer.on_modSward, clearSwardRegs_fence, Wafer.on_modSward]
  · intro m u h
    refine .of_effect _ (fun _ => rfl) ?_ ?_
    all_goals rw [doReleaseWrite]
    · have hu := unitArea_unitIn u
      rw [releaseUnit_eq h]
      exact startRail_within (startRail_within (outOfReset_within (.refl _ m) hu) hu 0) hu 1
    · exact releaseUnit_gives h
  · intro m u h
    refine .of_idle _ (fun _ => rfl) ?_ rfl
    rw [doReleaseWrite, releaseUnit, if_neg h]
  · intro m u k
    have hw := telemetryWritten_within (.refl { fields := [(u.base, ⟨0x600, 0, 32⟩), (u.base, TSK_TSTAT.WCLAMP)], units := (· == u) } m)
      (u := u) (by simp) k
    have hn : (telemetryWritten u k m).get u.base TSK_TCFG.WIN_N = k.val := get_plainWrite_tcfg k
    refine .of_effect _ (fun _ => rfl) ?_ ?_
    all_goals rw [doTelemetryWindowWrite_eq]; split
    · exact (hw.tcfg (by simp) _).set _ _ _ (by simp)
    · exact hw
    · rename_i hk
      refine ⟨?_, fun _ => Wafer.on_set_one _ _ _ (by decide) (by decide)⟩
      rw [Wafer.get_set_beside _ _ (by decide), Wafer.get_set_fits _ _ (by decide)]
      omega
    · rename_i hk
      exact ⟨by rw [hn]; omega, fun h => absurd h hk⟩
  · intro m u
    refine .of_effect _ (fun _ => rfl) ?_ ?_
    all_goals rw [doMarkStale]
    · exact (Within.refl _ m).modUnit _ _ (by simp)
    · rw [Wafer.unit_modUnit]

end Sys2Proof.Machine
end

section
/-! Unit reset, CLEAR and Sward reset (R320 to R326). -/

namespace Sys2Proof.Machine

variable {A : Area} {m₀ m n : Wafer} {p : Nat} {u : UnitId}

/-! ### Units of a partition -/

theorem unitOf_part_loc (u : UnitId) : unitOf u.part u.loc = u := by
  cases u with
  | tussock g =>
    have hl : UnitId.loc (.tussock g) < 64 := Nat.mod_lt _ (by decide)
    rw [unitOf, if_pos hl]
    congr 1
    apply Fin.ext
    simp only [UnitId.part, UnitId.loc, Fin.val_ofNat]
    omega
  | verge k =>
    have hk : k.val / 8 < 28 := by omega
    have ho := (edgePart_ord ⟨k.val / 8, hk⟩).1
    dsimp only at ho
    have hl : ¬ UnitId.loc (.verge k) < 64 := by simp only [UnitId.loc]; omega
    rw [unitOf, if_neg hl]
    congr 1
    apply Fin.ext
    simp only [UnitId.part, UnitId.loc, Fin.val_ofNat, ho]
    omega

/-- A Sward's own registers are none of a unit's. -/
theorem Within.word_unit (h : Within (swardArea p) m n) (u : UnitId) {o : Nat} (ho : o < 0x1000) :
    n.word (u.base + o) = m.word (u.base + o) :=
  h.word fun i _ hb => by
    rcases hb with ⟨e, he, -⟩ | ⟨e, he, h1, h2⟩
    · exact absurd he List.not_mem_nil
    · rw [List.mem_singleton.1 he] at h1 h2
      dsimp only at h1 h2
      exact u.base_ne_swd p ho (j := u.base + o - swd p) (by omega) (by omega)

theorem Within.on_unit (h : Within (swardArea p) m n) (u : UnitId) {f : Fld} (ho : f.off < 0x1000) :
    n.on u.base f = m.on u.base f := Wafer.on_of_word (h.word_unit u ho)

theorem Within.get_unit (h : Within (swardArea p) m n) (u : UnitId) {f : Fld} (ho : f.off < 0x1000) :
    n.get u.base f = m.get u.base f := by rw [Wafer.get, h.word_unit u ho, Wafer.get]

theorem Within.unit_of_sward (h : Within (swardArea p) m n) (u : UnitId) : n.unit u = m.unit u := h.units u rfl

/-- A counter that saturates. -/
theorem Wafer.get_incSat (m : Wafer) (b : Nat) {f : Fld} (h : f.lo + f.wid ≤ 32) :
    (m.incSat b f).get b f = min (2 ^ f.wid - 1) (m.get b f + 1) := by
  have hl : m.get b f < 2 ^ f.wid := getBits_lt _ _ _
  unfold Wafer.incSat
  split
  · rw [Wafer.inc, m.get_set _ _ _ h, Nat.mod_eq_of_lt (by assumption)]
    omega
  · omega

/-- A counter that saturates leaves other fields. -/
theorem Wafer.get_incSat_beside (m : Wafer) {b : Nat} {f g : Fld}
    (h : f.off ≠ g.off ∨ f.lo + f.wid ≤ g.lo ∨ g.lo + g.wid ≤ f.lo) : (m.incSat b f).get b g = m.get b g := by
  unfold Wafer.incSat
  split
  · exact m.get_set_beside _ h
  · rfl

theorem Wafer.on_incSat_beside (m : Wafer) {b : Nat} {f g : Fld}
    (h : f.off ≠ g.off ∨ f.lo + f.wid ≤ g.lo ∨ g.lo + g.wid ≤ f.lo) : (m.incSat b f).on b g = m.on b g := by
  rw [Wafer.on, m.get_incSat_beside h, Wafer.on]

/-! ### The Sward's note of a unit's reset (R320, R323) -/

/-- The registers that note a reset, before it is counted and reported. -/
def resetNoted (p k : Nat) (m : Wafer) : Wafer :=
  ((m.incSat (swd p) SWD_RSTSTAT.URST_CNT).set (swd p) SWD_RSTSTAT.UNIT k).set (swd p) (SWD_UEPOCH.RST_SEEN k) 1

theorem noteUnitReset_counts (p k : Nat) : Counts p (resetNoted p k m) (noteUnitReset p k m) :=
  .queueReport (.count (.refl p _) (by decide) _ _) _

theorem noteUnitReset_keeps (h : Keeps A m₀ m) (hp : SwardIn A p) {k : Nat} (hk : k < 72) :
    Keeps A m₀ (noteUnitReset p k m) :=
  reportEvent_keeps (count_keeps (((h.incSat _ _ (hp.has (by decide))).swardSet hp _ (by decide)).swardSet hp _
    (by simp; omega)) hp (by decide) _ _) hp _ _ _ _

theorem noteUnitReset_unit {k : Nat} (hk : k < 72) : (noteUnitReset p k m).get (swd p) SWD_RSTSTAT.UNIT = k := by
  rw [(noteUnitReset_counts p k).get _ (by decide), resetNoted, Wafer.get_set_beside _ _ (.inl (by simp; omega)),
    Wafer.get_set_fits _ _ ⟨by decide, by simp; omega⟩]

theorem noteUnitReset_seen {k : Nat} (hk : k < 72) : (noteUnitReset p k m).on (swd p) (SWD_UEPOCH.RST_SEEN k) = true := by
  rw [(noteUnitReset_counts p k).on _ (.inl (by simp; omega)), resetNoted, Wafer.on_set_one _ _ _ (by simp) (by simp)]

theorem noteUnitReset_count (k : Nat) : (noteUnitReset p k m).get (swd p) SWD_RSTSTAT.URST_CNT =
    min 255 (m.get (swd p) SWD_RSTSTAT.URST_CNT + 1) := by
  rw [(noteUnitReset_counts p k).get _ (by decide), resetNoted, Wafer.get_set_beside _ _ (.inl (by simp; omega)),
    Wafer.get_set_beside _ _ (by decide), Wafer.get_incSat _ _ (by decide)]
  rfl

theorem noteUnitReset_own (k l : Nat) : ((noteUnitReset p k m).sward p).own l = (m.sward p).own l := by
  rw [(noteUnitReset_counts p k).keeps (·.own l), resetNoted, Wafer.sward_set, Wafer.sward_set, Wafer.sward, Wafer.incSat_swards,
    ← Wafer.sward]

theorem dropOwn_own (p k : Nat) : ((dropOwn p k m).sward p).own k = [] := by
  rw [dropOwn, Wafer.sward_modSward]
  exact Store.get_set_same noAccess (m.sward p).ownQ k []

theorem dropOwn_get (p k b : Nat) (f : Fld) : (dropOwn p k m).get b f = m.get b f := rfl

theorem dropOwn_unit (p k : Nat) (v : UnitId) : (dropOwn p k m).unit v = m.unit v := by rw [dropOwn, Wafer.unit_modSward]

theorem dropOwn_within (h : Within A m₀ m) (hp : A.swards p = true) (k : Nat) : Within A m₀ (dropOwn p k m) :=
  h.modSward p _ hp

/-! ### URST (R320) -/

theorem urst_data : ∀ k : Fin 128, (BitVec.ofNat 32 (2 ^ 31 + k.val)).getLsbD 31 = true ∧
    getBits (BitVec.ofNat 32 (2 ^ 31 + k.val)) 0 7 = k.val := by decide

theorem doUrst_eq (p : Fin 64) (k : Fin 128) : doUrst p k m =
    if 72 ≤ k.val ∨ (64 ≤ k.val ∧ isEdge p = false) then m.set (swd p) SWD_RSTSTAT.URST_REJ 1 else resetUnit p k m := by
  obtain ⟨h1, h2⟩ := urst_data k
  rw [doUrst, rstcmdWrite, h1, if_pos rfl, h2]

theorem doUrst_unit {p : Fin 64} {k : Fin 128} (h : k.val < 64 ∨ (k.val < 72 ∧ isEdge p = true)) :
    doUrst p k m = resetUnit p k m := by
  rw [doUrst_eq, if_neg]
  rintro (h1 | ⟨h1, h2⟩)
  · omega
  · rcases h with h | ⟨-, h⟩
    · omega
    · rw [h2] at h; contradiction

theorem doUrst_none {p : Fin 64} {k : Fin 128} (h : 72 ≤ k.val ∨ (64 ≤ k.val ∧ isEdge p = false)) :
    doUrst p k m = m.set (swd p) SWD_RSTSTAT.URST_REJ 1 := by rw [doUrst_eq, if_pos h]

theorem resetUnit_run {k : Nat} (h : (m.unit (unitOf p k)).rst = .run) :
    resetUnit p k m = noteUnitReset p k (clearUnit (unitOf p k) false (dropOwn p k m)) := by
  rw [resetUnit, dropOwn_unit, h, if_neg (by simp), if_pos rfl]

theorem resetUnit_again {k : Nat} (h : (m.unit (unitOf p k)).rst = .clear ∨ (m.unit (unitOf p k)).rst = .restore) :
    resetUnit p k m = clearUnit (unitOf p k) false (dropOwn p k m) := by
  rw [resetUnit, dropOwn_unit]
  rcases h with h | h <;> rw [h, if_neg (by simp), if_neg (by simp)]

theorem resetUnit_powerOn {k : Nat} (h : (m.unit (unitOf p k)).rst = .powerOn) : resetUnit p k m = dropOwn p k m := by
  rw [resetUnit, dropOwn_unit, h, if_pos rfl]

/-- What a reset and its note leave of a unit and its Sward. -/
theorem noted_gives {k : Nat} (hk : k < 72) (n : Wafer) (v : UnitId) :
    ((noteUnitReset p k (clearUnit v false n)).unit v).rst = .clear ∧
    (∀ q : Fin 2, railState v q.val (noteUnitReset p k (clearUnit v false n)) = rOFF ∧
      railEnabled v q.val (noteUnitReset p k (clearUnit v false n)) = false) := by
  have hw := (noteUnitReset_keeps (.refl _ (clearUnit v false n)) (swardArea_swardIn p) hk).within
  refine ⟨by rw [hw.unit_of_sward, clearUnit_rst, if_neg Bool.false_ne_true], fun q => ⟨?_, ?_⟩⟩
  · rw [railState, hw.get_unit v (by simp; omega), ← railState, clearUnit_state]
  · rw [railEnabled, hw.on_unit v (by rw [enField_off]; decide), ← railEnabled, clearUnit_enabled]

/-! ### CLEAR and RESTORE (R324) -/

/-- TSK_TIESTAT shows the wires again. -/
def wiresShown (u : UnitId) (m : Wafer) : Wafer :=
  (List.range 4).foldl (fun m k =>
    (m.set u.base (TSK_TIESTAT.REQ_IN k) ((m.unit u).port k).reqWire).setB u.base (TSK_TIESTAT.ACK_IN k) ((m.unit u).port k).ackWire) m

/-- The unit in RESTORE, before the wires are shown. -/
def inRestore (u : UnitId) (m : Wafer) : Wafer := (m.modUnit u fun x => { x with rst := .restore }).set u.base TSK_RST.RESTORE 1

theorem restoreUnit_eq : restoreUnit u m = if u.isVerge then inRestore u m else wiresShown u (inRestore u m) := rfl

theorem wiresShown_within (h : Within A m₀ m) (hu : UnitIn A u) : Within A m₀ (wiresShown u m) :=
  h.fold _ _ fun m k _ h => (h.set _ _ _ (.inr ⟨_, hu.block, by simp, by simp⟩)).set _ _ _ (.inr ⟨_, hu.block, by simp, by simp⟩)

theorem restoreUnit_within (h : Within A m₀ m) (hu : UnitIn A u) : Within A m₀ (restoreUnit u m) := by
  have k : Within A m₀ (inRestore u m) := (h.modUnit u _ hu.hidden).set _ _ _ (.inr ⟨_, hu.block, by simp, by simp⟩)
  rw [restoreUnit_eq]
  split
  · exact k
  · exact wiresShown_within k hu

theorem wiresShown_req (k : Fin 4) :
    (wiresShown u m).get u.base (TSK_TIESTAT.REQ_IN k) = ((m.unit u).port k.val).reqWire % 4 := by
  have hs (k : Fin 4) (n : Wafer) (v : Nat) : (n.set u.base (TSK_TIESTAT.REQ_IN k) v).get u.base (TSK_TIESTAT.REQ_IN k) = v % 4 :=
    n.get_set _ _ _ (by simp; omega)
  unfold wiresShown
  show (((((((m.set _ (TSK_TIESTAT.REQ_IN 0) _).setB _ (TSK_TIESTAT.ACK_IN 0) _).set _ (TSK_TIESTAT.REQ_IN 1) _).setB _
    (TSK_TIESTAT.ACK_IN 1) _).set _ (TSK_TIESTAT.REQ_IN 2) _).setB _ (TSK_TIESTAT.ACK_IN 2) _).set _
    (TSK_TIESTAT.REQ_IN 3) _ |>.setB _ (TSK_TIESTAT.ACK_IN 3) _).get _ _ = _
  simp only [Wafer.setB, Wafer.unit_set]
  match k with
  | 0 =>
    simp (disch := decide) only [Wafer.get_set_beside]
    exact hs 0 _ _
  | 1 =>
    simp (disch := decide) only [Wafer.get_set_beside]
    exact hs 1 _ _
  | 2 =>
    simp (disch := decide) only [Wafer.get_set_beside]
    exact hs 2 _ _
  | 3 =>
    simp (disch := decide) only [Wafer.get_set_beside]
    exact hs 3 _ _

theorem wiresShown_ack (k : Fin 4) :
    (wiresShown u m).on u.base (TSK_TIESTAT.ACK_IN k) = ((m.unit u).port k.val).ackWire := by
  have hs (k : Fin 4) (n : Wafer) (v : Bool) : (n.set u.base (TSK_TIESTAT.ACK_IN k) (bit v)).on u.base (TSK_TIESTAT.ACK_IN k) = v :=
    n.on_setB _ _ _ (by simp; omega) (by simp)
  unfold wiresShown
  show (((((((m.set _ (TSK_TIESTAT.REQ_IN 0) _).setB _ (TSK_TIESTAT.ACK_IN 0) _).set _ (TSK_TIESTAT.REQ_IN 1) _).setB _
    (TSK_TIESTAT.ACK_IN 1) _).set _ (TSK_TIESTAT.REQ_IN 2) _).setB _ (TSK_TIESTAT.ACK_IN 2) _).set _
    (TSK_TIESTAT.REQ_IN 3) _ |>.setB _ (TSK_TIESTAT.ACK_IN 3) _).on _ _ = _
  simp only [Wafer.setB, Wafer.unit_set]
  match k with
  | 0 =>
    simp (disch := decide) only [Wafer.on_set_ne]
    exact hs 0 _ _
  | 1 =>
    simp (disch := decide) only [Wafer.on_set_ne]
    exact hs 1 _ _
  | 2 =>
    simp (disch := decide) only [Wafer.on_set_ne]
    exact hs 2 _ _
  | 3 => exact hs 3 _ _

/-- Showing the wires changes no hidden state, and no register beside TSK_TIESTAT. -/
theorem wiresShown_keeps : (wiresShown u m).unit u = m.unit u ∧ ∀ f : Fld, f.off ≠ 0x314 →
    (wiresShown u m).on u.base f = m.on u.base f := by
  unfold wiresShown
  generalize List.range 4 = l
  induction l generalizing m with
  | nil => exact ⟨rfl, fun _ _ => rfl⟩
  | cons k t ih =>
    rw [List.foldl_cons]
    obtain ⟨h1, h2⟩ := ih (m := (m.set u.base (TSK_TIESTAT.REQ_IN k) ((m.unit u).port k).reqWire).setB u.base
      (TSK_TIESTAT.ACK_IN k) ((m.unit u).port k).ackWire)
    refine ⟨h1.trans (by rw [Wafer.setB, Wafer.unit_set, Wafer.unit_set]), fun f hf => (h2 f hf).trans ?_⟩
    rw [Wafer.setB, Wafer.on_set_ne _ _ (.inl (Ne.symm hf)), Wafer.on_set_ne _ _ (.inl (Ne.symm hf))]

theorem inRestore_unit : (inRestore u m).unit u = { m.unit u with rst := .restore } := by
  rw [inRestore, Wafer.unit_set, Wafer.unit_modUnit]

theorem inRestore_on : (inRestore u m).on u.base TSK_RST.RESTORE = true := Wafer.on_set_one _ _ _ (by decide) (by decide)

theorem restoreUnit_unit : (restoreUnit u m).unit u = { m.unit u with rst := .restore } := by
  rw [restoreUnit_eq]
  split
  · exact inRestore_unit
  · rw [wiresShown_keeps.1, inRestore_unit]

theorem restoreUnit_restore : (restoreUnit u m).on u.base TSK_RST.RESTORE = true := by
  rw [restoreUnit_eq]
  split
  · exact inRestore_on
  · rw [wiresShown_keeps.2 _ (by decide), inRestore_on]

/-- The tie wires of a Tussock in RESTORE. -/
theorem restoreUnit_wires (hv : u.isVerge = false) (k : Fin 4) :
    (restoreUnit u m).get u.base (TSK_TIESTAT.REQ_IN k) = ((m.unit u).port k.val).reqWire % 4 ∧
    (restoreUnit u m).on u.base (TSK_TIESTAT.ACK_IN k) = ((m.unit u).port k.val).ackWire := by
  have hp : (({ m.unit u with rst := .restore } : UnitSt).port k.val) = (m.unit u).port k.val := by
    match k with
    | 0 => rfl
    | 1 => rfl
    | 2 => rfl
    | 3 => rfl
  rw [restoreUnit_eq, hv, if_neg Bool.false_ne_true, wiresShown_req, wiresShown_ack, inRestore_unit, hp]
  exact ⟨rfl, rfl⟩

/-! ### RESTORE at the Sward (R324, R329) -/

/-- From the first controller to the second a Sward has begun returns and queued its own writes, and
nothing that the end of its reset has set changes. -/
structure Restores (p : Nat) (m m' : Wafer) : Prop where
  keeps : Keeps (swardArea p) m m'
  get : ∀ f : Fld, f.off < 0xA000 → m'.get (swd p) f = m.get (swd p) f
  rst : (m'.sward p).rst = (m.sward p).rst
  dom : (m'.sward p).dom = (m.sward p).dom
  due : (m'.sward p).schedDue = (m.sward p).schedDue
  returning : ∀ k, k ∈ (m.sward p).returning → k ∈ (m'.sward p).returning

namespace Restores

@[refl] theorem refl (p : Nat) (m : Wafer) : Restores p m m := ⟨.refl _ m, fun _ _ => rfl, rfl, rfl, rfl, fun _ h => h⟩

theorem trans (h : Restores p m₀ m) (k : Restores p m n) : Restores p m₀ n where
  keeps := h.keeps.trans k.keeps
  get f hf := (k.get f hf).trans (h.get f hf)
  rst := k.rst.trans h.rst
  dom := k.dom.trans h.dom
  due := k.due.trans h.due
  returning i hi := k.returning i (h.returning i hi)

theorem queueOwn (h : Restores p m₀ m) (k off : Nat) (data : Word) : Restores p m₀ (queueOwn p k off data m) :=
  h.trans ⟨(Keeps.refl _ m).swardMod (swardArea_swardIn p) _, fun _ _ => rfl, by rw [Machine.queueOwn, m.sward_modSward],
    by rw [Machine.queueOwn, m.sward_modSward], by rw [Machine.queueOwn, m.sward_modSward],
    fun i hi => by rw [Machine.queueOwn, m.sward_modSward]; exact hi⟩

theorem beginReturn (h : Restores p m₀ m) (us : List Nat) : Restores p m₀ (beginReturn p us m) :=
  h.trans ⟨(Keeps.refl _ m).swardMod (swardArea_swardIn p) _, fun _ _ => rfl, by rw [Machine.beginReturn, m.sward_modSward],
    by rw [Machine.beginReturn, m.sward_modSward], by rw [Machine.beginReturn, m.sward_modSward],
    fun i hi => by
      rw [Machine.beginReturn, m.sward_modSward, List.mem_append, List.mem_filter]
      by_cases hu : i ∈ us
      · exact .inl hu
      · exact .inr ⟨hi, by simpa using hu⟩⟩

theorem count (h : Restores p m₀ m) {k : Nat} (hk : k < 128) (v : Nat) (e : EventAttr) : Restores p m₀ (count p k v e m) := by
  have c := (Counts.refl p m).count hk v e
  exact h.trans ⟨count_keeps (.refl _ m) (swardArea_swardIn p) hk v e, fun f hf => c.get f (.inl hf), c.keeps SwardSt.rst,
    c.keeps SwardSt.dom, c.keeps SwardSt.schedDue, fun i hi => by rw [c.keeps SwardSt.returning]; exact hi⟩

theorem fold {α : Type} (h : Restores p m₀ m) (l : List α) (f : Wafer → α → Wafer)
    (hf : ∀ m x, Restores p m₀ m → Restores p m₀ (f m x)) : Restores p m₀ (l.foldl f m) := by
  induction l generalizing m with
  | nil => exact h
  | cons x t ih => exact ih (hf m x h)

theorem queueImage (h : Restores p m₀ m) (k : Nat) : Restores p m₀ (queueImage p k m) :=
  .count (.fold h _ _ fun _ _ k => k.queueOwn _ _ _) (by decide) _ _

theorem beginRestore (h : Restores p m₀ m) (k : Nat) : Restores p m₀ (beginRestore p k m) := by
  unfold Machine.beginRestore
  split
  · exact (h.beginReturn _).queueImage k
  · exact h

end Restores

/-- An own write waits for its unit. -/
theorem queueOwn_own (k off : Nat) (data : Word) : ((queueOwn p k off data m).sward p).own k ≠ [] := by
  rw [queueOwn, Wafer.sward_modSward]
  show Store.get noAccess (Store.set noAccess _ k _) k ≠ []
  rw [Store.get_set_same]
  simp

/-- The image of a unit has at least its TSK_CTL. -/
theorem imageOffsets_cons (verge drive : Bool) : ∃ t, imageOffsets verge drive = 4 :: t := ⟨_, rfl⟩

/-- Own writes go on waiting while others join them. -/
theorem foldl_queueOwn_own (k : Nat) (l : List Nat) (f : Wafer → Nat → Word) (h : ((m.sward p).own k) ≠ []) :
    ((l.foldl (fun m o => queueOwn p k o (f m o) m) m).sward p).own k ≠ [] := by
  induction l generalizing m with
  | nil => exact h
  | cons o t ih => exact ih (queueOwn_own k o _)

theorem queueImage_own (k : Nat) : ((queueImage p k m).sward p).own k ≠ [] := by
  unfold queueImage
  obtain ⟨t, ht⟩ := imageOffsets_cons (decide (64 ≤ k)) (m.on (swd p) SWD_LDCTL.DRIVE)
  dsimp only
  rw [((Counts.refl p _).count (by decide) _ _).keeps (·.own k), ht]
  exact foldl_queueOwn_own k t _ (queueOwn_own k 4 _)

theorem beginRestore_due {k : Nat} (h : (m.unit (unitOf p k)).rst = .restore) :
    ((beginRestore p k m).sward p).returning.contains k = true ∧ ((beginRestore p k m).sward p).own k ≠ [] := by
  rw [beginRestore, if_pos h]
  refine ⟨?_, queueImage_own k⟩
  rw [List.contains_iff_mem]
  refine ((Restores.refl p _).queueImage k).returning k ?_
  rw [beginReturn, Wafer.sward_modSward]
  exact List.mem_append_left _ (List.mem_singleton_self _)

/-! ### Sward reset (R325, R326) -/

/-- What a Sward reset makes of the word at an address. -/
def swardBack (fuse p a : Nat) (w : Word) : Word :=
  if swd p ≤ a ∧ a < swd p + 0x40000 then
    let keep := BitVec.ofNat 32 (swardKeep (a - swd p))
    (w &&& keep) ||| (resetRegister fuse false a w &&& ~~~keep)
  else w

theorem swardBack_reset (fuse p a : Nat) : swardBack fuse p a (resetWord fuse a) = resetWord fuse a := by
  unfold swardBack
  split
  · dsimp only
    rw [resetRegister_reset, and_or_and_not]
  · rfl

theorem word_resetSwardBlock (a : Nat) : (resetSwardBlock p m).word a = swardBack m.fuse p a (m.word a) :=
  Store.get_map (resetWord m.fuse) (swardBack m.fuse p) m.regs a (swardBack_reset _ _ _)

theorem resetSwardBlock_within (h : Within A m₀ m) (hp : SwardIn A p) : Within A m₀ (resetSwardBlock p m) :=
  h.trans ⟨rfl, fun a i _ ha => by
    rw [word_resetSwardBlock, swardBack, if_neg]
    exact fun hr => ha (.inr ⟨_, hp.block, hr⟩), fun _ _ => rfl, fun _ _ => rfl, fun _ => rfl, fun _ => rfl, fun _ => rfl⟩

/-- The count of Sward resets survives them. -/
theorem resetSwardBlock_count :
    (resetSwardBlock p m).get (swd p) SWD_RSTSTAT.SRST_CNT = m.get (swd p) SWD_RSTSTAT.SRST_CNT := by
  have hk : ∀ i : Fin 32, 16 ≤ i.val → i.val < 24 → (BitVec.ofNat 32 (swardKeep 0x1014)).getLsbD i.val = true := by decide
  have ho : swd p + 0x1014 - swd p = 0x1014 := Nat.add_sub_cancel_left _ _
  rw [Wafer.get, word_resetSwardBlock, swardBack, if_pos ⟨by simp, by simp⟩, Wafer.get]
  refine getBits_congr fun i hi h1 h2 => ?_
  dsimp only
  rw [ho, BitVec.getLsbD_or, BitVec.getLsbD_and, BitVec.getLsbD_and, BitVec.getLsbD_not, hk ⟨i, hi⟩ h1 h2]
  simp

/-- A walk that is given up counts, and leaves the registers past those of the ladder. -/
theorem abandonWalk_get {f : Fld} (hf : 0x64 ≤ f.off ∧ f.off < 0xA000) :
    (abandonWalk p m).get (swd p) f = m.get (swd p) f := by
  unfold abandonWalk
  split
  · rfl
  · dsimp only
    rw [((Counts.refl p _).tally (by decide)).get f (.inl hf.2), Wafer.get_modSward,
      Wafer.get_set_beside _ _ (.inl (by dsimp only; omega)), Wafer.get_set_beside _ _ (.inl (by dsimp only; omega)),
      Wafer.inc, Wafer.get_set_beside _ _ (.inl (by dsimp only; omega)),
      Wafer.get_set_beside _ _ (.inl (by dsimp only; omega)), Wafer.get_set_beside _ _ (.inl (by dsimp only; omega)),
      Wafer.get_set_beside _ _ (.inl (by dsimp only; omega)), Wafer.get, Wafer.word_putWord_ne _ _ (by simp; omega), Wafer.get]

/-- The hidden state of a Sward in its reset: what survives (R325). -/
def swardInReset (old : SwardSt) : SwardSt :=
  { frame := old.frame, rst := true, waitEnum := old.waitEnum, bypass := old.bypass,
    pendWrites := old.pendWrites, pendSwath := old.pendSwath, swath := old.swath, sig := old.sig,
    recs := old.recs, lostRun := old.lostRun, tieCur := old.tieCur, image := old.image, nbr := old.nbr,
    vsetSent := old.vsetSent, hdrCore := old.hdrCore, hdrSpine := old.hdrSpine, hdrArrRet := old.hdrArrRet,
    hdrRet := old.hdrRet, rungSent := old.rungSent, rungNext := old.rungSent, rungVolt := old.rungSent,
    leasePend := old.leasePend, lease := old.lease, lnkRaw := old.lnkRaw, lnkSince := old.lnkSince,
    lnkPassed := old.lnkPassed, afterTrip := old.afterTrip, agg := { stale := true, winN := old.agg.winN },
    nanojoules := old.nanojoules, microjoules := old.microjoules, tapBase := old.tapBase,
    reports := old.reports, reportSeq := old.reportSeq, uncounted := old.uncounted,
    colReports := old.colReports, flAt := old.flAt, lastLost := old.lastLost }

/-- The Sward in its reset, before the reset is marked. -/
def resetBegun (p : Nat) (m : Wafer) : Wafer :=
  (abandonWalk p (resetSwardBlock p m)).modSward p fun _ => swardInReset (m.sward p)

/-- The reset marked in the Sward's registers. -/
def resetMarked (p : Nat) (m : Wafer) : Wafer :=
  (((resetBegun p m).set (swd p) SWD_RUNGSTAT.TGT (m.sward p).rungSent).incSat (swd p) SWD_RSTSTAT.SRST_CNT).set (swd p)
    SWD_CSTAT.RST_GAP 1

theorem beginSwardReset_eq {cause : Nat} (h : (m.sward p).rst = false) :
    beginSwardReset p cause m = swardFault p 38 cause 0 (resetMarked p m) := by
  rw [beginSwardReset, h, if_neg Bool.false_ne_true]
  rfl

theorem beginSwardReset_idle {cause : Nat} (h : (m.sward p).rst = true) : beginSwardReset p cause m = m := by
  rw [beginSwardReset, h, if_pos rfl]

/-- A report is no register's. -/
theorem swardFault_get (code a b : Nat) (c : Nat) (f : Fld) : (swardFault p code a b m).get c f = m.get c f := by
  rw [swardFault, reportEvent, queueReport]
  dsimp only
  split
  · rw [Wafer.get_send, Wafer.get_modSward]
  · rw [Wafer.get_modSward]

theorem resetMarked_sward : (resetMarked p m).sward p = swardInReset (m.sward p) := by
  rw [resetMarked, Wafer.sward_set, Wafer.sward, Wafer.incSat_swards, ← Wafer.sward, Wafer.sward_set, resetBegun,
    Wafer.sward_modSward]

theorem beginSwardReset_within {cause : Nat} (h : (m.sward p).rst = false) :
    Within (swardArea p) m (beginSwardReset p cause m) := by
  have hp := swardArea_swardIn p
  have hb : Within (swardArea p) m (resetBegun p m) :=
    (resetSwardBlock_within (.refl _ m) hp).trans (((abandonWalk_keeps (.refl _ _) hp).swardMod hp _).within)
  rw [beginSwardReset_eq h]
  exact hb.trans (swardFault_keeps ((((Keeps.refl _ _).swardSet hp _ (by decide)).incSat _ _ (hp.has (by decide))).swardSet hp _
    (by decide)) hp _ _ _).within

/-- What a Sward reset leaves (R325). -/
theorem beginSwardReset_gives {cause : Nat} (h : (m.sward p).rst = false) :
    ((beginSwardReset p cause m).sward p).rst = true ∧
    (beginSwardReset p cause m).on (swd p) SWD_CSTAT.RST_GAP = true ∧
    (beginSwardReset p cause m).get (swd p) SWD_RUNGSTAT.TGT = (m.sward p).rungSent % 2 ^ SWD_RUNGSTAT.TGT.wid ∧
    ((beginSwardReset p cause m).sward p).frame = (m.sward p).frame ∧
    ((beginSwardReset p cause m).sward p).walk = none ∧
    (beginSwardReset p cause m).get (swd p) SWD_RSTSTAT.SRST_CNT =
      min (2 ^ SWD_RSTSTAT.SRST_CNT.wid - 1) (m.get (swd p) SWD_RSTSTAT.SRST_CNT + 1) := by
  have hc := (Counts.refl p (resetMarked p m)).swardFault 38 cause 0
  rw [beginSwardReset_eq h]
  refine ⟨?_, ?_, ?_, ?_, ?_, ?_⟩
  · rw [hc.keeps SwardSt.rst, resetMarked_sward]
    rfl
  · rw [Wafer.on, swardFault_get, ← Wafer.on, resetMarked, Wafer.on_set_one _ _ _ (by decide) (by decide)]
  · rw [swardFault_get, resetMarked, Wafer.get_set_beside _ _ (by decide), Wafer.get_incSat_beside _ (by decide),
      Wafer.get_set _ _ _ _ (by decide)]
  · rw [hc.keeps SwardSt.frame, resetMarked_sward]
    rfl
  · rw [hc.keeps SwardSt.walk, resetMarked_sward]
    rfl
  · rw [swardFault_get, resetMarked, Wafer.get_set_beside _ _ (by decide), Wafer.get_incSat _ _ (by decide),
      Wafer.get_set_beside _ _ (by decide), resetBegun, Wafer.get_modSward, abandonWalk_get (by decide), resetSwardBlock_count]

/-! ### The end of a Sward reset (R326) -/

/-- The Sward out of its reset, its shadow bank as R248 has it. -/
def outOfSwardReset (p : Nat) (m : Wafer) : Wafer := shadowAfterReset p (m.modSward p fun x => { x with rst := false })

theorem outOfSwardReset_sward : (outOfSwardReset p m).sward p = { m.sward p with rst := false } := by
  unfold outOfSwardReset shadowAfterReset
  split
  · rw [Wafer.sward_modSward]
  · rw [sward_setShadow, Wafer.sward_modSward]

theorem outOfSwardReset_shadow : shadow p (outOfSwardReset p m) =
    if shadow p m = shFW ∨ shadow p m = shFAIL then shadow p m else shCOPY := by
  have hs (f : SwardSt → SwardSt) : shadow p (m.modSward p f) = shadow p m := by rw [shadow, Wafer.get_modSward, shadow]
  unfold outOfSwardReset shadowAfterReset
  rw [hs]
  split
  · rw [hs]
  · rw [shadow_setShadow p (by decide)]

theorem outOfSwardReset_keeps (h : Keeps A m₀ m) (hp : SwardIn A p) : Keeps A m₀ (outOfSwardReset p m) :=
  .ite (fun _ => h.swardMod hp _) fun _ => setShadow_keeps (h.swardMod hp _) hp _

/-- Every unit returns, and the Sward takes its domain state up again. -/
def resumed (p : Nat) (m : Wafer) : Wafer :=
  partitionReturn p (beginStep p .resume (m.modSward p fun x => { x with schedDue := true }))

theorem resumed_clears : ClearsSlots p (beginReturn p (unitsOf p)
    (beginStep p .resume (m.modSward p fun x => { x with schedDue := true }))) (resumed p m) := partitionReturn_clears

theorem resumed_sward : ((resumed p m).sward p).rst = (m.sward p).rst ∧ ((resumed p m).sward p).dom = .resume ∧
    ((resumed p m).sward p).schedDue = true := by
  refine ⟨?_, ?_, ?_⟩
  · rw [resumed_clears.keeps SwardSt.rst, beginReturn, Wafer.sward_modSward, beginStep, Wafer.sward_modSward, Wafer.sward_modSward]
  · rw [resumed_clears.keeps SwardSt.dom, beginReturn, Wafer.sward_modSward, beginStep, Wafer.sward_modSward]
  · rw [resumed_clears.keeps SwardSt.schedDue, beginReturn, Wafer.sward_modSward, beginStep, Wafer.sward_modSward, Wafer.sward_modSward]

theorem resumed_shadow : shadow p (resumed p m) = shadow p m := by
  rw [shadow, resumed_clears.get _ (by decide), beginReturn, Wafer.get_modSward, beginStep, Wafer.get_modSward,
    Wafer.get_modSward, shadow]

theorem resumed_within (h : Within A m₀ m) (hp : SwardIn A p) : Within A m₀ (resumed p m) :=
  partitionReturn_within ((h.modSward p _ hp.hidden).modSward p _ hp.hidden) hp

/-- Units in RESTORE are restored where the Sward may. -/
def restored (p : Nat) (m : Wafer) : Wafer :=
  if mayRestore p m then (unitsOf p).foldl (fun m k => beginRestore p k m) m else m

theorem restored_restores : Restores p m (restored p m) := by
  unfold restored
  split
  · exact .fold (.refl p m) _ _ fun _ _ k => k.beginRestore _
  · exact .refl p m

theorem doSwardResetEnd_eq {p : Fin 64} (hr : (m.sward p).rst = true) (hp : (m.sward p).por = false) : doSwardResetEnd p m =
    if (m.sward p).waitEnum then outOfSwardReset p m else schedRewrite (restored p (resumed p (outOfSwardReset p m))) p := by
  rw [doSwardResetEnd, if_pos ⟨hr, by rw [hp]; exact Bool.false_ne_true⟩]
  rfl

theorem doSwardResetEnd_idle {p : Fin 64} (h : (m.sward p).rst = false ∨ (m.sward p).por = true) : doSwardResetEnd p m = m := by
  rw [doSwardResetEnd, if_neg]
  rintro ⟨h1, h2⟩
  rcases h with h | h
  · rw [h] at h1; contradiction
  · exact h2 h

/-- The registers of SWD_SCHED and SWD_LOAD, and RUN kept where the known-answer test is not over. -/
theorem schedWrite_keeps (data : Word) (h : Keeps A m₀ m) (hp : SwardIn A p) (hh : A.heath = true) :
    Keeps A m₀ (schedWrite p data m) := by
  unfold schedWrite
  extract_lets b early m1 m2 m3 m4
  have k2 : Keeps A m₀ m2 := (h.swardSet hp _ (by decide)).swardSet hp _ (by decide)
  have k3 : Keeps A m₀ m3 := .ite (fun _ => k2.swardSet hp _ (by decide)) fun _ => k2
  have k4 : Keeps A m₀ m4 := k3.modHeath _ hh
  exact .ite (fun _ => k4.swardMod hp _) fun _ => k4.swardSet hp _ (by decide)

/-- Before the registers of SWD_SCHED nothing changes. -/
theorem schedWrite_get (data : Word) {f : Fld} (hf : f.off < 0x8000) :
    (schedWrite p data m).get (swd p) f = m.get (swd p) f := by
  have k {n : Wafer} {g : Fld} (v : Nat) (hg : 0x8000 ≤ g.off) : (n.set (swd p) g v).get (swd p) f = n.get (swd p) f :=
    n.get_set_beside v (.inl (by omega))
  unfold schedWrite
  extract_lets b early m1 m2 m3 m4
  have k2 : m2.get (swd p) f = m.get (swd p) f := (k _ (by decide)).trans (k _ (by decide))
  have k4 : m4.get (swd p) f = m.get (swd p) f := by
    show m3.get (swd p) f = _
    rw [← k2]
    show (if _ then _ else m2).get (swd p) f = _
    split
    · exact k _ (by decide)
    · rfl
  rw [← k4]
  split
  · rw [Wafer.get_modSward]
  · exact k _ (by decide)

/-- What a Sward keeps beside the RUN that waits. -/
theorem schedWrite_sward (data : Word) {α : Type} (f : SwardSt → α)
    (hf : ∀ (x : SwardSt) (b : Bool), f { x with runPend := b } = f x := by intros; rfl) :
    f ((schedWrite p data m).sward p) = f (m.sward p) := by
  unfold schedWrite
  extract_lets b early m1 m2 m3 m4
  have k2 : m2.sward p = m.sward p := (Wafer.sward_set _ _ _ _ _).trans (Wafer.sward_set _ _ _ _ _)
  have k3 : m3.sward p = m2.sward p := by
    show (if _ then m2.set (swd p) SWD_LOAD.PEAK 0 else m2).sward p = _
    split
    · rw [Wafer.sward_set]
    · rfl
  have k4 : m4.sward p = m.sward p := (Wafer.sward_modHeath _ _ _).trans (k3.trans k2)
  split
  · rw [Wafer.sward_modSward, hf, k4]
  · rw [Wafer.setB, Wafer.sward_set, k4]

theorem schedRewrite_due (hd : (m.sward p).schedDue = true) (hr : (m.sward p).rst = false) : schedRewrite m p =
    if m.heath.active then schedWrite p (Store.get zeroWord m.heath.sched p) (m.modSward p fun x => { x with schedDue := false })
    else m := by
  rw [schedRewrite, hd, hr, Bool.true_and, Bool.not_false, Bool.and_true]

theorem schedRewrite_within (h : Within A m₀ m) (hp : SwardIn A p) (hh : A.heath = true) : Within A m₀ (schedRewrite m p) := by
  unfold schedRewrite
  split
  · exact (h.modSward p _ hp.hidden).trans (schedWrite_keeps _ (.refl _ _) hp hh).within
  · exact h

/-- What the rewrite of a SWD_SCHED that is due leaves. -/
theorem schedRewrite_gives (hd : (m.sward p).schedDue = true) (hr : (m.sward p).rst = false) :
    ((schedRewrite m p).sward p).rst = (m.sward p).rst ∧
    ((schedRewrite m p).sward p).returning = (m.sward p).returning ∧
    ((schedRewrite m p).sward p).dom = (m.sward p).dom ∧
    ((schedRewrite m p).sward p).schedDue = (!m.heath.active) ∧
    shadow p (schedRewrite m p) = shadow p m := by
  rw [schedRewrite_due hd hr]
  cases hact : m.heath.active with
  | false => exact ⟨rfl, rfl, rfl, hd, rfl⟩
  | true =>
    rw [if_pos rfl]
    refine ⟨?_, ?_, ?_, ?_, ?_⟩
    · rw [schedWrite_sward _ SwardSt.rst, Wafer.sward_modSward]
    · rw [schedWrite_sward _ SwardSt.returning, Wafer.sward_modSward]
    · rw [schedWrite_sward _ SwardSt.dom, Wafer.sward_modSward]
    · rw [schedWrite_sward _ SwardSt.schedDue, Wafer.sward_modSward]
      rfl
    · rw [shadow, schedWrite_get _ (by decide), Wafer.get_modSward, shadow]

/-- The Sward that takes its frames up again, before the Heath rewrites its SWD_SCHED. -/
def framesResumed (p : Nat) (m : Wafer) : Wafer := restored p (resumed p (outOfSwardReset p m))

/-- What stays with a Sward stays in an area that takes the Sward in. -/
theorem Within.into_sward (h : Within (swardArea p) m n) (hp : SwardIn A p) : Within A m n :=
  ⟨h.fuse, fun a i hi ha => h.regs a i hi fun hb => ha <| by
    rcases hb with ⟨e, he, -⟩ | ⟨e, he, h1⟩
    · exact absurd he List.not_mem_nil
    · rw [List.mem_singleton.1 he] at h1
      exact .inr ⟨_, hp.block, h1⟩,
    fun u _ => h.units u rfl, fun q hq => h.swards q (by
      have : q ≠ p := by rintro rfl; rw [hp.hidden] at hq; contradiction
      simpa [swardArea] using this),
    fun _ => h.heath rfl, fun hs => absurd (hp.sends.symm.trans hs) (by decide), fun _ => h.time rfl⟩

theorem framesResumed_within (p : Nat) (m : Wafer) : Within (swardArea p) m (framesResumed p m) :=
  (resumed_within (outOfSwardReset_keeps (.refl _ m) (swardArea_swardIn p)).within (swardArea_swardIn p)).trans
    restored_restores.keeps.within

theorem framesResumed_gives (p : Nat) (m : Wafer) :
    ((framesResumed p m).sward p).rst = false ∧
    (∀ u ∈ unitsOf p, u ∈ ((framesResumed p m).sward p).returning) ∧
    ((framesResumed p m).sward p).dom = .resume ∧
    ((framesResumed p m).sward p).schedDue = true ∧
    (framesResumed p m).heath = m.heath ∧
    shadow p (framesResumed p m) = if shadow p m = shFW ∨ shadow p m = shFAIL then shadow p m else shCOPY := by
  have r := restored_restores (p := p) (m := resumed p (outOfSwardReset p m))
  obtain ⟨h1, h2, h3⟩ := resumed_sward (p := p) (m := outOfSwardReset p m)
  refine ⟨?_, fun u hu => ?_, r.dom.trans h2, r.due.trans h3, ?_, ?_⟩
  · rw [framesResumed, r.rst, h1, outOfSwardReset_sward]
  · exact r.returning u (List.contains_iff_mem.1 (partitionReturn_returning hu))
  · exact (framesResumed_within p m).heath rfl
  · rw [framesResumed, shadow, r.get _ (by decide), ← shadow, resumed_shadow, outOfSwardReset_shadow]

/-! ### The unit in RESTORE at its Sward (R324, R329) -/

/-- RESTORE of a unit at its Sward. -/
def toRestore (u : UnitId) (m : Wafer) : Wafer :=
  if mayRestore u.part m then beginRestore u.part u.loc (restoreUnit u m) else restoreUnit u m

theorem restoreUnit_mayRestore (q : Nat) : mayRestore q (restoreUnit u m) = mayRestore q m := by
  have hw := restoreUnit_within (.refl _ m) (unitArea_unitIn u)
  rw [mayRestore, hw.heath rfl, hw.swards q rfl, mayRestore]

theorem doUnitClearEnd_eq (h : (m.unit u).rst = .clear) : doUnitClearEnd u m = toRestore u m := by
  rw [doUnitClearEnd, if_pos h, toRestore, ← restoreUnit_mayRestore]

theorem toRestore_restores : Restores u.part (restoreUnit u m) (toRestore u m) := by
  unfold toRestore
  split
  · exact (Restores.refl _ _).beginRestore _
  · exact .refl _ _

theorem toRestore_due (h : mayRestore u.part m = true) :
    ((toRestore u m).sward u.part).returning.contains u.loc = true ∧ ((toRestore u m).sward u.part).own u.loc ≠ [] := by
  rw [toRestore, if_pos h]
  exact beginRestore_due (by rw [unitOf_part_loc, restoreUnit_unit])

theorem toRestore_gives : ((toRestore u m).unit u).rst = .restore ∧ (toRestore u m).on u.base TSK_RST.RESTORE = true ∧
    (u.isVerge = false → ∀ k : Fin 4,
      (toRestore u m).get u.base (TSK_TIESTAT.REQ_IN k) = ((m.unit u).port k).reqWire % 4 ∧
      (toRestore u m).on u.base (TSK_TIESTAT.ACK_IN k) = ((m.unit u).port k).ackWire) := by
  have hw := (toRestore_restores (u := u) (m := m)).keeps.within
  refine ⟨by rw [hw.unit_of_sward, restoreUnit_unit], by rw [hw.on_unit u (by decide), restoreUnit_restore], fun hv k => ?_⟩
  rw [hw.get_unit u (by simp), hw.on_unit u (by simp)]
  exact restoreUnit_wires hv k

/-- Settles O43, clause by clause. -/
theorem unitAndSwardReset : Obligations.UnitAndSwardReset := by
  unfold Obligations.UnitAndSwardReset
  refine ⟨?_, ?_, ?_, ?_, ?_, ?_, ?_, ?_, ?_, ?_, ?_, ?_, ?_, ?_⟩
  · intro m p k hk hr
    have hk' : k.val < 72 := by omega
    have e : doUrst p k m = _ := (doUrst_unit hk).trans (resetUnit_run hr)
    refine .of_effect _ (fun _ => rfl) ?_ ?_
    all_goals rw [e]
    · exact (clearUnit_within (dropOwn_within (.refl _ m) (by simp) k) ⟨by simp, by simp⟩ false).trans
        (noteUnitReset_keeps (.refl _ _) ⟨by simp, by simp, rfl⟩ hk').within
    · obtain ⟨g1, g2⟩ := noted_gives (p := p) hk' (dropOwn p k m) (unitOf p k)
      refine ⟨g1, g2, ?_, noteUnitReset_unit hk', noteUnitReset_seen hk', ?_⟩
      · rw [noteUnitReset_own, clearUnit_sward, dropOwn_own]
      · rw [noteUnitReset_count, clearUnit_get_sward _ _ _ (by decide), dropOwn_get]
  · intro m p k hk hr
    have e : doUrst p k m = _ := (doUrst_unit hk).trans (resetUnit_again hr)
    refine .of_effect _ (fun _ => rfl) ?_ ?_
    all_goals rw [e]
    · exact clearUnit_within (dropOwn_within (.refl _ m) (by simp) k) ⟨by simp, by simp⟩ false
    · rw [clearUnit_rst, if_neg Bool.false_ne_true, clearUnit_sward, dropOwn_own]
      exact ⟨rfl, rfl⟩
  · intro m p k hk hr
    have e : doUrst p k m = _ := (doUrst_unit hk).trans (resetUnit_powerOn hr)
    refine .of_effect _ (fun _ => rfl) ?_ ?_
    all_goals rw [e]
    · exact dropOwn_within (.refl _ m) (by simp) k
    · rw [dropOwn_own]
  · intro m p k hk
    refine .of_effect _ (fun _ => rfl) ?_ ?_
    all_goals rw [doUrst_none hk]
    · exact (Within.refl _ m).set _ _ _ (by simp)
    · exact Wafer.on_set_one _ _ _ (by decide) (by decide)
  · intro m u hr
    refine .of_effect _ (fun _ => rfl) ?_ ?_
    all_goals rw [doTvddPorRelease, if_pos hr]
    · exact (dropOwn_within (clearUnit_within (.refl _ m) ⟨by simp, by simp⟩ false) (by simp) u.loc).trans
        (noteUnitReset_keeps (.refl _ _) ⟨by simp, by simp, rfl⟩ u.loc_lt).within
    · refine ⟨?_, noteUnitReset_seen u.loc_lt, ?_⟩
      · rw [(noteUnitReset_keeps (.refl _ _) (swardArea_swardIn _) u.loc_lt).within.unit_of_sward, dropOwn_unit, clearUnit_rst,
          if_neg Bool.false_ne_true]
      · rw [noteUnitReset_own, dropOwn_own]
  · intro m u hr
    have e : doTvddPorRelease (.unit u) m = m := by rw [doTvddPorRelease]; exact if_neg hr
    exact .of_idle _ (fun _ => rfl) e rfl
  · intro m p
    refine .of_effect _ (fun _ => rfl) ?_ ?_
    all_goals rw [doTvddPorRelease]
    · exact (Within.refl _ m).modSward _ _ (by simp)
    · rw [Wafer.sward_modSward]
      exact ⟨rfl, rfl⟩
  · intro m u hr
    refine .of_effect _ (fun _ => rfl) ?_ ?_
    all_goals rw [doUnitClearEnd_eq hr]
    · exact (restoreUnit_within (.refl _ m) ⟨by simp, by simp⟩).trans
        (toRestore_restores.keeps.within.into_sward ⟨by simp, by simp, rfl⟩)
    · obtain ⟨g1, g2, g3⟩ := toRestore_gives (u := u) (m := m)
      exact ⟨g1, g2, g3, toRestore_due⟩
  · intro m u hr
    have e : doUnitClearEnd u m = m := by rw [doUnitClearEnd, if_neg hr]
    exact .of_idle _ (fun _ => rfl) e rfl
  · intro m p hr
    refine .of_effect _ (fun _ => rfl) ?_ ?_
    all_goals rw [doSwardWatchdog]
    · exact beginSwardReset_within hr
    · exact beginSwardReset_gives hr
  · intro m p hr
    exact .of_idle _ (fun _ => rfl) (beginSwardReset_idle hr) rfl
  · intro m p hr hp hw
    have e : doSwardResetEnd p m = outOfSwardReset p m := by rw [doSwardResetEnd_eq hr hp, hw, if_pos rfl]
    refine .of_effect _ (fun _ => rfl) ?_ ?_
    all_goals rw [e]
    · exact (outOfSwardReset_keeps (.refl _ m) (swardArea_swardIn p)).within
    · rw [outOfSwardReset_sward]
      exact ⟨rfl, hw⟩
  · intro m p hr hp hw
    have e : doSwardResetEnd p m = schedRewrite (framesResumed p m) p := by
      rw [doSwardResetEnd_eq hr hp, hw, if_neg Bool.false_ne_true, framesResumed]
    obtain ⟨f1, f2, f3, f4, f5, f6⟩ := framesResumed_gives p m
    obtain ⟨g1, g2, g3, g4, g5⟩ := schedRewrite_gives f4 f1
    refine .of_effect _ (fun _ => rfl) ?_ ?_
    all_goals rw [e]
    · exact schedRewrite_within ((framesResumed_within p m).into_sward ⟨by simp, by simp, rfl⟩) ⟨by simp, by simp, rfl⟩ rfl
    · refine ⟨g1.trans f1, fun u hu => ?_, g3.trans f3, by rw [g4, f5], g5.trans f6⟩
      rw [g2, List.contains_iff_mem]
      exact f2 u hu
  · intro m p h
    exact .of_idle _ (fun _ => rfl) (doSwardResetEnd_idle h) rfl

end Sys2Proof.Machine
end

section
/-! Wafer reset and the Heath reset commands (R82, R319, R334). -/

namespace Sys2Proof.Machine

variable {A : Area} {m₀ m n : Wafer} {p : Nat} {u : UnitId}

/-! ### The Heaths in wafer reset (R82) -/

/-- Every Heath register at its Reset value. -/
def heathRegsDropped (m : Wafer) : Wafer := { m with regs := m.regs.filter fun e => decide (0x1000000 ≤ e.1) }

/-- The hidden state of the Heaths in wafer reset: what survives. -/
def heathInReset (old : HeathSt) : HeathSt :=
  { testFuse := old.testFuse, prst := old.prst, nvm := { mram := old.nvm.mram }, auxLow := old.auxLow,
    sysLow := old.sysLow, cmdRst := old.cmdRst, vstbyLost := old.vstbyLost }

theorem resetHeaths_eq : resetHeaths m =
    ((heathRegsDropped m).modHeath fun _ => heathInReset m.heath).set 0 HTH_PINSTAT.MSYNC_LVL (m.get 0 HTH_PINSTAT.MSYNC_LVL) := rfl

theorem heathRegsDropped_word (a : Nat) :
    (heathRegsDropped m).word a = if a < 0x1000000 then resetWord m.fuse a else m.word a := by
  have e : (fun e : Nat × Word => decide (0x1000000 ≤ e.1)) = fun e => !decide (e.1 < 0x1000000) := by
    funext e
    rw [← decide_not, decide_eq_decide, Nat.not_lt]
  have h := Store.get_drop (resetWord m.fuse) (fun a => decide (a < 0x1000000)) m.regs a
  simp only [decide_eq_true_eq] at h
  rw [← e] at h
  exact h

theorem heathRegsDropped_within (h : Within A m₀ m) (hb : (0, 0x1000000) ∈ A.blocks) : Within A m₀ (heathRegsDropped m) :=
  h.trans ⟨rfl, fun a i _ ha => by
    rw [heathRegsDropped_word, if_neg]
    exact fun hr => ha (.inr ⟨_, hb, Nat.zero_le a, by dsimp only; omega⟩),
    fun _ _ => rfl, fun _ _ => rfl, fun _ => rfl, fun _ => rfl, fun _ => rfl⟩

/-- A register of the Heaths in wafer reset, beside HTH_PINSTAT. -/
theorem resetHeaths_word {a : Nat} (ha : a < 0x1000000) (h8 : a ≠ 8) : (resetHeaths m).word a = resetWord m.fuse a := by
  rw [resetHeaths_eq, Wafer.word_set_ne _ _ (by simpa using h8), Wafer.word_modHeath, heathRegsDropped_word, if_pos ha]

theorem resetHeaths_heath : (resetHeaths m).heath = heathInReset m.heath := by
  rw [resetHeaths_eq, Wafer.set_heath, Wafer.modHeath_heath]

theorem resetHeaths_lvl : (resetHeaths m).get 0 HTH_PINSTAT.MSYNC_LVL = m.get 0 HTH_PINSTAT.MSYNC_LVL := by
  have hl : m.get 0 HTH_PINSTAT.MSYNC_LVL < 2 ^ HTH_PINSTAT.MSYNC_LVL.wid := getBits_lt _ _ _
  rw [resetHeaths_eq, Wafer.get_set_fits _ _ ⟨by decide, hl⟩]

theorem resetHeaths_out : (resetHeaths m).out = m.out := by
  rw [resetHeaths_eq, Wafer.set_out, Wafer.modHeath_out, heathRegsDropped]

theorem resetHeaths_within (h : Within A m₀ m) (hb : (0, 0x1000000) ∈ A.blocks) (hh : A.heath = true) :
    Within A m₀ (resetHeaths m) := by
  rw [resetHeaths_eq]
  exact ((heathRegsDropped_within h hb).modHeath _ hh).set _ _ _ (.inr ⟨_, hb, by decide, by decide⟩)

/-! ### The beginning of a wafer reset (R82, R334) -/

/-- The cause that RST_CAUSE names. -/
def causeNamed (cause : Nat) (m : Wafer) : Nat :=
  if m.heath.vstbyLost then 0
  else if m.heath.auxLow || m.heath.sysLow || m.heath.cmdRst || m.heath.vstbyLost then m.get 0 HTH_PINSTAT.RST_CAUSE
  else cause

/-- The active Heath sends the wafer reset round the ring. -/
def resetSent (m : Wafer) : Wafer := if m.heath.active then m.send .waferReset 64 [] else m

theorem resetSent_get (b : Nat) (f : Fld) : (resetSent m).get b f = m.get b f := by
  unfold resetSent
  split
  · rw [Wafer.get_send]
  · rfl

theorem resetSent_heath : (resetSent m).heath = m.heath := by
  unfold resetSent
  split
  · rw [Wafer.send_heath]
  · rfl

theorem resetSent_within (h : Within A m₀ m) (hs : m.heath.active = true → A.sends = true) : Within A m₀ (resetSent m) := by
  unfold resetSent
  split
  · rename_i ha
    exact h.send _ _ _ (hs ha)
  · exact h

theorem beginWaferReset_eq (cause : Nat) : beginWaferReset cause m =
    (resetHeaths (resetSent m)).set 0 HTH_PINSTAT.RST_CAUSE (causeNamed cause m) := rfl

theorem causeNamed_first {cause : Nat}
    (h : (m.heath.auxLow || m.heath.sysLow || m.heath.cmdRst || m.heath.vstbyLost) = false) : causeNamed cause m = cause := by
  have hv : m.heath.vstbyLost = false := (Bool.or_eq_false_iff.1 h).2
  rw [causeNamed, h, hv, if_neg Bool.false_ne_true, if_neg Bool.false_ne_true]

theorem causeNamed_within {cause : Nat} (hv : m.heath.vstbyLost = false)
    (h : (m.heath.auxLow || m.heath.sysLow || m.heath.cmdRst) = true) :
    causeNamed cause m = m.get 0 HTH_PINSTAT.RST_CAUSE := by
  rw [causeNamed, hv, h, if_neg Bool.false_ne_true, Bool.true_or, if_pos rfl]

theorem causeNamed_lt {cause : Nat} (h : cause < 4) : causeNamed cause m < 4 := by
  have hl : m.get 0 HTH_PINSTAT.RST_CAUSE < 4 := getBits_lt _ _ _
  unfold causeNamed
  split
  · decide
  · split
    · exact hl
    · exact h

theorem beginWaferReset_cause {cause : Nat} (h : cause < 4) :
    (beginWaferReset cause m).get 0 HTH_PINSTAT.RST_CAUSE = causeNamed cause m := by
  rw [beginWaferReset_eq, Wafer.get_set_fits _ _ ⟨by decide, causeNamed_lt h⟩]

theorem beginWaferReset_heath (cause : Nat) : (beginWaferReset cause m).heath = heathInReset m.heath := by
  rw [beginWaferReset_eq, Wafer.set_heath, resetHeaths_heath, resetSent_heath]

theorem beginWaferReset_lvl (cause : Nat) :
    (beginWaferReset cause m).get 0 HTH_PINSTAT.MSYNC_LVL = m.get 0 HTH_PINSTAT.MSYNC_LVL := by
  rw [beginWaferReset_eq, Wafer.get_set_beside _ _ (by decide), resetHeaths_lvl, resetSent_get]

theorem beginWaferReset_out {cause : Nat} (h : m.heath.active = true) :
    (beginWaferReset cause m).out = ⟨.waferReset, 64, []⟩ :: m.out := by
  rw [beginWaferReset_eq, Wafer.set_out, resetHeaths_out, resetSent, if_pos h, Wafer.send_out]

/-- The generation of a Heath in wafer reset. -/
theorem beginWaferReset_gen (cause : Nat) : (beginWaferReset cause m).get 0 HTH_HBSTAT.GEN = 0 := by
  have hr (fuse : Nat) : resetWord fuse (0 + HTH_HBSTAT.GEN.off) = 0 := by
    rw [resetWord, place_heath (by decide)]
    rfl
  rw [beginWaferReset_eq, Wafer.get_set_beside _ _ (by decide), Wafer.get, resetHeaths_word (by decide) (by decide), hr]
  rfl

theorem beginWaferReset_within (h : Within A m₀ m) (hb : (0, 0x1000000) ∈ A.blocks) (hh : A.heath = true)
    (hs : m.heath.active = true → A.sends = true) (cause : Nat) : Within A m₀ (beginWaferReset cause m) := by
  rw [beginWaferReset_eq]
  exact (resetHeaths_within (resetSent_within h hs) hb hh).set _ _ _ (.inr ⟨_, hb, by decide, by decide⟩)

/-- A wafer reset stays with the Heaths and their messages. -/
theorem beginWaferReset_heathArea (cause : Nat) (f : HeathSt → HeathSt) :
    Within heathArea m ((beginWaferReset cause m).modHeath f) :=
  (beginWaferReset_within (.refl _ m) heathArea_heathIn.block rfl (fun _ => rfl) cause).modHeath f rfl

/-! ### The release (R54, R84, R313) -/

/-- Where VSTBY was lost, WTIME starts at zero. -/
def timeRestarted (m : Wafer) : Wafer := if m.heath.vstbyLost then { m with wtime := 0 } else m

/-- The straps as the release samples them. -/
def strapsSampled (straps : Fin 4) (test : Bool) (m : Wafer) : Wafer :=
  let m := (timeRestarted m).modHeath fun h => { h with auxLow := false, sysLow := false, cmdRst := false, vstbyLost := false }
  ((m.set 0 HTH_PINSTAT.SMB_ADDR straps).setB 0 HTH_PINSTAT.TEST_STRAP test).setB 0 HTH_PINSTAT.TEST_ON (test && m.heath.testFuse)

theorem timeRestarted_within (h : Within A m₀ m) (ht : A.time = true) : Within A m₀ (timeRestarted m) := by
  unfold timeRestarted
  split
  · exact h.trans ⟨rfl, fun _ _ _ _ => rfl, fun _ _ => rfl, fun _ _ => rfl, fun _ => rfl, fun _ => rfl,
      fun k => absurd (ht.symm.trans k) (by decide)⟩
  · exact h

theorem timeRestarted_heath : (timeRestarted m).heath = m.heath := by
  unfold timeRestarted
  split <;> rfl

theorem doHeathResetRelease_eq {straps : Fin 4} {test : Bool} (h0 : m.heath.bringUp = 0) (ha : m.heath.active = false) :
    doHeathResetRelease straps test m = setStep 1 (strapsSampled straps test m) := by
  rw [doHeathResetRelease, if_pos ⟨h0, ha⟩]
  rfl

theorem doHeathResetRelease_idle {straps : Fin 4} {test : Bool} (h : m.heath.bringUp ≠ 0 ∨ m.heath.active = true) :
    doHeathResetRelease straps test m = m := by
  rw [doHeathResetRelease, if_neg]
  rintro ⟨h0, ha⟩
  rcases h with h | h
  · exact h h0
  · rw [ha] at h; contradiction

theorem strapsSampled_gives (straps : Fin 4) (test : Bool) (m : Wafer) :
    (strapsSampled straps test m).get 0 HTH_PINSTAT.SMB_ADDR = straps.val ∧
    (strapsSampled straps test m).on 0 HTH_PINSTAT.TEST_ON = (test && m.heath.testFuse) ∧
    (strapsSampled straps test m).wtime = (timeRestarted m).wtime := by
  refine ⟨?_, ?_, ?_⟩
  · rw [strapsSampled, Wafer.setB, Wafer.get_set_beside _ _ (by decide), Wafer.setB, Wafer.get_set_beside _ _ (by decide),
      Wafer.get_set_fits _ _ ⟨by decide, straps.isLt⟩]
  · rw [strapsSampled, Wafer.on_setB _ _ _ _ (by decide) (by decide), Wafer.modHeath_heath, timeRestarted_heath]
  · rw [strapsSampled, Wafer.setB_wtime, Wafer.setB_wtime, Wafer.set_wtime, Wafer.modHeath_wtime]

theorem strapsSampled_within (h : Within A m₀ m) (hi : HeathIn A) (ht : A.time = true) (straps : Fin 4) (test : Bool) :
    Within A m₀ (strapsSampled straps test m) :=
  ((((timeRestarted_within h ht).modHeath _ hi.hidden).set _ _ _ (.inr ⟨_, hi.block, by decide, by decide⟩)).set _ _ _
    (.inr ⟨_, hi.block, by decide, by decide⟩)).set _ _ _ (.inr ⟨_, hi.block, by decide, by decide⟩)

/-! ### A Sward and its units in wafer reset (R334) -/

/-- A unit of a Sward in wafer reset. -/
def unitWaferReset (p : Nat) (m : Wafer) (k : Nat) : Wafer :=
  if (m.unit (unitOf p k)).rst = .powerOn then m
  else (clearUnit (unitOf p k) false m).modUnit (unitOf p k) fun x =>
    { x with arrRet := true, pgSpine := false, sentArrRet := true, sentCore := false, lnk := 0, rung := 0 }

/-- The Sward's registers at their Reset values, and its units in reset. -/
def unitsWaferReset (p : Nat) (m : Wafer) : Wafer := (unitsOf p).foldl (unitWaferReset p) (clearSwardRegs p 0x100000 m)

theorem waferResetSward_eq : waferResetSward p m = clearSward p (unitsWaferReset p m) := rfl

/-- A unit is in its reset. -/
def InUnitReset (u : UnitId) (m : Wafer) : Prop := (m.unit u).rst = .clear ∨ (m.unit u).rst = .powerOn

theorem unitWaferReset_within (p k : Nat) (m : Wafer) : Within (unitArea (unitOf p k)) m (unitWaferReset p m k) := by
  unfold unitWaferReset
  split
  · exact .refl _ m
  · exact (clearUnit_keeps _ false m).modUnit _ _ (unitArea_unitIn _).hidden

theorem unitWaferReset_inReset (p k : Nat) (m : Wafer) : InUnitReset (unitOf p k) (unitWaferReset p m k) := by
  unfold unitWaferReset
  split
  · exact .inr ‹_›
  · left
    rw [Wafer.unit_modUnit, clearUnit_rst, if_neg Bool.false_ne_true]

theorem InUnitReset.step (h : InUnitReset u m) (k : Nat) : InUnitReset u (unitWaferReset p m k) := by
  by_cases hu : u = unitOf p k
  · exact hu ▸ unitWaferReset_inReset p k m
  · rw [InUnitReset, (unitWaferReset_within p k m).units u (by simpa [unitArea] using hu)]
    exact h

theorem InUnitReset.fold (h : InUnitReset u m) (l : List Nat) : InUnitReset u (l.foldl (unitWaferReset p) m) := by
  induction l generalizing m with
  | nil => exact h
  | cons k t ih => exact ih (h.step k)

/-- Every unit that is taken is in its reset in the end. -/
theorem foldl_unitWaferReset (l : List Nat) {k : Nat} (hk : k ∈ l) (m : Wafer) :
    InUnitReset (unitOf p k) (l.foldl (unitWaferReset p) m) := by
  induction l generalizing m with
  | nil => exact absurd hk List.not_mem_nil
  | cons j t ih =>
    rcases List.mem_cons.1 hk with rfl | ht
    · exact InUnitReset.fold (unitWaferReset_inReset p k m) t
    · exact ih ht _

/-- Units in reset leave the Sward's own registers. -/
theorem foldl_unitWaferReset_word (l : List Nat) {o : Nat} (ho : o < 0x40000) (m : Wafer) :
    (l.foldl (unitWaferReset p) m).word (swd p + o) = m.word (swd p + o) := by
  induction l generalizing m with
  | nil => rfl
  | cons k t ih =>
    rw [List.foldl_cons, ih]
    refine (unitWaferReset_within p k m).word fun i _ hb => ?_
    rcases hb with ⟨e, he, -⟩ | ⟨e, he, h1, h2⟩
    · exact absurd he List.not_mem_nil
    · rw [List.mem_singleton.1 he] at h1 h2
      dsimp only at h1 h2
      exact (unitOf p k).base_ne_swd p (i := swd p + o - (unitOf p k).base) (j := o) (by omega) ho (by omega)

theorem edge_ord : ∀ p : Fin 64, isEdge p.val = true → edgeOrd p.val < 28 ∧ edgePart (edgeOrd p.val) = p.val := by decide

/-- The units of a Sward are of its partition. -/
theorem unitOf_part {p : Fin 64} {k : Nat} (hk : k ∈ unitsOf p) : (unitOf p k).part = p.val := by
  unfold unitOf
  split
  · simp only [UnitId.part, Fin.val_ofNat]
    omega
  · have he : isEdge p.val = true ∧ k < 72 := by
      unfold unitsOf at hk
      split at hk
      · exact ⟨‹_›, List.mem_range.1 hk⟩
      · exact absurd (List.mem_range.1 hk) ‹_›
    obtain ⟨h1, h2⟩ := edge_ord p he.1
    have hd : (8 * edgeOrd p.val + (k - 64)) % 224 / 8 = edgeOrd p.val := by omega
    simp only [UnitId.part, Fin.val_ofNat]
    rw [hd, h2]

/-- All of a partition but its messages. -/
def quietPartArea (p : Nat) : Area := { partArea p with sends := false }

theorem Within.into_part (h : Within (unitArea u) m n) (hu : u.part = p) : Within (quietPartArea p) m n :=
  ⟨h.fuse, fun a i hi ha => h.regs a i hi fun hb => ha <| by
    rcases hb with ⟨e, he, -⟩ | ⟨e, he, h1, h2⟩
    · exact absurd he List.not_mem_nil
    · have hr := u.base_range
      rw [hu] at hr
      rw [List.mem_singleton.1 he] at h1 h2
      dsimp only at h1 h2
      exact .inr ⟨_, List.mem_singleton_self _, by dsimp only; omega, by dsimp only; omega⟩,
    fun v hv => h.units v (by
      have : v ≠ u := by rintro rfl; simp [quietPartArea, partArea, hu] at hv
      simpa [unitArea] using this),
    fun q _ => h.swards q rfl, fun _ => h.heath rfl, fun _ => h.sends rfl, fun _ => h.time rfl⟩

theorem waferResetSward_within (p : Fin 64) (m : Wafer) : Within (quietPartArea p) m (waferResetSward p m) := by
  have hc : Within (quietPartArea p) m (clearSwardRegs p 0x100000 m) :=
    clearSwardRegs_within (.refl _ m) (by decide) (List.mem_singleton_self _)
  rw [waferResetSward_eq]
  exact (hc.fold _ _ fun n k hk h => h.trans ((unitWaferReset_within p k n).into_part (unitOf_part hk))).modSward _ _
    (by simp [quietPartArea, partArea])

/-- What the wafer reset leaves of a Sward and its units. -/
theorem waferResetSward_gives (p : Nat) (m : Wafer) :
    ((waferResetSward p m).sward p).rst = true ∧
    ((waferResetSward p m).sward p).waitEnum = true ∧
    (∀ k ∈ unitsOf p, InUnitReset (unitOf p k) (waferResetSward p m)) ∧
    (waferResetSward p m).word (swd p + 0x1000) = resetWord m.fuse (swd p + 0x1000) := by
  rw [waferResetSward_eq, clearSward]
  refine ⟨by rw [Wafer.sward_modSward], by rw [Wafer.sward_modSward], fun k hk => ?_, ?_⟩
  · rw [InUnitReset, Wafer.unit_modSward]
    exact foldl_unitWaferReset _ hk _
  · rw [Wafer.word_modSward, unitsWaferReset, foldl_unitWaferReset_word _ (by decide), clearSwardRegs_word (by decide) (by decide)]

/-! ### HTH_RSTCTL (R319) -/

theorem doWaferRst_eq : doWaferRst m = waferRstCommand m := rfl

theorem doHeathRst_eq : doHeathRst m = heathReset m := rfl

theorem swdRst_data : ∀ p : Fin 64, getBits (BitVec.ofNat 32 (0x5A200000 + p.val)) 24 8 = 0x5A ∧
    (BitVec.ofNat 32 (0x5A200000 + p.val)).getLsbD 23 = false ∧ (BitVec.ofNat 32 (0x5A200000 + p.val)).getLsbD 22 = false ∧
    (BitVec.ofNat 32 (0x5A200000 + p.val)).getLsbD 21 = true ∧ getBits (BitVec.ofNat 32 (0x5A200000 + p.val)) 0 6 = p.val := by
  decide

theorem doSwdRst_eq (p : Fin 64) : doSwdRst p m = if (m.sward p).passedBy then m else beginSwardReset p 0 m := by
  obtain ⟨h1, h2, h3, h4, h5⟩ := swdRst_data p
  rw [doSwdRst, rstctlWrite, h1, h2, h3, h4, h5, if_neg (by decide)]

/-- The active Heath gone, before it boots again. -/
def activeGone (m : Wafer) : Wafer := heathGone (dropJobs m.heath.activeId m)

theorem activeGone_heath (m : Wafer) : (activeGone m).heath.active = false ∧ (activeGone m).heath.vref = none ∧
    (activeGone m).heath.halting = m.heath.halting ∧ (activeGone m).heath.halted = m.heath.halted ∧
    (activeGone m).heath.activeId = m.heath.activeId := by
  rw [activeGone, heathGone, dropJobs, Wafer.modNvm, Wafer.modHeath_heath, Wafer.modHeath_heath]
  exact ⟨rfl, rfl, rfl, rfl, rfl⟩

theorem activeGone_within (h : Within A m₀ m) (hh : A.heath = true) : Within A m₀ (activeGone m) := by
  rw [activeGone, heathGone, dropJobs, Wafer.modNvm]
  exact (h.modHeath _ hh).modHeath _ hh

theorem heathReset_active (h : m.heath.active = true) : heathReset m = bootAgain m.heath.activeId (activeGone m) := by
  rw [heathReset, if_pos h, activeGone]

theorem heathReset_idle (h : m.heath.active = false) : heathReset m = m := by
  rw [heathReset, h, if_neg Bool.false_ne_true]

theorem bootAgain_within (h : Within A m₀ m) (hh : A.heath = true) (i : Nat) : Within A m₀ (bootAgain i m) := by
  unfold bootAgain
  split
  · exact h
  · exact h.modHeath _ hh

/-- A Heath that boots again is else as it was. -/
theorem bootAgain_keeps (i : Nat) :
    (bootAgain i m).heath.active = m.heath.active ∧ (bootAgain i m).heath.vref = m.heath.vref := by
  unfold bootAgain
  split
  · exact ⟨rfl, rfl⟩
  · rw [Wafer.modHeath_heath]
    exact ⟨rfl, rfl⟩

theorem bootAgain_booting {i : Nat} (h1 : m.heath.halting ≠ some i) (h2 : m.heath.halted.contains i = false) :
    (bootAgain i m).heath.booting.contains i = true := by
  rw [bootAgain, if_neg (by rw [h2]; simpa using h1), Wafer.modHeath_heath, List.contains_iff_mem]
  exact List.mem_cons_self

/-- Settles O44, clause by clause. -/
theorem waferReset : Obligations.WaferReset := by
  unfold Obligations.WaferReset
  refine ⟨?_, ?_, ?_, ?_, ?_, ?_, ?_, ?_, ?_, ?_, ?_, ?_, ?_, ?_, ?_, ?_⟩
  · intro m h
    refine .of_effect _ (fun _ => rfl) (beginWaferReset_heathArea 0 _) ?_
    rw [doAuxOkLow, Wafer.get_modHeath, Wafer.get_modHeath, Wafer.modHeath_heath, Wafer.modHeath_out, beginWaferReset_heath,
      beginWaferReset_cause (by decide), causeNamed_first h, beginWaferReset_lvl]
    exact ⟨rfl, rfl, beginWaferReset_out, rfl, rfl⟩
  · intro m hv h
    refine .of_effect _ (fun _ => rfl) (beginWaferReset_heathArea 0 _) ?_
    rw [doAuxOkLow, Wafer.get_modHeath, Wafer.modHeath_heath, beginWaferReset_heath, beginWaferReset_cause (by decide),
      causeNamed_within hv h]
    exact ⟨rfl, rfl, rfl⟩
  · intro m h
    refine .of_effect _ (fun _ => rfl) (beginWaferReset_heathArea 1 _) ?_
    rw [doSysRstAssert, Wafer.get_modHeath, Wafer.modHeath_heath, beginWaferReset_heath, beginWaferReset_cause (by decide),
      causeNamed_first h]
    exact ⟨rfl, rfl, rfl⟩
  · intro m
    refine .of_effect _ (fun _ => rfl) ?_ ?_
    all_goals rw [doVstbyLoss]
    · refine beginWaferReset_within ((Within.refl _ m).modHeath _ (by rfl)) (by exact heathArea_heathIn.block) (by rfl) (fun h => ?_) 0
      rw [Wafer.modHeath_heath] at h
      contradiction
    · have hc : causeNamed 0 (m.modHeath fun h => { h with active := false, vstbyLost := true }) = 0 := by
        rw [causeNamed, Wafer.modHeath_heath, if_pos rfl]
      rw [beginWaferReset_cause (by decide), beginWaferReset_heath, Wafer.modHeath_heath, hc]
      exact ⟨rfl, rfl, rfl⟩
  · intro m h
    refine .of_effect _ (fun _ => rfl) ?_ ?_
    all_goals rw [doWaferRst_eq, waferRstCommand]
    · exact beginWaferReset_heathArea 2 _
    · rw [Wafer.get_modHeath, Wafer.get_modHeath, Wafer.modHeath_heath, beginWaferReset_heath,
        beginWaferReset_cause (by decide), causeNamed_first h, beginWaferReset_gen]
      exact ⟨rfl, rfl, rfl, rfl⟩
  · intro m straps test h
    exact .of_idle _ (fun _ => rfl) (doHeathResetRelease_idle h) rfl
  · intro m straps test h0 ha
    obtain ⟨g1, g2, g3⟩ := strapsSampled_gives straps test m
    refine .of_effect _ (fun _ => rfl) ?_ ?_
    all_goals rw [doHeathResetRelease_eq h0 ha, setStep]
    · have hi : HeathIn { heathArea with time := true } := ⟨heathArea_heathIn.block, rfl, rfl⟩
      exact ((strapsSampled_within (.refl _ m) hi rfl straps test).modHeath _ rfl).set _ _ _ (.inr ⟨_, hi.block, by decide, by decide⟩)
    · rw [Wafer.get_set_beside _ _ (by decide), Wafer.get_modHeath, Wafer.on_set_ne _ _ (by decide), Wafer.on_modHeath,
        Wafer.set_wtime, Wafer.modHeath_wtime, g3]
      exact ⟨g1, g2, fun h => by rw [timeRestarted, if_pos h], fun h => by rw [timeRestarted, h, if_neg Bool.false_ne_true]⟩
  · intro m p hb hd
    have e : doWaferResetMessage p m = waferResetSward p m := received_once _ hb hd
    refine .of_effect _ (fun _ => rfl) ?_ ?_
    all_goals rw [e]
    · exact waferResetSward_within p m
    · exact waferResetSward_gives p m
  · intro m p h
    have k : Within { heath := true } m (doWaferResetMessage p m) := by
      rw [doWaferResetMessage]
      rcases received_never (waferResetSward p) p.isLt h with e | e
      · rw [e]
      · rw [e]
        exact (Within.refl _ m).modHeath _ (by rfl)
    exact .of_effect _ (fun _ => rfl) k (by rw [k.swards _ rfl])
  · intro m p h
    have e : doSwardHeartbeatTimeout p m = waferResetSward p m := by
      rw [doSwardHeartbeatTimeout, h, if_neg Bool.false_ne_true]
    obtain ⟨g1, g2, g3, -⟩ := waferResetSward_gives p m
    refine .of_effect _ (fun _ => rfl) ?_ ?_
    all_goals rw [e]
    · exact waferResetSward_within p m
    · exact ⟨g1, g2, g3⟩
  · intro m p h
    have e : doSwardHeartbeatTimeout p m = m := by rw [doSwardHeartbeatTimeout, if_pos h]
    exact .of_idle _ (fun _ => rfl) e rfl
  · intro m h
    obtain ⟨g1, g2, g3, g4, -⟩ := activeGone_heath m
    have e : doHeathRst m = bootAgain m.heath.activeId (activeGone m) := doHeathRst_eq.trans (heathReset_active h)
    refine .of_effect _ (fun _ => rfl) ?_ ?_
    all_goals rw [e]
    · exact bootAgain_within (activeGone_within (.refl _ m) rfl) rfl _
    · obtain ⟨k1, k2⟩ := bootAgain_keeps (m := activeGone m) m.heath.activeId
      exact ⟨k1.trans g1, k2.trans g2, fun h1 h2 => bootAgain_booting (g3 ▸ h2) (g4 ▸ h1)⟩
  · intro m h
    exact .of_idle _ (fun _ => rfl) (doHeathRst_eq.trans (heathReset_idle h)) rfl
  · intro m p hb hr
    have e : doSwdRst p m = beginSwardReset p 0 m := by rw [doSwdRst_eq, hb, if_neg Bool.false_ne_true]
    obtain ⟨g1, g2, -⟩ := beginSwardReset_gives (cause := 0) hr
    refine .of_effect _ (fun _ => rfl) ?_ ?_
    all_goals rw [e]
    · exact beginSwardReset_within hr
    · exact ⟨g1, g2⟩
  · intro m p h
    have e : doSwdRst p m = m := by
      rw [doSwdRst_eq]
      split
      · rfl
      · rename_i hn
        exact beginSwardReset_idle (h.resolve_left hn)
    exact .of_idle _ (fun _ => rfl) e rfl
  · intro m hv h
    refine .of_effect _ (fun _ => rfl) (beginWaferReset_heathArea 1 _) ?_
    rw [doSysRstAssert, Wafer.get_modHeath, Wafer.modHeath_heath, beginWaferReset_heath, beginWaferReset_cause (by decide),
      causeNamed_within hv h]
    exact ⟨rfl, rfl, rfl⟩

end Sys2Proof.Machine
end

section
/-! What a fault at the active Heath leaves: the meter, its registers and the interval of its efficiency
figure; the pins below THERMTRIP; the flags of the storage below its pending regions. -/

namespace Sys2Proof.Machine

variable {m₀ m : Wafer}

/-- Fields of the Heath that no fault at it writes. -/
def LeftByFault (f : Fld) : Prop :=
  (0x30000 ≤ f.off ∧ f.off < 0x40000) ∨ (f.off = 8 ∧ f.lo + f.wid ≤ 7) ∨ (f.off = 0x40004 ∧ f.lo + f.wid ≤ 24)

/-- Fields that a fault at the Heath writes: those that share no bit with the ones that it leaves. -/
abbrev FaultWrites (g : Fld) : Prop :=
  (g.off < 0x30000 ∨ 0x40000 ≤ g.off) ∧ (g.off = 8 → 7 ≤ g.lo) ∧ (g.off = 0x40004 → 24 ≤ g.lo)

theorem LeftByFault.beside {f g : Fld} (hf : LeftByFault f) (hg : FaultWrites g) :
    g.off ≠ f.off ∨ g.lo + g.wid ≤ f.lo ∨ f.lo + f.wid ≤ g.lo := by
  obtain ⟨h1, h2, h3⟩ := hg
  rcases hf with hf | hf | hf <;> omega

/-- From the first controller to the second, as a fault leaves it. -/
structure FaultLeaves (m m' : Wafer) : Prop where
  get : ∀ f, LeftByFault f → m'.get 0 f = m.get 0 f
  meter : m'.heath.meter = m.heath.meter
  eta : m'.heath.etaBad = m.heath.etaBad

namespace FaultLeaves

@[refl] theorem refl (m : Wafer) : FaultLeaves m m := ⟨fun _ _ => rfl, rfl, rfl⟩

theorem set (h : FaultLeaves m₀ m) {g : Fld} (v : Nat) (hg : FaultWrites g) : FaultLeaves m₀ (m.set 0 g v) :=
  ⟨fun f hf => (m.get_set_beside v (hf.beside hg)).trans (h.get f hf), h.meter, h.eta⟩

theorem setB (h : FaultLeaves m₀ m) {g : Fld} (v : Bool) (hg : FaultWrites g) : FaultLeaves m₀ (m.setB 0 g v) := h.set _ hg

theorem putWord (h : FaultLeaves m₀ m) {a : Nat} (v : Word) (ha : FaultWrites ⟨a, 0, 32⟩) :
    FaultLeaves m₀ (m.putWord a v) :=
  ⟨fun f hf => by
    obtain ⟨h1, h2, h3⟩ := ha
    rw [m.get_putWord_ne v (by rcases hf with hf | hf | hf <;> dsimp only at h1 h2 h3 <;> omega), h.get f hf], h.meter, h.eta⟩

/-- Hidden state beside the meter and the interval's flag. -/
theorem modHeath (h : FaultLeaves m₀ m) (f : HeathSt → HeathSt) (hm : (f m.heath).meter = m.heath.meter := by rfl)
    (he : (f m.heath).etaBad = m.heath.etaBad := by rfl) : FaultLeaves m₀ (m.modHeath f) :=
  ⟨h.get, hm.trans h.meter, he.trans h.eta⟩

theorem setSource (h : FaultLeaves m₀ m) (c : Nat) (x : SourceSt) : FaultLeaves m₀ (m.setSource c x) := ⟨h.get, h.meter, h.eta⟩

theorem send (h : FaultLeaves m₀ m) (k : OutKind) (d : Nat) (l : List Nat) : FaultLeaves m₀ (m.send k d l) :=
  ⟨h.get, h.meter, h.eta⟩

theorem ite {c : Prop} [Decidable c] {x y : Wafer} (hx : FaultLeaves m₀ x) (hy : FaultLeaves m₀ y) :
    FaultLeaves m₀ (if c then x else y) := by
  split
  · exact hx
  · exact hy

theorem fold {α : Type} (h : FaultLeaves m₀ m) (l : List α) (f : Wafer → α → Wafer)
    (hf : ∀ m x, x ∈ l → FaultLeaves m₀ m → FaultLeaves m₀ (f m x)) : FaultLeaves m₀ (l.foldl f m) := by
  induction l generalizing m with
  | nil => exact h
  | cons x t ih => exact ih (hf m x (by simp) h) fun m y hy => hf m y (by simp [hy])

theorem on (h : FaultLeaves m₀ m) {f : Fld} (hf : LeftByFault f) : m.on 0 f = m₀.on 0 f := by
  rw [Wafer.on, h.get f hf, Wafer.on]

theorem incSat (h : FaultLeaves m₀ m) {g : Fld} (hg : FaultWrites g) : FaultLeaves m₀ (m.incSat 0 g) := .ite (h.set _ hg) h

theorem setPairBit (h : FaultLeaves m₀ m) {lo hi : Fld} (hl : lo.off < 0x30000 ∧ lo.off ≠ 8) (hh : hi.off < 0x30000 ∧ hi.off ≠ 8)
    (c : Nat) (v : Bool) : FaultLeaves m₀ (setPairBit lo hi c v m) := by
  refine h.putWord _ ⟨?_, ?_, ?_⟩ <;> dsimp only <;> split <;> omega

theorem putWords (h : FaultLeaves m₀ m) (b : Nat) (l : List Nat) (hb : 8 < b) (hl : b + 4 * l.length ≤ 0x30000) :
    FaultLeaves m₀ (putWords b l m) :=
  h.fold _ _ fun _ e he k => by
    have : e.1 < l.length := by simpa using (List.of_mem_zip he).1
    refine k.putWord _ ⟨?_, ?_, ?_⟩ <;> dsimp only <;> omega

theorem contEval (h : FaultLeaves m₀ m) : FaultLeaves m₀ (contEval m) :=
  (h.set _ (by decide)).set _ (by decide)

theorem beginRegion (h : FaultLeaves m₀ m) {r : Nat} (hr : r < 6) : FaultLeaves m₀ (beginRegion r m) := by
  unfold Machine.beginRegion
  extract_lets b seq slot j m1 m2 m3
  have k1 : FaultLeaves m₀ m1 := h.modHeath _
  have k2 : FaultLeaves m₀ m2 := .ite (k1.modHeath _) k1
  have k3 : FaultLeaves m₀ m3 := k2.set _ (by dsimp only [FaultWrites]; omega)
  exact .ite ((k3.set _ (by decide)).set _ (by decide))
    (k3.set _ (by decide))

theorem nvmNext (h : FaultLeaves m₀ m) : FaultLeaves m₀ (nvmNext m) := by
  unfold Machine.nvmNext
  extract_lets b m1
  have k1 : FaultLeaves m₀ m1 := .ite (h.beginRegion (by decide)) h
  refine .ite k1 ?_
  split
  · rename_i r hr
    have hm := List.mem_of_mem_filter (List.mem_of_mem_head? hr)
    have : r < 6 := by simp at hm; omega
    exact .ite k1 (k1.beginRegion this)
  · exact k1

theorem nvmQueue (h : FaultLeaves m₀ m) (r : Nat) : FaultLeaves m₀ (nvmQueue r m) :=
  .ite (.ite (h.set _ (by decide)) h) (nvmNext (h.set _ (by decide)))

theorem alarm (h : FaultLeaves m₀ m) (c : Nat) : FaultLeaves m₀ (alarm c m) := by
  refine .ite h ((h.setPairBit (by decide) (by decide) _ _).modHeath _ ?_ ?_) <;> rfl

theorem capture (h : FaultLeaves m₀ m) (x : FifoEntry) (hc : x.event.code < 64) : FaultLeaves m₀ (capture x m) :=
  .ite (h.incSat (by dsimp only [FaultWrites]; omega)) ((h.modHeath _).set _ (by decide))

theorem firstError (h : FaultLeaves m₀ m) (e : FaultEvent) : FaultLeaves m₀ (firstError e m) :=
  .ite (h.incSat (by decide)) (h.putWords _ _ (by decide) (by simp))

theorem lastFault (h : FaultLeaves m₀ m) (x : FifoEntry) : FaultLeaves m₀ (lastFault x m) := by
  have hn : m.get 0 HTH_LFCTL.NEXT < 2 ^ 4 := getBits_lt _ _ _
  have k : FaultLeaves m₀ ((m.set 0 HTH_LFCTL.NEXT (m.get 0 HTH_LFCTL.NEXT + 1)).incSat 0 HTH_LFCTL.TOTAL) :=
    (h.set _ (by decide)).incSat (by decide)
  exact (k.putWords _ _ (by omega) (by simp [withCrc, recordWords]; omega)).nvmQueue 5

theorem waferTrip (h : FaultLeaves m₀ m) (x : FifoEntry) : FaultLeaves m₀ (waferTrip x m) :=
  have k : FaultLeaves m₀ (((m.modFault fun f => { f with flTrip := true }).send .waferTrip 64 []).set 0 HTH_FSTAT.WTRIP 1) :=
    ((h.modHeath _).send _ _ _).set _ (by decide)
  lastFault (.ite (k.set _ (by decide)) k) x

theorem partitionTrip (h : FaultLeaves m₀ m) (parts : List Nat) : FaultLeaves m₀ (partitionTrip parts m) :=
  (h.set _ (by decide)).fold _ _ fun _ _ _ k => (k.send _ _ _).modHeath _

theorem severityAction (h : FaultLeaves m₀ m) (x : FifoEntry) (parts : List Nat) :
    FaultLeaves m₀ (severityAction x parts m) := by
  unfold Machine.severityAction
  split
  · exact (h.setSource _ _).contEval
  · exact h.partitionTrip _
  · exact h.waferTrip _
  · exact h

theorem episodeEvent (h : FaultLeaves m₀ m) (x : FifoEntry) (parts : List Nat) (was : Bool) :
    FaultLeaves m₀ (episodeEvent x parts was m) := by
  unfold Machine.episodeEvent
  dsimp only
  split
  · exact h.setSource _ _
  · exact .ite ((h.setSource _ _).setPairBit (by decide) (by decide) _ _) h

/-- A fault other than a phase retired in a report. -/
theorem heathEvent (h : FaultLeaves m₀ m) (e : FaultEvent) (hc : e.code < 64) (h1 : e.code ≠ 1) (sub : Nat) :
    FaultLeaves m₀ (heathEvent e sub m) := by
  have hr (m : Wafer) : retireReport e m = m := if_neg fun h => h1 h.1
  unfold Machine.heathEvent
  extract_lets c m1 sev x parts was m2 m3 m4
  have k1 : FaultLeaves m₀ m1 := by
    rw [show m1 = _ from hr _]
    exact h.set _ (by dsimp only [FaultWrites]; omega)
  have k2 : FaultLeaves m₀ m2 := .ite (k1.alarm _) k1
  have k3 : FaultLeaves m₀ m3 := k2.episodeEvent _ _ _
  have k4 : FaultLeaves m₀ m4 := .ite (k3.firstError e) k3
  exact .ite (.ite (k1.firstError e) k1) ((k4.severityAction _ _).capture _ hc)

/-- A fault under any unit's reference. -/
theorem heathFaultAt (h : FaultLeaves m₀ m) {c : Nat} (hc : c < 64) (h1 : c ≠ 1) (unit dataA dataB : Nat) :
    FaultLeaves m₀ (heathFaultAt c unit dataA dataB m) := h.heathEvent _ hc h1 _

end FaultLeaves

end Sys2Proof.Machine
end

section
/-! MAINS_SYNC at the active Heath: what a start event changes beside the number and the time of the last
one, and what the loss of the mains leaves. -/

namespace Sys2Proof.Machine

variable {m₀ m : Wafer} {w : Nat}

/-- A change within an area lies within every area that takes it in. -/
theorem Within.mono {A B : Area} {n : Wafer} (h : Within A m n) (hb : ∀ a i, A.Bit a i → B.Bit a i)
    (hu : ∀ u, A.units u = true → B.units u = true) (hs : ∀ p, A.swards p = true → B.swards p = true)
    (hh : A.heath = true → B.heath = true) (ho : A.sends = true → B.sends = true) (ht : A.time = true → B.time = true) :
    Within B m n where
  fuse := h.fuse
  regs a i hi hn := h.regs a i hi fun k => hn (hb a i k)
  units u e := h.units u (Bool.eq_false_iff.2 fun k => by rw [hu u k] at e; contradiction)
  swards p e := h.swards p (Bool.eq_false_iff.2 fun k => by rw [hs p k] at e; contradiction)
  heath e := h.heath (Bool.eq_false_iff.2 fun k => by rw [hh k] at e; contradiction)
  sends e := h.sends (Bool.eq_false_iff.2 fun k => by rw [ho k] at e; contradiction)
  time e := h.time (Bool.eq_false_iff.2 fun k => by rw [ht k] at e; contradiction)

/-- A part of a field of the area changes. -/
theorem Within.setPart {A : Area} (h : Within A m₀ m) {b : Nat} {f g : Fld} (v : Nat) (hg : (b, g) ∈ A.fields)
    (ho : f.off = g.off) (hl : g.lo ≤ f.lo) (hu : f.lo + f.wid ≤ g.lo + g.wid) : Within A m₀ (m.set b f v) :=
  h.trans ⟨rfl, fun a i hi ha => by
    by_cases hw : a = b + f.off
    · subst hw
      rw [m.word_set, setBits_bit _ _ _ _ _ hi, if_neg]
      rintro ⟨h1, h2⟩
      exact ha (.inl ⟨_, hg, by rw [ho], hl.trans h1, h2.trans_le hu⟩)
    · rw [m.word_set_ne v hw], fun _ _ => rfl, fun _ _ => rfl, fun _ => rfl, fun _ => rfl, fun _ => rfl⟩

theorem Within.modMeter {A : Area} (h : Within A m₀ m) (f : MeterSt → MeterSt) (hh : A.heath = true) :
    Within A m₀ (m.modMeter f) := h.modHeath _ hh

/-! ### The converters at a start event -/

/-- URG_PEND and SEQ_EMPTY of MTR_STAT. -/
def converterFlags : Fld := ⟨0x30004, 24, 8⟩

/-- What the converters change at a start event. -/
def converterArea : Area := { fields := [(0, converterFlags)], heath := true }

/-- From the first controller to the second only converters, results and a round changed. -/
structure Converts (m m' : Wafer) : Prop where
  within : Within converterArea m m'
  starts : m'.heath.meter.starts = m.heath.meter.starts
  lastStart : m'.heath.meter.lastStart = m.heath.meter.lastStart
  lastEdge : m'.heath.meter.lastEdge = m.heath.meter.lastEdge
  eta : m'.heath.etaBad = m.heath.etaBad

theorem MeterSt.setConv_starts (x : MeterSt) (c : Nat) (v : Converter) : (x.setConv c v).starts = x.starts := by
  unfold MeterSt.setConv; split <;> rfl
theorem MeterSt.setConv_lastStart (x : MeterSt) (c : Nat) (v : Converter) : (x.setConv c v).lastStart = x.lastStart := by
  unfold MeterSt.setConv; split <;> rfl
theorem MeterSt.setConv_lastEdge (x : MeterSt) (c : Nat) (v : Converter) : (x.setConv c v).lastEdge = x.lastEdge := by
  unfold MeterSt.setConv; split <;> rfl

namespace Converts

@[refl] theorem refl (m : Wafer) : Converts m m := ⟨.refl _ m, rfl, rfl, rfl, rfl⟩

theorem modMeter (h : Converts m₀ m) (f : MeterSt → MeterSt) (hs : (f m.heath.meter).starts = m.heath.meter.starts := by rfl)
    (hl : (f m.heath.meter).lastStart = m.heath.meter.lastStart := by rfl)
    (he : (f m.heath.meter).lastEdge = m.heath.meter.lastEdge := by rfl) : Converts m₀ (m.modMeter f) :=
  ⟨h.within.modHeath _ rfl, hs.trans h.starts, hl.trans h.lastStart, he.trans h.lastEdge, h.eta⟩

theorem modConv (h : Converts m₀ m) (c : Nat) (f : Converter → Converter) : Converts m₀ (m.modConv c f) :=
  h.modMeter _ (MeterSt.setConv_starts _ _ _) (MeterSt.setConv_lastStart _ _ _) (MeterSt.setConv_lastEdge _ _ _)

/-- A flag of one of the four converters. -/
theorem flag (h : Converts m₀ m) {f : Fld} (v : Nat) (ho : f.off = converterFlags.off) (h1 : 24 ≤ f.lo)
    (h2 : f.lo + f.wid ≤ 32) : Converts m₀ (m.set 0 f v) :=
  ⟨h.within.setPart (g := converterFlags) v (.head _) ho h1 h2, h.starts, h.lastStart, h.lastEdge, h.eta⟩

theorem fold (h : Converts m₀ m) (f : Wafer → Nat → Wafer)
    (hf : ∀ m c, c < 4 → Converts m₀ m → Converts m₀ (f m c)) : Converts m₀ (converters.foldl f m) :=
  hf _ 3 (by decide) (hf _ 2 (by decide) (hf _ 1 (by decide) (hf _ 0 (by decide) h)))

theorem discardConv (h : Converts m₀ m) {c : Nat} (hc : c < 4) : Converts m₀ (discardConv m c) := by
  unfold Machine.discardConv
  dsimp only
  split
  · exact h
  · split
    · refine flag ?_ _ rfl (by dsimp only; omega) (by dsimp only; omega)
      split
      · exact (h.modConv _ _).modConv _ _
      · exact h.modConv _ _
    · exact (h.modConv _ _).modMeter _
    · exact h.modConv _ _

theorem discardAll (h : Converts m₀ m) : Converts m₀ (discardAll m) := h.fold _ fun _ _ hc k => k.discardConv hc

theorem startConverter (h : Converts m₀ m) (n : Nat) (free : Bool) {c : Nat} (hc : c < 4) :
    Converts m₀ (startConverter n free m c) := by
  unfold Machine.startConverter
  dsimp only
  split
  · exact (h.modMeter _).modConv _ _
  · exact (h.modConv _ _).flag _ rfl (by dsimp only; omega) (by dsimp only; omega)
  · exact (h.modConv _ _).flag _ rfl (by dsimp only; omega) (by dsimp only; omega)

theorem markPulled (h : Converts m₀ m) : Converts m₀ (markPulled m) := by
  unfold Machine.markPulled
  exact h.fold _ fun _ _ _ k => k.modConv _ _

theorem markSecond (h : Converts m₀ m) (n : Nat) : Converts m₀ (markSecond n m) := by
  unfold Machine.markSecond
  exact h.fold _ fun _ _ _ k => k.modConv _ _

end Converts

/-- Every register field beside the converters' flags reads as before. -/
theorem Within.get_converters (h : Within converterArea m₀ m) {f : Fld} (hf : f.off ≠ 0x30004 ∨ f.lo + f.wid ≤ 24) :
    m.get 0 f = m₀.get 0 f :=
  h.get 0 f fun i _ h1 h2 hb => by
    rcases hb with ⟨e, he, ha, h3, -⟩ | ⟨b, hb, -⟩
    · obtain rfl : e = (0, converterFlags) := by simpa [converterArea] using he
      dsimp only [converterFlags] at ha h3
      omega
    · simp [converterArea] at hb

theorem Within.on_converters (h : Within converterArea m₀ m) {f : Fld} (hf : f.off ≠ 0x30004 ∨ f.lo + f.wid ≤ 24) :
    m.on 0 f = m₀.on 0 f := by rw [Wafer.on, h.get_converters hf, Wafer.on]

/-- The change lies within every area with the meter's status register and the Heath's hidden state. -/
theorem Within.into_meter {A : Area} (h : Within converterArea m₀ m)
    (hb : ∃ b ∈ A.blocks, b.1 ≤ 0x30004 ∧ 0x30004 < b.1 + b.2) (hh : A.heath = true) : Within A m₀ m :=
  h.mono (fun a i k => by
    rcases k with ⟨e, he, ha, -⟩ | ⟨b, hb, -⟩
    · obtain rfl : e = (0, converterFlags) := by simpa [converterArea] using he
      rw [ha]
      exact .inr hb
    · simp [converterArea] at hb) (fun _ e => by simp [converterArea] at e) (fun _ e => by simp [converterArea] at e)
    (fun _ => hh) (fun e => by simp [converterArea] at e) (fun e => by simp [converterArea] at e)

/-! ### Start events (R338) -/

/-- From the first controller to the second a start event took place: one more, at its time; the flag of
the efficiency's interval is as it was, or as free run has it. -/
structure Started (w : Nat) (m m' : Wafer) : Prop where
  within : Within converterArea m m'
  starts : m'.heath.meter.starts = m.heath.meter.starts + 1
  lastStart : m'.heath.meter.lastStart = w
  lastEdge : m'.heath.meter.lastEdge = m.heath.meter.lastEdge
  eta : m'.heath.etaBad = m.heath.etaBad ∨ m'.heath.etaBad = m.on 0 MTR_STAT.FREE

theorem Started.converts {n : Wafer} (h : Started w m₀ m) (k : Converts m n) : Started w m₀ n :=
  ⟨h.within.trans k.within, k.starts.trans h.starts, k.lastStart.trans h.lastStart, k.lastEdge.trans h.lastEdge,
    h.eta.imp k.eta.trans k.eta.trans⟩

theorem Started.beginRound (h : Started w m₀ m) : Started w m₀ (beginRound m) :=
  ⟨(h.within.modHeath _ rfl).modHeath _ rfl, h.starts, h.lastStart, h.lastEdge,
    .inr (h.within.on_converters (by decide))⟩

/-- A start event, whatever its converters do. -/
theorem startEvent_started (w : Nat) (free : Bool) (m : Wafer) : Started w m (startEvent w free m) := by
  unfold startEvent
  extract_lets n m1 m2
  have k : Started w m m1 := ⟨(Within.refl _ m).modHeath _ rfl, rfl, rfl, rfl, .inl rfl⟩
  split
  · have k2 : Started w m m2 := by
      dsimp only [m2]
      split
      · exact k.beginRound
      · exact k
    exact k2.converts ((((Converts.refl m2).fold _ fun _ _ hc h => h.startConverter n free hc).markPulled).markSecond n)
  · exact k

/-- An edge becomes a start event from which the next interval is measured. -/
theorem acceptEdge_lastEdge (w : Nat) (m : Wafer) : (acceptEdge w m).heath.meter.lastEdge = some w :=
  (startEvent_started w false _).lastEdge

theorem acceptEdge_starts (w : Nat) (m : Wafer) : (acceptEdge w m).heath.meter.starts = m.heath.meter.starts + 1 :=
  (startEvent_started w false _).starts

theorem acceptEdge_within (w : Nat) (m : Wafer) : Within converterArea m (acceptEdge w m) :=
  ((Within.refl _ m).modHeath _ rfl).trans (startEvent_started w false _).within

/-! ### Free run (R341, R342) -/

/-- An edge in free run ends it and is a start event. -/
theorem endFreeRun_within {A : Area} (h : Within A m₀ m) (hb : ∃ b ∈ A.blocks, b.1 ≤ 0x30004 ∧ 0x30004 < b.1 + b.2)
    (hh : A.heath = true) : Within A m₀ (endFreeRun w m) :=
  ((h.set 0 MTR_STAT.FREE 0 (.inr hb)).trans ((Converts.refl _).discardAll.within.into_meter hb hh)).trans
    ((acceptEdge_within w _).into_meter hb hh)

theorem endFreeRun_get (w : Nat) {f : Fld} (hf : f.off ≠ 0x30004) : (endFreeRun w m).get 0 f = m.get 0 f := by
  rw [endFreeRun, (acceptEdge_within w _).get_converters (.inl hf), (Converts.refl _).discardAll.within.get_converters (.inl hf),
    Wafer.get_set_beside _ _ (.inl (Ne.symm hf))]

theorem endFreeRun_free (w : Nat) (m : Wafer) : (endFreeRun w m).on 0 MTR_STAT.FREE = false := by
  rw [endFreeRun, (acceptEdge_within w _).on_converters (by decide),
    (Converts.refl _).discardAll.within.on_converters (by decide), Wafer.on_set_zero_of _ _ (by decide)]

theorem endFreeRun_lastEdge (w : Nat) (m : Wafer) : (endFreeRun w m).heath.meter.lastEdge = some w :=
  acceptEdge_lastEdge w _

theorem endFreeRun_starts (w : Nat) (m : Wafer) : (endFreeRun w m).heath.meter.starts = m.heath.meter.starts + 1 := by
  rw [endFreeRun, acceptEdge_starts, (Converts.refl _).discardAll.starts, Wafer.set_heath]

/-- The loss of the mains as it is shown, before the converters' work is discarded and the fault is raised. -/
def mainsMissed (m : Wafer) : Wafer :=
  (((m.set 0 HTH_PINSTAT.MSYNC_LOST 1).set 0 MTR_STAT.FREE 1).modHeath fun h => { h with etaBad := true }).modMeter
    fun x => { x with waitEdge := true }

theorem mainsLost_eq (w : Nat) (m : Wafer) :
    mainsLost w m = startEvent w true (heathFault 56 0 0 (discardAll (mainsMissed m))) := rfl

theorem mainsMissed_get (f : Fld) :
    (mainsMissed m).get 0 f = ((m.set 0 HTH_PINSTAT.MSYNC_LOST 1).set 0 MTR_STAT.FREE 1).get 0 f := rfl

/-- The fault leaves the meter, its registers and the pin's flag as they were. -/
theorem mainsFault_leaves (m : Wafer) : FaultLeaves m (heathFault 56 0 0 m) :=
  (FaultLeaves.refl m).heathFaultAt (by decide) (by decide) _ _ _

/-- A field that neither a fault nor a converter writes shows the mains as missed. -/
theorem mainsLost_get (w : Nat) {f : Fld} (hf : LeftByFault f) (hc : f.off ≠ 0x30004 ∨ f.lo + f.wid ≤ 24) :
    (mainsLost w m).get 0 f = ((m.set 0 HTH_PINSTAT.MSYNC_LOST 1).set 0 MTR_STAT.FREE 1).get 0 f := by
  rw [mainsLost_eq, (startEvent_started w true _).within.get_converters hc, (mainsFault_leaves _).get f hf,
    (Converts.refl _).discardAll.within.get_converters hc, mainsMissed_get]

theorem mainsLost_lost (w : Nat) (m : Wafer) : (mainsLost w m).on 0 HTH_PINSTAT.MSYNC_LOST = true := by
  rw [Wafer.on, mainsLost_get w (.inr (.inl (by decide))) (by decide), Wafer.get_set_beside _ _ (by decide), ← Wafer.on,
    Wafer.on_set_one_of _ _ (by decide)]

theorem mainsLost_free (w : Nat) (m : Wafer) : (mainsLost w m).on 0 MTR_STAT.FREE = true := by
  rw [Wafer.on, mainsLost_get w (.inl (by decide)) (by decide), ← Wafer.on, Wafer.on_set_one_of _ _ (by decide)]

theorem mainsLost_period (w : Nat) (m : Wafer) : (mainsLost w m).get 0 MTR_PERIOD.PERIOD = m.get 0 MTR_PERIOD.PERIOD := by
  rw [mainsLost_get w (.inl (by decide)) (by decide), Wafer.get_set_beside _ _ (by decide),
    Wafer.get_set_beside _ _ (by decide)]

theorem mainsLost_starts (w : Nat) (m : Wafer) : (mainsLost w m).heath.meter.starts = m.heath.meter.starts + 1 := by
  rw [mainsLost_eq, (startEvent_started w true _).starts, (mainsFault_leaves _).meter, (Converts.refl _).discardAll.starts]
  rfl

theorem mainsLost_lastStart (w : Nat) (m : Wafer) : (mainsLost w m).heath.meter.lastStart = w :=
  (startEvent_started w true _).lastStart

/-- The interval that the loss falls into is spoilt, and so is one that begins with it. -/
theorem mainsLost_eta (w : Nat) (m : Wafer) : (mainsLost w m).heath.etaBad = true := by
  rcases (startEvent_started w true (heathFault 56 0 0 (discardAll (mainsMissed m)))).eta with h | h
  · rw [mainsLost_eq, h, (mainsFault_leaves _).eta, (Converts.refl _).discardAll.eta]
    rfl
  · rw [mainsLost_eq, h, Wafer.on, (mainsFault_leaves _).get _ (.inl (by decide)),
      (Converts.refl _).discardAll.within.get_converters (by decide), mainsMissed_get, ← Wafer.on,
      Wafer.on_set_one_of _ _ (by decide)]

theorem mainsLost_within {A : Area} (h : Keeps A m₀ m) (hh : HeathIn A) (w : Nat) : Within A m₀ (mainsLost w m) := by
  have hb : ∃ b ∈ A.blocks, b.1 ≤ 0x30004 ∧ 0x30004 < b.1 + b.2 := ⟨_, hh.block, by decide⟩
  have k : Within A m₀ (mainsMissed m) :=
    (((h.within.set 0 HTH_PINSTAT.MSYNC_LOST 1 (hh.has (by decide))).set 0 MTR_STAT.FREE 1 (hh.has (by decide))).modHeath
      (fun x => { x with etaBad := true }) hh.hidden).modMeter _ hh.hidden
  have kd : Within A m₀ (discardAll (mainsMissed m)) :=
    k.trans ((Converts.refl _).discardAll.within.into_meter hb hh.hidden)
  have kf := heathFault_keeps (.refl A (discardAll (mainsMissed m))) hh (show 56 < 64 by decide) 0 0
  exact (kd.trans kf.within).trans ((startEvent_started w true _).within.into_meter hb hh.hidden)

theorem doMainsSyncLost_eq (w : Nat) (m : Wafer) : doMainsSyncLost w m =
    if m.heath.active ∧ ¬ m.on 0 MTR_STAT.FREE ∧ m.heath.meter.lastEdge.getD m.heath.meter.since + 20000000 ≤ w then
      mainsLost w (m.at w) else m.at w := rfl

theorem doFreeRunStartEvent_eq (w : Nat) (m : Wafer) : doFreeRunStartEvent w m =
    if m.heath.active ∧ m.on 0 MTR_STAT.FREE ∧ m.heath.meter.lastStart + 800000 * freePeriod m ≤ w then
      startEvent w true (m.at w) else m.at w := rfl

/-! ### A selected edge (R339, R340, R342) -/

/-- The deglitched pin with its level shown. -/
def edgeShown (rising : Bool) (w : Nat) (m : Wafer) : Wafer := (m.at w).setB 0 HTH_PINSTAT.MSYNC_LVL rising

/-- The Heath that an edge finds: its level shown, and no longer waiting for one. -/
def edgeTaken (rising : Bool) (w : Nat) (m : Wafer) : Wafer :=
  (edgeShown rising w m).modMeter fun x => { x with waitEdge := false }

theorem edgeTaken_get {rising : Bool} {f : Fld} (hf : f.off ≠ 8) : (edgeTaken rising w m).get 0 f = m.get 0 f :=
  (m.at w).get_set_beside _ (.inl (Ne.symm hf))

theorem edgeTaken_on {rising : Bool} {f : Fld} (hf : f.off ≠ 8) : (edgeTaken rising w m).on 0 f = m.on 0 f := by
  rw [Wafer.on, edgeTaken_get hf, Wafer.on]

theorem edgeTaken_keeps {A : Area} (rising : Bool) (hf : (0, HTH_PINSTAT.MSYNC_LVL) ∈ A.fields ∨
    ∃ k ∈ A.blocks, k.1 ≤ 0 + HTH_PINSTAT.MSYNC_LVL.off ∧ 0 + HTH_PINSTAT.MSYNC_LVL.off < k.1 + k.2)
    (hh : A.heath = true) (ht : A.time = true) : Keeps A m (edgeTaken rising w m) :=
  (((Keeps.refl A m).at w ht).set 0 HTH_PINSTAT.MSYNC_LVL (bit rising) hf).modHeath
    (fun x => { x with meter := { x.meter with waitEdge := false } }) hh

/-- What a selected edge does, by free run, the last edge and the time since it. -/
theorem doMainsSyncEdge_selected {rising : Bool} (ha : m.heath.active = true) (hr : rising ≠ m.on 0 MTR_CFG.EDGE) :
    doMainsSyncEdge rising w m = if m.on 0 MTR_STAT.FREE then endFreeRun w (edgeTaken rising w m)
      else match m.heath.meter.lastEdge with
        | none => acceptEdge w (edgeTaken rising w m)
        | some t =>
          if w - t < 12000000 then (edgeTaken rising w m).incSat 0 MTR_STAT.EDGE_IGN
          else if w - t ≤ 18000000 then acceptEdge w ((edgeTaken rising w m).set 0 MTR_PERIOD.PERIOD (w - t))
          else if w - t ≤ 20000000 then
            acceptEdge w (((edgeTaken rising w m).set 0 MTR_PERIOD.PERIOD (w - t)).set 0 MTR_STAT.FREQ_OOR 1)
          else endFreeRun w (mainsLost (t + 20000000) (edgeTaken rising w m)) := by
  have he : (edgeShown rising w m).on 0 MTR_CFG.EDGE = m.on 0 MTR_CFG.EDGE := (m.at w).on_set_ne _ (by decide)
  have hf : (edgeTaken rising w m).on 0 MTR_STAT.FREE = m.on 0 MTR_STAT.FREE := edgeTaken_on (by decide)
  have hc : (edgeShown rising w m).heath.active = true ∧ rising ≠ (edgeShown rising w m).on 0 MTR_CFG.EDGE := by
    rw [he]
    exact ⟨ha, hr⟩
  rw [← hf]
  exact if_pos hc

/-- The other edge, or no Heath active. -/
theorem doMainsSyncEdge_other {rising : Bool} (h : m.heath.active = false ∨ rising = m.on 0 MTR_CFG.EDGE) :
    doMainsSyncEdge rising w m = edgeShown rising w m := by
  have he : (edgeShown rising w m).on 0 MTR_CFG.EDGE = m.on 0 MTR_CFG.EDGE := (m.at w).on_set_ne _ (by decide)
  refine if_neg (c := (edgeShown rising w m).heath.active = true ∧ rising ≠ (edgeShown rising w m).on 0 MTR_CFG.EDGE) ?_
  rw [he]
  rintro ⟨ha, hr⟩
  exact h.elim (fun h => Bool.false_ne_true (h.symm.trans ha)) hr

/-- Where the register and the hidden state of a selected edge lie. -/
abbrev edgeArea : Area :=
  { fields := [(0, HTH_PINSTAT.MSYNC_LVL)], blocks := [(0x30000, 0x10000)], heath := true, time := true }

theorem edgeTaken_edgeArea (rising : Bool) (w : Nat) (m : Wafer) : Within edgeArea m (edgeTaken rising w m) :=
  (edgeTaken_keeps rising (.inl (.head _)) rfl rfl).within

theorem acceptEdge_edgeArea (h : Within edgeArea m₀ m) (w : Nat) : Within edgeArea m₀ (acceptEdge w m) :=
  h.trans ((acceptEdge_within w m).into_meter ⟨_, .head _, by decide⟩ rfl)

/-- Settles O38, clause by clause. -/
theorem mainsTracking : Obligations.MainsTracking := by
  unfold Obligations.MainsTracking
  refine ⟨?_, ?_, ?_, ?_, ?_, ?_, ?_, ?_, ?_, ?_⟩
  · intro m w ha hf hw
    refine .of_effect _ (fun _ => rfl) ?_ ?_
    all_goals rw [doMainsSyncLost_eq, if_pos ⟨ha, by simp [hf], hw⟩]
    · exact mainsLost_within ((Keeps.refl _ m).at w rfl) ⟨.head _, rfl, rfl⟩ w
    · exact ⟨mainsLost_lost w _, mainsLost_free w _, mainsLost_starts w _, mainsLost_lastStart w _, mainsLost_eta w _⟩
  · intro m w _ hw
    refine .of_effect _ (fun _ => rfl) ?_ ?_
    all_goals rw [doMainsSyncLost_eq, if_neg (by omega)]
    · exact (Within.refl _ m).at w rfl
    · rw [Wafer.at_heath]
  · intro m rising t w ha hr hf ht h1 h2
    refine .of_effect _ (fun _ => rfl) ?_ ?_
    all_goals
      simp only [doMainsSyncEdge_selected ha hr, hf, ht, Bool.false_eq_true, if_false]
      rw [if_neg (by omega), if_neg (by omega), if_pos (by omega)]
    · exact acceptEdge_edgeArea (((edgeTaken_edgeArea rising w m).set 0 _ _ (.inr ⟨_, .head _, by decide⟩)).set 0 _ _
        (.inr ⟨_, .head _, by decide⟩)) w
    · refine ⟨?_, ?_, acceptEdge_lastEdge w _, acceptEdge_starts w _⟩
      · rw [(acceptEdge_within w _).get_converters (by decide), Wafer.get_set_beside _ _ (by decide),
          Wafer.get_set_fits _ _ ⟨by decide, by dsimp only; omega⟩]
      · rw [(acceptEdge_within w _).on_converters (by decide), Wafer.on_set_one_of _ _ (by decide)]
  · intro m rising t w ha hr hf ht h1
    refine .of_effect _ (fun _ => rfl) ?_ ?_
    all_goals
      simp only [doMainsSyncEdge_selected ha hr, hf, ht, Bool.false_eq_true, if_false]
      rw [if_neg (by omega), if_neg (by omega), if_neg (by omega)]
    · exact endFreeRun_within (mainsLost_within (edgeTaken_keeps rising (.inr ⟨_, .head _, by decide⟩) rfl rfl)
        ⟨.head _, rfl, rfl⟩ _) ⟨_, .head _, by decide⟩ rfl
    · refine ⟨?_, endFreeRun_free w _, ?_, endFreeRun_lastEdge w _, ?_⟩
      · rw [Wafer.on, endFreeRun_get w (by decide), ← Wafer.on, mainsLost_lost]
      · rw [endFreeRun_get w (by decide), mainsLost_period, edgeTaken_get (by decide)]
      · rw [endFreeRun_starts, mainsLost_starts]
        rfl
  · intro m rising w ha hr h
    refine .of_effect _ (fun _ => rfl) ?_ ?_
    all_goals
      simp only [doMainsSyncEdge_selected ha hr]
      by_cases hf : m.on 0 MTR_STAT.FREE = true
    · rw [if_pos hf]
      exact endFreeRun_within (edgeTaken_edgeArea rising w m) ⟨_, .head _, by decide⟩ rfl
    · rw [if_neg hf, h.resolve_left hf]
      exact acceptEdge_edgeArea (edgeTaken_edgeArea rising w m) w
    · rw [if_pos hf, endFreeRun_get w (by decide), edgeTaken_get (by decide)]
      exact ⟨endFreeRun_free w _, rfl, endFreeRun_lastEdge w _, endFreeRun_starts w _⟩
    · rw [if_neg hf, h.resolve_left hf]
      refine ⟨?_, ?_, acceptEdge_lastEdge w _, acceptEdge_starts w _⟩
      · rw [(acceptEdge_within w _).on_converters (by decide), edgeTaken_on (by decide), Bool.eq_false_iff.2 hf]
      · rw [(acceptEdge_within w _).get_converters (by decide), edgeTaken_get (by decide)]
  · intro m rising w h
    refine .of_effect _ (fun _ => rfl) ?_ ?_
    all_goals rw [doMainsSyncEdge_other h]
    · exact ((Within.refl _ m).at w rfl).set 0 _ _ (.inl (.head _))
    · exact (m.at w).on_setB 0 _ _ (by decide) (by decide)
  · intro m w h
    refine .of_effect _ (fun _ => rfl) ?_ ?_
    all_goals rw [doFreeRunStartEvent_eq, if_neg (by rintro ⟨ha, hf, hw⟩; simp [ha, hf] at h; omega)]
    · exact (Within.refl _ m).at w rfl
    · rw [Wafer.at_heath]
  · intro m rising t w ha hr hf ht h1 h2
    refine .of_effect _ (fun _ => rfl) ?_ ?_
    all_goals
      simp only [doMainsSyncEdge_selected ha hr, hf, ht, Bool.false_eq_true, if_false]
      rw [if_neg (by omega), if_pos (by omega)]
    · exact acceptEdge_edgeArea ((edgeTaken_edgeArea rising w m).set 0 _ _ (.inr ⟨_, .head _, by decide⟩)) w
    · refine ⟨?_, ?_, acceptEdge_lastEdge w _, acceptEdge_starts w _⟩
      · rw [(acceptEdge_within w _).on_converters (by decide), Wafer.on_set_ne _ _ (by decide)]
        exact (m.at w).on_setB 0 _ _ (by decide) (by decide)
      · rw [(acceptEdge_within w _).get_converters (by decide), Wafer.get_set_fits _ _ ⟨by decide, by dsimp only; omega⟩]
  · intro m rising t w ha hr hf ht h1
    refine .of_effect _ (fun _ => rfl) ?_ ?_
    all_goals
      simp only [doMainsSyncEdge_selected ha hr, hf, ht, Bool.false_eq_true, if_false]
      rw [if_pos (by omega)]
    · exact ((edgeTaken_keeps rising (.inl (.head _)) rfl rfl).incSat 0 _ (.inl (.tail _ (.head _)))).within
    · rw [Wafer.get_incSat _ _ (by decide), edgeTaken_get (by decide), Wafer.incSat_heath]
      exact ⟨rfl, ht, rfl⟩
  · intro m w ha hf hw
    refine .of_effect _ (fun _ => rfl) ?_ ?_
    all_goals rw [doFreeRunStartEvent_eq, if_pos ⟨ha, hf, hw⟩]
    · exact ((Within.refl _ m).at w rfl).trans
        ((startEvent_started w true _).within.into_meter ⟨_, .head _, by decide⟩ rfl)
    · exact ⟨(startEvent_started w true _).starts, (startEvent_started w true _).lastStart⟩

end Sys2Proof.Machine
end

section
/-! The flash pins and the writing of regions: which job a region's write begins, and what a page's
end leaves of the slots and of the flags. -/

namespace Sys2Proof.Machine

variable {A : Area} {m₀ m : Wafer} {r : Nat}

/-! ### The SPI pins (R86, R436) -/

/-- A write that a register's writable bits let change one field only. -/
theorem masked_field {M lo wid : Nat} (w : Word) (v : Nat)
    (h : ∀ i, lo ≤ i → i < lo + wid → i < 32 → (BitVec.ofNat 32 M).getLsbD i = true) :
    ((w &&& ~~~BitVec.ofNat 32 M) ||| (setBits w lo wid v &&& BitVec.ofNat 32 M)) = setBits w lo wid v := by
  refine BitVec.eq_of_getLsbD_eq fun i hi => ?_
  rw [BitVec.getLsbD_or, BitVec.getLsbD_and, BitVec.getLsbD_and, BitVec.getLsbD_not, setBits_bit _ _ _ _ _ hi]
  split
  · rename_i hf
    rw [h i hf.1 hf.2 hi]
    simp
  · cases w.getLsbD i <;> simp [hi]

theorem doSpiReleaseWrite_eq (release : Bool) (m : Wafer) :
    doSpiReleaseWrite release m = spiPins (m.setB 0 HTH_IMGCFG.SPI_REL release) := by
  have hm : (findReg heathRegs 0x4004C).map writeMask = some (0xC0000000, 0, true) := by decide
  rw [doSpiReleaseWrite, imgcfgWrite, plainWrite_heath (by decide) hm, masked_field]
  · rfl
  · intro i h1 h2 _
    obtain rfl : i = 30 := by omega
    decide

/-- The pins outside an image read: free under SPI_REL, else deselected with the clock low. -/
theorem spiPins_gives (hb : m.heath.bringUp ≠ 3) (hl : m.heath.lone ≠ 3) :
    (m.on 0 HTH_IMGCFG.SPI_REL = true → (spiPins m).heath.spi = ⟨none, none, none, none⟩) ∧
    (m.on 0 HTH_IMGCFG.SPI_REL = false → (spiPins m).heath.spi.cs = some true ∧ (spiPins m).heath.spi.sck = some false) := by
  rw [spiPins, if_neg (by simp [hb, hl])]
  constructor
  · intro h
    simp [h]
  · intro h
    simp [h]

theorem spiPins_on (m : Wafer) (f : Fld) : (spiPins m).on 0 f = m.on 0 f := by
  unfold spiPins
  split
  · rfl
  · rfl

/-! ### Jobs (R437, R439) -/

theorem NvmSt.job_setJob (x : NvmSt) (h b : Nat) (v : Option NvmJob) : (x.setJob h b v).job h b = v :=
  Store.get_set_same _ _ _ _

theorem NvmSt.job_setJob_ne (x : NvmSt) {h b k c : Nat} (v : Option NvmJob) (hk : 2 * k + c ≠ 2 * h + b) :
    (x.setJob h b v).job k c = x.job k c := Store.get_set_ne _ _ _ hk

theorem NvmSt.slotAt_setSlot (x : NvmSt) (h r s : Nat) (v : Option NvmSlot) : (x.setSlot h r s v).slotAt h r s = v :=
  Store.get_set_same _ _ _ _

/-- A region's write takes the job of its bank in its own Heath. -/
theorem beginJob_job (h : Nat) (j : NvmJob) (x : NvmSt) : (beginJob h j x).job h (regionBank j.region) = some j :=
  NvmSt.job_setJob _ _ _ _

theorem regionBank_lt (r : Nat) : regionBank r < 2 := by
  unfold regionBank
  split <;> decide

theorem beginJob_job_ne {h k : Nat} (hk : k ≠ h) (j : NvmJob) (x : NvmSt) {b : Nat} (hb : b < 2) :
    (beginJob h j x).job k b = x.job k b := by
  unfold beginJob
  extract_lets c y
  have hc : c < 2 := regionBank_lt j.region
  have hy : y.job k b = x.job k b := by
    dsimp only [y]
    split
    · rfl
    · rfl
  rw [← hy]
  exact NvmSt.job_setJob_ne _ _ (by omega)

/-- The write that a region begins at the active Heath. -/
theorem beginRegion_job (r : Nat) (m : Wafer) :
    ∃ j, (beginRegion r m).heath.nvm.job m.heath.activeId (regionBank r) = some j ∧ j.region = r ∧ j.page = 0 := by
  unfold beginRegion
  extract_lets a seq slot j m1 m2 m3
  have k1 : m1.heath.nvm.job a (regionBank r) = some j := beginJob_job a j _
  have k2 : m2.heath.nvm.job a (regionBank r) = some j := by
    dsimp only [m2]
    split
    · exact (beginJob_job_ne (by omega) j _ (regionBank_lt r)).trans k1
    · exact k1
  refine ⟨j, ?_, rfl, rfl⟩
  split
  · exact k2
  · exact k2

/-- What the begin of writes changes: the flags of the banks, the regions' standby flags and the writers. -/
def writeArea : Area :=
  { fields := [(0, HTH_LFCTL.WR_BUSY), (0, HTH_NVMSTAT.BUSY0), (0, HTH_NVMSTAT.BUSY1)] ++
      (List.range 6).map (fun k => (0, HTH_NVMREG.STBY_OK k)),
    heath := true }

theorem beginRegion_within (h : Within A m₀ m) (hf : ∀ e ∈ writeArea.fields, e ∈ A.fields) (hh : A.heath = true)
    (hr : r < 6) : Within A m₀ (beginRegion r m) := by
  unfold beginRegion
  extract_lets a seq slot j m1 m2 m3
  have k1 : Within A m₀ m1 := h.modHeath _ hh
  have k2 : Within A m₀ m2 := by
    dsimp only [m2]
    split
    · exact k1.modHeath _ hh
    · exact k1
  have k3 : Within A m₀ m3 := k2.set 0 _ _ (.inl (hf _ (by simp [writeArea, hr])))
  split
  · exact (k3.set 0 _ _ (.inl (hf _ (by simp [writeArea])))).set 0 _ _ (.inl (hf _ (by simp [writeArea])))
  · exact k3.set 0 _ _ (.inl (hf _ (by simp [writeArea])))

theorem nvmNext_within (h : Within A m₀ m) (hf : ∀ e ∈ writeArea.fields, e ∈ A.fields) (hh : A.heath = true) :
    Within A m₀ (nvmNext m) := by
  unfold nvmNext
  extract_lets a m1
  have k1 : Within A m₀ m1 := by
    dsimp only [m1]
    split
    · exact beginRegion_within h hf hh (by decide)
    · exact h
  split
  · exact k1
  · split
    · rename_i r hr
      have hm := List.mem_of_mem_filter (List.mem_of_mem_head? hr)
      have : r < 6 := by simp at hm; omega
      split
      · exact k1
      · exact beginRegion_within k1 hf hh this
    · exact k1

/-- PEND is none of what the begin of a write changes. -/
theorem Within.pend (h : Within writeArea m₀ m) : m.get 0 HTH_NVMSTAT.PEND = m₀.get 0 HTH_NVMSTAT.PEND :=
  h.get 0 _ fun i _ h1 h2 hb => by
    rcases hb with ⟨e, he, ha, h3, h4⟩ | ⟨b, hb, -⟩
    · simp only [writeArea, List.mem_append, List.mem_cons, List.not_mem_nil, or_false, List.mem_map, List.mem_range] at he
      dsimp only at h1 h2
      rcases he with (rfl | rfl | rfl) | ⟨k, -, rfl⟩ <;> dsimp only at ha h3 h4 <;> omega
    · simp [writeArea] at hb

theorem nvmNext_pend (m : Wafer) : (nvmNext m).get 0 HTH_NVMSTAT.PEND = m.get 0 HTH_NVMSTAT.PEND :=
  (nvmNext_within (.refl _ m) (fun _ h => h) rfl).pend

/-! ### A region joins those that wait (R438) -/

/-- A region that waits for nothing joins the pending ones. -/
def queued (r : Nat) (m : Wafer) : Wafer := m.set 0 HTH_NVMSTAT.PEND (m.get 0 HTH_NVMSTAT.PEND + 2 ^ r)

theorem nvmQueue_eq (h : regionPending r m = false) : nvmQueue r m = nvmNext (queued r m) := by
  rw [nvmQueue, h, if_neg (by simp)]
  rfl

/-- A number with a clear bit takes it by addition. -/
theorem add_two_pow_testBit {x r : Nat} (h : x.testBit r = false) : (x + 2 ^ r).testBit r = true := by
  rw [Nat.add_comm, Nat.testBit_two_pow_add_eq, h]
  rfl

theorem queued_pend (hr : r < 6) (h : regionPending r m = false) : regionPending r (queued r m) = true := by
  rw [regionPending, queued, Wafer.get_set _ _ _ _ (by decide), Nat.testBit_mod_two_pow, add_two_pow_testBit h]
  simpa using hr

theorem nvmQueue_pending (hr : r < 6) (h : regionPending r m = false) : regionPending r (nvmQueue r m) = true := by
  rw [nvmQueue_eq h, regionPending, nvmNext_pend]
  exact queued_pend hr h

/-- The only region that waits is the queued one. -/
theorem queued_only (hr : r < 6) (h : m.get 0 HTH_NVMSTAT.PEND = 0) (k : Nat) :
    regionPending k (queued r m) = decide (r = k) := by
  have : 2 ^ r < 2 ^ 6 := Nat.pow_lt_pow_right (by decide) hr
  rw [regionPending, queued, h, Wafer.get_set_fits _ _ ⟨by decide, by dsimp only; omega⟩, Nat.zero_add, Nat.testBit_two_pow]

/-- The region of Heath a's bank 0 whose write is next. -/
def nextRegion (a : Nat) (m : Wafer) : Option Nat :=
  ([1, 0, 2, 3, 4].filter fun r =>
    regionPending r m && !(Store.get noJobs m.heath.nvm.stopped a).any fun j => j.region == r).head?

/-- Heath a's bank 0, where it is idle, takes its next region. -/
def bank0Next (a : Nat) (m : Wafer) : Wafer :=
  if (m.heath.nvm.job a 0).isSome then m
  else
    match nextRegion a m with
    | some r => if r ≠ 1 ∧ (Store.get noJobs m.heath.nvm.stopped a) ≠ [] then m else beginRegion r m
    | none => m

theorem nvmNext_eq (m : Wafer) : nvmNext m = bank0Next m.heath.activeId
    (if (m.heath.nvm.job m.heath.activeId 1).isNone && regionPending 5 m then beginRegion 5 m else m) := rfl

theorem bank0Next_none {a : Nat} (h : nextRegion a m = none) : bank0Next a m = m := by
  rw [bank0Next, h, ite_self]

theorem bank0Next_begins {a r : Nat} (hj : (m.heath.nvm.job a 0).isNone = true) (hr : nextRegion a m = some r)
    (hs : Store.get noJobs m.heath.nvm.stopped a = []) : bank0Next a m = beginRegion r m := by
  rw [bank0Next, Option.isNone_iff_eq_none.1 hj, if_neg (by simp), hr]
  exact if_neg (by simp [hs])

/-- With nothing else waiting, an idle bank and no stopped write, the region's write begins. -/
theorem nvmNext_queued (hr : r < 6) (h0 : r ≠ 0) (hp : m.get 0 HTH_NVMSTAT.PEND = 0)
    (hj : (m.heath.nvm.job m.heath.activeId (regionBank r)).isNone = true)
    (hs : Store.get noJobs m.heath.nvm.stopped m.heath.activeId = []) :
    nvmNext (queued r m) = beginRegion r (queued r m) := by
  have ho := queued_only hr hp
  by_cases h5 : r = 5
  · subst h5
    have hb : ((queued 5 m).heath.nvm.job (queued 5 m).heath.activeId 1).isNone = true := hj
    have hw : (beginRegion 5 (queued 5 m)).get 0 HTH_NVMSTAT.PEND = (queued 5 m).get 0 HTH_NVMSTAT.PEND :=
      (beginRegion_within (.refl writeArea _) (fun _ h => h) rfl (by decide)).pend
    have hn (k : Nat) : regionPending k (beginRegion 5 (queued 5 m)) = decide (5 = k) := by
      rw [regionPending, hw, ← regionPending, ho]
    rw [nvmNext_eq, hb, ho, if_pos (by decide), bank0Next_none]
    simp [nextRegion, hn]
  · have hb : ((queued r m).heath.nvm.job (queued r m).heath.activeId 0).isNone = true := by
      rw [← show regionBank r = 0 from if_neg h5]
      exact hj
    have hst : Store.get noJobs (queued r m).heath.nvm.stopped (queued r m).heath.activeId = [] := hs
    rw [nvmNext_eq, ho, decide_eq_false h5, Bool.and_false, if_neg Bool.false_ne_true]
    refine bank0Next_begins hb ?_ hst
    rw [nextRegion, hst]
    simp only [ho]
    obtain rfl | rfl | rfl | rfl : r = 1 ∨ r = 2 ∨ r = 3 ∨ r = 4 := by omega
    all_goals rfl

theorem nvmQueue_begins (hr : r < 6) (h0 : r ≠ 0) (hp : m.get 0 HTH_NVMSTAT.PEND = 0)
    (hj : (m.heath.nvm.job m.heath.activeId (regionBank r)).isNone = true)
    (hs : Store.get noJobs m.heath.nvm.stopped m.heath.activeId = []) :
    ∃ j, (nvmQueue r m).heath.nvm.job m.heath.activeId (regionBank r) = some j ∧ j.region = r ∧ j.page = 0 := by
  have hn : regionPending r m = false := by simp [regionPending, hp]
  rw [nvmQueue_eq hn, nvmNext_queued hr h0 hp hj hs]
  exact beginRegion_job r (queued r m)

/-! ### STORE (R438) -/

theorem storeKey : ∀ r : BitVec 6,
    getBits (BitVec.ofNat 32 (0x5A800000 + r.toNat)) 24 8 = 0x5A ∧ (BitVec.ofNat 32 (0x5A800000 + r.toNat)).getLsbD 23 = true := by
  decide

/-- A STORE on a halted wafer, or of region 0 outside test mode, is rejected. -/
theorem doStore_rejected {regions : BitVec 6} (h : ((BitVec.ofNat 32 (0x5A800000 + regions.toNat)).getLsbD 0 ∧
    ¬ m.on 0 HTH_PINSTAT.TEST_ON) ∨ m.on 0 HTH_BUSTAT.HALT) : doStore regions m = m.set 0 HTH_NVMSTAT.REJ 1 := by
  rw [doStore, storeWrite, if_pos (storeKey regions), if_pos h]

/-- The regions that a STORE of one of them names. -/
theorem storeOne : ∀ r : Fin 6, r.val ≠ 0 →
    (BitVec.ofNat 32 (0x5A800000 + (BitVec.ofNat 6 (2 ^ r.val)).toNat)).getLsbD 0 = false ∧
    ((List.range 6).filter fun k => (BitVec.ofNat 32 (0x5A800000 + (BitVec.ofNat 6 (2 ^ r.val)).toNat)).getLsbD k) = [r.val] := by
  decide

theorem doStore_one {r : Fin 6} (hr : r.val ≠ 0) (hh : m.on 0 HTH_BUSTAT.HALT = false) :
    doStore (BitVec.ofNat 6 (2 ^ r.val)) m = nvmQueue r m := by
  obtain ⟨h0, hl⟩ := storeOne r hr
  rw [doStore, storeWrite, if_pos (storeKey _), if_neg (by rw [h0, hh]; simp), hl]
  rfl

/-! ### The end of a page (R437 to R440) -/

section
variable {h : Nat}

/-- The job that an idle bank resumes comes with no slot. -/
theorem nvmResume_mram (h : Nat) (m : Wafer) : (nvmResume h m).heath.nvm.mram = m.heath.nvm.mram := by
  unfold nvmResume
  dsimp only
  split
  · rfl
  · rfl

theorem nvmBoth_mram (r : Nat) (m : Wafer) : (nvmBoth r m).heath.nvm.mram = m.heath.nvm.mram := by
  unfold nvmBoth
  dsimp only
  split
  · rfl
  · rfl

theorem nvmBusy_heath (m : Wafer) : (nvmBusy m).heath = m.heath := rfl

/-- At the standby a bank goes on with no region that waits. -/
theorem nvmGoOn_standby (hs : h ≠ m.heath.activeId) :
    nvmGoOn h m = nvmBusy (if m.heath.halting = some h then m else nvmResume h m) := by
  have ha (n : Wafer) (e : n = m ∨ n = nvmResume h m) : n.heath.activeId = m.heath.activeId := by
    rcases e with rfl | rfl
    · rfl
    · unfold nvmResume
      dsimp only
      split
      · rfl
      · rfl
  have hb : (h == m.heath.activeId) = false := by simpa using hs
  unfold nvmGoOn
  rw [hb, Bool.and_false, if_neg Bool.false_ne_true]
  dsimp only
  split
  · rw [if_neg (by simp [hs])]
  · rw [if_neg (by rw [ha _ (.inr rfl)]; simp [hs])]

theorem nvmGoOn_mram (hs : h ≠ m.heath.activeId) : (nvmGoOn h m).heath.nvm.mram = m.heath.nvm.mram := by
  rw [nvmGoOn_standby hs, nvmBusy_heath]
  split
  · rfl
  · exact nvmResume_mram h m

/-! What these keep, and the flags that they leave as a fault does. -/

section
variable (k : Keeps A m₀ m) (hh : HeathIn A)
include k hh

theorem nvmResume_keeps (h : Nat) : Keeps A m₀ (nvmResume h m) := by
  unfold nvmResume
  dsimp only
  split
  · exact modNvm_keeps k hh _
  · exact k

theorem nvmBusy_keeps : Keeps A m₀ (nvmBusy m) :=
  ((k.heathSet hh _ (by decide)).heathSet hh _ (by decide)).heathSet hh _ (by decide)

theorem nvmUnpend_keeps (r : Nat) : Keeps A m₀ (nvmUnpend r m) := .ite (fun _ => k.heathSet hh _ (by decide)) fun _ => k

theorem nvmBoth_keeps (hr : r < 6) : Keeps A m₀ (nvmBoth r m) :=
  have ks := k.heathSet hh _ (show (HTH_NVMREG.STBY_OK r).off < 0x1000000 by dsimp only; omega)
  .ite (fun _ => modNvm_keeps ks hh _) fun _ => ks

theorem nvmGoOn_keeps (h : Nat) : Keeps A m₀ (nvmGoOn h m) := by
  unfold nvmGoOn
  extract_lets m1 m2
  have k1 : Keeps A m₀ m1 := .ite (fun _ => nvmNext_keeps k hh) fun _ => k
  have k2 : Keeps A m₀ m2 := .ite (fun _ => k1) fun _ => nvmResume_keeps k1 hh h
  exact nvmBusy_keeps (.ite (fun _ => nvmNext_keeps k2 hh) fun _ => k2) hh

end

theorem FaultLeaves.nvmUnpend (k : FaultLeaves m₀ m) (r : Nat) : FaultLeaves m₀ (nvmUnpend r m) := .ite (k.set _ (by decide)) k

theorem FaultLeaves.nvmGoOn (k : FaultLeaves m₀ m) (h : Nat) : FaultLeaves m₀ (nvmGoOn h m) := by
  unfold Machine.nvmGoOn
  extract_lets m1 m2
  have k1 : FaultLeaves m₀ m1 := .ite k.nvmNext k
  have k2 : FaultLeaves m₀ m2 := by
    refine .ite k1 ?_
    unfold nvmResume
    dsimp only
    split
    · exact k1.modHeath _
    · exact k1
  have k3 : FaultLeaves m₀ (if h = m2.heath.activeId ∧ m2.heath.active then Machine.nvmNext m2 else m2) := .ite k2.nvmNext k2
  exact ((k3.setB _ (by decide)).setB _ (by decide)).setB _ (by decide)

/-- A region write that is abandoned at the active Heath is flagged. -/
theorem nvmAbandon_error {j : NvmJob} (ha : h = m.heath.activeId) : (nvmAbandon h j m).on 0 HTH_NVMSTAT.WR_ERR = true := by
  unfold nvmAbandon
  extract_lets m1 m2
  have k2 : m2 = nvmUnpend j.region (m1.set 0 HTH_NVMSTAT.WR_ERR 1) := if_pos ha
  have hf : FaultLeaves (m1.set 0 HTH_NVMSTAT.WR_ERR 1) m2 := k2 ▸ (FaultLeaves.refl _).nvmUnpend _
  rw [((hf.heathFaultAt (by decide) (by decide) _ _ _).nvmGoOn h).on (.inr (.inr (by decide))),
    Wafer.on_set_one_of _ _ (by decide)]

/-- The cases of a page's end with a write in progress: the first and the second failure, and at bank 1 a
page before the last. -/
theorem doNvmPageWriteDone_retries {h bank : Fin 2} {j : NvmJob} (hj : m.heath.nvm.job h bank = some j) (hr : j.retried = false) :
    doNvmPageWriteDone h bank false m = m.modNvm fun x => x.setJob h bank (some { j with retried := true }) := by
  rw [doNvmPageWriteDone, hj]
  dsimp only
  rw [hr]
  rfl

theorem doNvmPageWriteDone_abandons {h bank : Fin 2} {j : NvmJob} (hj : m.heath.nvm.job h bank = some j) (hr : j.retried = true) :
    doNvmPageWriteDone h bank false m = nvmAbandon h j m := by
  rw [doNvmPageWriteDone, hj]
  dsimp only
  rw [hr]
  rfl

theorem doNvmPageWriteDone_next {h : Fin 2} {j : NvmJob} (hj : m.heath.nvm.job h (1 : Fin 2) = some j)
    (hp : j.page + 1 < regionPages j.region) : doNvmPageWriteDone h 1 true m =
      m.modNvm fun x => x.setJob h 1 (some { j with page := j.page + 1, retried := false }) := by
  rw [doNvmPageWriteDone, hj]
  dsimp only
  rw [if_neg (by decide), if_pos hp, if_neg (by simp), if_neg (by simp)]
  rfl

/-- The slot whose last page was written, in the writing Heath. -/
def slotWritten (h b : Nat) (j : NvmJob) (m : Wafer) : Wafer :=
  m.modNvm fun x => (x.setSlot h j.region j.slot (some ⟨j.seq, j.data⟩)).setJob h b none

theorem doNvmPageWriteDone_standby {h bank : Fin 2} {j : NvmJob} (hj : m.heath.nvm.job h bank = some j)
    (hp : regionPages j.region ≤ j.page + 1) (hs : h.val ≠ m.heath.activeId) : doNvmPageWriteDone h bank true m =
      nvmGoOn h (if (slotWritten h bank j m).get 0 (HTH_NVMSEQ.SEQ j.region) = j.seq then
        nvmBoth j.region (slotWritten h bank j m) else slotWritten h bank j m) := by
  have hn : ¬ h.val = (slotWritten h bank j m).heath.activeId := hs
  rw [doNvmPageWriteDone, hj]
  dsimp only
  rw [if_neg (by decide), if_neg (by omega)]
  exact congrArg (nvmGoOn h) (if_neg hn)

theorem slotWritten_slot (h b : Nat) (j : NvmJob) (m : Wafer) :
    (slotWritten h b j m).heath.nvm.slotAt h j.region j.slot = some ⟨j.seq, j.data⟩ :=
  NvmSt.slotAt_setSlot m.heath.nvm h j.region j.slot (some ⟨j.seq, j.data⟩)

theorem nvmBoth_activeId (r : Nat) (m : Wafer) : (nvmBoth r m).heath.activeId = m.heath.activeId := by
  unfold nvmBoth
  dsimp only
  split
  · rfl
  · rfl

theorem NvmSt.slotAt_congr {x y : NvmSt} (e : x.mram = y.mram) (h r s : Nat) : x.slotAt h r s = y.slotAt h r s := by
  rw [NvmSt.slotAt, e, NvmSt.slotAt]

theorem nvmAbandon_keeps {j : NvmJob} (k : Keeps A m₀ m) (hh : HeathIn A) (h : Nat) : Keeps A m₀ (nvmAbandon h j m) := by
  unfold nvmAbandon
  extract_lets m1 m2
  have k1 : Keeps A m₀ m1 := modNvm_keeps k hh _
  have k2 : Keeps A m₀ m2 := .ite (fun _ => nvmUnpend_keeps (k1.heathSet hh _ (by decide)) hh _) fun _ => k1
  exact nvmGoOn_keeps (heathEvent_keeps k2 hh _ (show 60 < 64 by decide) _) hh h

end

/-- Settles O54, clause by clause. -/
theorem storageWrites : Obligations.StorageWrites := by
  unfold Obligations.StorageWrites
  refine ⟨?_, ?_, ?_, ?_, ?_, ?_, ?_, ?_, ?_, ?_, ?_, ?_⟩
  · intro m release hb hl
    refine .of_effect _ (fun _ => rfl) ?_ ?_
    all_goals rw [doSpiReleaseWrite_eq]
    · have k : Within { fields := [(0, HTH_IMGCFG.SPI_REL)], heath := true } m (m.setB 0 HTH_IMGCFG.SPI_REL release) :=
        (Within.refl _ m).set 0 _ _ (.inl (.head _))
      rw [spiPins, if_neg (by simp [hb, hl])]
      exact k.modHeath _ rfl
    · have hon : (m.setB 0 HTH_IMGCFG.SPI_REL release).on 0 HTH_IMGCFG.SPI_REL = release :=
        m.on_setB 0 _ _ (by decide) (by decide)
      obtain ⟨h1, h0⟩ := spiPins_gives (m := m.setB 0 HTH_IMGCFG.SPI_REL release) hb hl
      rw [hon] at h1 h0
      exact ⟨(spiPins_on _ _).trans hon, h1, h0⟩
  · intro m release hr
    refine .of_effect _ (fun _ => rfl) ?_ ?_
    all_goals rw [doSpiReleaseWrite_eq, spiPins, if_pos (by simpa using hr)]
    · exact (Within.refl _ m).set 0 _ _ (.inl (.head _))
    · exact ⟨m.on_setB 0 _ _ (by decide) (by decide), rfl⟩
  · intro m regions hh
    refine .of_effect _ (fun _ => rfl) ?_ ?_
    all_goals rw [doStore_rejected (.inr hh)]
    · exact (Within.refl _ m).set 0 _ _ (.inl (.head _))
    · exact m.on_set_one_of 0 (by decide)
  · intro m h bank good hj
    exact .of_idle _ (fun _ => rfl) (by rw [doNvmPageWriteDone, hj]) rfl
  · intro m r hr
    refine .of_idle _ (fun _ => rfl) (if_neg ?_) rfl
    rintro ⟨ha, hl⟩
    rcases hr with hr | hr
    · rw [hr] at ha; contradiction
    · rw [hr] at hl; contradiction
  · intro m r hh h0 hp
    refine .of_effect _ (fun _ => rfl) ?_ ?_
    all_goals rw [doStore_one h0 hh]
    · rw [nvmQueue_eq hp]
      refine nvmNext_within ((Within.refl _ m).set 0 _ _ (.inl (.tail _ (.head _)))) ?_ rfl
      intro e he
      simp only [writeArea, List.mem_append, List.mem_cons, List.not_mem_nil, or_false] at he ⊢
      tauto
    · exact ⟨nvmQueue_pending r.isLt hp, nvmQueue_begins r.isLt h0⟩
  · intro m ht
    refine .of_effect _ (fun _ => rfl) ?_ ?_
    all_goals rw [doStore_rejected (.inl ⟨by decide, by simp [ht]⟩)]
    · exact (Within.refl _ m).set 0 _ _ (.inl (.head _))
    · exact m.on_set_one_of 0 (by decide)
  · intro m h j hj hp
    refine .of_effect _ (fun _ => rfl) ?_ ?_
    all_goals rw [doNvmPageWriteDone_next hj hp]
    · exact (Within.refl _ m).modHeath _ rfl
    · exact NvmSt.job_setJob _ _ _ _
  · intro m h bank j hj hr
    refine .of_effect _ (fun _ => rfl) ?_ ?_
    all_goals rw [doNvmPageWriteDone_retries hj hr]
    · exact (Within.refl _ m).modHeath _ rfl
    · exact NvmSt.job_setJob _ _ _ _
  · intro m h j hj h5 hp hs
    have hh := heathArea_heathIn
    have k : Keeps heathArea m (slotWritten h (1 : Fin 2) j m) := modNvm_keeps (.refl _ m) hh _
    have ks := slotWritten_slot h (1 : Fin 2) j m
    refine .of_effect _ (fun _ => rfl) ?_ ?_
    all_goals rw [doNvmPageWriteDone_standby (bank := 1) hj (by rw [h5]; exact hp) hs]
    · refine (nvmGoOn_keeps (.ite (fun _ => nvmBoth_keeps k hh ?_) fun _ => k) hh h).within
      omega
    · rw [← h5]
      split
      · rw [NvmSt.slotAt_congr (nvmGoOn_mram (by rw [nvmBoth_activeId]; exact hs)), NvmSt.slotAt_congr (nvmBoth_mram _ _), ks]
      · rw [NvmSt.slotAt_congr (nvmGoOn_mram (by exact hs)), ks]
  · intro m h j hj h5 hr ha
    refine .of_effect _ (fun _ => rfl) ?_ ?_
    all_goals rw [doNvmPageWriteDone_abandons (bank := 1) hj hr]
    · exact (nvmAbandon_keeps (.refl _ m) heathArea_heathIn h).within
    · exact nvmAbandon_error ha
  · intro m r ha hl
    have e : doNvmStandbyLag r m = (m.modNvm fun x => { x with lag := x.lag.filter fun k => k != r.val }).set 0
        HTH_NVMSTAT.STBY_LAG 1 := if_pos ⟨ha, hl⟩
    refine .of_effect _ (fun _ => rfl) ?_ ?_
    all_goals rw [e]
    · exact ((Within.refl _ m).modHeath _ rfl).set 0 _ _ (.inl (.head _))
    · refine ⟨Wafer.on_set_one_of _ 0 (by decide), ?_⟩
      rw [Wafer.set_heath]
      show (m.heath.nvm.lag.filter fun k => k != r.val).contains r.val = false
      simp

end Sys2Proof.Machine
end

section
/-! Links and leases: a link's width once it is taken and passed, a round of leases, and what a lease
leaves at its Sward. -/

namespace Sys2Proof.Machine

variable {A : Area} {m₀ m : Wafer} {p : Nat}

/-! ### The width of a link (R78, R308) -/

/-- The writes of EN that a width passed to the Verges brings: from the first controller to the second only the
Sward's queue of its own writes grew. -/
structure Queues (p : Nat) (m m' : Wafer) : Prop where
  within : Within { swards := (· == p) } m m'
  hidden : ∃ q, m'.sward p = { m.sward p with ownQ := q }

theorem Queues.queueEnable (h : Queues p m₀ m) (u q : Nat) (on : Bool) : Queues p m₀ (queueEnable p u q on m) := by
  obtain ⟨l, e⟩ := h.hidden
  unfold Machine.queueEnable queueOwn
  exact ⟨h.within.modSward p _ (beq_self_eq_true p), _, by rw [Wafer.sward_modSward, e]⟩

/-- Where a width is passed: to the Verges, to the Heath and by message. -/
def passArea (p : Nat) : Area := { swards := (· == p), heath := true, sends := true }

/-- No register is among what passing a width changes. -/
theorem Within.get_pass (h : Within (passArea p) m₀ m) (b : Nat) (f : Fld) : m.get b f = m₀.get b f :=
  h.get b f fun _ _ _ _ hb => by rcases hb with ⟨e, he, -⟩ | ⟨e, he, -⟩ <;> exact absurd he List.not_mem_nil

theorem Within.into_pass (h : Within (passArea p) m₀ m) (hp : A.swards p = true) (hh : A.heath = true)
    (hs : A.sends = true) : Within A m₀ m :=
  h.mono (fun _ _ hb => by rcases hb with ⟨e, he, -⟩ | ⟨e, he, -⟩ <;> exact absurd he List.not_mem_nil)
    (fun _ e => by simp [passArea] at e) (fun q e => by rwa [show q = p by simpa [passArea] using e]) (fun _ => hh)
    (fun _ => hs) (fun e => by simp [passArea] at e)

/-- After a width of a link was passed. -/
structure Passed (p k : Nat) (m m' : Wafer) : Prop where
  within : Within (passArea p) m m'
  hidden : ∃ q, m'.sward p = { m.sward p with ownQ := q, lnkPassed := k :: (m.sward p).lnkPassed.filter fun j => j != k }

theorem passWidth_passed (p k : Nat) (m : Wafer) : Passed p k m (passWidth p k m) := by
  unfold passWidth
  extract_lets v m1 again m2
  have ha (n : Wafer) (u : Nat) (h : Queues p m1 n) : Queues p m1 (again n u) := by
    dsimp only [again]
    split
    · exact h.queueEnable _ _ _
    · exact h
  have h1 : m1.sward p = { m.sward p with lnkPassed := k :: (m.sward p).lnkPassed.filter fun j => j != k } :=
    m.sward_modSward p _
  have h2 : Queues p m1 m2 := ha _ _ (ha _ _ ⟨.refl _ _, _, rfl⟩)
  obtain ⟨q, e⟩ := h2.hidden
  refine ⟨?_, q, ?_⟩
  · have k1 : Within (passArea p) m m1 := (Within.refl _ m).modSward p _ (beq_self_eq_true p)
    have k2 : Within (passArea p) m1 m2 :=
      h2.within.mono (fun _ _ h => h) (fun _ h => h) (fun _ h => h) (fun h => by simp at h) (fun h => by simp at h) (fun h => h)
    exact ((k1.trans k2).send _ _ _ rfl).modHeath _ rfl
  · rw [Wafer.sward_modHeath, Wafer.sward_send, e, h1]

namespace Passed

variable {k : Nat}

theorem lnkSince (h : Passed p k m₀ m) : (m.sward p).lnkSince = (m₀.sward p).lnkSince := by
  obtain ⟨q, e⟩ := h.hidden
  rw [e]

theorem contains (h : Passed p k m₀ m) (j : Nat) :
    (m.sward p).lnkPassed.contains j = (j == k || (m₀.sward p).lnkPassed.contains j) := by
  obtain ⟨q, e⟩ := h.hidden
  rw [e, Bool.eq_iff_iff]
  simp only [List.contains_iff_mem, List.mem_cons, List.mem_filter, bne_iff_ne, ne_eq, Bool.or_eq_true, beq_iff_eq]
  tauto

end Passed

/-- The widths of several links are passed in turn. -/
structure PassedAll (p : Nat) (l : List Nat) (m m' : Wafer) : Prop where
  within : Within (passArea p) m m'
  contains : ∀ j, (m'.sward p).lnkPassed.contains j = (l.contains j || (m.sward p).lnkPassed.contains j)

theorem passWidth_each (l : List Nat) (m : Wafer) : PassedAll p l m (m.each l fun k m => passWidth p k m) := by
  induction l generalizing m with
  | nil => exact ⟨.refl _ m, fun j => (Bool.false_or _).symm⟩
  | cons k t ih =>
    have h := passWidth_passed p k m
    have ht := ih (passWidth p k m)
    refine ⟨h.within.trans ht.within, fun j => ?_⟩
    rw [show (m.each (k :: t) fun k m => passWidth p k m) = (passWidth p k m).each t fun k m => passWidth p k m from rfl,
      ht.contains, h.contains, List.contains_cons, Bool.or_left_comm, Bool.or_assoc]

/-! ### A taken width (R78, R308) -/

/-- A link's width as the Sward takes it, flagged as changed. -/
def widthTaken (p k : Nat) (m : Wafer) : Wafer :=
  ((m.modSward p fun x => { x with lnkSince := Store.set noNat x.lnkSince k none }).set (swd p) (lnkField k)
    (Store.get zeroNat (m.sward p).lnkRaw k)).set (swd p) ⟨8, 4 + k, 1⟩ 1

theorem widthTaken_field {k : Nat} (hk : k < 4) (hv : Store.get zeroNat (m.sward p).lnkRaw k < 4) :
    (widthTaken p k m).get (swd p) (lnkField k) = Store.get zeroNat (m.sward p).lnkRaw k := by
  rw [widthTaken, Wafer.get_set_beside _ _ (by simp only [lnkField]; omega),
    Wafer.get_set_fits _ _ ⟨by simp only [lnkField]; omega, hv⟩]

theorem widthTaken_since (k : Nat) : Store.get noNat ((widthTaken p k m).sward p).lnkSince k = none := by
  rw [widthTaken, Wafer.sward_set, Wafer.sward_set, Wafer.sward_modSward, Store.get_set_same]

theorem widthTaken_within (hp : SwardIn A p) {k : Nat} (h : Within A m₀ m) : Within A m₀ (widthTaken p k m) :=
  ((h.modSward p _ hp.hidden).set _ _ _ (hp.has (by simp [lnkField]))).set _ _ _ (hp.has (by simp))

/-- A new width that has stood for 1 µs is taken, and passed where a width is passed already or training is under way. -/
theorem doLnkStatTake_taken {p : Fin 64} {k : Fin 4} {s w : Nat} (hs : Store.get noNat (m.sward p).lnkSince k = some s)
    (hw : s + 800 ≤ w) (hr : (m.sward p).rst = false)
    (hd : Store.get zeroNat (m.sward p).lnkRaw k ≠ m.get (swd p) (lnkField k)) :
    doLnkStatTake p k w m = widthTaken p k (m.at w) ∨
      doLnkStatTake p k w m = passWidth p k (widthTaken p k (m.at w)) := by
  unfold doLnkStatTake
  dsimp only
  rw [Wafer.sward_at, hs]
  dsimp only
  rw [if_pos ⟨hw, by simp [hr]⟩, if_neg (by exact hd)]
  split
  · exact .inr rfl
  · exact .inl rfl

/-- The window's time is over, and no link is passed yet. -/
def windowOver (p : Nat) (m : Wafer) : Wafer :=
  (m.at (800 * (m.sward p).trainAt + 800000 * max 1 (m.get (swd p) SWD_DOMCFG.TRAIN_MS))).set (swd p) SWD_DOMSTAT.TRAIN 0

/-- The window's end passes every link that was not passed before. -/
theorem doTrainWindowEnd_eq {p : Fin 64} (h : m.on (swd p) SWD_DOMSTAT.TRAIN = true) : doTrainWindowEnd p m =
    (windowOver p m).each ((List.range 4).filter fun k => !(m.sward p).lnkPassed.contains k)
      fun k m => passWidth p k m := by
  unfold doTrainWindowEnd
  exact if_pos h

/-! ### A round of leases (R271, R272) -/

/-- What the terms of a lease are read from: every register beside the leases themselves, and the Heath beside
the leases' numbers and the messages that wait for their answer. -/
structure SameTerms (m m' : Wafer) : Prop where
  word : ∀ a, (a < 0x10100 ∨ 0x10200 ≤ a) → m'.word a = m.word a
  width : m'.heath.width = m.heath.width
  weight : m'.heath.weight = m.heath.weight

theorem SameTerms.get (h : SameTerms m₀ m) {b : Nat} {f : Fld} (ho : b + f.off < 0x10100 ∨ 0x10200 ≤ b + f.off) :
    m.get b f = m₀.get b f := by rw [Wafer.get, h.word _ ho, Wafer.get]

theorem SameTerms.unitOn (h : SameTerms m₀ m) (u : UnitId) {f : Fld} : m.on u.base f = m₀.on u.base f := by
  have := u.base_range
  rw [Wafer.on, h.get (.inr (by simp only [swd] at this; omega)), Wafer.on]

theorem SameTerms.allowance (h : SameTerms m₀ m) (q : Nat) : allowance q m = allowance q m₀ := by
  have hl (k : Nat) : linkAllowance q k m = linkAllowance q k m₀ := by
    unfold linkAllowance linkLost
    rw [h.unitOn, h.unitOn, h.width, h.get (.inl (by decide)), h.get (.inl (by decide)), h.get (.inl (by decide))]
  unfold Machine.allowance
  simp only [hl]

theorem SameTerms.leaseOf (h : SameTerms m₀ m) (t : Nat × Nat × Nat) (q : Nat) : leaseOf t q m = leaseOf t q m₀ := by
  have hc : contained q m = contained q m₀ := by
    unfold contained pairBit
    rw [h.get (.inr (by decide)), h.get (.inr (by decide))]
  have hw : leaseWeight q m = leaseWeight q m₀ := by
    unfold leaseWeight
    rw [hc, h.weight]
  unfold Machine.leaseOf
  rw [h.allowance, hw]

/-- A lease that one partition is sent: its register and its number. -/
structure LeaseSent (t : Nat × Nat × Nat) (p : Nat) (m m' : Wafer) : Prop where
  terms : SameTerms m m'
  lease : m'.get 0 (HTH_PLEASE.LEASE p) = (leaseOf t p m).1 % 2 ^ 32
  seq : Store.get zeroNat m'.heath.leaseSeq p = (Store.get zeroNat m.heath.leaseSeq p + 1) % 2 ^ 16
  others : ∀ q, q ≠ p → m'.get 0 (HTH_PLEASE.LEASE q) = m.get 0 (HTH_PLEASE.LEASE q) ∧
    Store.get zeroNat m'.heath.leaseSeq q = Store.get zeroNat m.heath.leaseSeq q

/-- The number and the register of a partition's lease. -/
def leaseShown (t : Nat × Nat × Nat) (p : Nat) (m : Wafer) : Wafer :=
  (m.modHeath fun h => { h with leaseSeq := Store.set zeroNat h.leaseSeq p ((Store.get zeroNat m.heath.leaseSeq p + 1) % 2 ^ 16) }).set
    0 (HTH_PLEASE.LEASE p) (leaseOf t p m).1

/-- The message of a lease. -/
def leaseMessage (t : Nat × Nat × Nat) (p : Nat) (m : Wafer) : List Nat :=
  [(Store.get zeroNat m.heath.leaseSeq p + 1) % 2 ^ 16, (leaseShown t p m).wtime % 2 ^ 32,
    max 1 ((leaseShown t p m).get 0 HTH_CAPCFG.DUR), (leaseOf t p m).1, (leaseOf t p m).2]

theorem sendLease_eq (t : Nat × Nat × Nat) (p : Nat) (m : Wafer) : sendLease t p m =
    unicast p .lease 0 (leaseMessage t p m) ((leaseShown t p m).send .lease p (leaseMessage t p m)) := rfl

theorem sendLease_word (t : Nat × Nat × Nat) (p a : Nat) (m : Wafer) :
    (sendLease t p m).word a = (leaseShown t p m).word a := by
  rw [sendLease_eq, unicast, Wafer.word_modHeath, Wafer.word_send]

theorem sendLease_get (t : Nat × Nat × Nat) (p : Nat) (f : Fld) (m : Wafer) :
    (sendLease t p m).get 0 f = (leaseShown t p m).get 0 f := by rw [Wafer.get, sendLease_word, Wafer.get]

theorem sendLease_leaseSeq (t : Nat × Nat × Nat) (p : Nat) (m : Wafer) : (sendLease t p m).heath.leaseSeq =
    Store.set zeroNat m.heath.leaseSeq p ((Store.get zeroNat m.heath.leaseSeq p + 1) % 2 ^ 16) := rfl

theorem sendLease_sent (t : Nat × Nat × Nat) (hp : p < 64) : LeaseSent t p m (sendLease t p m) where
  terms := by
    refine ⟨fun a ha => ?_, rfl, rfl⟩
    rw [sendLease_word, leaseShown, Wafer.word_set_ne _ _ (by dsimp only; omega), Wafer.word_modHeath]
  lease := by rw [sendLease_get, leaseShown, Wafer.get_set _ _ _ _ (by dsimp only; omega)]
  seq := by rw [sendLease_leaseSeq, Store.get_set_same]
  others q hq := by
    rw [sendLease_leaseSeq, Store.get_set_ne _ _ _ hq, sendLease_get, leaseShown,
      Wafer.get_set_beside _ _ (.inl (by dsimp only; omega)), Wafer.get_modHeath]
    exact ⟨rfl, rfl⟩

theorem sendLease_keeps (h : Keeps A m₀ m) (hh : HeathIn A) (t : Nat × Nat × Nat) (hp : p < 64) :
    Keeps A m₀ (sendLease t p m) := by
  rw [sendLease_eq, unicast, leaseShown]
  exact (((h.heathMod hh _).heathSet hh _ (by dsimp only; omega)).send _ _ _ hh.sends).heathMod hh _

/-- Leases sent in turn: each partition of the list is sent one, by the terms before the first. -/
theorem sendLease_fold (t : Nat × Nat × Nat) (l : List Nat) (m : Wafer) (hn : l.Nodup) (hl : ∀ p ∈ l, p < 64) :
    (∀ p ∈ l, (l.foldl (fun m p => sendLease t p m) m).get 0 (HTH_PLEASE.LEASE p) = (leaseOf t p m).1 % 2 ^ 32 ∧
      Store.get zeroNat (l.foldl (fun m p => sendLease t p m) m).heath.leaseSeq p =
        (Store.get zeroNat m.heath.leaseSeq p + 1) % 2 ^ 16) ∧
    ∀ p, p ∉ l → (l.foldl (fun m p => sendLease t p m) m).get 0 (HTH_PLEASE.LEASE p) = m.get 0 (HTH_PLEASE.LEASE p) ∧
      Store.get zeroNat (l.foldl (fun m p => sendLease t p m) m).heath.leaseSeq p = Store.get zeroNat m.heath.leaseSeq p := by
  induction l generalizing m with
  | nil => exact ⟨fun p hp => absurd hp List.not_mem_nil, fun p _ => ⟨rfl, rfl⟩⟩
  | cons k s ih =>
    obtain ⟨hk, hs⟩ := List.nodup_cons.1 hn
    obtain ⟨hsent, hrest⟩ := ih (sendLease t k m) hs fun p hp => hl p (List.mem_cons_of_mem k hp)
    have h := sendLease_sent (m := m) t (hl k List.mem_cons_self)
    refine ⟨fun p hp => ?_, fun p hp => ?_⟩
    · rcases List.mem_cons.1 hp with rfl | hp
      · obtain ⟨hg, hq⟩ := hrest p hk
        exact ⟨hg.trans h.lease, hq.trans h.seq⟩
      · have hne : p ≠ k := fun e => hk (e ▸ hp)
        obtain ⟨hg, hq⟩ := hsent p hp
        rw [h.terms.leaseOf, (h.others p hne).2] at *
        exact ⟨hg, hq⟩
    · obtain ⟨hne, hp⟩ := not_or.1 (mt List.mem_cons.2 hp)
      obtain ⟨hg, hq⟩ := hrest p hp
      obtain ⟨kg, kq⟩ := h.others p hne
      exact ⟨hg.trans kg, hq.trans kq⟩

theorem liveParts_nodup (m : Wafer) : (liveParts m).Nodup := List.nodup_range.filter _

theorem liveParts_lt (hp : p ∈ liveParts m) : p < 64 := List.mem_range.1 (List.mem_of_mem_filter hp)

/-- The leases of a round, before it settles which epochs the Heath closes. -/
def leasesSent (m : Wafer) : Wafer := (liveParts m).foldl (fun n p => sendLease (leaseTerms m) p n) m

/-- What a round settles of the epochs is no lease's. -/
theorem sendLeases_eq (m : Wafer) : ∃ e, sendLeases m = (leasesSent m).modHeath fun h => { h with epochFrom := e } := by
  unfold sendLeases
  dsimp only
  split
  · exact ⟨_, rfl⟩
  · exact ⟨(leasesSent m).heath.epochFrom, rfl⟩

theorem sendLeases_keeps (h : Keeps A m₀ m) (hh : HeathIn A) : Keeps A m₀ (sendLeases m) := by
  obtain ⟨e, he⟩ := sendLeases_eq m
  rw [he]
  exact (h.fold _ _ fun _ _ hp k => sendLease_keeps k hh _ (liveParts_lt hp)).heathMod hh _

theorem doLeasePeriod_sends {w : Nat} (ha : m.heath.active = true) (hb : 9 ≤ m.heath.bringUp) :
    doLeasePeriod w m = sendLeases (m.at w) := if_pos ⟨ha, hb⟩

/-- The leases that a round sends, each by the terms at its begin. -/
theorem sendLeases_sent (m : Wafer) :
    (∀ p ∈ liveParts m, (sendLeases m).get 0 (HTH_PLEASE.LEASE p) = (leaseOf (leaseTerms m) p m).1 % 2 ^ 32 ∧
      Store.get zeroNat (sendLeases m).heath.leaseSeq p = (Store.get zeroNat m.heath.leaseSeq p + 1) % 2 ^ 16) ∧
    ∀ p, p ∉ liveParts m → (sendLeases m).get 0 (HTH_PLEASE.LEASE p) = m.get 0 (HTH_PLEASE.LEASE p) := by
  obtain ⟨e, he⟩ := sendLeases_eq m
  obtain ⟨hs, hr⟩ := sendLease_fold (leaseTerms m) (liveParts m) m (liveParts_nodup m) fun _ => liveParts_lt
  rw [he]
  exact ⟨hs, fun p hp => (hr p hp).1⟩

/-! ### A lease at its Sward (R273, R274) -/

/-- A bit cleared in a pair of registers reads so. -/
theorem pairBit_setPairBit {lo hi : Fld} (hl : lo.lo = 0 ∧ lo.wid = 32) (hh : hi.lo = 0 ∧ hi.wid = 32) (c : Nat) (hc : c < 64)
    (v : Bool) : pairBit lo hi c (setPairBit lo hi c v m) = v := by
  have hb (w : Word) (i : Nat) (hi : i < 32) : (getBits (setBits w i 1 (bit v)) 0 32).testBit i = v := by
    rw [getBits_testBit, Nat.add_zero, setBits_bit _ _ _ _ _ hi, if_pos ⟨le_refl _, by omega⟩, Nat.sub_self]
    cases v <;> simp [hi, bit]
  unfold pairBit setPairBit
  by_cases h : c < 32
  · rw [if_pos h, if_pos h, Wafer.get, Nat.zero_add, Wafer.word_putWord, hl.1, hl.2, Nat.mod_eq_of_lt h, hb _ _ h]
  · rw [if_neg h, if_neg h, Wafer.get, Nat.zero_add, Wafer.word_putWord, hh.1, hh.2,
      show c % 32 = c - 32 by omega, hb _ _ (by omega)]

/-- The lease's message has its answer, and the Heath notes the budget as received. -/
def leaseArrived (p : Nat) (budget : Word) (m : Wafer) : Wafer :=
  (tally p 55 (answered p .lease m)).modHeath fun h => { h with leaseGot := Store.set zeroNat h.leaseGot p budget.toNat }

/-- The lease of a message, as the Sward extends its time of issue. -/
def arrivedLease (m : Wafer) (seq : BitVec 16) (issue : Word) (dur : BitVec 8) (budget floor : Word) : LeaseRec :=
  ⟨seq.toNat, dur.toNat, (extendIssue m.wtime issue.toNat).toNat, budget.toNat, floor.toNat⟩

/-- The Sward takes a lease for its next boundary. -/
def leaseAccepted (p : Nat) (l : LeaseRec) (m : Wafer) : Wafer :=
  tally p 38 ((m.modSward p fun x => { x with leasePend := some l }).set (swd p) SWD_LEASE.FIRST 1)

/-- The Sward rejects a lease. -/
def leaseRejected (p : Nat) (m : Wafer) : Wafer := tally p 39 (m.set (swd p) SWD_LEASE.LEASE_REJ 1)

/-- What a Sward accepts: a lease that lasts, is newer than the last and is still in its time. -/
abbrev Acceptable (p : Nat) (seq : BitVec 16) (issue : Word) (dur : BitVec 8) (m : Wafer) : Prop :=
  dur ≠ 0 ∧ (!m.on (swd p) SWD_LEASE.FIRST || newer16 seq.toNat (m.get (swd p) SWD_LEASE.SEQ)) = true ∧
    ((m.wtime : Nat) : Int) < extendIssue m.wtime issue.toNat + 800000 * (dur.toNat : Int)

section
variable {q : Fin 64} {seq : BitVec 16} {issue : Word} {dur : BitVec 8} {budget floor : Word}

theorem answered_get (k : UnicastKind) {f : Fld} : (answered p k m).get (swd p) f = m.get (swd p) f := by
  have hn (c : Prop) [Decidable c] : swd p + f.off ≠ (if c then HTH_UNREACH_LO.UNREACH else HTH_UNREACH_HI.UNREACH).off := by
    split <;> simp only [swd] <;> omega
  rw [answered, setPairBit, Wafer.get_putWord_ne _ _ (hn _), Wafer.get_modHeath]

theorem leaseAnswered_counts (p : Nat) (m : Wafer) :
    Counts p (answered p .lease m) (tally p 55 (answered p .lease m)) := .tally (.refl p _) (by decide)

theorem leaseArrived_get {f : Fld} (hf : f.off < 0xA000) : (leaseArrived p budget m).get (swd p) f = m.get (swd p) f := by
  rw [leaseArrived, Wafer.get_modHeath, (leaseAnswered_counts p m).get _ (.inl hf), answered_get]

theorem leaseArrived_on {f : Fld} (hf : f.off < 0xA000) : (leaseArrived p budget m).on (swd p) f = m.on (swd p) f := by
  rw [Wafer.on, leaseArrived_get hf, Wafer.on]

theorem leaseArrived_wtime : (leaseArrived p budget m).wtime = m.wtime :=
  (leaseAnswered_counts p m).within.time rfl

theorem leaseArrived_sward : ((leaseArrived p budget m).sward p).leasePend = (m.sward p).leasePend :=
  (leaseAnswered_counts p m).keeps SwardSt.leasePend

theorem leaseArrived_got : Store.get zeroNat (leaseArrived p budget m).heath.leaseGot p = budget.toNat :=
  Store.get_set_same _ _ _ _

theorem Counts.pairBit (h : Counts p m₀ m) {lo hi : Fld} (hl : lo.off < 0x1000000) (hh : hi.off < 0x1000000) (c : Nat) :
    pairBit lo hi c m = pairBit lo hi c m₀ := by
  have k (f : Fld) (hf : f.off < 0x1000000) : m.get 0 f = m₀.get 0 f := h.within.get 0 f fun i _ _ _ hb => by
    rcases hb with ⟨e, he, -⟩ | ⟨e, he, h1, -⟩
    · exact absurd he List.not_mem_nil
    · rw [List.mem_singleton.1 he] at h1
      simp only [swd] at h1
      omega
  rw [Machine.pairBit, k lo hl, k hi hh, Machine.pairBit]

theorem leaseArrived_reached (hp : p < 64) :
    pairBit HTH_UNREACH_LO.UNREACH HTH_UNREACH_HI.UNREACH p (leaseArrived p budget m) = false :=
  ((leaseAnswered_counts p m).pairBit (by decide) (by decide) p).trans
    (pairBit_setPairBit (by decide) (by decide) p hp false)

theorem leaseArrived_within (h : Within A m₀ m) (hA : AnswerIn A p) : Within A m₀ (leaseArrived p budget m) :=
  ((answered_within h hA p .lease).trans (tally_keeps (.refl A _) hA.sward (by decide)).within).modHeath _ hA.heath

/-- What a Sward does with a lease that reaches it, out of reset. -/
theorem takeLease_eq (hr : (m.sward q).rst = false) : takeLease q seq issue dur budget floor m =
    if dur ≠ 0 ∧ (!(leaseArrived q budget m).on (swd q) SWD_LEASE.FIRST ||
        newer16 seq.toNat ((leaseArrived q budget m).get (swd q) SWD_LEASE.SEQ)) = true ∧
        ((leaseArrived q budget m).wtime : Int) <
          extendIssue (leaseArrived q budget m).wtime issue.toNat + 800000 * (dur.toNat : Int) then
      leaseAccepted q (arrivedLease (leaseArrived q budget m) seq issue dur budget floor) (leaseArrived q budget m)
    else leaseRejected q (leaseArrived q budget m) := by
  rw [takeLease, hr, if_neg Bool.false_ne_true]
  rfl

theorem doLeaseReceive_once {w : Nat} (hb : (m.sward q).passedBy = false) (hn : m.heath.dups.contains q.val = false) :
    doLeaseReceive q seq issue dur budget floor w m = takeLease q seq issue dur budget floor (m.at w) :=
  received_once (m := m.at w) _ hb hn

theorem takeLease_accepted (hr : (m.sward q).rst = false) (h : Acceptable q seq issue dur m) :
    takeLease q seq issue dur budget floor m =
      leaseAccepted q (arrivedLease m seq issue dur budget floor) (leaseArrived q budget m) := by
  rw [takeLease_eq hr, leaseArrived_on (by decide), leaseArrived_get (by decide), leaseArrived_wtime, if_pos h, arrivedLease,
    leaseArrived_wtime]
  rfl

theorem takeLease_rejected (hr : (m.sward q).rst = false) (h : ¬ Acceptable q seq issue dur m) :
    takeLease q seq issue dur budget floor m = leaseRejected q (leaseArrived q budget m) := by
  rw [takeLease_eq hr, leaseArrived_on (by decide), leaseArrived_get (by decide), leaseArrived_wtime, if_neg h]

/-- What a message leaves of the pair of marks when no register of the Heath follows. -/
theorem pairBit_set {lo hi : Fld} (hl : lo.off < 0x1000000) (hh : hi.off < 0x1000000) (c : Nat) (f : Fld) (v : Nat) :
    pairBit lo hi c (m.set (swd p) f v) = pairBit lo hi c m := by
  rw [pairBit, pairBit, Wafer.get_set_ne _ _ (.inl (swd_ne_heath p hl)), Wafer.get_set_ne _ _ (.inl (swd_ne_heath p hh))]

/-- The marks of a lease that was accepted, before its event is counted. -/
theorem leaseAccepted_counts (p : Nat) (l : LeaseRec) (m : Wafer) : Counts p
    ((m.modSward p fun x => { x with leasePend := some l }).set (swd p) SWD_LEASE.FIRST 1) (leaseAccepted p l m) :=
  .tally (.refl p _) (by decide)

theorem leaseRejected_counts (p : Nat) (m : Wafer) : Counts p (m.set (swd p) SWD_LEASE.LEASE_REJ 1) (leaseRejected p m) :=
  .tally (.refl p _) (by decide)

theorem leaseAccepted_within {l : LeaseRec} (h : Within A m₀ m) (hp : SwardIn A p) : Within A m₀ (leaseAccepted p l m) :=
  ((h.modSward p _ hp.hidden).set _ _ _ (hp.has (by decide))).trans (tally_keeps (.refl A _) hp (by decide)).within

theorem leaseRejected_within (h : Within A m₀ m) (hp : SwardIn A p) : Within A m₀ (leaseRejected p m) :=
  (h.set _ _ _ (hp.has (by decide))).trans (tally_keeps (.refl A _) hp (by decide)).within

end

/-- A Sward in reset counts nothing. -/
theorem tally_reset (hr : (m.sward p).rst = true) (k : Nat) : tally p k m = m := by
  rw [tally, count, counterTakes, hr]
  simp

/-- The floor takes the lease's place when it expires. -/
def leaseExpired (p : Nat) (m : Wafer) : Wafer :=
  ((m.set (swd p) SWD_LBUD.BUDGET (m.get (swd p) SWD_LFLR.FLOOR)).set (swd p) SWD_LEASE.EXPIRED 1).set (swd p)
    SWD_LEASE.LEASE_EXP 1

theorem doLeaseExpire_expires {p : Fin 64} {l : LeaseRec} {w : Nat} (hl : (m.sward p).lease = some l)
    (hw : l.issue + 800000 * l.dur ≤ w) (hp : (m.sward p).leasePend = none) (he : m.on (swd p) SWD_LEASE.EXPIRED = false) :
    doLeaseExpire p w m = swardFault p 34 ((leaseExpired p (m.at w)).get (swd p) SWD_LEASE.SEQ) 0
      (tally p 40 (leaseExpired p (m.at w))) := by
  unfold doLeaseExpire
  dsimp only
  rw [Wafer.sward_at, hl]
  exact if_pos ⟨hw, by rw [hp]; rfl, by rw [Wafer.on_at, he]; simp⟩

/-- Settles O34, clause by clause. -/
theorem linksAndLeases : Obligations.LinksAndLeases := by
  unfold Obligations.LinksAndLeases
  refine ⟨?_, ?_, ?_, ?_, ?_, ?_, ?_, ?_⟩
  · intro m p k v w he hv
    have e : doLnkStatChange p k v w m = (m.at w).modSward p fun x =>
        { x with lnkRaw := Store.set zeroNat x.lnkRaw k v, lnkSince := Store.set noNat x.lnkSince k (some w) } :=
      if_pos ⟨he, hv⟩
    refine .of_effect _ (fun _ => rfl) ?_ ?_
    all_goals rw [e]
    · exact ((Within.refl _ m).at w rfl).modSward _ _ (beq_self_eq_true _)
    · rw [Wafer.sward_modSward, Store.get_set_same, Store.get_set_same]
      exact ⟨rfl, rfl⟩
  · intro m p k s w hs hw hr hv hd
    have hp : SwardIn { swardArea p with heath := true, time := true } p.val := ⟨.head _, beq_self_eq_true _, rfl⟩
    have ht := widthTaken_within (k := k) hp ((Within.refl _ m).at w rfl)
    have hf : (widthTaken p k (m.at w)).get (swd p) (lnkField k) = _ := widthTaken_field k.isLt hv
    have hn := widthTaken_since (m := m.at w) (p := p) k
    have hk := passWidth_passed p k (widthTaken p k (m.at w))
    refine .of_effect _ (fun _ => rfl) ?_ ?_
    all_goals
      rcases doLnkStatTake_taken hs hw hr hd with h | h
      all_goals rw [h]
    · exact ht
    · exact ht.trans (hk.within.into_pass (beq_self_eq_true _) rfl rfl)
    · exact ⟨hf, hn⟩
    · rw [hk.within.get_pass, hk.lnkSince]
      exact ⟨hf, hn⟩
  · intro m p ht
    have k := passWidth_each (p := p) ((List.range 4).filter fun k => !(m.sward p).lnkPassed.contains k) (windowOver p m)
    refine .of_effect _ (fun _ => rfl) ?_ ?_
    all_goals rw [doTrainWindowEnd_eq ht]
    · have hp : SwardIn { swardArea p with heath := true, time := true } p.val := ⟨.head _, beq_self_eq_true _, rfl⟩
      exact (((Within.refl _ m).at _ rfl).set _ _ _ (hp.has (by decide))).trans
        (k.within.into_pass (beq_self_eq_true _) rfl rfl)
    · refine ⟨?_, fun j => ?_, k.within.time rfl⟩
      · rw [Wafer.on, k.within.get_pass, ← Wafer.on]
        exact Wafer.on_set_zero_of _ _ (by decide)
      · rw [k.contains, windowOver, Wafer.sward_set, Wafer.sward_at]
        cases h : (m.sward p).lnkPassed.contains j.val
        · simpa [List.contains_iff_mem] using h
        · exact Bool.or_true _
  · intro m w ha hb
    have k := sendLeases_sent (m.at w)
    refine .of_effect _ (fun _ => rfl) ?_ ?_
    all_goals rw [doLeasePeriod_sends ha hb]
    · exact (sendLeases_keeps ((Keeps.refl _ m).at w rfl) ⟨.head _, rfl, rfl⟩).within
    · refine ⟨k.1, fun p hp => k.2 p ?_⟩
      intro hm
      have : partLive p m = true := (List.mem_filter.1 hm).2
      rw [hp] at this
      contradiction
  · intro m p seq issue dur budget floor w hr hd hf ht hb hn
    have h : Acceptable p seq issue dur (m.at w) := ⟨hd, by rcases hf with hf | hf <;> simp [hf], ht⟩
    have hA := grantArea_answerIn p
    have hc := leaseAccepted_counts p (arrivedLease (m.at w) seq issue dur budget floor) (leaseArrived p budget (m.at w))
    have e : doLeaseReceive p seq issue dur budget floor w m = leaseAccepted p
        (arrivedLease (m.at w) seq issue dur budget floor) (leaseArrived p budget (m.at w)) := by
      rw [doLeaseReceive_once hb hn, takeLease_accepted (m := m.at w) hr h]
    refine .of_effect _ (fun _ => rfl) ?_ ?_
    all_goals rw [e]
    · exact leaseAccepted_within (leaseArrived_within ((Within.refl _ m).at w rfl) hA) hA.sward
    · refine ⟨?_, ?_, ?_, ?_, ?_⟩
      · rw [hc.keeps SwardSt.leasePend, Wafer.sward_set, Wafer.sward_modSward]
        rfl
      · rw [hc.on _ (by decide), Wafer.on_set_one_of _ _ (by decide)]
      · rw [hc.get _ (by decide), Wafer.get_set_beside _ _ (by decide), Wafer.get_modSward, leaseArrived_get (by decide),
          Wafer.get_at]
      · rw [hc.heath, Wafer.set_heath, Wafer.modSward_heath, leaseArrived_got]
      · rw [hc.pairBit (by decide) (by decide), pairBit_set (by decide) (by decide)]
        exact leaseArrived_reached (budget := budget) p.isLt
  · intro m p seq issue dur budget floor w hr hx hb hn
    have h : ¬ Acceptable p seq issue dur (m.at w) := by
      rintro ⟨hd, hf, ht⟩
      rcases hx with hx | ⟨h1, h2⟩ | hx
      · exact hd hx
      · simp [h1, h2] at hf
      · rw [Wafer.at_wtime] at ht
        omega
    have hA := grantArea_answerIn p
    have hc := leaseRejected_counts p (leaseArrived p budget (m.at w))
    have e : doLeaseReceive p seq issue dur budget floor w m = leaseRejected p (leaseArrived p budget (m.at w)) := by
      rw [doLeaseReceive_once hb hn, takeLease_rejected (m := m.at w) hr h]
    refine .of_effect _ (fun _ => rfl) ?_ ?_
    all_goals rw [e]
    · exact leaseRejected_within (leaseArrived_within ((Within.refl _ m).at w rfl) hA) hA.sward
    · refine ⟨?_, ?_⟩
      · rw [hc.keeps SwardSt.leasePend, Wafer.sward_set, leaseArrived_sward, Wafer.sward_at]
      · rw [hc.on _ (by decide), Wafer.on_set_one_of _ _ (by decide)]
  · intro m p seq issue dur budget floor w hr hn
    have e : doLeaseReceive p seq issue dur budget floor w m = m.at w := by
      by_cases hb : (m.sward p).passedBy = true
      · rw [doLeaseReceive, received, if_pos ⟨p.isLt, hb⟩]
      · have hs : (m.sward p).rst = true := hr.resolve_right hb
        rw [doLeaseReceive_once (Bool.eq_false_iff.2 hb) hn, takeLease, Wafer.sward_at, hs, if_pos rfl,
          tally_reset (m := m.at w) hs]
    refine .of_effect _ (fun _ => rfl) ?_ ?_
    all_goals rw [e]
    · exact (Within.refl _ m).at w rfl
    · rfl
  · intro m p l w hl hw hp he
    have hA : SwardIn { swardArea p with time := true } p.val := ⟨.head _, beq_self_eq_true _, rfl⟩
    have hc : Counts p (leaseExpired p (m.at w)) (swardFault p 34 ((leaseExpired p (m.at w)).get (swd p) SWD_LEASE.SEQ) 0
      (tally p 40 (leaseExpired p (m.at w)))) := (Counts.tally (.refl p _) (by decide)).swardFault _ _ _
    refine .of_effect _ (fun _ => rfl) ?_ ?_
    all_goals rw [doLeaseExpire_expires hl hw hp he]
    · have k : Keeps { swardArea p with time := true } m (leaseExpired p (m.at w)) :=
        ((((Keeps.refl _ m).at w rfl).swardSet hA _ (by decide)).swardSet hA _ (by decide)).swardSet hA _ (by decide)
      exact (swardFault_keeps (tally_keeps k hA (by decide)) hA _ _ _).within
    · rw [hc.get _ (by decide), hc.on _ (by decide), hc.on _ (by decide)]
      simp (disch := decide) only [leaseExpired, Wafer.get_set_beside, Wafer.get_at, Wafer.on_set_ne, Wafer.on_set_one_of, and_true]
      exact Wafer.get_set_fits _ _ ⟨by decide, getBits_lt _ 0 32⟩

end Sys2Proof.Machine
end

section
/-! What a change of a rail's state leaves of its unit: the registers of control and set-points, the flags
of VIB, both rails' state and sink flags, and the hidden state beside phases, ports and intents. -/

namespace Sys2Proof.Machine

variable {u : UnitId} {m₀ m : Wafer}

/-! ### What is left -/

/-- Fields of a unit that a change of a rail's state leaves: control, the flags of VIB and VIB itself, the
set-points, and of TSK_RSTAT the state and the sink flag. -/
def QuietField (f : Fld) : Prop :=
  f.off = 4 ∨ (f.off = 8 ∧ f.lo + f.wid ≤ 4) ∨ f.off = 0x10 ∨ (f.off = 0x100 ∨ f.off = 0x104 ∨ f.off = 0x140 ∨ f.off = 0x144) ∨
    f.off = 0x16C ∨ ((f.off = 0x128 ∨ f.off = 0x168) ∧ (f.lo + f.wid ≤ 3 ∨ 8 ≤ f.lo ∧ f.lo + f.wid ≤ 9))

/-- Fields that share no bit with one of those. -/
def QuietWrite (g : Fld) : Prop :=
  g.off ≠ 4 ∧ (g.off = 8 → 4 ≤ g.lo) ∧ g.off ≠ 0x10 ∧
    (g.off ≠ 0x100 ∧ g.off ≠ 0x104 ∧ g.off ≠ 0x140 ∧ g.off ≠ 0x144) ∧ g.off ≠ 0x16C ∧
    (g.off = 0x128 ∨ g.off = 0x168 → 3 ≤ g.lo ∧ (g.lo + g.wid ≤ 8 ∨ 9 ≤ g.lo))

theorem QuietField.beside {f g : Fld} (hf : QuietField f) (hg : QuietWrite g) :
    g.off ≠ f.off ∨ g.lo + g.wid ≤ f.lo ∨ f.lo + f.wid ≤ g.lo := by
  unfold QuietField at hf
  unfold QuietWrite at hg
  omega

theorem quietField_state (q : Fin 2) : QuietField (TSK_RSTAT.STATE q) := by
  unfold QuietField
  dsimp only
  omega

theorem quietField_sink (q : Fin 2) : QuietField (TSK_RSTAT.SINK q) := by
  unfold QuietField
  dsimp only
  omega

/-- The hidden state of a unit beside rails, phases, ports, intents and what they drive. -/
def UnitSt.part (x : UnitSt) : UnitSt :=
  { x with rail0 := {}, rail1 := {}, ph0 := {}, ph1 := {}, ph2 := {}, ph3 := {}, port0 := {}, port1 := {}, port2 := {}, port3 := {},
           tieWait := none, intents := [], pgCore := false, arrRet := true, strTicks := 0, telBad := true }

/-- What of a rail only its own commands change: demand, the cause of a stop, and the ramp. -/
def RailSt.part (r : RailSt) : Bool × Bool × Bool × Int × Int := (r.demanding, r.stopUv, r.ramping, r.rampFrom, r.rampTo)

theorem UnitSt.part_setRail (x : UnitSt) (q : Nat) (r : RailSt) : (x.setRail q r).part = x.part := by
  unfold UnitSt.setRail
  split
  · rfl
  · rfl

theorem UnitSt.part_setPhase (x : UnitSt) (s : Nat) (y : PhaseSt) : (x.setPhase s y).part = x.part := by
  unfold UnitSt.setPhase
  split <;> rfl

theorem UnitSt.part_setPort (x : UnitSt) (n : Nat) (y : PortSt) : (x.setPort n y).part = x.part := by
  unfold UnitSt.setPort
  split <;> rfl

theorem UnitSt.rail_setRail (x : UnitSt) (q : Nat) (r : RailSt) : (x.setRail q r).rail q = r := by
  by_cases h : q = 0 <;> simp [UnitSt.setRail, UnitSt.rail, h]

theorem UnitSt.rail_setRail_ne (x : UnitSt) {q k : Fin 2} (h : k ≠ q) (r : RailSt) : (x.setRail q r).rail k = x.rail k := by
  by_cases h0 : q = 0
  · subst h0
    simp [UnitSt.setRail, UnitSt.rail, h]
  · obtain rfl : k = 0 := by omega
    simp [UnitSt.setRail, UnitSt.rail, h0]

theorem UnitSt.rail_setPhase (x : UnitSt) (s k : Nat) (y : PhaseSt) : (x.setPhase s y).rail k = x.rail k := by
  unfold UnitSt.setPhase
  split <;> rfl

theorem UnitSt.rail_setPort (x : UnitSt) (n k : Nat) (y : PortSt) : (x.setPort n y).rail k = x.rail k := by
  unfold UnitSt.setPort
  split <;> rfl

/-- A change of a rail that leaves its own part leaves that of every rail. -/
theorem UnitSt.railPart_setRail (x : UnitSt) (q k : Nat) {r : RailSt} (h : r.part = (x.rail q).part) :
    ((x.setRail q r).rail k).part = (x.rail k).part := by
  by_cases hq : q = 0 <;> by_cases hk : k = 0 <;> simp [UnitSt.setRail, UnitSt.rail, hq, hk] at h ⊢ <;> exact h

/-- From the first controller to the second, as a change of a rail's state leaves a unit, beside the state and
the sink flag of the rail itself. -/
structure Quiet (u : UnitId) (m m' : Wafer) : Prop where
  get : ∀ f, QuietField f → m'.get u.base f = m.get u.base f
  part : (m'.unit u).part = (m.unit u).part
  rail : ∀ k, ((m'.unit u).rail k).part = ((m.unit u).rail k).part

namespace Quiet

@[refl] theorem refl (u : UnitId) (m : Wafer) : Quiet u m m := ⟨fun _ _ => rfl, rfl, fun _ => rfl⟩

theorem trans {m' : Wafer} (h : Quiet u m₀ m) (k : Quiet u m m') : Quiet u m₀ m' :=
  ⟨fun f hf => (k.get f hf).trans (h.get f hf), k.part.trans h.part, fun i => (k.rail i).trans (h.rail i)⟩

theorem ite {c : Prop} [Decidable c] {a b : Wafer} (ha : Quiet u m₀ a) (hb : Quiet u m₀ b) : Quiet u m₀ (if c then a else b) := by
  split
  · exact ha
  · exact hb

theorem fold {α : Type} (h : Quiet u m₀ m) (l : List α) (f : Wafer → α → Wafer)
    (hf : ∀ m x, Quiet u m₀ m → Quiet u m₀ (f m x)) : Quiet u m₀ (l.foldl f m) := by
  induction l generalizing m with
  | nil => exact h
  | cons x t ih => exact ih (hf m x h)

theorem set (h : Quiet u m₀ m) {g : Fld} (v : Nat) (hg : QuietWrite g := by simp [QuietWrite]) : Quiet u m₀ (m.set u.base g v) :=
  h.trans ⟨fun _ hf => m.get_set_beside v (hf.beside hg), rfl, fun _ => rfl⟩

theorem modUnit (h : Quiet u m₀ m) (f : UnitSt → UnitSt) (hp : ∀ x, (f x).part = x.part := by intro _; rfl)
    (hr : ∀ x k, ((f x).rail k).part = (x.rail k).part := by intro _ _; rfl) : Quiet u m₀ (m.modUnit u f) :=
  h.trans ⟨fun _ _ => rfl, by rw [m.unit_modUnit, hp], fun k => by rw [m.unit_modUnit, hr]⟩

theorem modRail (h : Quiet u m₀ m) (q : Nat) (f : RailSt → RailSt) (hf : ∀ r, (f r).part = r.part := by intro _; rfl) :
    Quiet u m₀ (m.modRail u q f) :=
  h.modUnit _ (fun _ => UnitSt.part_setRail _ _ _) fun _ _ => UnitSt.railPart_setRail _ _ _ (hf _)

theorem modPhase (h : Quiet u m₀ m) (s : Nat) (f : PhaseSt → PhaseSt) : Quiet u m₀ (m.modPhase u s f) :=
  h.modUnit _ (fun _ => UnitSt.part_setPhase _ _ _) fun _ _ => by rw [UnitSt.rail_setPhase]

theorem modPort (h : Quiet u m₀ m) (n : Nat) (f : PortSt → PortSt) : Quiet u m₀ (m.modPort u n f) :=
  h.modUnit _ (fun _ => UnitSt.part_setPort _ _ _) fun _ _ => by rw [UnitSt.rail_setPort]

theorem state (h : Quiet u m₀ m) (q : Fin 2) : railState u q m = railState u q m₀ := h.get _ (quietField_state q)

/-- A projection of the hidden state that looks only at its part. -/
theorem keeps {α : Type} (h : Quiet u m₀ m) (f : UnitSt → α) (hf : ∀ x : UnitSt, f x = f x.part := by intro _; rfl) :
    f (m.unit u) = f (m₀.unit u) := by rw [hf, h.part, ← hf]

/-! ### The parts of a change of state -/

theorem logEntries (h : Quiet u m₀ m) (outcome : Nat) (l : List IntentEntry) : Quiet u m₀ (logEntries u outcome l m) :=
  h.fold _ _ fun m e h => .ite h <| by
    have k {n : Wafer} (f : Fld) (v : Nat) (h : Quiet u m₀ n) (hf : 0x600 ≤ f.off) : Quiet u m₀ (n.set u.base f v) :=
      h.set v (by unfold QuietWrite; omega)
    exact k _ _ (k _ _ (k _ _ (k _ _ (k _ _ h (by simp; omega)) (by simp; omega)) (by simp; omega)) (by simp; omega)) (by decide)

theorem freeIntents (h : Quiet u m₀ m) (gone : IntentEntry → Bool) : Quiet u m₀ (freeIntents u gone m) := by
  unfold Machine.freeIntents
  exact (h.logEntries 7 _).modUnit _

theorem coreEval (h : Quiet u m₀ m) : Quiet u m₀ (coreEval u m) := .ite (.freeIntents (h.modUnit _) _) h

theorem openSide (h : Quiet u m₀ m) (n : Nat) : Quiet u m₀ (openSide u n m) := ((h.modPort n _).set 0).set 0

theorem openAllSides (h : Quiet u m₀ m) : Quiet u m₀ (openAllSides u m) :=
  h.fold _ _ fun _ _ k => .openSide (.ite (k.modPort _ _) k) _

theorem leaveReg (h : Quiet u m₀ m) (q : Nat) : Quiet u m₀ (leaveReg u q m) := by
  have k := (h.freeIntents fun e => e.rail = q).modRail q fun r => { r with uvHeld := false, regSeen := true }
  exact .ite (.openAllSides ((k.modUnit _).set 0)) k

theorem burstOver (h : Quiet u m₀ m) : Quiet u m₀ (burstOver u m) :=
  .ite (.fold ((h.set 0).set 1) _ _ fun _ _ k => .ite (k.modPort _ _) k) h

theorem strFall (h : Quiet u m₀ m) : Quiet u m₀ (strFall u m) := .ite ((h.modUnit _).set 0) h

theorem vibStopFlag (h : Quiet u m₀ m) : Quiet u m₀ (vibStopFlag u m) := h.set _

end Quiet

/-! ### A change of state (Table 3.5) -/

/-- What follows the new state of a rail that does not enter REG. -/
theorem Quiet.entered (h : Quiet u m₀ m) : Quiet u m₀ (Machine.coreEval u (Machine.vibStopFlag u m)) := h.vibStopFlag.coreEval

/-- A rail that enters a ramp takes its state, and all else is quiet. -/
theorem enterState_ramp (q : Nat) {st : Nat} (hst : st = rRAMP_UP ∨ st = rRAMP_DOWN) (m : Wafer) :
    ∃ n, Quiet u m n ∧ Quiet u (n.set u.base (TSK_RSTAT.STATE q) st) (enterState u q st m) := by
  unfold enterState
  extract_lets m1 m2 m3 off m4 m5 halted old m6 m7 m8
  have k1 : Quiet u m m1 := .ite (.leaveReg (.refl u m) q) (.refl u m)
  have k2 : Quiet u m m2 := .ite (k1.modRail q _) k1
  have k3 : Quiet u m m3 := .ite (.fold (k2.set 0 (by unfold QuietWrite; dsimp only; omega)) _ _ fun _ _ k => k.modPhase _ _) k2
  have h4 : m4 = m3 := if_pos (hst.imp_right .inr)
  have k5 : Quiet u m m5 := (h4 ▸ k3 : Quiet u m m4).modRail q _
  have k6 : Quiet u m m6 := .ite (k5.modUnit _) k5
  have k7 : Quiet u m m7 := .ite (k6.modRail q _) k6
  refine ⟨m7, k7, ?_⟩
  rw [if_neg (by rcases hst with h | h <;> simp [h])]
  exact (Quiet.refl u _).entered

/-- A rail that enters a state in which it does not fire has its phases off and takes that state, and all else is
quiet. -/
theorem enterState_halt (q : Nat) {st : Nat} (h2 : st ≠ rRAMP_UP) (h3 : st ≠ rREG) (h4 : st ≠ rRAMP_DOWN) (m : Wafer) :
    ∃ n n', Quiet u m n ∧ Quiet u (railOff u q n) n' ∧
      Quiet u (n'.set u.base (TSK_RSTAT.STATE q) st) (enterState u q st m) := by
  unfold enterState
  extract_lets m1 m2 m3 off m4 m5 halted old m6 m7 m8
  have k1 : Quiet u m m1 := .ite (.leaveReg (.refl u m) q) (.refl u m)
  have k2 : Quiet u m m2 := .ite (k1.modRail q _) k1
  have k3 : Quiet u m m3 := .ite (.fold (k2.set 0 (by unfold QuietWrite; dsimp only; omega)) _ _ fun _ _ k => k.modPhase _ _) k2
  have k4 : Quiet u off m4 := by
    rw [show m4 = if q = 0 ∧ !u.isVerge then strFall u (burstOver u off) else off from if_neg (by simp [h2, h3, h4])]
    exact .ite (Quiet.refl u off).burstOver.strFall (.refl u off)
  have k5 : Quiet u off m5 := k4.modRail q _
  have k6 : Quiet u off m6 := .ite (k5.modUnit _) k5
  have k7 : Quiet u off m7 := .ite (k6.modRail q _) k6
  refine ⟨m3, m7, k3, k7, ?_⟩
  rw [if_neg (by simp [h3])]
  exact (Quiet.refl u _).entered

/-- The phases of a rail with both transistors off. -/
def phasesOff (u : UnitId) (q : Nat) (m : Wafer) : Wafer :=
  (railSlots u.isVerge q).foldl
    (fun m s => m.modPhase u s fun x =>
      { x with pulse := .none, bridge := .off, joinBurst := false, returning := false, testDue := false,
               offWait := x.offWait || x.pulse != .none }) m

theorem Quiet.phasesOff (h : Quiet u m₀ m) (q : Nat) : Quiet u m₀ (phasesOff u q m) := h.fold _ _ fun _ _ k => k.modPhase _ _

theorem railOff_eq (q : Nat) (m : Wafer) : railOff u q m =
    ((phasesOff u q m).modRail u q fun r => { r with demanding := false, waiting := false, ramping := false }).set u.base
      (TSK_RSTAT.SINK q) 0 := rfl

/-- Fields that a change of a rail's state leaves, whatever the rail: those beside TSK_RSTAT. -/
def SteadyField (f : Fld) : Prop := QuietField f ∧ f.off ≠ 0x128 ∧ f.off ≠ 0x168

theorem SteadyField.rstat {f : Fld} (h : SteadyField f) (q : Fin 2) : 0x128 + 0x40 * q.val ≠ f.off := by
  obtain ⟨-, h0, h1⟩ := h
  omega

/-- After a rail entered a state: the state, and what stays of the unit and of the rails. -/
structure Entered (u : UnitId) (q : Fin 2) (st : Nat) (m m' : Wafer) : Prop where
  state : railState u q m' = st
  other : ∀ k : Fin 2, k ≠ q → railState u k m' = railState u k m
  get : ∀ f, SteadyField f → m'.get u.base f = m.get u.base f
  part : (m'.unit u).part = (m.unit u).part
  stopUv : ∀ k : Fin 2, ((m'.unit u).rail k).stopUv = ((m.unit u).rail k).stopUv
  rail : ∀ k : Fin 2, k ≠ q → ((m'.unit u).rail k).part = ((m.unit u).rail k).part

theorem railState_set (q : Fin 2) {st : Nat} (hst : st < 8) (m : Wafer) :
    railState u q (m.set u.base (TSK_RSTAT.STATE q) st) = st := by
  rw [railState, Wafer.get_set_fits _ _ (show 0 + 3 ≤ 32 ∧ st < 2 ^ 3 from ⟨by decide, hst⟩)]

theorem railState_set_ne {q k : Fin 2} (hk : k ≠ q) {f : Fld} (hf : f.off = 0x128 + 0x40 * q.val) (v : Nat) (m : Wafer) :
    railState u k (m.set u.base f v) = railState u k m := by
  have : q.val ≠ k.val := fun e => hk (Fin.ext e.symm)
  rw [railState, Wafer.get_set_beside _ _ (.inl (by dsimp only; omega)), ← railState]

theorem enterState_ramps (q : Fin 2) {st : Nat} (hst : st = rRAMP_UP ∨ st = rRAMP_DOWN) (m : Wafer) :
    Entered u q st m (enterState u q st m) := by
  obtain ⟨n, h, k⟩ := enterState_ramp (u := u) q hst m
  refine ⟨?_, fun i hi => ?_, fun f hf => ?_, ?_, fun i => ?_, fun i hi => ?_⟩
  · rw [k.state, railState_set q (by rcases hst with e | e <;> rw [e] <;> decide)]
  · rw [k.state, railState_set_ne hi rfl, h.state]
  · rw [k.get f hf.1, Wafer.get_set_beside _ _ (.inl (hf.rstat q)), h.get f hf.1]
  · rw [k.part, Wafer.unit_set, h.part]
  · exact congrArg (fun x => x.2.1) ((k.rail i).trans (h.rail i))
  · exact (k.rail i).trans (h.rail i)

theorem railOff_rail (q : Nat) (m : Wafer) : (railOff u q m).unit u =
    ((phasesOff u q m).unit u).setRail q
      { ((phasesOff u q m).unit u).rail q with demanding := false, waiting := false, ramping := false } := by
  rw [railOff_eq, Wafer.unit_set, Wafer.modRail, Wafer.unit_modUnit]

/-- A rail that enters a state in which it does not fire: besides its state, its sink flag and its demand are down. -/
theorem enterState_halts (q : Fin 2) {st : Nat} (h2 : st ≠ rRAMP_UP) (h3 : st ≠ rREG) (h4 : st ≠ rRAMP_DOWN) (h8 : st < 8)
    (m : Wafer) : Entered u q st m (enterState u q st m) ∧
      (enterState u q st m).get u.base (TSK_RSTAT.SINK q) = 0 ∧
      (((enterState u q st m).unit u).rail q).demanding = false := by
  obtain ⟨n, n', h, k, l⟩ := enterState_halt (u := u) q h2 h3 h4 m
  have ho := h.phasesOff q
  have hq : ((railOff u q n).unit u).rail q =
      { ((phasesOff u q n).unit u).rail q with demanding := false, waiting := false, ramping := false } := by
    rw [railOff_rail, UnitSt.rail_setRail]
  have hr (i : Fin 2) (hi : i ≠ q) : ((railOff u q n).unit u).rail i = ((phasesOff u q n).unit u).rail i := by
    rw [railOff_rail, UnitSt.rail_setRail_ne _ hi]
  refine ⟨⟨?_, fun i hi => ?_, fun f hf => ?_, ?_, fun i => ?_, fun i hi => ?_⟩, ?_, ?_⟩
  · rw [l.state, railState_set q h8]
  · rw [l.state, railState_set_ne hi rfl, k.state, railOff_eq, railState_set_ne hi rfl]
    exact ho.state i
  · rw [l.get f hf.1, Wafer.get_set_beside _ _ (.inl (hf.rstat q)), k.get f hf.1, railOff_eq,
      Wafer.get_set_beside _ _ (.inl (hf.rstat q)), Wafer.get_modRail, ho.get f hf.1]
  · rw [l.part, Wafer.unit_set, k.part, railOff_rail, UnitSt.part_setRail, ho.part]
  · have e : ((railOff u q n).unit u |>.rail i).stopUv = (((phasesOff u q n).unit u).rail i).stopUv := by
      by_cases hi : i = q
      · rw [hi, hq]
      · rw [hr i hi]
    exact (congrArg (fun x => x.2.1) ((l.rail i).trans (k.rail i))).trans (e.trans (congrArg (fun x => x.2.1) (ho.rail i)))
  · rw [l.rail, Wafer.unit_set, k.rail, hr i hi, ho.rail]
  · rw [l.get _ (quietField_sink q), Wafer.get_set_beside _ _ (by dsimp only; omega), k.get _ (quietField_sink q), railOff_eq,
      Wafer.get_set_fits _ _ (by dsimp only; omega)]
  · have e : ((railOff u q n).unit u |>.rail q).demanding = false := by rw [hq]
    exact (congrArg (fun x => x.1) ((l.rail q).trans (k.rail q))).trans e

end Sys2Proof.Machine
end

section
/-! The sense inputs of a rail and the stops of VIB: what a reading, an event, a stop of both rails and a
ramp from a measured value leave of the unit. -/

namespace Sys2Proof.Machine

variable {A : Area} {u : UnitId} {m₀ m : Wafer}

/-! ### Readings (R60, R165, R180, R370) -/

theorem Quiet.setI (h : Quiet u m₀ m) {g : Fld} (v : Int) (hg : QuietWrite g) : Quiet u m₀ (m.setI u.base g v) := h.set _ hg

theorem quietWrite_peak (q : Nat) : QuietWrite (TSK_TPK_V.VMIN q) := by
  unfold QuietWrite
  dsimp only
  omega

theorem Quiet.peakVoltage (h : Quiet u m₀ m) (q : Nat) (v : Int) : Quiet u m₀ (peakVoltage u q v m) :=
  .ite (h.setI _ (quietWrite_peak q)) h

theorem Quiet.senseRail (h : Quiet u m₀ m) (q : Nat) (v : Int) : Quiet u m₀ (senseRail u q v m) := by
  unfold Machine.senseRail
  extract_lets m1 m2
  have k1 : Quiet u m₀ m1 := h.modRail q _
  have k2 : Quiet u m₀ m2 := k1.modRail q _
  exact .peakVoltage (.ite (k2.modRail 0 _) k2) q v

theorem Quiet.senseMean (h : Quiet u m₀ m) (q : Nat) (v : Int) : Quiet u m₀ (senseMean u q v m) := (h.modRail q _).senseRail q v

/-- The target of a ramp is read from fields that every change of state leaves. -/
theorem railTarget_congr {n : Wafer} (h : ∀ f, SteadyField f → n.get u.base f = m.get u.base f) (q : Fin 2) :
    railTarget u q n = railTarget u q m := by
  have k (f : Fld) (hf : f.off = 4 ∨ f.off = 0x100 ∨ f.off = 0x104 ∨ f.off = 0x140 ∨ f.off = 0x144 ∨ f.off = 0x16C) :
      n.get u.base f = m.get u.base f := h f (by unfold SteadyField QuietField; omega)
  unfold railTarget targetSum Wafer.getI Wafer.on
  rw [k TSK_CTL.RET (by decide), k TSK_VRET.VRET (by decide), k (TSK_VSET.VSET q) (by dsimp only; omega),
    k (TSK_VTRIM.VTRIM q) (by dsimp only; omega)]

/-! ### Events (R210) -/

theorem unitEvent_get {code slot data : Nat} {f : Fld} (hf : f.off ≠ 0x18) :
    (unitEvent u code slot data m).get u.base f = m.get u.base f := by
  unfold unitEvent
  dsimp only
  split
  · rfl
  · split
    · exact Wafer.get_incSat_beside _ (.inl (Ne.symm hf))
    · exact Wafer.get_incSat_beside _ (.inl (Ne.symm hf))

/-- What a unit shows beside its event queue. -/
def UnitSt.besideEvents (x : UnitSt) : UnitSt := { x with events := [], evOverflow := false, evOverflowArmed := true }

theorem unitEvent_unit (code slot data : Nat) :
    ((unitEvent u code slot data m).unit u).besideEvents = (m.unit u).besideEvents := by
  have hi : (m.incSat u.base TSK_SWATH.EVQ_OVF).unit u = m.unit u := by rw [Wafer.unit, Wafer.incSat_units, Wafer.unit]
  unfold unitEvent
  dsimp only
  split
  · rw [Wafer.unit_modUnit]
    rfl
  · split
    · rw [Wafer.unit_modUnit, hi]
      rfl
    · rw [hi]

theorem unitEvent_rail (code slot data q : Nat) : ((unitEvent u code slot data m).unit u).rail q = (m.unit u).rail q :=
  show ((unitEvent u code slot data m).unit u).besideEvents.rail q = _ by rw [unitEvent_unit]; rfl

theorem unitEvent_events {code slot data : Nat} (h : (m.unit u).events.length < 8) :
    ((unitEvent u code slot data m).unit u).events = (m.unit u).events ++ [⟨code, slot, data % 64⟩] := by
  rw [unitEvent, if_pos h, Wafer.unit_modUnit]

/-! ### A ramp from a measured value (R122, R123) -/

/-- A ramp in progress, before TSK_VNOW and the flag at the target. -/
def rampBegun (u : UnitId) (q : Nat) (fromV toV : Int) (edges : Nat) (m : Wafer) : Wafer :=
  (leaveVset u q m).modRail u q fun r =>
    { r with ramping := true, rampFrom := fromV, rampTo := toV, rampEdge := 0, rampEdges := edges }

theorem beginRamp_eq (q : Nat) (fromV toV : Int) (edges : Nat) (m : Wafer) : beginRamp u q fromV toV edges m =
    ((rampBegun u q fromV toV edges m).setI u.base (TSK_VNOW.VNOW q) fromV).setB u.base (TSK_RSTAT.AT_TGT q)
      (fromV = toV) := rfl

theorem Quiet.rampShown (h : Quiet u m₀ m) (q : Nat) (v : Int) (b : Bool) :
    Quiet u m₀ ((m.setI u.base (TSK_VNOW.VNOW q) v).setB u.base (TSK_RSTAT.AT_TGT q) b) :=
  (h.setI v (by unfold QuietWrite; dsimp only; omega)).set _ (by unfold QuietWrite; dsimp only; omega)

/-- After a rail's ramp began: its course, and what stays of the unit and the other rail. -/
structure Ramped (u : UnitId) (q : Fin 2) (fromV toV : Int) (m m' : Wafer) : Prop where
  get : ∀ f, QuietField f → m'.get u.base f = m.get u.base f
  part : (m'.unit u).part = (m.unit u).part
  ramping : ((m'.unit u).rail q).ramping = true
  rampFrom : ((m'.unit u).rail q).rampFrom = fromV
  rampTo : ((m'.unit u).rail q).rampTo = toV
  rail : ∀ k : Fin 2, k ≠ q → ((m'.unit u).rail k).part = ((m.unit u).rail k).part

theorem beginRamp_ramped (q : Fin 2) (fromV toV : Int) (edges : Nat) (m : Wafer) :
    Ramped u q fromV toV m (beginRamp u q fromV toV edges m) := by
  have h := (Quiet.refl u (rampBegun u q fromV toV edges m)).rampShown q fromV (decide (fromV = toV))
  have hu : (rampBegun u q fromV toV edges m).unit u = ((leaveVset u q m).unit u).setRail q
      { ((leaveVset u q m).unit u).rail q with ramping := true, rampFrom := fromV, rampTo := toV, rampEdge := 0, rampEdges := edges } := by
    rw [rampBegun, Wafer.modRail, Wafer.unit_modUnit]
  have hl : Quiet u m (leaveVset u q m) := (Quiet.refl u m).modRail q _
  have hr := h.rail q
  rw [hu, UnitSt.rail_setRail] at hr
  rw [beginRamp_eq]
  refine ⟨fun f hf => ?_, ?_, congrArg (fun x => x.2.2.1) hr, congrArg (fun x => x.2.2.2.1) hr,
    congrArg (fun x => x.2.2.2.2) hr, fun k hk => ?_⟩
  · rw [h.get f hf]
    exact hl.get f hf
  · rw [h.part, hu, UnitSt.part_setRail, hl.part]
  · rw [h.rail, hu, UnitSt.rail_setRail_ne _ hk, hl.rail]

/-- After a rail began to ramp up from a value. -/
structure RampedUp (u : UnitId) (q : Fin 2) (v : Int) (m m' : Wafer) : Prop where
  state : railState u q m' = rRAMP_UP
  other : ∀ k : Fin 2, k ≠ q → railState u k m' = railState u k m
  get : ∀ f, SteadyField f → m'.get u.base f = m.get u.base f
  ramping : ((m'.unit u).rail q).ramping = true
  rampFrom : ((m'.unit u).rail q).rampFrom = v
  rampTo : ((m'.unit u).rail q).rampTo = railTarget u q m
  rail : ∀ k : Fin 2, k ≠ q → ((m'.unit u).rail k).part = ((m.unit u).rail k).part

theorem startRampUp_ramped (q : Fin 2) (v : Int) (m : Wafer) : RampedUp u q v m (startRampUp u q v m) := by
  have h := enterState_ramps (u := u) q (.inl rfl) m
  have k : Ramped u q v (railTarget u q m) (enterState u q rRAMP_UP m) (startRampUp u q v m) := beginRamp_ramped q _ _ _ _
  refine ⟨?_, fun i hi => ?_, fun f hf => (k.get f hf.1).trans (h.get f hf), k.ramping, k.rampFrom, k.rampTo,
    fun i hi => (k.rail i hi).trans (h.rail i hi)⟩
  · exact (k.get _ (quietField_state q)).trans h.state
  · exact (k.get _ (quietField_state i)).trans (h.other i hi)

/-! ### The stop of both rails (Table 2.4) -/

/-- States out of which VIB stops a rail. -/
def Stoppable (st : Nat) : Prop := st = rDELAY ∨ st = rRAMP_UP ∨ st = rREG ∨ st = rRAMP_DOWN

/-- VIB stops one rail. -/
def vibStopRail (u : UnitId) (uv : Bool) (q : Nat) (m : Wafer) : Wafer :=
  if railState u q m = rDELAY ∨ railState u q m = rRAMP_UP ∨ railState u q m = rREG ∨ railState u q m = rRAMP_DOWN then
    (enterState u q rSTOPPED m).modRail u q fun r => { r with stopUv := uv }
  else if railState u q m = rSTOPPED then m.modRail u q fun r => { r with stopUv := uv }
  else m

theorem vibStop_eq (uv : Bool) (m : Wafer) : vibStop u uv m = vibStopRail u uv 1 (vibStopRail u uv 0 m) := rfl

/-- After VIB stopped one rail. -/
structure Stopped (u : UnitId) (uv : Bool) (q : Fin 2) (m m' : Wafer) : Prop where
  stopped : Stoppable (railState u q m) ∨ railState u q m = rSTOPPED →
    railState u q m' = rSTOPPED ∧ ((m'.unit u).rail q).stopUv = uv
  other : ∀ k : Fin 2, k ≠ q → railState u k m' = railState u k m
  get : ∀ f, SteadyField f → m'.get u.base f = m.get u.base f
  part : (m'.unit u).part = (m.unit u).part
  stopUv : ∀ k : Fin 2, k ≠ q → ((m'.unit u).rail k).stopUv = ((m.unit u).rail k).stopUv

theorem vibStopRail_stopped (uv : Bool) (q : Fin 2) (m : Wafer) : Stopped u uv q m (vibStopRail u uv q m) := by
  have hu (n : Wafer) : (n.modRail u q fun r => { r with stopUv := uv }).unit u =
      (n.unit u).setRail q { (n.unit u).rail q with stopUv := uv } := by rw [Wafer.modRail, Wafer.unit_modUnit]
  unfold vibStopRail
  split
  · obtain ⟨h, -, -⟩ := enterState_halts (u := u) q (st := rSTOPPED) (by decide) (by decide) (by decide) (by decide) m
    refine ⟨fun _ => ⟨h.state, by rw [hu, UnitSt.rail_setRail]⟩, h.other, h.get, ?_, fun k hk => ?_⟩
    · rw [hu, UnitSt.part_setRail, h.part]
    · rw [hu, UnitSt.rail_setRail_ne _ hk, h.stopUv]
  · split
    · rename_i hs
      refine ⟨fun _ => ⟨hs, by rw [hu, UnitSt.rail_setRail]⟩, fun _ _ => rfl, fun _ _ => rfl, ?_, fun k hk => ?_⟩
      · rw [hu, UnitSt.part_setRail]
      · rw [hu, UnitSt.rail_setRail_ne _ hk]
    · rename_i hn hs
      exact ⟨fun h => (h.elim hn hs).elim, fun _ _ => rfl, fun _ _ => rfl, rfl, fun _ _ => rfl⟩

/-- After VIB stopped both rails. -/
theorem vibStop_stopped (uv : Bool) (q : Fin 2) (m : Wafer)
    (h : Stoppable (railState u q m) ∨ railState u q m = rSTOPPED) :
    railState u q (vibStop u uv m) = rSTOPPED ∧ (((vibStop u uv m).unit u).rail q).stopUv = uv := by
  have h0 := vibStopRail_stopped (u := u) uv 0 m
  have h1 := vibStopRail_stopped (u := u) uv 1 (vibStopRail u uv (0 : Fin 2) m)
  rw [vibStop_eq]
  rcases (by omega : q = 0 ∨ q = 1) with rfl | rfl
  · obtain ⟨hs, hv⟩ := h0.stopped h
    exact ⟨(h1.other 0 (by decide)).trans hs, (h1.stopUv 0 (by decide)).trans hv⟩
  · exact h1.stopped (by rwa [h0.other 1 (by decide)])

theorem vibStop_get (uv : Bool) {f : Fld} (hf : SteadyField f) : (vibStop u uv m).get u.base f = m.get u.base f :=
  ((vibStopRail_stopped uv 1 _).get f hf).trans ((vibStopRail_stopped uv 0 m).get f hf)

theorem vibStop_on (uv : Bool) {f : Fld} (hf : SteadyField f) : (vibStop u uv m).on u.base f = m.on u.base f := by
  rw [Wafer.on, vibStop_get uv hf, Wafer.on]

theorem vibStop_events (uv : Bool) : ((vibStop u uv m).unit u).events = (m.unit u).events := by
  have h := ((vibStopRail_stopped uv 1 _).part).trans (vibStopRail_stopped (u := u) uv 0 m).part
  show ((vibStop u uv m).unit u).part.events = _
  rw [vibStop_eq]
  have e := congrArg UnitSt.events h
  exact e

/-! ### The sink's end (R121) -/

/-- A phase that returns no energy to VIB any more. -/
def sinkEnded (x : PhaseSt) : PhaseSt := { x with bridge := if x.returning then .off else x.bridge, returning := false }

theorem UnitSt.phase_setPhase (x : UnitSt) (s k : Nat) (y : PhaseSt) :
    (x.setPhase s y).phase k = if min s 3 = min k 3 then y else x.phase k := by
  rcases s with _ | _ | _ | s <;> rcases k with _ | _ | _ | k <;> simp [UnitSt.setPhase, UnitSt.phase]

/-- The phases of a list of slots with no sink any more. -/
def sinksEnded (u : UnitId) (l : List Nat) (m : Wafer) : Wafer := l.foldl (fun m s => m.modPhase u s sinkEnded) m

theorem stopSink_eq (q : Nat) (m : Wafer) :
    stopSink u q m = (sinksEnded u (railSlots u.isVerge q) m).set u.base (TSK_RSTAT.SINK q) 0 := rfl

theorem sinkEnded_twice (x : PhaseSt) : sinkEnded (sinkEnded x) = sinkEnded x := rfl

theorem sinksEnded_phase (l : List Nat) (hl : ∀ s ∈ l, s < 4) (m : Wafer) {k : Nat} (hk : k < 4) :
    ((sinksEnded u l m).unit u).phase k = if k ∈ l then sinkEnded ((m.unit u).phase k) else (m.unit u).phase k := by
  induction l generalizing m with
  | nil => rfl
  | cons s t ih =>
    have hs := hl s List.mem_cons_self
    have e : ((m.modPhase u s sinkEnded).unit u).phase k =
        if s = k then sinkEnded ((m.unit u).phase k) else (m.unit u).phase k := by
      rw [Wafer.modPhase, Wafer.unit_modUnit, UnitSt.phase_setPhase, show min s 3 = s by omega, show min k 3 = k by omega]
      split
      · rename_i h
        rw [h]
      · rfl
    show ((sinksEnded u t (m.modPhase u s sinkEnded)).unit u).phase k = _
    rw [ih (fun s h => hl s (List.mem_cons_of_mem _ h)), e]
    by_cases h1 : s = k
    · subst h1
      simp [sinkEnded_twice]
    · simp [h1, Ne.symm h1]

theorem sinksEnded_within (h : Within A m₀ m) (hu : A.units u = true) (l : List Nat) : Within A m₀ (sinksEnded u l m) :=
  h.fold _ _ fun _ _ _ k => k.modUnit u _ hu

theorem sinksEnded_get (l : List Nat) (m : Wafer) (f : Fld) : (sinksEnded u l m).get u.base f = m.get u.base f := by
  induction l generalizing m with
  | nil => rfl
  | cons s t ih => exact (ih _).trans (Wafer.get_modPhase _ _ _ _ _ _)

/-- VIB above 4.6 V, before any phase is told. -/
def vibHigh (u : UnitId) (vib : Nat) (m : Wafer) : Wafer := (senseVib u vib m).set u.base TSK_STAT.SINK_INH 1

theorem doVibSinkInhibit_eq {vib : Nat} (h : 920 < vib) :
    doVibSinkInhibit u vib m = stopSink u 1 (stopSink u 0 (vibHigh u vib m)) := if_pos (by omega)

theorem stopSinks_get {f : Fld} (hf : f.off ≠ 0x128 ∧ f.off ≠ 0x168) :
    (stopSink u 1 (stopSink u 0 m)).get u.base f = m.get u.base f := by
  rw [stopSink_eq, Wafer.get_set_beside _ _ (.inl (Ne.symm hf.2)), sinksEnded_get, stopSink_eq,
    Wafer.get_set_beside _ _ (.inl (Ne.symm hf.1)), sinksEnded_get]

theorem stopSinks_sink (q : Fin 2) : (stopSink u 1 (stopSink u 0 m)).get u.base (TSK_RSTAT.SINK q) = 0 := by
  rcases (by omega : q = 0 ∨ q = 1) with rfl | rfl
  · rw [stopSink_eq, Wafer.get_set_beside _ _ (by decide), sinksEnded_get, stopSink_eq]
    exact Wafer.get_set_fits _ _ (by decide)
  · rw [stopSink_eq]
    exact Wafer.get_set_fits _ _ (by decide)

theorem stopSinks_state (q : Fin 2) : railState u q (stopSink u 1 (stopSink u 0 m)) = railState u q m := by
  rw [railState, stopSink_eq, Wafer.get_set_beside _ _ (by dsimp only; omega), sinksEnded_get, stopSink_eq,
    Wafer.get_set_beside _ _ (by dsimp only; omega), sinksEnded_get, railState]

theorem sinksEnded_unit (l : List Nat) (m : Wafer) : ((sinksEnded u l m).unit u).part = (m.unit u).part ∧
    ∀ k, ((sinksEnded u l m).unit u).rail k = (m.unit u).rail k := by
  induction l generalizing m with
  | nil => exact ⟨rfl, fun _ => rfl⟩
  | cons s t ih =>
    obtain ⟨hp, hr⟩ := ih (m.modPhase u s sinkEnded)
    have e : (m.modPhase u s sinkEnded).unit u = (m.unit u).setPhase s (sinkEnded ((m.unit u).phase s)) := m.unit_modUnit u _
    refine ⟨hp.trans ?_, fun k => (hr k).trans ?_⟩
    · rw [e, UnitSt.part_setPhase]
    · rw [e, UnitSt.rail_setPhase]

theorem stopSinks_phase (q : Fin 2) {s : Nat} (hs : s ∈ railSlots u.isVerge q) :
    ((stopSink u 1 (stopSink u 0 m)).unit u).phase s = sinkEnded ((m.unit u).phase s) := by
  have hl (q : Nat) : ∀ k ∈ railSlots u.isVerge q, k < 4 := fun _ => railSlots_lt _ q
  have h4 := hl q s hs
  have h0 := sinksEnded_phase (u := u) _ (hl 0) m h4
  rw [stopSink_eq, Wafer.unit_set, sinksEnded_phase _ (hl 1) _ h4, stopSink_eq, Wafer.unit_set, h0]
  rcases (by omega : q = 0 ∨ q = 1) with rfl | rfl
  · rw [if_pos (show s ∈ railSlots u.isVerge 0 from hs), sinkEnded_twice, ite_self]
  · rw [if_pos (show s ∈ railSlots u.isVerge 1 from hs)]
    split
    · rfl
    · rfl

/-! ### The flags of VIB (R63) -/

/-- A flag of VIB with the event of its rise. -/
def vibFlag (u : UnitId) (f : Fld) (code : Nat) (m : Wafer) : Wafer :=
  (if m.on u.base f then m else unitEvent u code 0 0 m).set u.base f 1

section
variable {f g : Fld} {code : Nat}

theorem vibFlag_get (hg : g.off ≠ 0x18) (hb : f.off ≠ g.off ∨ f.lo + f.wid ≤ g.lo ∨ g.lo + g.wid ≤ f.lo) :
    (vibFlag u f code m).get u.base g = m.get u.base g := by
  rw [vibFlag, Wafer.get_set_beside _ _ hb]
  split
  · rfl
  · exact unitEvent_get hg

theorem vibFlag_on (hg : g.off ≠ 0x18) (hb : f.off ≠ g.off ∨ f.lo + f.wid ≤ g.lo ∨ g.lo + g.wid ≤ f.lo) :
    (vibFlag u f code m).on u.base g = m.on u.base g := by rw [Wafer.on, vibFlag_get hg hb, Wafer.on]

theorem vibFlag_state (hf : f.off = 8) (q : Fin 2) : railState u q (vibFlag u f code m) = railState u q m :=
  vibFlag_get (by dsimp only; omega) (.inl (by dsimp only; omega))

theorem vibFlag_flag (hf : f.lo + f.wid ≤ 32 ∧ 0 < f.wid) : (vibFlag u f code m).on u.base f = true := Wafer.on_set_one_of _ _ hf

theorem vibFlag_rises (h : m.on u.base f = false) (hl : (m.unit u).events.length < 8) :
    ((vibFlag u f code m).unit u).events = (m.unit u).events ++ [⟨code, 0, 0⟩] := by
  rw [vibFlag, Wafer.unit_set, h, if_neg Bool.false_ne_true]
  exact unitEvent_events hl

theorem vibFlag_within (h : Within A m₀ m) (hu : A.units u = true)
    (hv : (u.base, TSK_SWATH.EVQ_OVF) ∈ A.fields ∨
      ∃ k ∈ A.blocks, k.1 ≤ u.base + TSK_SWATH.EVQ_OVF.off ∧ u.base + TSK_SWATH.EVQ_OVF.off < k.1 + k.2)
    (hf : (u.base, f) ∈ A.fields ∨ ∃ k ∈ A.blocks, k.1 ≤ u.base + f.off ∧ u.base + f.off < k.1 + k.2) :
    Within A m₀ (vibFlag u f code m) := by
  have hi (n : Wafer) (k : Within A m₀ n) : Within A m₀ (n.incSat u.base TSK_SWATH.EVQ_OVF) := by
    unfold Wafer.incSat
    split
    · exact k.set _ _ _ hv
    · exact k
  refine Within.set ?_ _ _ _ hf
  unfold unitEvent
  dsimp only
  split
  · exact h
  · split
    · exact h.modUnit _ _ hu
    · split
      · exact (hi _ h).modUnit _ _ hu
      · exact hi _ h

end

/-! ### The commands of VIB -/

/-- VIB below 3.3 V, before the rails stop. -/
def vibLow (u : UnitId) (vib : Nat) (m : Wafer) : Wafer :=
  vibFlag u TSK_STAT.VIB_UV 3 ((senseVib u vib m).set u.base TSK_STAT.SINK_INH 0)

theorem doVibUnderVoltage_eq {vib : Nat} (h : 5000 * vib < 3300000) :
    doVibUnderVoltage u vib m = vibStop u true (vibLow u vib m) := if_pos h

/-- VIB above 4.8 V, before the rails stop. -/
def vibOver (u : UnitId) (vib : Nat) (m : Wafer) : Wafer :=
  vibFlag u TSK_STAT.VIB_OV 5 (stopSink u 1 (stopSink u 0 (vibHigh u vib m)))

theorem doVibOverVoltage_eq {vib : Nat} (h : 960 < vib) : doVibOverVoltage u vib m = vibStop u false (vibOver u vib m) := by
  have e := doVibSinkInhibit_eq (u := u) (m := m) (show 920 < vib by omega)
  unfold vibOver
  rw [← e]
  exact if_pos (by omega)

theorem doVibOutOfRange_eq {vib : Nat} (h : (660 ≤ vib ∧ vib ≤ 720) ∨ (880 ≤ vib ∧ vib ≤ 920)) : doVibOutOfRange u vib m =
    (vibFlag u TSK_STAT.VIB_OOR 4 (senseVib u vib m)).set u.base TSK_STAT.SINK_INH 0 := if_pos (by omega)

/-- A rail that VIB stopped ramps from its measured value once VIB is back. -/
def vibBack (u : UnitId) (vib q : Nat) (v : Int) (m : Wafer) : Wafer :=
  if railState u q m = rSTOPPED ∧ ((((m.unit u).rail q).stopUv ∧ 3400000 < 5000 * vib) ∨
      (¬ ((m.unit u).rail q).stopUv ∧ 5000 * vib < 4600000)) then
    startRampUp u q v (senseMean u q v m)
  else m

/-- VIB as it comes back, before a rail ramps. -/
def vibReturned (u : UnitId) (vib : Nat) (m : Wafer) : Wafer :=
  if 5000 * vib ≤ 4600000 then (senseVib u vib m).set u.base TSK_STAT.SINK_INH 0 else senseVib u vib m

theorem doVibRecover_eq (vib : Nat) (v0 v1 : Int) (m : Wafer) :
    doVibRecover u vib v0 v1 m = vibBack u vib 1 v1 (vibBack u vib 0 v0 (vibReturned u vib m)) := rfl

/-- What a rail's return depends on, and the course of its ramp. -/
structure SameRail (u : UnitId) (q : Fin 2) (m m' : Wafer) : Prop where
  state : railState u q m' = railState u q m
  rail : ((m'.unit u).rail q).part = ((m.unit u).rail q).part
  target : railTarget u q m' = railTarget u q m

theorem vibReturned_same (vib : Nat) (q : Fin 2) (m : Wafer) : SameRail u q m (vibReturned u vib m) := by
  have hv (f : Fld) (hf : f.off ≠ 0x10) : (senseVib u vib m).get u.base f = m.get u.base f :=
    Wafer.get_set_beside _ _ (.inl (Ne.symm hf))
  have hg (f : Fld) (hf : f.off ≠ 0x10 ∧ f.off ≠ 8) : (vibReturned u vib m).get u.base f = m.get u.base f := by
    unfold vibReturned
    split
    · rw [Wafer.get_set_beside _ _ (.inl (Ne.symm hf.2)), hv f hf.1]
    · exact hv f hf.1
  have hu : (vibReturned u vib m).unit u = m.unit u := by
    unfold vibReturned
    split <;> rfl
  refine ⟨hg _ (by dsimp only; omega), by rw [hu], ?_⟩
  unfold railTarget targetSum Wafer.getI Wafer.on
  rw [hg TSK_CTL.RET (by decide), hg TSK_VRET.VRET (by decide), hg (TSK_VSET.VSET q) (by dsimp only; omega),
    hg (TSK_VTRIM.VTRIM q) (by dsimp only; omega)]

/-- The return of one rail leaves the other as it was. -/
theorem vibBack_same (vib : Nat) {q k : Fin 2} (hk : k ≠ q) (v : Int) (m : Wafer) : SameRail u k m (vibBack u vib q v m) := by
  unfold vibBack
  split
  · have hs := (Quiet.refl u m).senseMean q v
    have h := startRampUp_ramped (u := u) q v (senseMean u q v m)
    exact ⟨(h.other k hk).trans (hs.state k), (h.rail k hk).trans (hs.rail k),
      (railTarget_congr h.get k).trans (railTarget_congr (fun f hf => hs.get f hf.1) k)⟩
  · exact ⟨rfl, rfl, rfl⟩

/-- A rail that returns ramps up from its measured value. -/
structure Returned (u : UnitId) (q : Fin 2) (v t : Int) (m : Wafer) : Prop where
  state : railState u q m = rRAMP_UP
  ramping : ((m.unit u).rail q).ramping = true
  rampFrom : ((m.unit u).rail q).rampFrom = v
  rampTo : ((m.unit u).rail q).rampTo = t

theorem vibBack_returned {vib : Nat} {q : Fin 2} {v : Int} (hs : railState u q m = rSTOPPED)
    (hv : (((m.unit u).rail q).stopUv = true ∧ 3400000 < 5000 * vib) ∨
      (((m.unit u).rail q).stopUv = false ∧ 5000 * vib < 4600000)) :
    Returned u q v (railTarget u q m) (vibBack u vib q v m) := by
  rw [vibBack, if_pos ⟨hs, hv.imp_right (And.imp_left (by simp))⟩]
  have h := startRampUp_ramped (u := u) q v (senseMean u q v m)
  refine ⟨h.state, h.ramping, h.rampFrom, h.rampTo.trans ?_⟩
  exact railTarget_congr (fun f hf => ((Quiet.refl u m).senseMean q v).get f hf.1) q

theorem Returned.same {q : Fin 2} {v t : Int} {n : Wafer} (h : Returned u q v t m) (k : SameRail u q m n) : Returned u q v t n :=
  ⟨k.state.trans h.state, (congrArg (fun x => x.2.2.1) k.rail).trans h.ramping,
    (congrArg (fun x => x.2.2.2.1) k.rail).trans h.rampFrom, (congrArg (fun x => x.2.2.2.2) k.rail).trans h.rampTo⟩

/-- Each rail that VIB_RECOVER finds stopped for a cause that is over returns, whatever the other does. -/
theorem doVibRecover_returned {vib : Nat} {q : Fin 2} {v0 v1 : Int} (hs : railState u q m = rSTOPPED)
    (hv : (((m.unit u).rail q).stopUv = true ∧ 3400000 < 5000 * vib) ∨
      (((m.unit u).rail q).stopUv = false ∧ 5000 * vib < 4600000)) :
    Returned u q (if q = 0 then v0 else v1) (railTarget u q m) (doVibRecover u vib v0 v1 m) := by
  have h0 (q : Fin 2) := vibReturned_same (u := u) vib q m
  have hr {n : Wafer} (k : SameRail u q m n) (v : Int) : Returned u q v (railTarget u q m) (vibBack u vib q v n) := by
    rw [← k.target]
    refine vibBack_returned (k.state.trans hs) ?_
    rwa [show ((n.unit u).rail q).stopUv = ((m.unit u).rail q).stopUv from congrArg (fun x => x.2.1) k.rail]
  rw [doVibRecover_eq]
  rcases (by omega : q = 0 ∨ q = 1) with rfl | rfl
  · exact (hr (h0 0) v0).same (vibBack_same vib (q := 1) (by decide) v1 _)
  · have k := vibBack_same (u := u) vib (q := 0) (k := 1) (by decide) v0 (vibReturned u vib m)
    exact hr ⟨k.state.trans (h0 1).state, k.rail.trans (h0 1).rail, k.target.trans (h0 1).target⟩ v1

theorem doVibRecover_keeps {vib : Nat} {v0 v1 : Int} (h : Keeps A m₀ m) (hu : UnitIn A u) :
    Keeps A m₀ (doVibRecover u vib v0 v1 m) := by
  have hb {n : Wafer} (k : Keeps A m₀ n) {q : Nat} (hq : q < 2) (v : Int) : Keeps A m₀ (vibBack u vib q v n) :=
    .ite (fun _ => startRampUp_keeps (senseMean_keeps k hu hq v) hu hq v) fun _ => k
  have hs := senseVib_keeps h hu vib
  have hr : Keeps A m₀ (vibReturned u vib m) := .ite (fun _ => hs.unitSet hu 0 (by decide)) fun _ => hs
  exact hb (hb hr (by decide) v0) (by decide) v1

/-- A detected lead: the rail opens and the unit queues its event. -/
def senseOpened (u : UnitId) (q : Nat) (v : Int) (m : Wafer) : Wafer := enterState u q rSENSE_OPEN (senseRail u q v m)

theorem doSenseOpenDetect_eq {q : Fin 2} {v : Int} (h : (1450000 < v ∧ railState u q m ≠ rOFF ∧ railState u q m ≠ rSENSE_OPEN) ∨
    (v < 100000 ∧ regulating u q m ∧ ¬ (railState u q m = rRAMP_UP ∧ ((m.unit u).rail q).rampFrom < 100000))) :
    doSenseOpenDetect u q v m = unitEvent u 2 0 q (senseOpened u q v m) := if_pos h

/-- What an open lead leaves of its rail, and the events. -/
theorem senseOpened_gives (q : Fin 2) (v : Int) (m : Wafer) :
    railState u q (unitEvent u 2 0 q (senseOpened u q v m)) = rSENSE_OPEN ∧
      (unitEvent u 2 0 q (senseOpened u q v m)).get u.base (TSK_RSTAT.SINK q) = 0 ∧
      (((unitEvent u 2 0 q (senseOpened u q v m)).unit u).rail q).demanding = false ∧
      ((m.unit u).events.length < 8 →
        ((unitEvent u 2 0 q (senseOpened u q v m)).unit u).events = (m.unit u).events ++ [⟨2, 0, q.val⟩]) := by
  have k := (Quiet.refl u m).senseRail q v
  obtain ⟨h, hs, hd⟩ := enterState_halts (u := u) q (st := rSENSE_OPEN) (by decide) (by decide) (by decide) (by decide)
    (senseRail u q v m)
  have he : ((senseOpened u q v m).unit u).events = (m.unit u).events := by
    have e := congrArg UnitSt.events (h.part.trans k.part)
    exact e
  refine ⟨(unitEvent_get (by dsimp only; omega)).trans h.state, (unitEvent_get (by dsimp only; omega)).trans hs,
    by rw [unitEvent_rail]; exact hd, fun hl => ?_⟩
  rw [unitEvent_events (by rwa [he]), he, Nat.mod_eq_of_lt (by omega)]

theorem senseOpened_within (q : Fin 2) (v : Int) (m : Wafer) :
    Within (unitArea u) m (unitEvent u 2 0 q (senseOpened u q v m)) := by
  have hu := unitArea_unitIn u
  exact (unitEvent_keeps (enterState_keeps (senseRail_keeps (.refl _ m) hu q.isLt v) hu q.isLt _) hu _ _ _).within

theorem stopSinks_events {u : UnitId} (m : Wafer) : ((stopSink u 1 (stopSink u 0 m)).unit u).events = (m.unit u).events := by
  have k (q : Nat) (n : Wafer) : ((stopSink u q n).unit u).events = (n.unit u).events := by
    have e := congrArg UnitSt.events (sinksEnded_unit (u := u) (railSlots u.isVerge q) n).1
    exact e
  rw [k, k]

/-- What the end of the sinks may change. -/
def sinkArea (u : UnitId) : Area :=
  { fields := [(u.base, TSK_VIB.VIB), (u.base, TSK_STAT.SINK_INH), (u.base, TSK_RSTAT.SINK 0), (u.base, TSK_RSTAT.SINK 1)],
    units := (· == u) }

/-- Settles O10, clause by clause. -/
theorem senseAndVib : Obligations.SenseAndVib := by
  unfold Obligations.SenseAndVib
  refine ⟨?_, ?_, ?_, ?_, ?_, ?_, ?_, ?_⟩
  · intro m u q v hv h0 h6
    obtain ⟨hs, hk, hd, he⟩ := senseOpened_gives (u := u) q v m
    refine .of_effect _ (fun _ => rfl) ?_ ?_
    all_goals rw [doSenseOpenDetect_eq (.inl ⟨hv, h0, h6⟩)]
    · exact senseOpened_within q v m
    · exact ⟨hs, hk, hd, he⟩
  · intro m u q v hv hr hn
    obtain ⟨hs, -, -, he⟩ := senseOpened_gives (u := u) q v m
    refine .of_effect _ (fun _ => rfl) ?_ ?_
    all_goals rw [doSenseOpenDetect_eq (.inr ⟨hv, hr, hn⟩)]
    · exact senseOpened_within q v m
    · exact ⟨hs, he⟩
  · intro m u vib hv
    have hu := unitArea_unitIn u
    have hst (q : Fin 2) : railState u q (vibLow u vib m) = railState u q m := by
      rw [vibLow, vibFlag_state rfl, railState, Wafer.get_set_beside _ _ (.inl (by dsimp only; omega)), senseVib,
        Wafer.get_set_beside _ _ (.inl (by dsimp only; omega)), ← railState]
    refine .of_effect _ (fun _ => rfl) ?_ ?_
    all_goals rw [doVibUnderVoltage_eq hv]
    · have k : Keeps (unitArea u) m ((senseVib u vib m).set u.base TSK_STAT.SINK_INH 0) :=
        (senseVib_keeps (.refl _ m) hu vib).unitSet hu 0 (by decide)
      have kf : Within (unitArea u) m (vibLow u vib m) :=
        vibFlag_within k.within hu.hidden (hu.has (by decide)) (hu.has (by decide))
      exact kf.trans (vibStop_keeps (.refl _ _) hu true).within
    · refine ⟨?_, ?_, fun q hq => ?_, ?_, fun q hq => ?_, fun hf hl => ?_⟩
      · rw [vibStop_on true (by unfold SteadyField QuietField; decide)]
        exact vibFlag_flag (by decide)
      · rw [vibStop_get true (by unfold SteadyField QuietField; decide), vibLow, vibFlag_get (by decide) (by decide),
          Wafer.get_set_beside _ _ (by decide)]
        exact Wafer.get_set_fits _ _ ⟨by decide, by dsimp only; omega⟩
      · exact vibStop_stopped true q _ (.inl (by rw [hst]; exact hq))
      · rw [vibStop_on true (by unfold SteadyField QuietField; decide), vibLow, vibFlag_on (by decide) (by decide)]
        exact Wafer.on_set_zero_of _ _ (by decide)
      · exact vibStop_stopped true q _ (.inr (by rw [hst]; exact hq))
      · rw [vibStop_events]
        exact vibFlag_rises (by rw [Wafer.on_set_ne _ _ (by decide)]; exact (Wafer.on_set_ne _ _ (by decide)).trans hf) hl
  · intro m u q vib v0 v1 hs hu hv
    have h := doVibRecover_returned (v0 := v0) (v1 := v1) hs (.inl ⟨hu, hv⟩)
    exact .of_effect _ (fun _ => rfl) (doVibRecover_keeps (.refl _ m) (unitArea_unitIn u)).within
      ⟨h.state, h.ramping, h.rampFrom, h.rampTo⟩
  · intro m u q vib v0 v1 hs hu hv
    have h := doVibRecover_returned (v0 := v0) (v1 := v1) hs (.inr ⟨hu, hv⟩)
    exact .of_effect _ (fun _ => rfl) (doVibRecover_keeps (.refl _ m) (unitArea_unitIn u)).within
      ⟨h.state, h.rampFrom, h.ramping, h.rampTo⟩
  · intro m u vib hv
    refine .of_effect _ (fun _ => rfl) ?_ ?_
    all_goals rw [doVibOutOfRange_eq hv]
    · refine (vibFlag_within ((Within.refl _ m).set _ _ _ (.inl (.head _))) (beq_self_eq_true u) (.inl ?_) (.inl ?_)).set _ _ _
        (.inl ?_)
      · exact .tail _ (.tail _ (.tail _ (.head _)))
      · exact .tail _ (.head _)
      · exact .tail _ (.tail _ (.head _))
    · refine ⟨?_, ?_, Wafer.on_set_zero_of _ _ (by decide)⟩
      · rw [Wafer.get_set_beside _ _ (by decide), vibFlag_get (by decide) (by decide)]
        exact Wafer.get_set_fits _ _ ⟨by decide, by dsimp only; omega⟩
      · rw [Wafer.on_set_ne _ _ (by decide)]
        exact vibFlag_flag (by decide)
  · intro m u vib hv hx
    refine .of_effect _ (fun _ => rfl) ?_ ?_
    all_goals rw [doVibSinkInhibit_eq hv]
    · have hu := beq_self_eq_true u
      have k : Within (sinkArea u) m (vibHigh u vib m) :=
        ((Within.refl _ m).set _ _ _ (.inl (.head _))).set _ _ _ (.inl (.tail _ (.head _)))
      rw [stopSink_eq, stopSink_eq]
      exact (sinksEnded_within ((sinksEnded_within k hu _).set _ _ _ (.inl (.tail _ (.tail _ (.head _))))) hu _).set _ _ _
        (.inl (.tail _ (.tail _ (.tail _ (.head _)))))
    · refine ⟨?_, ?_, stopSinks_sink, fun q s hs => ?_⟩
      · rw [stopSinks_get (by decide), vibHigh, Wafer.get_set_beside _ _ (by decide)]
        exact Wafer.get_set_fits _ _ ⟨by decide, by dsimp only; omega⟩
      · rw [Wafer.on, stopSinks_get (by decide), ← Wafer.on]
        exact Wafer.on_set_one_of _ _ (by decide)
      · rw [stopSinks_phase q hs]
        exact ⟨rfl, fun h => if_pos h⟩
  · intro m u vib hv
    have hu := unitArea_unitIn u
    have hst (q : Fin 2) : railState u q (vibOver u vib m) = railState u q m := by
      rw [vibOver, vibFlag_state rfl, stopSinks_state, railState, vibHigh, Wafer.get_set_beside _ _ (.inl (by dsimp only; omega)),
        senseVib, Wafer.get_set_beside _ _ (.inl (by dsimp only; omega)), ← railState]
    refine .of_effect _ (fun _ => rfl) ?_ ?_
    all_goals rw [doVibOverVoltage_eq hv]
    · have k : Keeps (unitArea u) m (vibHigh u vib m) := (senseVib_keeps (.refl _ m) hu vib).unitSet hu 1 (by decide)
      have kf : Within (unitArea u) m (vibOver u vib m) :=
        vibFlag_within (stopSink_keeps (stopSink_keeps k hu (by decide)) hu (by decide)).within hu.hidden (hu.has (by decide))
          (hu.has (by decide))
      exact kf.trans (vibStop_keeps (.refl _ _) hu false).within
    · refine ⟨?_, ?_, fun q hq => ?_, fun q hq => ?_, fun hf hl => ?_⟩
      · rw [vibStop_on false (by unfold SteadyField QuietField; decide)]
        exact vibFlag_flag (by decide)
      · rw [vibStop_on false (by unfold SteadyField QuietField; decide), vibOver, vibFlag_on (by decide) (by decide), Wafer.on,
          stopSinks_get (by decide), ← Wafer.on]
        exact Wafer.on_set_one_of _ _ (by decide)
      · exact vibStop_stopped false q _ (.inl (by rw [hst]; exact hq))
      · exact vibStop_stopped false q _ (.inr (by rw [hst]; exact hq))
      · have e := stopSinks_events (u := u) (vibHigh u vib m)
        rw [vibStop_events, vibOver, vibFlag_rises _ (by rw [e]; exact hl), e]
        · rfl
        · rw [Wafer.on, stopSinks_get (by decide), vibHigh, Wafer.get_set_beside _ _ (by decide)]
          exact (Wafer.on_set_ne _ _ (by decide)).trans hf

end Sys2Proof.Machine
end

section
/-! What pulses, ties, tests and pre-lifts leave of their unit: all hidden state beside rails, phases and the wait of
a tie, and the registers of intents and telemetry. -/

namespace Sys2Proof.Machine

variable {u : UnitId} {m₀ m : Wafer}

/-- The hidden state of a unit beside its rails, its phases and the wait of a tie. -/
def UnitSt.undriven (x : UnitSt) : UnitSt :=
  { x with rail0 := {}, rail1 := {}, ph0 := {}, ph1 := {}, ph2 := {}, ph3 := {}, tieWait := none }

theorem UnitSt.undriven_setRail (x : UnitSt) (q : Nat) (r : RailSt) : (x.setRail q r).undriven = x.undriven := by
  unfold UnitSt.setRail
  split
  · rfl
  · rfl

theorem UnitSt.undriven_setPhase (x : UnitSt) (s : Nat) (y : PhaseSt) : (x.setPhase s y).undriven = x.undriven := by
  unfold UnitSt.setPhase
  split <;> rfl

/-- Fields that pulses and pre-lifts leave: those of intents, but for TSK_ISTAT, and all behind them. -/
def DrivenField (f : Fld) : Prop := 0x328 ≤ f.off ∧ f.off ≠ 0x32C

/-- From the first controller to the second, as pulses and pre-lifts leave a unit. -/
structure Driven (u : UnitId) (m m' : Wafer) : Prop where
  get : ∀ f, DrivenField f → m'.get u.base f = m.get u.base f
  hidden : (m'.unit u).undriven = (m.unit u).undriven

namespace Driven

@[refl] theorem refl (u : UnitId) (m : Wafer) : Driven u m m := ⟨fun _ _ => rfl, rfl⟩

theorem trans {m' : Wafer} (h : Driven u m₀ m) (k : Driven u m m') : Driven u m₀ m' :=
  ⟨fun f hf => (k.get f hf).trans (h.get f hf), k.hidden.trans h.hidden⟩

theorem ite {c : Prop} [Decidable c] {a b : Wafer} (ha : Driven u m₀ a) (hb : Driven u m₀ b) : Driven u m₀ (if c then a else b) := by
  split
  · exact ha
  · exact hb

theorem fold {α : Type} (h : Driven u m₀ m) (l : List α) (f : Wafer → α → Wafer)
    (hf : ∀ m, ∀ x ∈ l, Driven u m₀ m → Driven u m₀ (f m x)) : Driven u m₀ (l.foldl f m) := by
  induction l generalizing m with
  | nil => exact h
  | cons x t ih => exact ih (hf m x List.mem_cons_self h) fun m y hy => hf m y (List.mem_cons_of_mem _ hy)

theorem set (h : Driven u m₀ m) {g : Fld} (v : Nat) (hg : g.off < 0x328 ∨ g.off = 0x32C) : Driven u m₀ (m.set u.base g v) :=
  h.trans ⟨fun f hf => m.get_set_beside v (.inl (by unfold DrivenField at hf; omega)), rfl⟩

theorem modUnit (h : Driven u m₀ m) (f : UnitSt → UnitSt) (hf : ∀ x, (f x).undriven = x.undriven := by intro _; rfl) :
    Driven u m₀ (m.modUnit u f) :=
  h.trans ⟨fun _ _ => rfl, by rw [m.unit_modUnit, hf]⟩

theorem modRail (h : Driven u m₀ m) (q : Nat) (f : RailSt → RailSt) : Driven u m₀ (m.modRail u q f) :=
  h.modUnit _ fun _ => UnitSt.undriven_setRail _ _ _

theorem modPhase (h : Driven u m₀ m) (s : Nat) (f : PhaseSt → PhaseSt) : Driven u m₀ (m.modPhase u s f) :=
  h.modUnit _ fun _ => UnitSt.undriven_setPhase _ _ _

/-- A projection of the hidden state that looks at neither rails nor phases. -/
theorem keeps {α : Type} (h : Driven u m₀ m) (f : UnitSt → α) (hf : ∀ x : UnitSt, f x = f x.undriven := by intro _; rfl) :
    f (m.unit u) = f (m₀.unit u) := by rw [hf, h.hidden, ← hf]

/-! ### Pre-lifts (R156, R157) -/

theorem leaveVset (h : Driven u m₀ m) (q : Nat) : Driven u m₀ (leaveVset u q m) := h.modRail q _

theorem setLift (h : Driven u m₀ m) (q : Nat) (v : Int) : Driven u m₀ (setLift u q v m) :=
  .set ((h.leaveVset q).modRail q _) _ (.inr (by split <;> rfl))

theorem liftEval (h : Driven u m₀ m) {q : Nat} (hq : q < 2) : Driven u m₀ (liftEval u q m) :=
  .ite (.ite ((h.setLift q _).set 1 (.inl (by dsimp only; omega))) (h.setLift q _)) h

theorem restoreShed (h : Driven u m₀ m) {q : Nat} (hq : q < 2) : Driven u m₀ (restoreShed u q m) := by
  refine .ite ?_ h
  refine .set (.modRail (h.fold _ _ fun n s hs k => ?_) q _) 0 (.inl (by dsimp only; omega))
  exact .ite ((k.set 0 (.inl (by have := railSlots_lt _ _ hs; dsimp only; omega))).modPhase s _) k

/-! ### Pulses (R96, R104, R145, R196) -/

theorem startPulse (h : Driven u m₀ m) {s : Nat} (hs : s < 4) (kind : Pulse) (n : Nat) : Driven u m₀ (startPulse u s kind n m) :=
  (h.modPhase s _).set _ (.inl (by dsimp only; omega))

theorem issuePulse (h : Driven u m₀ m) (q : Nat) {s : Nat} (hs : s < 4) (n : Nat) : Driven u m₀ (issuePulse u q s n m) :=
  (h.modRail q _).startPulse hs .normal n

theorem modulate (h : Driven u m₀ m) {q : Nat} (hq : q < 2) : Driven u m₀ (modulate u q m) := by
  unfold Machine.modulate
  split
  · exact h.modRail q _
  · rename_i s hs
    have hl := nextPhase_lt hs
    refine .ite (.ite ?_ ((h.modRail q _).modRail q _)) ((h.modRail q _).issuePulse q hl _)
    exact (((h.modRail q _).modRail q _).set 1 (.inl (by dsimp only; omega))).issuePulse q hl _

theorem retryRequest (h : Driven u m₀ m) {q : Nat} (hq : q < 2) : Driven u m₀ (retryRequest u q m) := .ite (h.modulate hq) h

theorem fireTie (h : Driven u m₀ m) {s : Nat} (hs : s < 4) : Driven u m₀ (fireTie u s m) :=
  ((h.startPulse hs _ _).modUnit _).set _ (.inl (by decide))

theorem fireTest (h : Driven u m₀ m) {s : Nat} (hs : s < 4) : Driven u m₀ (fireTest u s m) := by
  unfold Machine.fireTest
  exact (h.startPulse hs _ _).modPhase s _

theorem testEval (h : Driven u m₀ m) {s : Nat} (hs : s < 4) : Driven u m₀ (testEval u s m) :=
  .ite (h.fireTest hs) h

theorem offerPhase (h : Driven u m₀ m) {s : Nat} (hs : s < 4) : Driven u m₀ (offerPhase u s m) := by
  have k := h.testEval hs
  refine .ite k (.ite (k.modPhase s _) ?_)
  split
  · exact .ite (k.fireTie hs) ((k.modUnit _).retryRequest (slotRail_lt hs))
  · exact k.retryRequest (slotRail_lt hs)

theorem offerRail (h : Driven u m₀ m) (q : Nat) : Driven u m₀ (offerRail u q m) :=
  h.fold _ _ fun _ _ hs k => k.offerPhase (railSlots_lt _ _ hs)

theorem testTick (h : Driven u m₀ m) : Driven u m₀ (testTick u m) :=
  h.fold _ _ fun _ _ hs k => .ite ((k.modPhase _ _).testEval (by simpa using hs)) k

end Driven

end Sys2Proof.Machine
end

section
/-! Intents: the log of a unit, the record taken from IPORT, the entries in LIFT and the pre-lift of a rail. -/

namespace Sys2Proof.Machine

variable {A : Area} {u : UnitId} {m₀ m : Wafer}

/-! ### The intent log and the flags of TSK_ISTAT (R159, R210) -/

theorem intentLog_unit (outcome ty tag : Nat) : (intentLog u outcome ty tag m).unit u = m.unit u := by
  unfold intentLog
  split
  · rfl
  · simp only [Wafer.inc, Wafer.unit_set]

theorem intentLog_get {outcome ty tag : Nat} {f : Fld} (hf : f.off < 0x600) :
    (intentLog u outcome ty tag m).get u.base f = m.get u.base f := by
  have k {n : Wafer} {g : Fld} (v : Nat) (hg : 0x600 ≤ g.off) : (n.set u.base g v).get u.base f = n.get u.base f :=
    n.get_set_beside v (.inl (by omega))
  unfold intentLog
  split
  · rfl
  · rw [Wafer.inc, k _ (by decide), k _ (by dsimp only; omega), k _ (by dsimp only; omega), k _ (by dsimp only; omega),
      k _ (by dsimp only; omega)]

theorem logEntries_unit (outcome : Nat) (l : List IntentEntry) : (logEntries u outcome l m).unit u = m.unit u := by
  induction l generalizing m with
  | nil => rfl
  | cons e t ih => exact ih.trans (intentLog_unit _ _ _)

theorem logEntries_get {outcome : Nat} {f : Fld} (hf : f.off < 0x600) (l : List IntentEntry) :
    (logEntries u outcome l m).get u.base f = m.get u.base f := by
  induction l generalizing m with
  | nil => rfl
  | cons e t ih => exact ih.trans (intentLog_get hf)

theorem flagEvent_on {f : Fld} (hf : f.lo + f.wid ≤ 32 ∧ 0 < f.wid) (h18 : f.off ≠ 0x18) (code slot data : Nat) :
    (flagEvent u f code slot data m).on u.base f = true := by
  unfold flagEvent
  split
  · assumption
  · rw [Wafer.on, unitEvent_get h18]
    exact Wafer.on_set_one_of _ _ hf

theorem flagEvent_get {f g : Fld} (hg : g.off ≠ 0x18 ∧ f.off ≠ g.off) (code slot data : Nat) :
    (flagEvent u f code slot data m).get u.base g = m.get u.base g := by
  unfold flagEvent
  split
  · rfl
  · rw [unitEvent_get hg.1, Wafer.get_set_beside _ _ (.inl hg.2)]

theorem flagEvent_unit (f : Fld) (code slot data : Nat) :
    ((flagEvent u f code slot data m).unit u).besideEvents = (m.unit u).besideEvents := by
  unfold flagEvent
  split
  · rfl
  · rw [unitEvent_unit, Wafer.unit_set]

/-- A projection of the hidden state that does not look at the event queue. -/
theorem flagEvent_beside {α : Type} (f : Fld) (code slot data : Nat) (p : UnitSt → α)
    (hp : ∀ x : UnitSt, p x = p x.besideEvents := by intro _; rfl) :
    p ((flagEvent u f code slot data m).unit u) = p (m.unit u) := by rw [hp, flagEvent_unit, ← hp]

/-- The two wires of IPORT's handshake. -/
def UnitSt.handshake (x : UnitSt) : Bool × Bool := (x.iportVld, x.iportTkn)

theorem UnitSt.handshake_eq {x : UnitSt} {a b : Bool} (h : x.handshake = (a, b)) : x.iportVld = a ∧ x.iportTkn = b :=
  Prod.mk.inj h

/-- A record that is counted and logged, and otherwise not taken. -/
def recordCounted (u : UnitId) (f : Fld) (outcome ty tag : Nat) (m : Wafer) : Wafer := intentLog u outcome ty tag (m.incSat u.base f)

theorem recordCounted_unit (f : Fld) (outcome ty tag : Nat) : (recordCounted u f outcome ty tag m).unit u = m.unit u := by
  rw [recordCounted, intentLog_unit, Wafer.unit, Wafer.incSat_units, Wafer.unit]

theorem recordCounted_get {f : Fld} (hf : f.off < 0x600 ∧ f.lo + f.wid ≤ 32) (outcome ty tag : Nat) :
    (recordCounted u f outcome ty tag m).get u.base f = min (2 ^ f.wid - 1) (m.get u.base f + 1) := by
  rw [recordCounted, intentLog_get hf.1, Wafer.get_incSat _ _ hf.2]

theorem recordCounted_keeps (h : Keeps A m₀ m) (hu : UnitIn A u) {f : Fld} (hf : f.off < 0x1000) (outcome ty tag : Nat) :
    Keeps A m₀ (recordCounted u f outcome ty tag m) := intentLog_keeps (h.incSat _ _ (hu.has hf)) hu _ _ _

/-- A record that is flagged besides. -/
theorem recordFlagged_gives {c f : Fld} (hc : c.off < 0x600 ∧ c.lo + c.wid ≤ 32 ∧ c.off ≠ 0x18)
    (hf : f.lo + f.wid ≤ 32 ∧ 0 < f.wid ∧ f.off ≠ 0x18 ∧ f.off ≠ c.off) (code outcome ty tag : Nat) (m : Wafer) :
    (flagEvent u f code 0 0 (recordCounted u c outcome ty tag m)).get u.base c = min (2 ^ c.wid - 1) (m.get u.base c + 1) ∧
      (flagEvent u f code 0 0 (recordCounted u c outcome ty tag m)).on u.base f = true ∧
      ((flagEvent u f code 0 0 (recordCounted u c outcome ty tag m)).unit u).intents = (m.unit u).intents ∧
      ((flagEvent u f code 0 0 (recordCounted u c outcome ty tag m)).unit u).handshake = (m.unit u).handshake := by
  obtain ⟨h6, hw, hq⟩ := hc
  obtain ⟨h32, h0, hf18, hfc⟩ := hf
  refine ⟨?_, flagEvent_on ⟨h32, h0⟩ hf18 _ _ _, ?_, ?_⟩
  · rw [flagEvent_get ⟨hq, hfc⟩, recordCounted_get ⟨h6, hw⟩]
  · rw [flagEvent_beside f code 0 0 UnitSt.intents, recordCounted_unit]
  · rw [flagEvent_beside f code 0 0 UnitSt.handshake, recordCounted_unit]

/-! ### Entries in LIFT (R154, R156) -/

/-- An entry once its lift time was looked at. -/
def risen (u : UnitId) (now : Nat) (i0 i1 : Int) (m : Wafer) (e : IntentEntry) : IntentEntry :=
  if !e.lifted && liftTime u m e ≤ now then { e with lifted := true, liftCurrent := if e.rail = 0 then i0 else i1 } else e

theorem risen_eq (u : UnitId) (now : Nat) (i0 i1 : Int) (m : Wafer) (e : IntentEntry) :
    risen u now i0 i1 m e = e ∨ risen u now i0 i1 m e = { e with lifted := true, liftCurrent := if e.rail = 0 then i0 else i1 } := by
  unfold risen
  split
  · exact .inr rfl
  · exact .inl rfl

theorem risen_lifted {now : Nat} {i0 i1 : Int} {e : IntentEntry} (h : liftTime u m (risen u now i0 i1 m e) ≤ now) :
    (risen u now i0 i1 m e).lifted = true := by
  have ht : liftTime u m e ≤ now := by
    rcases risen_eq u now i0 i1 m e with k | k
    · rwa [k] at h
    · rw [k] at h
      exact h
  unfold risen
  split
  · rfl
  · simp_all

/-- What INTENT_LIFT leaves: the entries that are due in LIFT, and then only what pulses and pre-lifts change. -/
theorem liftDue_driven (now : Nat) (i0 i1 : Int) (m : Wafer) :
    Driven u (m.modUnit u fun x => { x with intents := x.intents.map (risen u now i0 i1 m) }) (liftDue u now i0 i1 m) := by
  unfold liftDue
  extract_lets due lifts ups up0 up1 lift m1 m2 m3 m4 m5
  have k2 : Driven u m1 m2 := .ite (.restoreShed (.refl u m1) (by decide)) (.refl u m1)
  have k3 : Driven u m1 m3 := .ite (.restoreShed k2 (by decide)) k2
  have k4 : Driven u m1 m4 := (k3.liftEval (by decide)).liftEval (by decide)
  have k5 : Driven u m1 m5 := .ite (k4.offerRail 0) k4
  exact .ite (k5.offerRail 1) k5

theorem liftDue_intents (now : Nat) (i0 i1 : Int) (m : Wafer) :
    ((liftDue u now i0 i1 m).unit u).intents = (m.unit u).intents.map (risen u now i0 i1 m) := by
  rw [(liftDue_driven now i0 i1 m).keeps fun x => x.intents, Wafer.unit_modUnit]

theorem liftDue_keeps (h : Keeps A m₀ m) (hu : UnitIn A u) (now : Nat) (i0 i1 : Int) : Keeps A m₀ (liftDue u now i0 i1 m) := by
  unfold liftDue
  extract_lets due lifts ups up0 up1 lift m1 m2 m3 m4 m5
  have k1 : Keeps A m₀ m1 := h.unitMod hu _
  have k2 : Keeps A m₀ m2 := .ite (fun _ => restoreShed_keeps k1 hu (by decide)) fun _ => k1
  have k3 : Keeps A m₀ m3 := .ite (fun _ => restoreShed_keeps k2 hu (by decide)) fun _ => k2
  have k4 : Keeps A m₀ m4 := liftEval_keeps (liftEval_keeps k3 hu (by decide)) hu (by decide)
  have k5 : Keeps A m₀ m5 := .ite (fun _ => offerRail_keeps k4 hu 0) fun _ => k4
  exact .ite (fun _ => offerRail_keeps k5 hu 1) fun _ => k5

/-! ### A record taken from IPORT, in the order of R153 -/

/-- The handshake of IPORT answered. -/
def answeredPort (u : UnitId) (m : Wafer) : Wafer := m.modUnit u fun x => { x with iportTkn := !x.iportTkn }

/-- The entry a step record makes. -/
def stepEntry (d : Word) (now : Nat) : IntentEntry :=
  { stepUp := getBits d 28 4 == 0, rail := getBits d 10 2, mag := getBits d 12 8, tag := getBits d 0 8,
    capture := now, effective := now + 4 * getBits d 20 8 }

/-- A record that is neither malformed nor a marker. -/
def WellFormed (d : Word) : Prop :=
  getBits d 28 4 ≤ 3 ∧ (getBits d 28 4 < 2 → getBits d 10 2 < 2) ∧ (getBits d 28 4 = 3 → getBits d 12 8 ≤ 8)

/-- What a context record leaves to wait. -/
def contextKept (d : Word) (now : Nat) : Option CtxIntent → Option CtxIntent
  | some old =>
    if old.effective ≤ now + 4 * getBits d 20 8 then some ⟨getBits d 12 8 - 1, getBits d 0 8, now + 4 * getBits d 20 8⟩
    else some old
  | none => some ⟨getBits d 12 8 - 1, getBits d 0 8, now + 4 * getBits d 20 8⟩

/-- Of two context records the one with the later effective time waits. -/
theorem contextKept_later (d : Word) (now : Nat) (x : Option CtxIntent) :
    ((∀ old, x = some old → old.effective ≤ now + 4 * getBits d 20 8) →
      contextKept d now x = some ⟨getBits d 12 8 - 1, getBits d 0 8, now + 4 * getBits d 20 8⟩) ∧
    ∀ old, x = some old → now + 4 * getBits d 20 8 < old.effective → contextKept d now x = some old := by
  cases x with
  | none => exact ⟨fun _ => rfl, by simp⟩
  | some c =>
    refine ⟨fun h => if_pos (h c rfl), fun old e h => ?_⟩
    obtain rfl := Option.some.inj e
    exact if_neg (by omega)

section
variable {d : Word} {now : Nat} {i0 i1 : Int}

theorem takeRecord_malformed
    (h : 3 < getBits d 28 4 ∨ (getBits d 28 4 < 2 ∧ 1 < getBits d 10 2) ∨ (getBits d 28 4 = 3 ∧ 8 < getBits d 12 8)) :
    takeRecord u d now i0 i1 m = flagEvent u TSK_ISTAT.MALF 22 0 0
      (recordCounted u TSK_IREJ.MALF_CNT 5 (getBits d 28 4) (getBits d 0 8) (answeredPort u m)) := if_pos h

theorem not_malformed (h : WellFormed d) :
    ¬ (3 < getBits d 28 4 ∨ (getBits d 28 4 < 2 ∧ 1 < getBits d 10 2) ∨ (getBits d 28 4 = 3 ∧ 8 < getBits d 12 8)) := by
  obtain ⟨h1, h2, h3⟩ := h
  omega

theorem takeRecord_marker (h : WellFormed d) (hm : getBits d 12 8 = 0) : takeRecord u d now i0 i1 m =
    recordCounted u TSK_IMRK.MARK_CNT 3 (getBits d 28 4) (getBits d 0 8) (answeredPort u m) := by
  rw [takeRecord, if_neg (not_malformed h), if_pos hm]
  rfl

theorem takeRecord_swath (hm : getBits d 12 8 ≠ 0) (ht : getBits d 28 4 = 2) : takeRecord u d now i0 i1 m =
    (answeredPort u m).modUnit u fun x => { x with swStep := min 255 (x.swStep + getBits d 12 8) } := by
  rw [takeRecord, if_neg (by omega), if_neg hm, if_pos ht]
  rfl

theorem takeRecord_context (h : WellFormed d) (hm : getBits d 12 8 ≠ 0) (ht : getBits d 28 4 = 3) :
    takeRecord u d now i0 i1 m = (answeredPort u m).modUnit u fun x => { x with ctxPend := contextKept d now x.ctxPend } := by
  rw [takeRecord, if_neg (not_malformed h), if_neg hm, if_neg (by omega), if_pos ht]
  rfl

theorem takeRecord_idle (hr : getBits d 10 2 < 2) (hm : getBits d 12 8 ≠ 0) (ht : getBits d 28 4 < 2)
    (hs : railState u (getBits d 10 2) m ≠ rREG) : takeRecord u d now i0 i1 m =
      recordCounted u TSK_IMRK.IDLE_CNT 6 (getBits d 28 4) (getBits d 0 8) (answeredPort u m) := by
  rw [takeRecord, if_neg (by omega), if_neg hm, if_neg (by omega), if_neg (by omega)]
  exact if_pos hs

theorem takeRecord_full (hr : getBits d 10 2 < 2) (hm : getBits d 12 8 ≠ 0) (ht : getBits d 28 4 < 2)
    (hs : railState u (getBits d 10 2) m = rREG) (hl : 8 ≤ (m.unit u).intents.length) : takeRecord u d now i0 i1 m =
      flagEvent u TSK_ISTAT.FULL 21 0 0
        (recordCounted u TSK_IREJ.FULL_CNT 4 (getBits d 28 4) (getBits d 0 8) (answeredPort u m)) := by
  rw [takeRecord, if_neg (by omega), if_neg hm, if_neg (by omega), if_neg (by omega)]
  refine (if_neg (not_not_intro hs)).trans (if_pos ?_)
  rw [Wafer.unit_modUnit]
  exact hl

theorem takeRecord_entry (hr : getBits d 10 2 < 2) (hm : getBits d 12 8 ≠ 0) (ht : getBits d 28 4 < 2)
    (hs : railState u (getBits d 10 2) m = rREG) (hl : (m.unit u).intents.length < 8) : takeRecord u d now i0 i1 m =
      liftDue u now i0 i1 ((answeredPort u m).modUnit u fun x => { x with intents := x.intents ++ [stepEntry d now] }) := by
  rw [takeRecord, if_neg (by omega), if_neg hm, if_neg (by omega), if_neg (by omega)]
  refine (if_neg (not_not_intro hs)).trans (if_neg ?_)
  rw [Wafer.unit_modUnit]
  exact Nat.not_le.2 hl

/-- The kinds of a record. -/
theorem record_kinds (d : Word) (u : UnitId) (m : Wafer) :
    (3 < getBits d 28 4 ∨ (getBits d 28 4 < 2 ∧ 1 < getBits d 10 2) ∨ (getBits d 28 4 = 3 ∧ 8 < getBits d 12 8)) ∨
    (WellFormed d ∧ getBits d 12 8 = 0) ∨ (getBits d 12 8 ≠ 0 ∧ getBits d 28 4 = 2) ∨
    (WellFormed d ∧ getBits d 12 8 ≠ 0 ∧ getBits d 28 4 = 3) ∨
    ((getBits d 10 2 < 2 ∧ getBits d 12 8 ≠ 0 ∧ getBits d 28 4 < 2) ∧
      (railState u (getBits d 10 2) m ≠ rREG ∨
        railState u (getBits d 10 2) m = rREG ∧ (8 ≤ (m.unit u).intents.length ∨ (m.unit u).intents.length < 8))) := by
  unfold WellFormed
  omega

theorem takeRecord_handshake : ((takeRecord u d now i0 i1 m).unit u).handshake = ((answeredPort u m).unit u).handshake := by
  rcases record_kinds d u m with h | ⟨h, hm⟩ | ⟨hm, ht⟩ | ⟨h, hm, ht⟩ | ⟨⟨hr, hm, ht⟩, hs | ⟨hs, hl | hl⟩⟩
  · rw [takeRecord_malformed h, flagEvent_beside _ _ _ _ UnitSt.handshake, recordCounted_unit]
  · rw [takeRecord_marker h hm, recordCounted_unit]
  · rw [takeRecord_swath hm ht, Wafer.unit_modUnit]
    rfl
  · rw [takeRecord_context h hm ht, Wafer.unit_modUnit]
    rfl
  · rw [takeRecord_idle hr hm ht hs, recordCounted_unit]
  · rw [takeRecord_full hr hm ht hs hl, flagEvent_beside _ _ _ _ UnitSt.handshake, recordCounted_unit]
  · rw [takeRecord_entry hr hm ht hs hl, (liftDue_driven _ _ _ _).keeps UnitSt.handshake, Wafer.unit_modUnit, Wafer.unit_modUnit]
    rfl

theorem answeredPort_handshake : ((answeredPort u m).unit u).handshake = ((m.unit u).iportVld, !(m.unit u).iportTkn) := by
  rw [answeredPort, Wafer.unit_modUnit]
  rfl

theorem takeRecord_keeps (h : Keeps A m₀ m) (hu : UnitIn A u) : Keeps A m₀ (takeRecord u d now i0 i1 m) := by
  have ka : Keeps A m₀ (answeredPort u m) := h.unitMod hu _
  rcases record_kinds d u m with h | ⟨h, hm⟩ | ⟨hm, ht⟩ | ⟨h, hm, ht⟩ | ⟨⟨hr, hm, ht⟩, hs | ⟨hs, hl | hl⟩⟩
  · rw [takeRecord_malformed h]
    exact flagEvent_keeps (recordCounted_keeps ka hu (by decide) _ _ _) hu (by decide) _ _ _
  · rw [takeRecord_marker h hm]
    exact recordCounted_keeps ka hu (by decide) _ _ _
  · rw [takeRecord_swath hm ht]
    exact ka.unitMod hu _
  · rw [takeRecord_context h hm ht]
    exact ka.unitMod hu _
  · rw [takeRecord_idle hr hm ht hs]
    exact recordCounted_keeps ka hu (by decide) _ _ _
  · rw [takeRecord_full hr hm ht hs hl]
    exact flagEvent_keeps (recordCounted_keeps ka hu (by decide) _ _ _) hu (by decide) _ _ _
  · rw [takeRecord_entry hr hm ht hs hl]
    exact liftDue_keeps (ka.unitMod hu _) hu _ _ _

end

/-! ### The commands of IPORT (R67, R68) -/

/-- A record as the engine presents it. -/
def presented (g : Fin 4096) (d : Word) (m : Wafer) : Wafer :=
  m.modUnit (.tussock g) fun x => { x with iportVld := !x.iportVld, iportD := d }

theorem presented_isolated (g : Fin 4096) (d : Word) (m : Wafer) :
    iportIsolated (.tussock g) (presented g d m) = iportIsolated (.tussock g) m := by
  unfold iportIsolated presented
  rw [Wafer.unit_modUnit]

/-- A record as the engine presents it, and the handshake answered. -/
def ready (g : Fin 4096) (d : Word) (w : Nat) (m : Wafer) : Wafer := answeredPort (.tussock g) (presented g d (m.at w))

theorem ready_unit (g : Fin 4096) (d : Word) (w : Nat) (m : Wafer) : (ready g d w m).unit (.tussock g) =
    { m.unit (.tussock g) with
      iportVld := !(m.unit (.tussock g)).iportVld, iportD := d, iportTkn := !(m.unit (.tussock g)).iportTkn } := by
  rw [ready, answeredPort, Wafer.unit_modUnit, presented, Wafer.unit_modUnit, Wafer.unit_at]

section
variable {g : Fin 4096} {d : Word} {w : Nat} {i0 i1 : Int}

theorem doIntentRecord_isolated (h : iportIsolated (.tussock g) m = true) :
    doIntentRecord g d w i0 i1 m = presented g d (m.at w) := if_pos ((presented_isolated g d (m.at w)).trans h)

theorem doIntentRecord_taken (h : iportIsolated (.tussock g) m = false) :
    doIntentRecord g d w i0 i1 m = takeRecord (.tussock g) d w i0 i1 (presented g d (m.at w)) :=
  if_neg (ne_true_of_eq_false ((presented_isolated g d (m.at w)).trans h))

theorem doIntentRecord_keeps (h : Keeps A m₀ m) (hu : UnitIn A (.tussock g)) (ht : A.time = true) :
    Keeps A m₀ (doIntentRecord g d w i0 i1 m) :=
  have k : Keeps A m₀ (presented g d (m.at w)) := (h.at w ht).unitMod hu _
  .ite (fun _ => k) fun _ => takeRecord_keeps k hu

theorem doIportIsolationEnd_taken (h : iportIsolated (.tussock g) m = false)
    (hv : (m.unit (.tussock g)).iportVld ≠ (m.unit (.tussock g)).iportTkn) :
    doIportIsolationEnd g w i0 i1 m = takeRecord (.tussock g) (m.unit (.tussock g)).iportD w i0 i1 (m.at w) :=
  if_pos (by rw [show iportIsolated (.tussock g) (m.at w) = false from h]; simpa using hv)

theorem ready_within : Within { units := (· == .tussock g), time := true } m (ready g d w m) := by
  unfold ready answeredPort presented
  exact (((Within.refl _ m).at w rfl).modUnit _ _ (beq_self_eq_true _)).modUnit _ _ (beq_self_eq_true _)

theorem ready_handshake : ((ready g d w m).unit (.tussock g)).handshake =
    (!(m.unit (.tussock g)).iportVld, !(m.unit (.tussock g)).iportTkn) := by rw [ready_unit]; rfl

theorem ready_intents : ((ready g d w m).unit (.tussock g)).intents = (m.unit (.tussock g)).intents := by rw [ready_unit]

theorem presented_intents :
    ((presented g d (m.at w)).unit (.tussock g)).intents = (m.unit (.tussock g)).intents := by
  rw [presented, Wafer.unit_modUnit, Wafer.unit_at]

end

/-! ### Entries that leave the table (R158) -/

/-- As many entries leave the table as are found. -/
theorem length_filter_gone (l : List IntentEntry) (gone : IntentEntry → Bool) :
    (l.filter gone).length = l.length - (l.filter fun e => !gone e).length := by
  have := List.length_eq_length_filter_add (l := l) gone
  omega

/-- Entries leave the table under one outcome of the log and are counted. -/
def entriesGone (u : UnitId) (outcome : Nat) (f : Fld) (gone : IntentEntry → Bool) (m : Wafer) : Wafer :=
  ((logEntries u outcome ((m.unit u).intents.filter gone) m).set u.base f
    ((logEntries u outcome ((m.unit u).intents.filter gone) m).get u.base f + ((m.unit u).intents.filter gone).length)).modUnit u
    fun x => { x with intents := x.intents.filter fun e => !gone e }

/-- What stays in the table, and the count. -/
theorem entriesGone_lifted {f : Fld} (hf : f.off < 0x600 ∧ f.lo + f.wid ≤ 32 ∧ DrivenField f) (outcome : Nat)
    (gone : IntentEntry → Bool) (m : Wafer) :
    ((liftEval u 1 (liftEval u 0 (entriesGone u outcome f gone m))).unit u).intents =
        (m.unit u).intents.filter (fun e => !gone e) ∧
      (liftEval u 1 (liftEval u 0 (entriesGone u outcome f gone m))).get u.base f =
        (m.get u.base f + ((m.unit u).intents.length - ((m.unit u).intents.filter fun e => !gone e).length)) % 2 ^ f.wid := by
  obtain ⟨h6, hw, hd⟩ := hf
  have k : Driven u (entriesGone u outcome f gone m) (liftEval u 1 (liftEval u 0 (entriesGone u outcome f gone m))) :=
    ((Driven.refl u _).liftEval (by decide)).liftEval (by decide)
  constructor
  · rw [k.keeps UnitSt.intents, entriesGone, Wafer.unit_modUnit, Wafer.unit_set, logEntries_unit]
  · rw [k.get f hd, entriesGone, Wafer.get_modUnit, Wafer.get_set _ _ _ _ hw, logEntries_get h6, length_filter_gone]

theorem observeIntents_table (seen : IntentEntry → Bool) (m : Wafer) :
    ((observeIntents u seen m).unit u).intents = (m.unit u).intents.filter (fun e => !(e.lifted && seen e)) ∧
      (observeIntents u seen m).get u.base TSK_IHIT.HITS = (m.get u.base TSK_IHIT.HITS + ((m.unit u).intents.length -
        ((m.unit u).intents.filter fun e => !(e.lifted && seen e)).length)) % 2 ^ 32 :=
  entriesGone_lifted (f := TSK_IHIT.HITS) ⟨by decide, by decide, by decide, by decide⟩ 1 (fun e => e.lifted && seen e) m

/-- The step of an entry is seen in the mean current of its rail. -/
def observed (q : Fin 2) (i40 : Int) (e : IntentEntry) : Bool :=
  e.rail = q.val ∧ (if e.stepUp then e.liftCurrent + 25 * (e.mag : Int) ≤ i40 else i40 ≤ e.liftCurrent - 25 * (e.mag : Int))

theorem doIntentStepObserved_eq (g : Fin 4096) (q : Fin 2) (i40 : Int) (m : Wafer) :
    doIntentStepObserved g q i40 m = observeIntents (.tussock g) (observed q i40) m := rfl

theorem observed_iff (q : Fin 2) (i40 : Int) (e : IntentEntry) : (e.lifted && observed q i40 e) = true ↔
    e.lifted = true ∧ e.rail = q ∧ (e.stepUp = true → e.liftCurrent + 25 * (e.mag : Int) ≤ i40) ∧
      (e.stepUp = false → i40 ≤ e.liftCurrent - 25 * (e.mag : Int)) := by
  unfold observed
  cases e.stepUp <;> simp

/-- The expiry of an entry in LIFT has come. -/
def expired (g : Fin 4096) (w : Nat) (m : Wafer) (e : IntentEntry) : Bool :=
  e.lifted && e.effective + 8 * m.get (tus g) TSK_ICFG.EXP ≤ w

theorem doIntentExpire_eq (g : Fin 4096) (w : Nat) (m : Wafer) : doIntentExpire g w m =
    liftEval (.tussock g) 1 (liftEval (.tussock g) 0 (entriesGone (.tussock g) 2 TSK_IMISS.MISSES (expired g w m) (m.at w))) := rfl

theorem doIntentExpire_table (g : Fin 4096) (w : Nat) (m : Wafer) :
    ((doIntentExpire g w m).unit (.tussock g)).intents =
        (m.unit (.tussock g)).intents.filter (fun e => !expired g w m e) ∧
      (doIntentExpire g w m).get (tus g) TSK_IMISS.MISSES = (m.get (tus g) TSK_IMISS.MISSES + ((m.unit (.tussock g)).intents.length -
        ((m.unit (.tussock g)).intents.filter fun e => !expired g w m e).length)) % 2 ^ 32 :=
  entriesGone_lifted (u := .tussock g) (f := TSK_IMISS.MISSES) ⟨by decide, by decide, by decide, by decide⟩ 2 (expired g w m) (m.at w)

theorem doIntentExpire_keeps {g : Fin 4096} {w : Nat} (h : Keeps A m₀ m) (hu : UnitIn A (.tussock g)) (ht : A.time = true) :
    Keeps A m₀ (doIntentExpire g w m) := by
  rw [doIntentExpire_eq]
  have k : Keeps A m₀ (entriesGone (.tussock g) 2 TSK_IMISS.MISSES (expired g w m) (m.at w)) := by
    unfold entriesGone
    exact ((logEntries_keeps (h.at w ht) hu _ _).unitSet hu _ (by decide)).unitMod hu _
  exact liftEval_keeps (liftEval_keeps k hu (by decide)) hu (by decide)

/-! ### The pre-lift of a rail (R156, R157) -/

theorem preLift_tussock (g : Fin 4096) (q : Nat) (m : Wafer) : preLift (.tussock g) q m = ((m.unit (.tussock g)).rail q).lift := rfl

theorem setLift_within (h : Within A m₀ m) (hu : A.units u = true) (h0 : (u.base, TSK_ISTAT.PL0) ∈ A.fields)
    (h1 : (u.base, TSK_ISTAT.PL1) ∈ A.fields) (q : Nat) (v : Int) : Within A m₀ (setLift u q v m) := by
  have hf : (u.base, if q = 0 then TSK_ISTAT.PL0 else TSK_ISTAT.PL1) ∈ A.fields := by
    split
    · exact h0
    · exact h1
  unfold setLift leaveVset Wafer.modRail
  exact ((h.modUnit u _ hu).modUnit u _ hu).set _ _ _ (.inl hf)

/-- A pre-lift takes a value, and the clamp flag is looked at. -/
def liftMoved (g : Fin 4096) (q : Fin 2) (v : Int) (m : Wafer) : Wafer :=
  liftClampEval (.tussock g) q (setLift (.tussock g) q v m)

theorem liftClampEval_unit (q : Nat) (m : Wafer) : (liftClampEval u q m).unit u = m.unit u := by
  unfold liftClampEval
  split
  · rfl
  · rfl

theorem setLift_unit (q : Nat) (v : Int) (m : Wafer) : (setLift u q v m).unit u =
    ((leaveVset u q m).unit u).setRail q { ((leaveVset u q m).unit u).rail q with lift := v } := by
  unfold setLift
  rw [Wafer.unit_set, Wafer.modRail, Wafer.unit_modUnit]

theorem liftMoved_preLift (g : Fin 4096) (q : Fin 2) (v : Int) (m : Wafer) :
    preLift (.tussock g) q (liftMoved g q v m) = v := by
  rw [preLift_tussock, liftMoved, liftClampEval_unit, setLift_unit, UnitSt.rail_setRail]

/-- What a step of a pre-lift may change. -/
def liftArea (g : Fin 4096) (q : Fin 2) : Area :=
  { fields := [(tus g, TSK_ISTAT.PL0), (tus g, TSK_ISTAT.PL1), (tus g, TSK_RSTAT.VSET_CLAMP q)], units := (· == .tussock g) }

theorem liftMoved_within (g : Fin 4096) (q : Fin 2) (v : Int) (m : Wafer) : Within (liftArea g q) m (liftMoved g q v m) := by
  have hs : Within (liftArea g q) m (setLift (.tussock g) q v m) :=
    setLift_within (.refl _ m) (beq_self_eq_true (UnitId.tussock g)) (.head _) (.tail _ (.head _)) q v
  unfold liftMoved liftClampEval
  split
  · exact hs.set _ _ _ (.inl (.tail _ (.tail _ (.head _))))
  · exact hs

section
variable {g : Fin 4096} {q : Fin 2}

theorem doPreliftDecayStep_falls (h : liftTarget (.tussock g) q m < preLift (.tussock g) q m) :
    doPreliftDecayStep g q m = liftMoved g q (max (liftTarget (.tussock g) q m)
      (preLift (.tussock g) q m - 4 * (max 1 (m.get (tus g) (TSK_SLEW.SLEW q)) : Nat))) m := if_pos h

theorem doPreliftDecayStep_rises (h : preLift (.tussock g) q m < liftTarget (.tussock g) q m) :
    doPreliftDecayStep g q m = liftMoved g q (min (liftTarget (.tussock g) q m)
      (preLift (.tussock g) q m + 4 * (max 1 (m.get (tus g) (TSK_SLEW.SLEW q)) : Nat))) m :=
  (if_neg (by omega)).trans (if_pos h)

end

/-- Settles O15, clause by clause. -/
theorem intents : Obligations.Intents := by
  unfold Obligations.Intents
  have hU (g : Fin 4096) : UnitIn { unitArea (.tussock g) with time := true } (.tussock g) :=
    ⟨(unitArea_unitIn _).block, (unitArea_unitIn _).hidden⟩
  refine ⟨?_, ?_, ?_, ?_, ?_, ?_, ?_, ?_, ?_, ?_, ?_, ?_, ?_, ?_, ?_⟩
  · intro m g d w i0 i1 hi
    refine .of_effect _ (fun _ => rfl) ?_ ?_
    all_goals rw [doIntentRecord_isolated hi]
    · exact ((Within.refl _ m).at w rfl).modUnit _ _ (beq_self_eq_true _)
    · rw [presented, Wafer.unit_modUnit]
      exact ⟨rfl, rfl, rfl⟩
  · intro m g d w i0 i1 hi h
    refine .of_effect _ (fun _ => rfl) (doIntentRecord_keeps (.refl _ m) (hU g) rfl).within ?_
    rw [doIntentRecord_taken hi, takeRecord_malformed h, ← ready]
    obtain ⟨hc, hf, hx, hp⟩ := recordFlagged_gives (u := .tussock g) (c := TSK_IREJ.MALF_CNT) (f := TSK_ISTAT.MALF)
      (by decide) (by decide) 22 5 (getBits d 28 4) (getBits d 0 8) (ready g d w m)
    exact ⟨hc, hf, hx.trans ready_intents, (UnitSt.handshake_eq (hp.trans ready_handshake)).2⟩
  · intro m g d w i0 i1 hi h3 hr hm
    refine .of_effect _ (fun _ => rfl) (doIntentRecord_keeps (.refl _ m) (hU g) rfl).within ?_
    rw [doIntentRecord_taken hi, takeRecord_marker ⟨h3, hr, fun _ => by omega⟩ hm, ← ready, recordCounted_unit, ready_unit]
    exact ⟨recordCounted_get (by decide) _ _ _, rfl, rfl⟩
  · intro m g d w i0 i1 hi ht hm
    refine .of_effect _ (fun _ => rfl) ?_ ?_
    all_goals rw [doIntentRecord_taken hi, takeRecord_swath hm ht, ← ready]
    · exact ready_within.modUnit _ _ (beq_self_eq_true _)
    · rw [Wafer.unit_modUnit, ready_unit]
  · intro m g d w i0 i1 hi ht h0 h8
    refine .of_effect _ (fun _ => rfl) ?_ ?_
    all_goals rw [doIntentRecord_taken hi, takeRecord_context ⟨by omega, by omega, fun _ => h8⟩ (by omega) ht, ← ready]
    · exact ready_within.modUnit _ _ (beq_self_eq_true _)
    · rw [Wafer.unit_modUnit, ready_unit]
      exact contextKept_later d w _
  · intro m g d w i0 i1 hi ht hr hm hs
    refine .of_effect _ (fun _ => rfl) (doIntentRecord_keeps (.refl _ m) (hU g) rfl).within ?_
    rw [doIntentRecord_taken hi, takeRecord_idle (m := presented g d (m.at w)) hr hm ht hs, ← ready, recordCounted_unit, ready_unit]
    exact ⟨recordCounted_get (by decide) _ _ _, rfl⟩
  · intro m g d w i0 i1 hi ht hr hm hs hl
    refine .of_effect _ (fun _ => rfl) (doIntentRecord_keeps (.refl _ m) (hU g) rfl).within ?_
    rw [doIntentRecord_taken hi, takeRecord_entry (m := presented g d (m.at w)) hr hm ht hs (by rw [presented_intents]; exact hl),
      ← ready, liftDue_intents, Wafer.unit_modUnit, ready_unit]
    refine ⟨by simp, _, List.mem_map_of_mem (List.mem_append_right _ (List.mem_singleton_self _)), ?_⟩
    rcases risen_eq (.tussock g) w i0 i1 _ (stepEntry d w) with k | k
    · rw [k]
      exact ⟨rfl, rfl, rfl, rfl, rfl, rfl⟩
    · rw [k]
      exact ⟨rfl, rfl, rfl, rfl, rfl, rfl⟩
  · intro m g d w i0 i1 hi ht hr hm hs hl
    refine .of_effect _ (fun _ => rfl) (doIntentRecord_keeps (.refl _ m) (hU g) rfl).within ?_
    rw [doIntentRecord_taken hi, takeRecord_full (m := presented g d (m.at w)) hr hm ht hs (by rw [presented_intents]; exact hl), ← ready]
    obtain ⟨hc, hf, hx, hp⟩ := recordFlagged_gives (u := .tussock g) (c := TSK_IREJ.FULL_CNT) (f := TSK_ISTAT.FULL)
      (by decide) (by decide) 21 4 (getBits d 28 4) (getBits d 0 8) (ready g d w m)
    exact ⟨hc, hf, hx.trans ready_intents⟩
  · intro m g w i0 i1 hi hv ht hm
    refine .of_effect _ (fun _ => rfl) ?_ ?_
    all_goals rw [doIportIsolationEnd_taken hi hv, takeRecord_swath hm ht]
    · exact (((Within.refl _ m).at w rfl).modUnit _ _ (beq_self_eq_true _)).modUnit _ _ (beq_self_eq_true _)
    · rw [Wafer.unit_modUnit, answeredPort, Wafer.unit_modUnit, Wafer.unit_at]
      exact ⟨(Bool.eq_not.2 hv).symm, rfl⟩
  · intro m g w i0 i1 hi hv
    refine .of_effect _ (fun _ => rfl) ?_ ?_
    all_goals rw [doIportIsolationEnd_taken hi hv]
    · exact (takeRecord_keeps ((Keeps.refl _ m).at w rfl) (hU g)).within
    · have h := (takeRecord_handshake (u := .tussock g) (d := (m.unit (.tussock g)).iportD) (now := w) (i0 := i0) (i1 := i1)
        (m := m.at w)).trans answeredPort_handshake
      rw [Wafer.unit_at] at h
      obtain ⟨hd, ht⟩ := UnitSt.handshake_eq h
      exact ⟨ht.trans (Bool.eq_not.2 hv).symm, hd⟩
  · intro m g w i0 i1
    refine .of_effect _ (fun _ => rfl) (liftDue_keeps ((Keeps.refl _ m).at w rfl) (hU g) w i0 i1).within ?_
    rw [show doIntentLift g w i0 i1 m = liftDue (.tussock g) w i0 i1 (m.at w) from rfl, liftDue_intents]
    refine ⟨fun e he ht => ?_, by simp⟩
    obtain ⟨x, -, rfl⟩ := List.mem_map.1 he
    exact risen_lifted (m := m.at w) ht
  · intro m g q i40
    refine .of_effect _ (fun _ => rfl) (observeIntents_keeps (.refl _ m) (unitArea_unitIn _) _).within ?_
    obtain ⟨hi, hh⟩ := observeIntents_table (u := .tussock g) (observed q i40) m
    have hs (e : IntentEntry) := observed_iff q i40 e
    rw [doIntentStepObserved_eq, hi]
    refine ⟨fun e he => ?_, fun e he => ?_, hh⟩
    · obtain ⟨hm, hn⟩ := List.mem_filter.1 he
      exact ⟨hm, fun h => by simp [(hs e).2 h] at hn⟩
    · by_cases h : (e.lifted && observed q i40 e) = true
      · exact .inr ((hs e).1 h)
      · exact .inl (List.mem_filter.2 ⟨he, by rw [Bool.eq_false_of_not_eq_true h]; rfl⟩)
  · intro m g w
    refine .of_effect _ (fun _ => rfl) (doIntentExpire_keeps (.refl _ m) (hU g) rfl).within ?_
    obtain ⟨hi, hh⟩ := doIntentExpire_table g w m
    rw [hi]
    refine ⟨fun e he hl => ?_, hh, fun e he => ?_⟩
    · have h := (List.mem_filter.1 he).2
      simpa [expired, hl] using h
    · by_cases h : expired g w m e = true
      · exact .inr (by simpa [expired] using h)
      · exact .inl (List.mem_filter.2 ⟨he, by simpa using h⟩)
  · intro m g q h
    refine .of_effect _ (fun _ => rfl) ?_ ?_
    all_goals rw [doPreliftDecayStep_falls h]
    · exact liftMoved_within g q _ m
    · exact liftMoved_preLift g q _ m
  · intro m g q h
    refine .of_effect _ (fun _ => rfl) ?_ ?_
    all_goals rw [doPreliftDecayStep_rises h]
    · exact liftMoved_within g q _ m
    · exact liftMoved_preLift g q _ m

end Sys2Proof.Machine
end

section
/-! What a Swath spoke, the mesh and the windows of telemetry bring: the copy of a frame or record that is taken,
the flag of a spoke, a packet sent, and a window that latches. -/

namespace Sys2Proof.Machine

open Sys2Proof.Laws

variable {A : Area} {u : UnitId} {p : Nat} {m₀ m : Wafer}

/-! ### A message stays sent while a Sward counts -/

namespace Reacts

variable {a : Nat}

theorem modSward (h : Reacts a m₀ m) (p : Nat) (f : SwardSt → SwardSt) : Reacts a m₀ (m.modSward p f) := ⟨h.word, h.out⟩

theorem queueReport (h : Reacts a m₀ m) (p : Nat) (e : FaultEvent) : Reacts a m₀ (queueReport p e m) :=
  .ite (.send (.modSward h p _) _ _ _) (.modSward h p _)

section
variable (ha : a < swd p)
include ha

theorem swardSet (h : Reacts a m₀ m) (f : Fld) (v : Nat) : Reacts a m₀ (m.set (swd p) f v) := h.putWord _ (by omega)

theorem setCounter (h : Reacts a m₀ m) (k v : Nat) : Reacts a m₀ (setCounter p k v m) := (h.swardSet ha _ _).swardSet ha _ _

theorem overflowMark (h : Reacts a m₀ m) (k : Nat) : Reacts a m₀ (overflowMark p k m) := by
  unfold Machine.overflowMark
  extract_lets b m1 m3 m4 m5 m6 m7
  have k1 : Reacts a m₀ m1 := h.putWord _ (by omega)
  have k3 : Reacts a m₀ m3 := .ite (k1.queueReport _ _) k1
  have k4 : Reacts a m₀ m4 := .ite (k3.swardSet ha _ _) k3
  have k7 : Reacts a m₀ m7 :=
    ((((k4.swardSet ha _ _).swardSet ha _ _).swardSet ha _ _).swardSet ha _ _).swardSet ha _ _
  exact .ite ((k7.swardSet ha _ _).modSward p _) k3

theorem count (h : Reacts a m₀ m) (k n : Nat) (e : EventAttr) : Reacts a m₀ (count p k n e m) := by
  have hb (n : Wafer) (h : Reacts a m₀ n) : Reacts a m₀ (bumpOverflows p n).2 := h.setCounter ha _ _
  have hc := h.setCounter ha k (wrapCounter (counterPreload p k m) (counterValue p k m + n))
  have ho := hc.overflowMark ha k
  exact .ite h (.ite hc (.ite (.ite (Reacts.overflowMark ha (hb _ (hb _ ho)) _) (hb _ ho)) ho))

theorem tally (h : Reacts a m₀ m) (k : Nat) : Reacts a m₀ (tally p k m) := h.count ha _ _ _

end

end Reacts

theorem swd_pos (p : Nat) : 0 < swd p := by
  unfold swd
  omega

section
variable {x y : SwardSt} (h : x.besideReports = y.besideReports)
include h

theorem SwardSt.inbox_beside : x.inbox = y.inbox := show x.besideReports.inbox = _ by rw [h]; rfl

theorem SwardSt.got_beside : x.got = y.got := show x.besideReports.got = _ by rw [h]; rfl

end

namespace Counts

theorem mesh (h : Counts p m₀ m) : (m.sward p).mesh = (m₀.sward p).mesh :=
  show (m.sward p).besideReports.mesh = _ by rw [h.hidden]; rfl

theorem agg (h : Counts p m₀ m) : (m.sward p).agg = (m₀.sward p).agg :=
  show (m.sward p).besideReports.agg = _ by rw [h.hidden]; rfl

end Counts

/-! ### A downlink frame (R205) -/

/-- What a Sward sends passes its CRC-16. -/
theorem spokeFrame_good {k : Nat} {b : BitVec 1064} (h : spokeFrame p k m = some b) : frameGood b = true := by
  unfold spokeFrame at h
  obtain ⟨d, -, rfl⟩ := Option.map_eq_some_iff.1 h
  exact frameGood_frameBits _ _

theorem copies_bad {n : Nat} {good : BitVec n → Bool} {b : BitVec n} {a : Option (BitVec n)}
    (h : (a.all fun x => !good (b ^^^ x)) = true) : ((copyOf b a).all fun c => !good c) = true := by
  cases a
  · rfl
  · exact h

theorem firstGood_none {n : Nat} {good : BitVec n → Bool} {a b : Option (BitVec n)} (ha : (a.all fun c => !good c) = true)
    (hb : (b.all fun c => !good c) = true) : firstGood good a b = none := by
  rw [firstGood_second good a b ha]
  cases b
  · rfl
  · simpa [Option.filter] using hb

theorem frameTaken_none {a c : Option (BitVec 1064)} (h : ((spokeFrame u.part (spokeOf u.loc) m).all fun b =>
    (a.all fun x => !frameGood (b ^^^ x)) && (c.all fun x => !frameGood (b ^^^ x))) = true) : frameTaken u (a, c) m = none := by
  unfold frameTaken
  cases hb : spokeFrame u.part (spokeOf u.loc) m
  · rfl
  · rw [hb, Option.all_some, Bool.and_eq_true] at h
    exact firstGood_none (copies_bad h.1) (copies_bad h.2)

theorem frameTaken_first {b : BitVec 1064} (h : spokeFrame u.part (spokeOf u.loc) m = some b) (c : Option (BitVec 1064)) :
    frameTaken u (some 0, c) m = some b := by
  unfold frameTaken
  rw [h, Option.bind_some, copyOf_undisturbed]
  exact firstGood_first _ _ _ (spokeFrame_good h)

theorem frameTaken_second {b e : BitVec 1064} {a : Option (BitVec 1064)} (h : spokeFrame u.part (spokeOf u.loc) m = some b)
    (ha : (a.all fun c => !frameGood (b ^^^ c)) = true) (he : frameGood (b ^^^ e) = true) :
    frameTaken u (a, some e) m = some (b ^^^ e) := by
  unfold frameTaken
  rw [h, Option.bind_some, firstGood_second _ _ _ (copies_bad ha), copyOf, Option.map_some, Option.filter_some, if_pos he]

theorem doDownlinkFrameReceive_taken {c : Option (BitVec 1064) × Option (BitVec 1064)} {b : BitVec 1064}
    (hr : swathRuns u m = true) (h : frameTaken u c m = some b) : doDownlinkFrameReceive u c m =
      m.modUnit u fun x => { x with frame := some (readFrame (stopOf u.loc) b) } := by
  unfold doDownlinkFrameReceive
  rw [hr, h]
  rfl

theorem doDownlinkFrameReceive_bad {c : Option (BitVec 1064) × Option (BitVec 1064)} (hr : swathRuns u m = true)
    (h : frameTaken u c m = none) :
    Counts u.part (m.incSat u.base TSK_SWATH.BAD_CNT) (doDownlinkFrameReceive u c m) := by
  unfold doDownlinkFrameReceive
  rw [hr, h, if_neg (by decide)]
  dsimp only
  cases Store.get noSent ((m.incSat u.base TSK_SWATH.BAD_CNT).sward u.part).accSent u.loc with
  | some a => exact Counts.count (.refl _ _) (k := 64) (by decide) _ _
  | none => exact Counts.refl _ _

/-- Where a Sward counts is its own. -/
theorem Counts.into {n : Wafer} (h : Counts p m n) (hp : SwardIn A p) : Within A m n :=
  h.within.mono (fun b f hb => by
      rcases hb with ⟨e, he, -⟩ | ⟨e, he, h1, h2⟩
      · exact absurd he List.not_mem_nil
      · rw [List.mem_singleton.1 he] at h1 h2
        exact .inr ⟨_, hp.block, by dsimp only at h1 h2 ⊢; omega, by dsimp only at h1 h2 ⊢; omega⟩)
    (fun _ e => by simp [countArea] at e) (fun q e => by rw [show q = p by simpa [countArea] using e]; exact hp.hidden)
    (fun e => by simp [countArea] at e) (fun _ => hp.sends) (fun e => by simp [countArea] at e)

/-! ### An uplink record (R208, R209) -/

theorem spokeOf_lt (u : UnitId) : spokeOf u.loc < 8 := by
  have := u.loc_lt
  unfold spokeOf
  split
  · omega
  · omega

/-- The flag of a spoke's error rises. -/
def spokeFlagged (p : Nat) (f : Fld) (s : Nat) (m : Wafer) : Wafer := m.set (swd p) f (m.get (swd p) f + 2 ^ s)

theorem spokeError_eq (p : Nat) (f : Fld) (s : Nat) (m : Wafer) : spokeError p f s m =
    if (m.get (swd p) f).testBit s then m
    else swardFault p 25 ((spokeFlagged p f s m).word (swd p + f.off)).toNat 0 (spokeFlagged p f s m) := rfl

theorem spokeError_flag {f : Fld} {s : Nat} (hf : f.lo + f.wid ≤ 32) (hs : s < f.wid) (m : Wafer) :
    ((spokeError p f s m).get (swd p) f).testBit s = true := by
  rw [spokeError_eq]
  split
  · assumption
  · rename_i h
    rw [swardFault_get, spokeFlagged, Wafer.get_set _ _ _ _ hf, Nat.testBit_mod_two_pow, Nat.add_comm, Nat.testBit_two_pow_add_eq,
      Bool.eq_false_of_not_eq_true h]
    simpa using hs

theorem spokeError_hidden (f : Fld) (s : Nat) (m : Wafer) :
    ((spokeError p f s m).sward p).besideReports = (m.sward p).besideReports := by
  rw [spokeError_eq]
  split
  · rfl
  · rw [(Counts.swardFault (.refl p (spokeFlagged p f s m)) _ _ _).hidden, spokeFlagged, Wafer.sward_set]

theorem spokeError_keeps (h : Keeps A m₀ m) (hp : SwardIn A p) {f : Fld} (hf : f.off < 0x40000) (s : Nat) :
    Keeps A m₀ (spokeError p f s m) :=
  .ite (fun _ => h) fun _ => swardFault_keeps (h.swardSet hp _ hf) hp _ _ _

/-- A record's bad copies, counted and flagged. -/
def copiesCounted (u : UnitId) (a b : Option (BitVec 200)) (m : Wafer) : Wafer :=
  let bad := bit (a.any fun c => !recordOk c) + bit (b.any fun c => !recordOk c)
  if 0 < bad then spokeError u.part SWD_SWERR.CRC_ERR (spokeOf u.loc) (count u.part 17 bad (unitAttr u) m) else m

theorem copiesCounted_hidden (a b : Option (BitVec 200)) (m : Wafer) :
    ((copiesCounted u a b m).sward u.part).besideReports = (m.sward u.part).besideReports := by
  unfold copiesCounted
  extract_lets bad
  split
  · rw [spokeError_hidden]
    exact (Counts.count (.refl _ m) (by decide) _ _).hidden
  · rfl

theorem copiesCounted_flag {a b : Option (BitVec 200)}
    (h : (a.any fun c => !recordOk c) = true ∨ (b.any fun c => !recordOk c) = true) (m : Wafer) :
    ((copiesCounted u a b m).get (swd u.part) SWD_SWERR.CRC_ERR).testBit (spokeOf u.loc) = true := by
  unfold copiesCounted
  extract_lets bad
  have hb : 0 < bad := by
    rcases h with h | h
    · show 0 < bit _ + bit _
      rw [h]
      exact Nat.add_pos_left (by decide) _
    · show 0 < bit _ + bit _
      rw [h]
      exact Nat.add_pos_right _ (by decide)
  rw [if_pos hb]
  exact spokeError_flag (by decide) (spokeOf_lt u) _

theorem copiesCounted_keeps (h : Keeps A m₀ m) (hp : SwardIn A u.part) (a b : Option (BitVec 200)) :
    Keeps A m₀ (copiesCounted u a b m) :=
  .ite (fun _ => spokeError_keeps (count_keeps h hp (by decide) _ _) hp (by decide) _) fun _ => h

/-- A record that came is taken into the Sward's inbox. -/
def recordTaken (u : UnitId) (c : BitVec 200) (m : Wafer) : Wafer :=
  m.modSward u.part fun x =>
    { x with inbox := Store.set noRec x.inbox u.loc (readRecord c), got := if x.got.contains u.loc then x.got else x.got ++ [u.loc] }

theorem recordTaken_got (c : BitVec 200) (m : Wafer) : ((recordTaken u c m).sward u.part).got.contains u.loc = true := by
  rw [recordTaken, Wafer.sward_modSward]
  dsimp only
  split
  · assumption
  · simp

theorem recordTaken_inbox (c : BitVec 200) (m : Wafer) :
    Store.get noRec ((recordTaken u c m).sward u.part).inbox u.loc = readRecord c := by
  rw [recordTaken, Wafer.sward_modSward, Store.get_set_same]

section
variable {r : UpRecord} {a b : Option (BitVec 200)}

theorem doUplinkRecordReceive_taken {c : BitVec 200} (hr : (m.unit u).uplink = some r) (hs : (m.sward u.part).rst = false)
    (hc : firstGood recordOk (copyOf (recordBits r) a) (copyOf (recordBits r) b) = some c) : doUplinkRecordReceive u a b m =
      recordTaken u c (copiesCounted u (copyOf (recordBits r) a) (copyOf (recordBits r) b) m) := by
  unfold doUplinkRecordReceive
  rw [hr]
  dsimp only
  rw [if_neg (ne_true_of_eq_false hs), hc]
  rfl

theorem doUplinkRecordReceive_lost (hr : (m.unit u).uplink = some r) (hs : (m.sward u.part).rst = false)
    (hc : firstGood recordOk (copyOf (recordBits r) a) (copyOf (recordBits r) b) = none) : doUplinkRecordReceive u a b m =
      copiesCounted u (copyOf (recordBits r) a) (copyOf (recordBits r) b) m := by
  unfold doUplinkRecordReceive
  rw [hr]
  dsimp only
  rw [if_neg (ne_true_of_eq_false hs), hc]
  rfl

/-- A copy that came without an error, the first of the good ones. -/
theorem firstGood_undisturbed (h : a = some 0 ∨ (b = some 0 ∧ (a.all fun c => !recordOk (recordBits r ^^^ c)) = true)) :
    firstGood recordOk (copyOf (recordBits r) a) (copyOf (recordBits r) b) = some (recordBits r) := by
  have hg := recordOk_recordBits r
  rcases h with rfl | ⟨rfl, h⟩
  · rw [copyOf_undisturbed]
    exact firstGood_first _ _ _ hg
  · rw [firstGood_second _ _ _ (copies_bad h), copyOf_undisturbed, Option.filter_some, if_pos hg]

theorem doUplinkRecordReceive_idle (h : (m.unit u).uplink = none ∨ (m.sward u.part).rst = true) :
    doUplinkRecordReceive u a b m = m := by
  unfold doUplinkRecordReceive
  cases hu : (m.unit u).uplink with
  | none => rfl
  | some r => exact if_pos (h.resolve_left (by rw [hu]; exact Option.some_ne_none r))

/-- A copy that came, of copies that are all bad, is a bad one. -/
theorem copies_flagged {x : Option (BitVec 200)} (h : (x.all fun c => !recordOk (recordBits r ^^^ c)) = true)
    (hx : x.isSome = true) : ((copyOf (recordBits r) x).any fun c => !recordOk c) = true := by
  obtain ⟨c, rfl⟩ := Option.isSome_iff_exists.1 hx
  exact h

theorem copyOf_any (x : Option (BitVec 200)) :
    ((copyOf (recordBits r) x).any fun c => !recordOk c) = x.any fun c => !recordOk (recordBits r ^^^ c) := by
  rw [copyOf, Option.any_map]

end

/-! ### A telemetry window (R366) -/

/-- The mean of one value over a window, where the unit has a register for it. -/
def putMean (u : UnitId) (n : Nat) (m : Wafer) (e : Option Fld × Int) : Wafer :=
  match e.1 with
  | some d => m.setI u.base d (windowMean n e.2)
  | none => m

/-- A telemetry window that has latched. -/
def telLatched (u : UnitId) (m : Wafer) : Wafer :=
  (((((telFields u).zip (m.unit u).telSums).foldl (putMean u (m.get u.base TSK_TSTAT.WIN_N)) m).setB u.base TSK_TSTAT.STALE
    ((m.unit u).telBad || decide ((m.unit u).telN < 2 ^ m.get u.base TSK_TSTAT.WIN_N))).inc u.base TSK_TSTAT.WSEQ).modUnit u
    fun x => { x with telN := 0, telSums := [], telBad := false }

theorem telLatch_eq (u : UnitId) (f : Nat) (m : Wafer) : telLatch u f m =
    if (m.unit u).telWait ∨ (m.unit u).telN = 0 ∨ f ≤ (m.unit u).telFrom ∨ f % 2 ^ m.get u.base TSK_TSTAT.WIN_N ≠ 0 then m
    else telLatched u m := rfl

/-- The registers of a window's means: neither the window's own nor those of peaks. -/
def MeanField (d : Fld) : Bool :=
  decide (0x620 ≤ d.off ∧ d.off < 0x1000 ∧ d.off ≠ 0x62C ∧ d.off ≠ 0x630 ∧ d.off ≠ 0x64C ∧ d.off ≠ 0x650)

theorem telFields_mean {d : Fld} (h : some d ∈ telFields u) : MeanField d = true := by
  have hall : ((telFields u).all fun e => e.all MeanField) = true := by
    unfold telFields
    cases u.isVerge
    · decide
    · decide
  exact List.all_eq_true.1 hall _ h

/-- Fields beside the registers of means. -/
def BesideMeans (f : Fld) : Prop := f.off < 0x620 ∨ f.off = 0x62C ∨ f.off = 0x630 ∨ f.off = 0x64C ∨ f.off = 0x650

theorem putMeans_get {n : Nat} {f : Fld} (hf : BesideMeans f) (l : List (Option Fld × Int)) (hl : ∀ e ∈ l, e.1 ∈ telFields u)
    (m : Wafer) : (l.foldl (putMean u n) m).get u.base f = m.get u.base f := by
  induction l generalizing m with
  | nil => rfl
  | cons e t ih =>
    refine (ih (fun x hx => hl x (List.mem_cons_of_mem _ hx)) _).trans ?_
    have he := hl e List.mem_cons_self
    unfold putMean
    split
    · rename_i d hd
      have hd := telFields_mean (hd ▸ he)
      unfold MeanField at hd
      unfold BesideMeans at hf
      exact m.get_set_beside _ (.inl (by simp at hd; omega))
    · rfl

theorem putMeans_unit (n : Nat) (l : List (Option Fld × Int)) (m : Wafer) : (l.foldl (putMean u n) m).unit u = m.unit u := by
  induction l generalizing m with
  | nil => rfl
  | cons e t ih =>
    refine (ih _).trans ?_
    unfold putMean
    split
    · exact m.unit_set _ _ _ _
    · rfl

theorem telLatched_get {f : Fld} (hf : BesideMeans f) (h4 : f.off ≠ 0x604) : (telLatched u m).get u.base f = m.get u.base f := by
  rw [telLatched, Wafer.get_modUnit, Wafer.inc, Wafer.get_set_beside _ _ (.inl (Ne.symm h4)), Wafer.setB,
    Wafer.get_set_beside _ _ (.inl (Ne.symm h4)), putMeans_get hf _ fun e he => (List.of_mem_zip he).1]

theorem telLatched_seq : (telLatched u m).get u.base TSK_TSTAT.WSEQ = (m.get u.base TSK_TSTAT.WSEQ + 1) % 2 ^ 16 := by
  have h : BesideMeans TSK_TSTAT.WSEQ := .inl (by decide)
  rw [telLatched, Wafer.get_modUnit, Wafer.inc, Wafer.get_set _ _ _ _ (by decide), Wafer.setB,
    Wafer.get_set_beside _ _ (by decide), putMeans_get h _ fun e he => (List.of_mem_zip he).1]

theorem telLatched_stale : (telLatched u m).on u.base TSK_TSTAT.STALE =
    ((m.unit u).telBad || decide ((m.unit u).telN < 2 ^ m.get u.base TSK_TSTAT.WIN_N)) := by
  rw [telLatched, Wafer.on, Wafer.get_modUnit, ← Wafer.on, Wafer.inc, Wafer.on_set_ne _ _ (by decide),
    Wafer.on_setB _ _ _ _ (by decide) (by decide)]

theorem telLatched_unit : (telLatched u m).unit u = { m.unit u with telN := 0, telSums := [], telBad := false } := by
  rw [telLatched, Wafer.unit_modUnit, Wafer.inc, Wafer.unit_set, Wafer.setB, Wafer.unit_set, putMeans_unit]

theorem telLatched_keeps (h : Keeps A m₀ m) (hu : UnitIn A u) : Keeps A m₀ (telLatched u m) := by
  have k : Keeps A m₀ (((telFields u).zip (m.unit u).telSums).foldl (putMean u (m.get u.base TSK_TSTAT.WIN_N)) m) :=
    h.fold _ _ fun n e he k => by
      unfold putMean
      split
      · rename_i d hd
        have hm := telFields_mean (hd ▸ (List.of_mem_zip he).1)
        exact k.unitSet hu _ (of_decide_eq_true hm).2.1
      · exact k
  exact ((k.unitSet hu _ (by decide)).unitSet hu _ (by decide)).unitMod hu _

theorem doTelemetryWindowLatch_latched {f : Nat} (hw : (m.unit u).telWait = false) (hn : (m.unit u).telN ≠ 0)
    (hs : (m.unit u).telFrom < f) (hf : f % 2 ^ m.get u.base TSK_TSTAT.WIN_N = 0) :
    doTelemetryWindowLatch u f m = telLatched u (m.at (800 * f)) := by
  rw [doTelemetryWindowLatch, telLatch_eq, Wafer.unit_at, Wafer.get_at, hw]
  exact if_neg (by simp [hn, hf]; omega)

/-! ### Mesh packets (R77, R80, R377) -/

/-- The packet that the mesh takes first. -/
def meshFirst (l : List MeshPacket) : Option MeshPacket :=
  match l.find? (fun k => k.cls == .power), l.find? (fun k => k.cls == .telemetry) with
  | some k, _ => some k
  | none, some k => some k
  | none, none => l.head?

theorem meshFirst_power {l : List MeshPacket} {k : MeshPacket} (h : l.find? (fun x => x.cls == .power) = some k) :
    meshFirst l = some k ∧ k.cls = .power := by
  refine ⟨?_, by simpa using List.find?_some h⟩
  unfold meshFirst
  rw [h]

theorem meshFirst_other {l : List MeshPacket} (h : l.find? (fun x => x.cls == .power) = none) :
    meshFirst l = (l.find? (fun x => x.cls == .telemetry)).or l.head? := by
  unfold meshFirst
  rw [h]
  cases l.find? (fun x => x.cls == .telemetry) with
  | none => rfl
  | some k => rfl

/-- A packet left the Sward's buffer for the mesh. -/
def packetSent (p : Nat) (k : MeshPacket) (m : Wafer) : Wafer :=
  tally p (meshEvent k.cls).1 ((m.modSward p fun x => { x with mesh := dropOldest k.cls x.mesh }).send (meshEvent k.cls).2 p
    (k.epoch :: k.addr :: k.payload))

theorem doMeshPacketSent_sward (p : Fin 64) (m : Wafer) : doMeshPacketSent ⟨p.val, by omega⟩ m =
    if m.on (swd p) SWD_BSTAT.FENCE then m
    else match meshFirst (m.sward p).mesh with
      | none => m
      | some k => packetSent p k m := by
  rw [doMeshPacketSent]
  exact if_neg (show ¬ p.val = 64 by omega)

theorem doMeshPacketSent_taken {p : Fin 64} {k : MeshPacket} (hf : m.on (swd p) SWD_BSTAT.FENCE = false)
    (hk : meshFirst (m.sward p).mesh = some k) : doMeshPacketSent ⟨p.val, by omega⟩ m = packetSent p k m := by
  rw [doMeshPacketSent_sward, if_neg (ne_true_of_eq_false hf), hk]

/-- The oldest packet left the Heath's buffer. -/
def heathPacketOut (k : MeshPacket) (rest : List MeshPacket) (m : Wafer) : Wafer :=
  (m.modFault fun f => { f with sendBuf := rest }).send .faultCopy 64 (k.epoch :: k.addr :: k.payload)

theorem doMeshPacketSent_heath {k : MeshPacket} {rest : List MeshPacket} (h : m.heath.fault.sendBuf = k :: rest) :
    doMeshPacketSent 64 m = heathPacketOut k rest m := by
  rw [doMeshPacketSent]
  refine (if_pos rfl).trans ?_
  rw [heathPacketSent, h]
  rfl

theorem meshEvent_lt (c : MeshClass) : (meshEvent c).1 < 128 := by cases c <;> decide

theorem packetSent_contains (k : MeshPacket) : (packetSent p k m).out.contains
    ⟨(meshEvent k.cls).2, p, k.epoch :: k.addr :: k.payload⟩ = true := by
  rw [packetSent]
  exact ((Reacts.refl 0 _).tally (swd_pos p) _).contains (Wafer.contains_send _ _ _ _)

theorem packetSent_mesh (k : MeshPacket) : ((packetSent p k m).sward p).mesh = dropOldest k.cls (m.sward p).mesh := by
  rw [packetSent, (Counts.tally (.refl p _) (meshEvent_lt _)).mesh, Wafer.sward_send, Wafer.sward_modSward]

theorem packetSent_keeps (h : Keeps A m₀ m) (hp : SwardIn A p) (k : MeshPacket) : Keeps A m₀ (packetSent p k m) :=
  tally_keeps ((h.swardMod hp _).send _ _ _ hp.sends) hp (meshEvent_lt _)

/-! ### A partition's window (R374, R377) -/

/-- From the first controller to the second only the Sward's buffer of packets and what counts them changed. -/
structure Pushed (p : Nat) (m m' : Wafer) : Prop where
  get : ∀ f : Fld, f.off ≠ 8 → f.off ≠ 0xB084 → (f.off < 0xA000 ∨ 0xAC00 ≤ f.off) → m'.get (swd p) f = m.get (swd p) f
  agg : (m'.sward p).agg = (m.sward p).agg

namespace Pushed

@[refl] theorem refl (p : Nat) (m : Wafer) : Pushed p m m := ⟨fun _ _ _ _ => rfl, rfl⟩

theorem counted {n : Wafer} (h : Pushed p m₀ m) (k : Counts p m n) : Pushed p m₀ n :=
  ⟨fun f h8 hb ha => (k.get f ha).trans (h.get f h8 hb ha), k.agg.trans h.agg⟩

theorem set (h : Pushed p m₀ m) {f : Fld} (v : Nat) (hf : f.off = 8 ∨ f.off = 0xB084) : Pushed p m₀ (m.set (swd p) f v) :=
  ⟨fun g h8 hb ha => (m.get_set_beside v (.inl (by omega))).trans (h.get g h8 hb ha), by rw [m.sward_set, h.agg]⟩

theorem mesh (h : Pushed p m₀ m) (l : List MeshPacket) : Pushed p m₀ (m.modSward p fun x => { x with mesh := l }) :=
  ⟨h.get, by rw [m.sward_modSward]; exact h.agg⟩

theorem ite {c : Prop} [Decidable c] {a b : Wafer} (ha : Pushed p m₀ a) (hb : Pushed p m₀ b) : Pushed p m₀ (if c then a else b) := by
  split
  · exact ha
  · exact hb

theorem dropped (h : Pushed p m₀ m) {f : Fld} (hf : f.off = 0xB084) {k : Nat} (hk : k < 128) :
    Pushed p m₀ (tally p k (m.incSat (swd p) f)) :=
  .counted (.ite (h.set _ (.inr hf)) h) (.tally (.refl p _) hk)

theorem meshPush (h : Pushed p m₀ m) (k : MeshPacket) : Pushed p m₀ (meshPush p k m) := by
  have ht {n : Wafer} (h : Pushed p m₀ n) : Pushed p m₀ (traceDropped p n) := h.dropped rfl (by decide)
  have hm {n : Wafer} (h : Pushed p m₀ n) : Pushed p m₀ (telemetryDropped p n) := h.dropped rfl (by decide)
  exact .ite (.counted (h.set 1 (.inl rfl)) (.tally (.refl p _) (by decide))) <| .ite (h.mesh _) <| .ite (ht h) <|
    .ite (ht (h.mesh _)) <| .ite (hm (h.mesh _)) <| .ite (hm h) h

end Pushed

theorem meshPush_keeps (h : Keeps A m₀ m) (hp : SwardIn A p) (k : MeshPacket) : Keeps A m₀ (meshPush p k m) := by
  have ht {n : Wafer} (h : Keeps A m₀ n) : Keeps A m₀ (traceDropped p n) :=
    tally_keeps (h.incSat _ _ (hp.has (by decide))) hp (by decide)
  have hm {n : Wafer} (h : Keeps A m₀ n) : Keeps A m₀ (telemetryDropped p n) :=
    tally_keeps (h.incSat _ _ (hp.has (by decide))) hp (by decide)
  have hk (l : List MeshPacket) : Keeps A m₀ (m.modSward p fun x => { x with mesh := l }) := h.swardMod hp _
  exact .ite (fun _ => tally_keeps (h.swardSet hp 1 (by decide)) hp (by decide)) fun _ => .ite (fun _ => hk _) fun _ =>
    .ite (fun _ => ht h) fun _ => .ite (fun _ => ht (hk _)) fun _ => .ite (fun _ => hm (hk _)) fun _ =>
      .ite (fun _ => hm h) fun _ => h

theorem Wafer.get_fresh (m : Wafer) (n b : Nat) (f : Fld) : Wafer.get { m with fresh := n } b f = m.get b f := rfl

theorem latchPick_get {v un f : Fld} (h : v.off ≠ f.off ∧ un.off ≠ f.off) (e : Option (Int × Nat)) (m : Wafer) :
    (latchPick p v un e m).get (swd p) f = m.get (swd p) f := by
  unfold latchPick
  dsimp only
  split
  · rw [Wafer.get_set_beside _ _ (.inl h.2), Wafer.setI, Wafer.get_set_beside _ _ (.inl h.1)]
  · rw [Wafer.get_fresh, Wafer.setI, Wafer.get_set_beside _ _ (.inl h.2), Wafer.setI, Wafer.get_set_beside _ _ (.inl h.1)]

theorem latchPick_keeps (h : Keeps A m₀ m) (hp : SwardIn A p) {v un : Fld} (hv : v.off < 0x40000) (hn : un.off < 0x40000)
    (e : Option (Int × Nat)) : Keeps A m₀ (latchPick p v un e m) := by
  unfold latchPick
  dsimp only
  split
  · exact (h.swardSet hp _ hv).swardSet hp _ hn
  · exact ((h.swardSet hp _ hv).swardSet hp _ hn).fresh _

/-- The sums of a partition's window latched as means. -/
def powersLatched (p : Nat) (a : AggWindow) (m : Wafer) : Wafer :=
  ((List.range 5).zip a.sums).foldl (fun m e => m.setI (swd p) (SWD_TAPWR.P e.1) (windowMean a.winN e.2)) m

/-- A partition's window latched, before its packet goes out. -/
def aggLatched (p f : Nat) (a : AggWindow) (m : Wafer) : Wafer :=
  (((latchPick p SWD_TATMAX.T SWD_TATMAX_U.UNIT a.tmax (latchPick p SWD_TAIMAX.I SWD_TAIMAX_U.UNIT a.imax
    (latchPick p SWD_TAVMIN.V SWD_TAVMIN_U.UNIT a.vmin (powersLatched p a m)))).setB (swd p) SWD_TASTAT.STALE
      (a.stale || decide (a.n < 2 ^ a.winN))).inc (swd p) SWD_TASTAT.WSEQ).modSward p
    fun x => { x with agg := { winN := a.winN, start := f } }

theorem aggLatch_latched {f : Nat} (hr : (m.sward p).agg.running = true) (hn : (m.sward p).agg.n ≠ 0)
    (hs : (m.sward p).agg.start < f) (hf : f % 2 ^ (m.sward p).agg.winN = 0) :
    aggLatch p f m = if (aggLatched p f (m.sward p).agg m).on (swd p) SWD_TACFG.TEL_EN then
      meshPush p (telemetryPacket p f (m.sward p).agg.winN (aggLatched p f (m.sward p).agg m)) (aggLatched p f (m.sward p).agg m)
    else aggLatched p f (m.sward p).agg m :=
  if_neg (by rw [hr]; simp [hn, hf]; omega)

theorem powersLatched_get (a : AggWindow) {f : Fld} (hf : f.off < 0xB010) (m : Wafer) :
    (powersLatched p a m).get (swd p) f = m.get (swd p) f := by
  unfold powersLatched
  induction (List.range 5).zip a.sums generalizing m with
  | nil => rfl
  | cons e t ih => exact (ih _).trans (Wafer.get_set_beside _ _ (.inl (by dsimp only; omega)))

theorem aggLatched_seq (f : Nat) (a : AggWindow) :
    (aggLatched p f a m).get (swd p) SWD_TASTAT.WSEQ = (m.get (swd p) SWD_TASTAT.WSEQ + 1) % 2 ^ 16 := by
  rw [aggLatched, Wafer.get_modSward, Wafer.inc, Wafer.get_set _ _ _ _ (by decide), Wafer.setB, Wafer.get_set_beside _ _ (by decide),
    latchPick_get (by decide), latchPick_get (by decide), latchPick_get (by decide), powersLatched_get _ (by decide)]

theorem aggLatched_keeps (h : Keeps A m₀ m) (hp : SwardIn A p) (f : Nat) (a : AggWindow) : Keeps A m₀ (aggLatched p f a m) := by
  have k : Keeps A m₀ (powersLatched p a m) := h.fold _ _ fun n e he k =>
    k.swardSet hp _ (by have := (List.of_mem_zip he).1; simp at this ⊢; omega)
  have k1 := latchPick_keeps k hp (v := SWD_TAVMIN.V) (un := SWD_TAVMIN_U.UNIT) (by decide) (by decide) a.vmin
  have k2 := latchPick_keeps k1 hp (v := SWD_TAIMAX.I) (un := SWD_TAIMAX_U.UNIT) (by decide) (by decide) a.imax
  have k3 := latchPick_keeps k2 hp (v := SWD_TATMAX.T) (un := SWD_TATMAX_U.UNIT) (by decide) (by decide) a.tmax
  exact ((k3.swardSet hp _ (by decide)).swardSet hp _ (by decide)).swardMod hp _

theorem aggLatch_keeps (h : Keeps A m₀ m) (hp : SwardIn A p) (f : Nat) : Keeps A m₀ (aggLatch p f m) := by
  have k := aggLatched_keeps h hp f (m.sward p).agg
  exact .ite (fun _ => h) fun _ => .ite (fun _ => meshPush_keeps k hp _) fun _ => k

/-- A window of a partition that latches: its sequence number, and the window begun. -/
theorem aggLatch_gives {f : Nat} (hr : (m.sward p).agg.running = true) (hn : (m.sward p).agg.n ≠ 0)
    (hs : (m.sward p).agg.start < f) (hf : f % 2 ^ (m.sward p).agg.winN = 0) :
    (aggLatch p f m).get (swd p) SWD_TASTAT.WSEQ = (m.get (swd p) SWD_TASTAT.WSEQ + 1) % 2 ^ 16 ∧
      ((aggLatch p f m).sward p).agg.start = f ∧ ((aggLatch p f m).sward p).agg.n = 0 := by
  have k : Pushed p (aggLatched p f (m.sward p).agg m) (aggLatch p f m) := by
    rw [aggLatch_latched hr hn hs hf]
    exact .ite (.meshPush (.refl p _) _) (.refl p _)
  have ha : ((aggLatched p f (m.sward p).agg m).sward p).agg = { winN := (m.sward p).agg.winN, start := f } := by
    rw [aggLatched, Wafer.sward_modSward]
  rw [k.get _ (by decide) (by decide) (by decide), aggLatched_seq, k.agg, ha]
  exact ⟨rfl, rfl, rfl⟩

end Sys2Proof.Machine
end

section
/-! What a unit does at the boundary of a frame: the peaks, the sample and its windows, and the frame that applies. -/

namespace Sys2Proof.Machine

variable {A : Area} {u : UnitId} {m₀ m : Wafer}

/-! ### Peaks (R370) -/

theorem UnitSt.regSeen_setRail (x : UnitSt) (q k : Nat) {r : RailSt} (h : r.regSeen = (x.rail q).regSeen) :
    ((x.setRail q r).rail k).regSeen = (x.rail k).regSeen := by
  by_cases hq : q = 0 <;> by_cases hk : k = 0 <;> simp [UnitSt.setRail, UnitSt.rail, hq, hk] at h ⊢ <;> exact h

/-- A rail that was not in REG in the frame that ends. -/
def Idle (u : UnitId) (q : Fin 2) (m : Wafer) : Prop := railState u q m ≠ rREG ∧ ((m.unit u).rail q).regSeen = false

/-- From the first controller to the second a rail's peak of current stays, and the lowest voltage of one that was not
in REG. -/
structure Peaks (u : UnitId) (q : Fin 2) (m m' : Wafer) : Prop where
  state : railState u q m' = railState u q m
  seen : ((m'.unit u).rail q).regSeen = ((m.unit u).rail q).regSeen
  top : m'.get u.base (TSK_TPK_I.IMAX q) = m.get u.base (TSK_TPK_I.IMAX q)
  low : Idle u q m → m'.get u.base (TSK_TPK_V.VMIN q) = m.get u.base (TSK_TPK_V.VMIN q)

theorem whileReg_idle {q : Fin 2} (h : Idle u q m) (v : Option Int) : whileReg u q v m = none :=
  if_neg (not_or.2 ⟨h.1, ne_true_of_eq_false h.2⟩)

theorem whileReg_reg {q : Nat} (h : railState u q m = rREG) (v : Option Int) : whileReg u q v m = v := if_pos (.inl h)

namespace Peaks

variable {q : Fin 2}

@[refl] theorem refl (u : UnitId) (q : Fin 2) (m : Wafer) : Peaks u q m m := ⟨rfl, rfl, rfl, fun _ => rfl⟩

theorem idle (h : Peaks u q m₀ m) (hi : Idle u q m₀) : Idle u q m := ⟨by rw [h.state]; exact hi.1, h.seen.trans hi.2⟩

theorem trans {n : Wafer} (h : Peaks u q m₀ m) (k : Peaks u q m n) : Peaks u q m₀ n :=
  ⟨k.state.trans h.state, k.seen.trans h.seen, k.top.trans h.top, fun hi => (k.low (h.idle hi)).trans (h.low hi)⟩

theorem ite {c : Prop} [Decidable c] {a b : Wafer} (ha : Peaks u q m₀ a) (hb : Peaks u q m₀ b) : Peaks u q m₀ (if c then a else b) := by
  split
  · exact ha
  · exact hb

theorem set (h : Peaks u q m₀ m) {g : Fld} (v : Nat)
    (hg : g.off ≠ 0x128 + 0x40 * q.val ∧ g.off ≠ 0x62C + 0x20 * q.val ∧ g.off ≠ 0x630 + 0x20 * q.val) :
    Peaks u q m₀ (m.set u.base g v) := by
  obtain ⟨hs, hv, hi⟩ := hg
  exact h.trans ⟨m.get_set_beside v (.inl hs), by rw [m.unit_set], m.get_set_beside v (.inl hi),
    fun _ => m.get_set_beside v (.inl hv)⟩

theorem modRail (h : Peaks u q m₀ m) (k : Nat) (f : RailSt → RailSt) (hf : ∀ r, (f r).regSeen = r.regSeen := by intro _; rfl) :
    Peaks u q m₀ (m.modRail u k f) :=
  h.trans ⟨rfl, by rw [Wafer.modRail, m.unit_modUnit, UnitSt.regSeen_setRail _ _ _ (hf _)], rfl, fun _ => rfl⟩

/-- A lowest voltage is taken, of another rail or of one that was in REG. -/
theorem lowered (h : Peaks u q m₀ m) {k : Fin 2} (v : Int) (hk : k = q → ¬ Idle u q m) :
    Peaks u q m₀ (m.setI u.base (TSK_TPK_V.VMIN k) v) := by
  refine h.trans ⟨m.get_set_beside _ (.inl (by dsimp only; omega)), by rw [Wafer.setI, m.unit_set],
    m.get_set_beside _ (.inl (by dsimp only; omega)), fun hi => m.get_set_beside _ (.inl ?_)⟩
  have : k ≠ q := fun e => hk e hi
  dsimp only
  omega

theorem peakVoltage (h : Peaks u q m₀ m) (k : Fin 2) (v : Int) : Peaks u q m₀ (peakVoltage u k v m) := by
  unfold Machine.peakVoltage
  extract_lets r
  split
  · rename_i hc
    exact h.lowered _ fun e hi => hi.1 (e ▸ hc.1)
  · exact h

theorem senseMean (h : Peaks u q m₀ m) (k : Fin 2) (v : Int) : Peaks u q m₀ (senseMean u k v m) := by
  unfold Machine.senseMean senseRail
  extract_lets m1 m2
  have k1 : Peaks u q m₀ m1 := (h.modRail k _).modRail k _
  have k2 : Peaks u q m₀ m2 := k1.modRail k _
  have k3 : Peaks u q m₀ (if k.val = 0 then ovlEval u m2 else m2) := .ite (k2.modRail 0 _) k2
  exact k3.peakVoltage k v

theorem frameLow (h : Peaks u q m₀ m) (k : Fin 2) (v : Option Int) : Peaks u q m₀ (frameLow u k (whileReg u k v m) m) := by
  unfold Machine.frameLow
  split
  · rename_i x hx
    refine .ite (h.lowered _ fun e hi => ?_) h
    subst e
    rw [whileReg_idle hi] at hx
    exact nomatch hx
  · exact h

theorem framePeak (h : Peaks u q m₀ m) {g : Fld} (v : Option Int)
    (hg : g.off ≠ 0x128 + 0x40 * q.val ∧ g.off ≠ 0x62C + 0x20 * q.val ∧ g.off ≠ 0x630 + 0x20 * q.val) :
    Peaks u q m₀ (framePeak u g v m) := by
  unfold Machine.framePeak
  split
  · exact .ite (h.set _ hg) h
  · exact h

/-- The highest current of another rail, or of one that was not in REG. -/
theorem frameTop (h : Peaks u q m₀ m) (k : Fin 2) (v : Option Int) (hk : k = q → Idle u q m) :
    Peaks u q m₀ (Machine.framePeak u (TSK_TPK_I.IMAX k) (whileReg u k v m) m) := by
  by_cases e : k = q
  · subst e
    rw [whileReg_idle (hk rfl)]
    exact h
  · exact h.framePeak _ (by dsimp only; omega)

end Peaks

/-- A highest current that was seen is among the peak. -/
theorem peakMax_max {f : Fld} (hf : f.lo + f.wid ≤ 32 ∧ f.wid = 32) {i : Int} (hi : -2 ^ 31 ≤ i ∧ i < 2 ^ 31) (m : Wafer) :
    (peakMax u f i m).getI u.base f = max (m.getI u.base f) i := by
  unfold peakMax
  split
  · rw [Wafer.getI_set _ _ _ _ hf.1 (by omega) (by rw [hf.2]; exact hi.1) (by rw [hf.2]; exact hi.2)]
    omega
  · omega

/-- The lowest voltages of a frame. -/
def lowsTaken (u : UnitId) (s : Sample) (m : Wafer) : Wafer :=
  frameLow u 1 (whileReg u 1 s.low1 (frameLow u 0 (whileReg u 0 s.low0 m) m)) (frameLow u 0 (whileReg u 0 s.low0 m) m)

/-- The highest current of a rail in a frame. -/
def topTaken (u : UnitId) (q : Nat) (v : Option Int) (m : Wafer) : Wafer :=
  framePeak u (TSK_TPK_I.IMAX q) (whileReg u q v m) m

/-- The highest current of a phase in a frame. -/
def phaseTaken (u : UnitId) (k : Nat) (v : Option Int) (m : Wafer) : Wafer :=
  if slotAbsent u k then m else framePeak u (TSK_TPK_PI.IMAX k) (whileReg u (slotRail k) v m) m

/-- The highest currents of a frame's phases. -/
def phasesTaken (u : UnitId) (s : Sample) (m : Wafer) : Wafer :=
  phaseTaken u 3 s.topPh3 (phaseTaken u 2 s.topPh2 (phaseTaken u 1 s.topPh1 (phaseTaken u 0 s.topPh0 m)))

/-- A rail's REG in the frame forgotten. -/
def regForgotten (u : UnitId) (m : Wafer) : Wafer :=
  (m.modRail u 0 fun r => { r with regSeen := false }).modRail u 1 fun r => { r with regSeen := false }

theorem framePeaks_eq (u : UnitId) (s : Sample) (m : Wafer) : framePeaks u s m =
    regForgotten u (phasesTaken u s (topTaken u 1 s.top1 (topTaken u 0 s.top0 (lowsTaken u s m)))) := rfl

/-- The means of both rails as the sample gives them. -/
def sensed (u : UnitId) (s : Sample) (m : Wafer) : Wafer := senseMean u 1 s.v1 (senseMean u 0 s.v0 m)

/-- The currents of the phases as the sample gives them. -/
def phasesSampled (u : UnitId) (s : Sample) (m : Wafer) : Wafer :=
  ((m.modPhase u 0 fun x => { x with current := s.ph0 }).modPhase u 1 fun x => { x with current := s.ph1 }).modPhase u 2
    fun x => { x with current := s.ph2 }

/-- The current of a tie as TSK_TIEI shows it. -/
def tieCode (u : UnitId) (n : Nat) (i : Int) (m : Wafer) : Nat :=
  if m.on u.base (TSK_TIESTAT.CLOSED n) then min 255 (roundDiv (if i < 0 then -i else i) 50).toNat else 0

/-- The currents of all ties shown. -/
def tiesShown (u : UnitId) (s : Sample) (m : Wafer) : Wafer :=
  (((m.set u.base (TSK_TIEI.TIEI 0) (tieCode u 0 s.tie0 m)).set u.base (TSK_TIEI.TIEI 1) (tieCode u 1 s.tie1 m)).set u.base
    (TSK_TIEI.TIEI 2) (tieCode u 2 s.tie2 m)).set u.base (TSK_TIEI.TIEI 3) (tieCode u 3 s.tie3 m)

theorem takeSample_eq (u : UnitId) (s : Sample) (m : Wafer) : takeSample u s m =
    if u.isVerge then (phasesSampled u s (framePeaks u s (sensed u s m))).modPhase u 3 fun x => { x with current := s.ph3 }
    else tiesShown u s (phasesSampled u s (framePeaks u s (sensed u s m))) := rfl

/-! ### The sample and the windows (R365 to R370, R239) -/

theorem Quiet.frameLow (h : Quiet u m₀ m) (q : Nat) (v : Option Int) : Quiet u m₀ (frameLow u q v m) := by
  unfold Machine.frameLow
  split
  · exact .ite (h.setI _ (quietWrite_peak q)) h
  · exact h

theorem Quiet.framePeak (h : Quiet u m₀ m) {f : Fld} (hf : 0x600 ≤ f.off) (v : Option Int) : Quiet u m₀ (framePeak u f v m) := by
  unfold Machine.framePeak
  split
  · exact .ite (h.setI _ (by unfold QuietWrite; omega)) h
  · exact h

theorem Quiet.phaseTaken (h : Quiet u m₀ m) (k : Nat) (v : Option Int) : Quiet u m₀ (phaseTaken u k v m) :=
  .ite h (h.framePeak (by dsimp only; omega) _)

theorem Quiet.tiesShown (h : Quiet u m₀ m) (s : Sample) : Quiet u m₀ (tiesShown u s m) :=
  (((h.set _).set _).set _).set _

/-- A sample leaves the hidden state beside rails and phases. -/
theorem Quiet.takeSample (h : Quiet u m₀ m) (s : Sample) : Quiet u m₀ (takeSample u s m) := by
  have k1 : Quiet u m₀ (lowsTaken u s (sensed u s m)) := (((h.senseMean 0 s.v0).senseMean 1 s.v1).frameLow 0 _).frameLow 1 _
  have k2 : Quiet u m₀ (topTaken u 1 s.top1 (topTaken u 0 s.top0 (lowsTaken u s (sensed u s m)))) :=
    (k1.framePeak (by decide) _).framePeak (by decide) _
  have kp : Quiet u m₀ (phasesTaken u s (topTaken u 1 s.top1 (topTaken u 0 s.top0 (lowsTaken u s (sensed u s m))))) :=
    (((k2.phaseTaken 0 _).phaseTaken 1 _).phaseTaken 2 _).phaseTaken 3 _
  have k3 : Quiet u m₀ (framePeaks u s (sensed u s m)) := by
    rw [framePeaks_eq, regForgotten]
    exact (kp.modRail 0 _).modRail 1 _
  have k4 : Quiet u m₀ (phasesSampled u s (framePeaks u s (sensed u s m))) := ((k3.modPhase 0 _).modPhase 1 _).modPhase 2 _
  rw [takeSample_eq]
  exact .ite (k4.modPhase 3 _) (k4.tiesShown s)

theorem frameLow_keeps (h : Keeps A m₀ m) (hu : UnitIn A u) {q : Nat} (hq : q < 2) (v : Option Int) :
    Keeps A m₀ (frameLow u q v m) := by
  unfold frameLow
  split
  · exact .ite (fun _ => h.unitSet hu _ (by dsimp only; omega)) fun _ => h
  · exact h

theorem framePeak_keeps (h : Keeps A m₀ m) (hu : UnitIn A u) {f : Fld} (hf : f.off < 0x1000) (v : Option Int) :
    Keeps A m₀ (framePeak u f v m) := by
  unfold framePeak
  split
  · exact peakMax_keeps h hu hf _
  · exact h

theorem phaseTaken_keeps (h : Keeps A m₀ m) (hu : UnitIn A u) {k : Nat} (hk : k < 4) (v : Option Int) :
    Keeps A m₀ (phaseTaken u k v m) := .ite (fun _ => h) fun _ => framePeak_keeps h hu (by dsimp only; omega) _

theorem tiesShown_keeps (h : Keeps A m₀ m) (hu : UnitIn A u) (s : Sample) : Keeps A m₀ (tiesShown u s m) :=
  (((h.unitSet hu _ (by decide)).unitSet hu _ (by decide)).unitSet hu _ (by decide)).unitSet hu _ (by decide)

theorem phasesSampled_keeps (h : Keeps A m₀ m) (hu : UnitIn A u) (s : Sample) : Keeps A m₀ (phasesSampled u s m) := by
  unfold phasesSampled Wafer.modPhase
  exact ((h.unitMod hu _).unitMod hu _).unitMod hu _

theorem framePeaks_keeps (h : Keeps A m₀ m) (hu : UnitIn A u) (s : Sample) : Keeps A m₀ (framePeaks u s m) := by
  have k1 : Keeps A m₀ (lowsTaken u s m) := frameLow_keeps (frameLow_keeps h hu (by decide) _) hu (by decide) _
  have k2 : Keeps A m₀ (topTaken u 1 s.top1 (topTaken u 0 s.top0 (lowsTaken u s m))) :=
    framePeak_keeps (framePeak_keeps k1 hu (by decide) _) hu (by decide) _
  have k3 : Keeps A m₀ (phasesTaken u s (topTaken u 1 s.top1 (topTaken u 0 s.top0 (lowsTaken u s m)))) :=
    phaseTaken_keeps (phaseTaken_keeps (phaseTaken_keeps (phaseTaken_keeps k2 hu (by decide) _) hu (by decide) _) hu (by decide) _)
      hu (by decide) _
  rw [framePeaks_eq, regForgotten, Wafer.modRail, Wafer.modRail]
  exact (k3.unitMod hu _).unitMod hu _

theorem takeSample_keeps (h : Keeps A m₀ m) (hu : UnitIn A u) (s : Sample) : Keeps A m₀ (takeSample u s m) := by
  have ks : Keeps A m₀ (sensed u s m) := senseMean_keeps (senseMean_keeps h hu (by decide) _) hu (by decide) _
  have k := phasesSampled_keeps (framePeaks_keeps ks hu s) hu s
  rw [takeSample_eq]
  exact .ite (fun _ => k.unitMod hu _) fun _ => tiesShown_keeps k hu s

/-- What of a sample shows in the peaks of the rails. -/
theorem takeSample_peak {f : Fld} (hf : f.off ≠ 0x4D0) (s : Sample) (m : Wafer) : (takeSample u s m).get u.base f =
    (phasesTaken u s (topTaken u 1 s.top1 (topTaken u 0 s.top0 (lowsTaken u s (sensed u s m))))).get u.base f := by
  have h4 := Ne.symm hf
  have e (n : Wafer) : (tiesShown u s n).get u.base f = n.get u.base f := by
    rw [tiesShown, Wafer.get_set_beside _ _ (.inl h4), Wafer.get_set_beside _ _ (.inl h4), Wafer.get_set_beside _ _ (.inl h4),
      Wafer.get_set_beside _ _ (.inl h4)]
  have ep (n : Wafer) : (phasesSampled u s n).get u.base f = n.get u.base f := by
    rw [phasesSampled, Wafer.get_modPhase, Wafer.get_modPhase, Wafer.get_modPhase]
  have er (n : Wafer) : (regForgotten u n).get u.base f = n.get u.base f := by
    rw [regForgotten, Wafer.get_modRail, Wafer.get_modRail]
  rw [takeSample_eq, framePeaks_eq]
  split
  · rw [Wafer.get_modPhase, ep, er]
  · rw [e, ep, er]

theorem sensed_peaks (q : Fin 2) (s : Sample) (m : Wafer) : Peaks u q m (lowsTaken u s (sensed u s m)) := by
  have k0 : Peaks u q m (senseMean u (0 : Fin 2) s.v0 m) := (Peaks.refl u q m).senseMean 0 _
  have k1 : Peaks u q m (sensed u s m) := k0.senseMean 1 _
  exact (k1.frameLow 0 _).frameLow 1 _

theorem Peaks.phasesTaken {q : Fin 2} (h : Peaks u q m₀ m) (s : Sample) : Peaks u q m₀ (phasesTaken u s m) := by
  have k {n : Wafer} (h : Peaks u q m₀ n) (i : Fin 4) (v : Option Int) : Peaks u q m₀ (phaseTaken u i v n) :=
    .ite h (h.framePeak _ (by dsimp only; omega))
  exact k (k (k (k h 0 _) 1 _) 2 _) 3 _

/-- The peaks of a rail that was not in REG in the frame. -/
theorem takeSample_idle {q : Fin 2} (h : Idle u q m) (s : Sample) :
    (takeSample u s m).getI u.base (TSK_TPK_V.VMIN q) = m.getI u.base (TSK_TPK_V.VMIN q) ∧
      (takeSample u s m).getI u.base (TSK_TPK_I.IMAX q) = m.getI u.base (TSK_TPK_I.IMAX q) := by
  have k0 := sensed_peaks (u := u) q s m
  have k1 : Peaks u q m (topTaken u (0 : Fin 2) s.top0 (lowsTaken u s (sensed u s m))) := k0.frameTop 0 _ fun _ => k0.idle h
  have k2 : Peaks u q m (topTaken u (1 : Fin 2) s.top1 (topTaken u (0 : Fin 2) s.top0 (lowsTaken u s (sensed u s m)))) :=
    k1.frameTop 1 _ fun _ => k1.idle h
  have k3 := k2.phasesTaken s
  constructor
  · rw [Wafer.getI, takeSample_peak (by dsimp only; omega), Wafer.getI]
    exact congrArg (signed 32) (k3.low h)
  · rw [Wafer.getI, takeSample_peak (by dsimp only; omega), Wafer.getI]
    exact congrArg (signed 32) k3.top

theorem topTaken_max {q : Fin 2} (h : railState u q m = rREG) {i : Int} (hi : -2 ^ 31 ≤ i ∧ i < 2 ^ 31) :
    (topTaken u q (some i) m).getI u.base (TSK_TPK_I.IMAX q) = max (m.getI u.base (TSK_TPK_I.IMAX q)) i := by
  rw [topTaken, whileReg_reg h]
  exact peakMax_max (f := TSK_TPK_I.IMAX q) ⟨Nat.le_refl 32, rfl⟩ hi m

/-- The peak of current of a rail in REG. -/
theorem takeSample_reg {q : Fin 2} {s : Sample} {i : Int} (h : railState u q m = rREG)
    (ht : (if q = 0 then s.top0 else s.top1) = some i) (hi : -2 ^ 31 ≤ i ∧ i < 2 ^ 31) :
    (takeSample u s m).getI u.base (TSK_TPK_I.IMAX q) = max (m.getI u.base (TSK_TPK_I.IMAX q)) i := by
  have k0 := sensed_peaks (u := u) q s m
  have hs := k0.state.trans h
  have e0 : (lowsTaken u s (sensed u s m)).getI u.base (TSK_TPK_I.IMAX q) = m.getI u.base (TSK_TPK_I.IMAX q) :=
    congrArg (signed 32) k0.top
  have eq {n n' : Wafer} (k : Peaks u q n n') : n'.getI u.base (TSK_TPK_I.IMAX q) = n.getI u.base (TSK_TPK_I.IMAX q) :=
    congrArg (signed 32) k.top
  rw [Wafer.getI, takeSample_peak (by dsimp only; omega), ← Wafer.getI, eq ((Peaks.refl u q _).phasesTaken s), ← e0]
  rcases (by omega : q = 0 ∨ q = 1) with rfl | rfl
  · have ht : s.top0 = some i := ht
    rw [← topTaken_max hs hi, ht]
    exact eq ((Peaks.refl u 0 _).frameTop 1 _ fun h => absurd h (by decide))
  · have ht : s.top1 = some i := ht
    have k : Peaks u 1 (lowsTaken u s (sensed u s m)) (topTaken u (0 : Fin 2) s.top0 (lowsTaken u s (sensed u s m))) :=
      (Peaks.refl u 1 _).frameTop 0 _ fun h => absurd h (by decide)
    rw [ht, ← eq k]
    exact topTaken_max (k.state.trans hs) hi

/-- What of a unit's hidden state a downlink frame sets: the frame that waits, the rung, and the levels of its header. -/
def UnitSt.applied (x : UnitSt) : Option DownFrame × Nat × Bool × Bool := (x.frame, x.rung, x.pgSpine, x.sentArrRet)

/-- The peaks of the rails. -/
def PeakField (f : Fld) : Prop := f.off = 0x62C ∨ f.off = 0x630 ∨ f.off = 0x64C ∨ f.off = 0x650

/-- From the first controller to the second what a frame sets and the peaks stay. -/
structure Sampled (u : UnitId) (m m' : Wafer) : Prop where
  hidden : (m'.unit u).applied = (m.unit u).applied
  get : ∀ f, PeakField f → m'.get u.base f = m.get u.base f

namespace Sampled

@[refl] theorem refl (u : UnitId) (m : Wafer) : Sampled u m m := ⟨rfl, fun _ _ => rfl⟩

theorem trans {n : Wafer} (h : Sampled u m₀ m) (k : Sampled u m n) : Sampled u m₀ n :=
  ⟨k.hidden.trans h.hidden, fun f hf => (k.get f hf).trans (h.get f hf)⟩

theorem ite {c : Prop} [Decidable c] {a b : Wafer} (ha : Sampled u m₀ a) (hb : Sampled u m₀ b) : Sampled u m₀ (if c then a else b) := by
  split
  · exact ha
  · exact hb

theorem set (h : Sampled u m₀ m) {g : Fld} (v : Nat) (hg : g.off < 0x62C) : Sampled u m₀ (m.set u.base g v) :=
  h.trans ⟨by rw [m.unit_set], fun f hf => m.get_set_beside v (.inl (by unfold PeakField at hf; omega))⟩

theorem modUnit (h : Sampled u m₀ m) (f : UnitSt → UnitSt) (hf : ∀ x, (f x).applied = x.applied := by intro _; rfl) :
    Sampled u m₀ (m.modUnit u f) := h.trans ⟨by rw [m.unit_modUnit, hf], fun _ _ => rfl⟩

theorem ofDriven {n : Wafer} (h : Sampled u m₀ m) (k : Driven u m n) : Sampled u m₀ n :=
  h.trans ⟨k.keeps UnitSt.applied, fun f hf => k.get f (by unfold PeakField at hf; unfold DrivenField; omega)⟩

theorem adoptHold (h : Sampled u m₀ m) : Sampled u m₀ (adoptHold u m) := by
  refine .ite ?_ h
  have hp (l : List Nat) {n : Wafer} (k : Sampled u m₀ n) : Sampled u m₀ (l.foldl (fun m n =>
      if !m.on u.base (TSK_TIESTAT.TIED_OFF n) && !m.on u.base (TSK_TIESTAT.ACK_IN n) then
        m.modPort u n fun p => { p with reqOut := if p.reqOut = 0 then 2 else p.reqOut }
      else m) n) := by
    induction l generalizing n with
    | nil => exact k
    | cons i t ih =>
      refine ih (.ite (k.modUnit _ fun x => ?_) k)
      unfold UnitSt.setPort
      split <;> rfl
  exact hp _ h

theorem telLatch (h : Sampled u m₀ m) (f : Nat) : Sampled u m₀ (telLatch u f m) := by
  rw [telLatch_eq]
  refine .ite h (h.trans ⟨by rw [telLatched_unit]; rfl, fun g hg => telLatched_get ?_ ?_⟩)
  · unfold PeakField at hg
    unfold BesideMeans
    omega
  · unfold PeakField at hg
    omega

theorem telBoundary (h : Sampled u m₀ m) (f : Nat) (s : Sample) : Sampled u m₀ (telBoundary u f s m) := by
  unfold Machine.telBoundary
  extract_lets b m1 n m2 m3 l
  have k1 : Sampled u m₀ m1 := h.telLatch f
  have k2 : Sampled u m₀ m2 := .ite k1 ((k1.set _ (by decide)).modUnit _)
  have k3 : Sampled u m₀ m3 := .ite (k2.modUnit _) k2
  exact .ite k3 (k3.modUnit _)

theorem canaryBoundary (h : Sampled u m₀ m) (c : Nat) : Sampled u m₀ (canaryBoundary u c m).2 := by
  unfold Machine.canaryBoundary
  extract_lets b warn str m1 m2
  split
  · exact h
  · have k1 : Sampled u m₀ m1 := (h.set _ (by decide)).set _ (by decide)
    have k2 : Sampled u m₀ m2 := .ite (k1.set _ (by decide)) k1
    dsimp only
    exact k2.modUnit _

end Sampled

theorem adoptHold_keeps (h : Keeps A m₀ m) (hu : UnitIn A u) : Keeps A m₀ (adoptHold u m) := by
  refine .ite (fun _ => h.fold _ _ fun _ _ _ k => .ite (fun _ => ?_) fun _ => k) fun _ => h
  unfold Wafer.modPort
  exact k.unitMod hu _

theorem telBoundary_keeps (h : Keeps A m₀ m) (hu : UnitIn A u) (f : Nat) (s : Sample) : Keeps A m₀ (telBoundary u f s m) := by
  unfold telBoundary
  extract_lets b m1 n m2 m3 l
  have k1 : Keeps A m₀ m1 := .ite (fun _ => h) fun _ => telLatched_keeps h hu
  have k2 : Keeps A m₀ m2 := .ite (fun _ => k1) fun _ => (k1.unitSet hu _ (by decide)).unitMod hu _
  have k3 : Keeps A m₀ m3 := .ite (fun _ => k2.unitMod hu _) fun _ => k2
  exact .ite (fun _ => k3) fun _ => k3.unitMod hu _

theorem canaryBoundary_keeps (h : Keeps A m₀ m) (hu : UnitIn A u) (c : Nat) : Keeps A m₀ (canaryBoundary u c m).2 := by
  unfold canaryBoundary
  extract_lets b warn str m1 m2
  split
  · exact h
  · have k1 : Keeps A m₀ m1 := (h.unitSet hu _ (by decide)).unitSet hu _ (by decide)
    have k2 : Keeps A m₀ m2 := .ite (fun _ => k1.unitSet hu _ (by decide)) fun _ => k1
    dsimp only
    exact k2.unitMod hu _

end Sys2Proof.Machine
end

section
/-! A downlink frame at its unit: the levels of its header, a set-point it carries, and the record that goes out. -/

namespace Sys2Proof.Machine

variable {A : Area} {u : UnitId} {m₀ m : Wafer}

/-! ### A new target of a rail (R121, R123) -/

/-- From the first controller to the second the hidden state beside rails and phases stays, and the quiet registers. -/
structure Held (u : UnitId) (m m' : Wafer) : Prop where
  get : ∀ f, QuietField f → m'.get u.base f = m.get u.base f
  part : (m'.unit u).part = (m.unit u).part

theorem Held.refl (u : UnitId) (m : Wafer) : Held u m m := ⟨fun _ _ => rfl, rfl⟩

theorem Ramped.held {q : Fin 2} {a b : Int} {n : Wafer} (h : Ramped u q a b m n) : Held u m n := ⟨h.get, h.part⟩

theorem Held.quiet {n : Wafer} (h : Held u m₀ m) (k : Quiet u m n) : Held u m₀ n :=
  ⟨fun f hf => (k.get f hf).trans (h.get f hf), k.part.trans h.part⟩

theorem Held.applied {n : Wafer} (h : Held u m n) : (n.unit u).applied = (m.unit u).applied := by
  have e : ∀ x : UnitSt, x.applied = x.part.applied := fun _ => rfl
  rw [e, h.part, ← e]

theorem retarget_held (q : Fin 2) (m : Wafer) : Held u m (retarget u q m) := by
  have hr := Held.refl u m
  have hb (a b : Int) (n : Nat) : Held u m (beginRamp u q a b n m) := (beginRamp_ramped q a b n m).held
  have hi {c : Prop} [Decidable c] {x y : Wafer} (hx : Held u m x) (hy : Held u m y) : Held u m (if c then x else y) := by
    split
    · exact hx
    · exact hy
  exact hi (hi hr (hb _ _ _)) (hi (hi hr (hi (hb _ _ _) (hb _ _ _))) hr)

/-! ### The header (Table 6.2, R73, R129, R305) -/

theorem Entered.applied {q : Fin 2} {st : Nat} {n : Wafer} (h : Entered u q st m n) : (n.unit u).applied = (m.unit u).applied := by
  have e : ∀ x : UnitSt, x.applied = x.part.applied := fun _ => rfl
  rw [e, h.part, ← e]

theorem railDisable_applied (q : Fin 2) (m : Wafer) : ((railDisable u q m).unit u).applied = (m.unit u).applied := by
  have e : ((m.set u.base (enField q) 0).unit u).applied = (m.unit u).applied := by rw [m.unit_set]
  unfold railDisable
  dsimp only
  split
  · rw [(beginRamp_ramped q _ _ _ _).held.applied, (enterState_ramps q (.inr rfl) _).applied, e]
  · split
    · rw [(enterState_halts q (by decide) (by decide) (by decide) (by decide) _).1.applied, e]
    · exact e

theorem applyLink_applied (v : Nat) (m : Wafer) : ((applyLink u v m).unit u).applied = (m.unit u).applied := by
  have e : ((m.modUnit u fun x => { x with lnk := v }).unit u).applied = (m.unit u).applied := by
    rw [m.unit_modUnit]
    rfl
  have hp (n : Wafer) (s : Nat) (f : PhaseSt → PhaseSt) : ((n.modPhase u s f).unit u).applied = (n.unit u).applied :=
    ((Driven.refl u n).modPhase s f).keeps UnitSt.applied
  unfold applyLink
  extract_lets m1 off
  split
  · split
    · exact (railDisable_applied 0 m1).trans e
    · exact e
  · split
    · refine (((Driven.refl u _).offerPhase (by decide)).keeps UnitSt.applied).trans ?_
      rw [hp, Wafer.unit_set]
      exact e
    · exact e
  · split
    · exact e
    · rw [dropWindow, hp, Wafer.unit_set]
      exact e

theorem writeRet_applied (b : Bool) (m : Wafer) : ((writeRet u b m).unit u).applied = (m.unit u).applied := by
  unfold writeRet
  split
  · rfl
  · extract_lets m1 m2
    have e1 : (m1.unit u).applied = (m.unit u).applied := by rw [show m1 = m.setB u.base TSK_CTL.RET b from rfl, Wafer.setB, m.unit_set]
    have e2 : (m2.unit u).applied = (m1.unit u).applied := by
      show (Wafer.unit (if b = true then _ else _) u).applied = _
      split
      · rw [m1.unit_modUnit]
        rfl
      · rfl
    exact ((retarget_held 1 m2).quiet (.coreEval (.refl u _))).applied.trans (e2.trans e1)

theorem retentionEval_applied (m : Wafer) : ((retentionEval u m).unit u).applied = (m.unit u).applied := by
  have h (b : Bool) : Quiet u m (m.modUnit u fun x => { x with arrRet := b }) := (Quiet.refl u m).modUnit _
  unfold retentionEval
  split
  · rfl
  · extract_lets x gap
    have k : Quiet u m (if x.sentArrRet = true then m.modUnit u fun x => { x with arrRet := true }
        else if (!m.on u.base TSK_CTL.RET) = true ∧ railState u 1 m = rREG ∧ -5000 ≤ gap ∧ gap ≤ 5000 then
          m.modUnit u fun x => { x with arrRet := false }
        else m) := .ite (h true) (.ite (h false) (.refl u m))
    exact k.keeps UnitSt.applied

/-- The levels and values of a header as the unit holds them. -/
def headerLevels (u : UnitId) (d : DownFrame) (x : UnitSt) : Option DownFrame × Nat × Bool × Bool :=
  if u.isVerge then (x.frame, d.rung, x.pgSpine, x.sentArrRet) else (x.frame, d.rung, d.pgSpine, d.arrRet)

theorem applyHeader_applied (d : DownFrame) (m : Wafer) :
    ((applyHeader u d m).unit u).applied = headerLevels u d (m.unit u) := by
  unfold applyHeader headerLevels
  dsimp only
  split
  · rw [applyLink_applied, m.unit_modUnit]
    rfl
  · rw [retentionEval_applied]
    split
    · rw [Wafer.unit_modUnit, Wafer.unit_modUnit]
      rfl
    · rw [writeRet_applied, Wafer.unit_modUnit, Wafer.unit_modUnit]
      rfl

theorem Quiet.applyCore (h : Quiet u m₀ m) : Quiet u m₀ (applyCore u m) :=
  .ite (h.modUnit _) (.ite (.freeIntents (h.modUnit _) _) h)

theorem applyLink_keeps (h : Keeps A m₀ m) (hu : UnitIn A u) (v : Nat) : Keeps A m₀ (applyLink u v m) := by
  unfold applyLink
  extract_lets m1 off
  have k1 : Keeps A m₀ m1 := h.unitMod hu _
  split
  · exact .ite (fun _ => railDisable_keeps k1 hu (by decide)) fun _ => k1
  · exact .ite (fun _ => backInService_keeps (k1.unitSet hu 0 (by decide)) hu (by decide)) fun _ => k1
  · exact .ite (fun _ => k1) fun _ => dropWindow_keeps (k1.unitSet hu 1 (by decide)) hu 1

theorem writeRet_keeps (h : Keeps A m₀ m) (hu : UnitIn A u) (b : Bool) : Keeps A m₀ (writeRet u b m) := by
  unfold writeRet
  refine .ite (fun _ => h) fun _ => ?_
  extract_lets m1 m2
  have k1 : Keeps A m₀ m1 := h.unitSet hu _ (by decide)
  have k2 : Keeps A m₀ m2 := .ite (fun _ => k1.unitMod hu _) fun _ => k1
  exact coreEval_keeps (retarget_keeps k2 hu (by decide)) hu

theorem applyHeader_keeps (h : Keeps A m₀ m) (hu : UnitIn A u) (d : DownFrame) : Keeps A m₀ (applyHeader u d m) := by
  have k := h.unitMod hu fun x => { x with rung := d.rung }
  refine .ite (fun _ => applyLink_keeps k hu _) fun _ => retentionEval_keeps ?_ hu
  exact .ite (fun _ => k.unitMod hu _) fun _ => writeRet_keeps (k.unitMod hu _) hu _

theorem applyCore_keeps (h : Keeps A m₀ m) (hu : UnitIn A u) : Keeps A m₀ (applyCore u m) :=
  .ite (fun _ => h.unitMod hu _) fun _ => .ite (fun _ => freeIntents_keeps (h.unitMod hu _) hu _) fun _ => h

/-! ### What a frame carries (R206) -/

/-- The end of a frame: a Tussock's core gate follows the level sent. -/
def coreApplied (u : UnitId) (m : Wafer) : Wafer := if u.isVerge then m else applyCore u m

theorem Quiet.coreApplied (h : Quiet u m₀ m) : Quiet u m₀ (coreApplied u m) := .ite h h.applyCore

theorem coreApplied_keeps (h : Keeps A m₀ m) (hu : UnitIn A u) : Keeps A m₀ (coreApplied u m) :=
  .ite (fun _ => h) fun _ => applyCore_keeps h hu

theorem applyFrame_plain {d : DownFrame} (h : d.record = {}) (m : Wafer) :
    applyFrame u d m = coreApplied u (applyHeader u d m) := by
  unfold applyFrame
  rw [h]
  rfl

theorem applyFrame_trim {d : DownFrame} {c : Int} (h : d.record = { vtrim0 := some c }) (m : Wafer) : applyFrame u d m =
    coreApplied u (applySetpoint u (.vtrim 0) (TSK_VTRIM.VTRIM 0) (some c) (applyHeader u d m)) := by
  unfold applyFrame
  rw [h]
  rfl

/-- A trim as the register takes it. -/
def trimTaken (u : UnitId) (v : Int) (m : Wafer) : Wafer :=
  m.setI u.base (TSK_VTRIM.VTRIM 0) (onGrid (clampI (-40000) 40000 v))

/-- A trim in the register, the clamp flag looked at. -/
def trimmed (u : UnitId) (v : Int) (m : Wafer) : Wafer :=
  if v < -40000 ∨ 40000 < v ∨ sumClamped u 0 (trimTaken u v m) then (trimTaken u v m).set u.base (TSK_RSTAT.VSET_CLAMP 0) 1
  else trimTaken u v m

theorem setpointWrite_trim (data : Word) (m : Wafer) :
    setpointWrite u (.vtrim 0) data m = retarget u 0 (trimmed u data.toInt m) := rfl

theorem onGrid_code {c : Int} (h : -64 ≤ c ∧ c ≤ 64) : onGrid (clampI (-40000) 40000 (625 * c)) = 625 * c := by
  unfold clampI
  rw [if_neg (by omega), if_neg (by omega), onGrid, roundDiv]
  omega

theorem trimmed_code {c : Int} (h : -64 ≤ c ∧ c ≤ 64) (m : Wafer) :
    (trimmed u (625 * c) m).getI u.base (TSK_VTRIM.VTRIM 0) = 625 * c := by
  have e : (trimTaken u (625 * c) m).getI u.base (TSK_VTRIM.VTRIM 0) = 625 * c := by
    rw [trimTaken, onGrid_code h]
    exact m.getI_set _ _ _ (by decide) (by decide) (by dsimp only; omega) (by dsimp only; omega)
  unfold trimmed
  split
  · rw [Wafer.getI, Wafer.get_set_beside _ _ (by decide)]
    exact e
  · exact e

theorem toInt_code {c : Int} (h : -64 ≤ c ∧ c ≤ 64) : (BitVec.ofInt 32 (625 * c)).toInt = 625 * c := by
  rw [BitVec.toInt_ofInt]
  exact Int.bmod_eq_of_le (by omega) (by omega)

/-- The trim of a frame stands in its register. -/
theorem applySetpoint_trim {c : Int} (h : -64 ≤ c ∧ c ≤ 64) (m : Wafer) :
    (applySetpoint u (.vtrim 0) (TSK_VTRIM.VTRIM 0) (some c) m).getI u.base (TSK_VTRIM.VTRIM 0) = 625 * c := by
  unfold applySetpoint
  dsimp only
  split
  · assumption
  · rw [setpointWrite_trim, toInt_code h]
    have k := (retarget_held (u := u) 0 (trimmed u (625 * c) m)).get (TSK_VTRIM.VTRIM 0) (by unfold QuietField; decide)
    exact (congrArg (signed 32) k).trans (trimmed_code h m)

theorem applySetpoint_keeps (h : Keeps A m₀ m) (hu : UnitIn A u) (c : Int) :
    Keeps A m₀ (applySetpoint u (.vtrim 0) (TSK_VTRIM.VTRIM 0) (some c) m) := by
  have k (v : Int) : Keeps A m₀ (trimTaken u v m) := h.unitSet hu _ (by decide)
  have kt (v : Int) : Keeps A m₀ (trimmed u v m) := .ite (fun _ => (k v).unitSet hu 1 (by decide)) fun _ => k v
  exact .ite (fun _ => h) fun _ => retarget_keeps (kt _) hu (by decide)

/-! ### The record (R208, R210) -/

/-- What the end of a record leaves: its sampled part, the levels of the unit and every register. -/
theorem finishRecord_gives (u : UnitId) (f : Nat) (r : UpRecord) (m : Wafer) :
    (∃ s, ((finishRecord u f r m).unit u).uplink = some s ∧ s.i0 = r.i0) ∧
      ((finishRecord u f r m).unit u).applied = (m.unit u).applied ∧
      ∀ b g, (finishRecord u f r m).get b g = m.get b g := by
  have k (g : UnitSt → UnitSt) (s : UpRecord) (hg : ∀ x, (g x).uplink = some s ∧ (g x).applied = x.applied) (hs : s.i0 = r.i0) :
      (∃ s, ((m.modUnit u g).unit u).uplink = some s ∧ s.i0 = r.i0) ∧
        ((m.modUnit u g).unit u).applied = (m.unit u).applied ∧ ∀ b h, (m.modUnit u g).get b h = m.get b h := by
    rw [m.unit_modUnit]
    exact ⟨⟨s, (hg _).1, hs⟩, (hg _).2, fun _ _ => rfl⟩
  unfold finishRecord
  dsimp only
  split
  · exact k _ _ (fun _ => ⟨rfl, rfl⟩) rfl
  · split
    · exact k _ _ (fun _ => ⟨rfl, rfl⟩) rfl
    · split
      · exact k _ _ (fun _ => ⟨rfl, rfl⟩) rfl
      · exact k _ _ (fun _ => ⟨rfl, rfl⟩) rfl

theorem finishRecord_keeps (h : Keeps A m₀ m) (hu : UnitIn A u) (f : Nat) (r : UpRecord) : Keeps A m₀ (finishRecord u f r m) := by
  unfold finishRecord
  dsimp only
  split
  · exact h.unitMod hu _
  · split
    · exact h.unitMod hu _
    · split
      · exact h.unitMod hu _
      · exact h.unitMod hu _

/-! ### DOWNLINK_APPLY (R203, R206, R365) -/

/-- What a unit took at the boundary of frame f, before any frame applies: whether a canary failed, and the unit. -/
def boundaryTaken (u : UnitId) (f : Nat) (s : Sample) (m : Wafer) : Bool × Wafer :=
  canaryBoundary u s.canary (telBoundary u f s (adoptHold u (testTick u (takeSample u s (m.at (800 * f))))))

/-- The sampled part of the record of frame f. -/
def recordMade (u : UnitId) (f : Nat) (s : Sample) (m : Wafer) : UpRecord :=
  sampledRecord u s (boundaryTaken u f s m).1 (boundaryTaken u f s m).2

/-- The unit with the steps and the context that its record names sent. -/
def stepsSent (u : UnitId) (f : Nat) (s : Sample) (m : Wafer) : Wafer :=
  (boundaryTaken u f s m).2.modUnit u fun x => { x with swStep := 0, ctxPend := none }

/-- No frame waits any more. -/
def frameDone (u : UnitId) (m : Wafer) : Wafer := m.modUnit u fun x => { x with frame := none }

theorem stepsSent_sampled (u : UnitId) (f : Nat) (s : Sample) (m : Wafer) :
    Sampled u (takeSample u s (m.at (800 * f))) (stepsSent u f s m) := by
  have k : Sampled u (takeSample u s (m.at (800 * f))) (testTick u (takeSample u s (m.at (800 * f)))) :=
    (Sampled.refl u _).ofDriven (.testTick (.refl u _))
  exact (((k.adoptHold).telBoundary f s).canaryBoundary s.canary).modUnit _

theorem stepsSent_applied (u : UnitId) (f : Nat) (s : Sample) (m : Wafer) :
    ((stepsSent u f s m).unit u).applied = (m.unit u).applied := by
  rw [(stepsSent_sampled u f s m).hidden, ((Quiet.refl u (m.at (800 * f))).takeSample s).keeps UnitSt.applied, Wafer.unit_at]

theorem stepsSent_frame (u : UnitId) (f : Nat) (s : Sample) (m : Wafer) :
    ((stepsSent u f s m).unit u).frame = (m.unit u).frame := congrArg Prod.fst (stepsSent_applied u f s m)

theorem stepsSent_keeps (h : Keeps A m₀ m) (hu : UnitIn A u) (ht : A.time = true) (f : Nat) (s : Sample) :
    Keeps A m₀ (stepsSent u f s m) :=
  (canaryBoundary_keeps (telBoundary_keeps (adoptHold_keeps (testTick_keeps (takeSample_keeps (h.at _ ht) hu s) hu) hu) hu f s) hu
    s.canary).unitMod hu _

theorem frameDone_applied (u : UnitId) (m : Wafer) : ((frameDone u m).unit u).applied =
    (none, (m.unit u).rung, (m.unit u).pgSpine, (m.unit u).sentArrRet) := by
  rw [frameDone, m.unit_modUnit]
  rfl

section
variable {f : Nat} {s : Sample}

theorem swathRuns_run (h : (m.unit u).rst = .run) : swathRuns u m = true := by
  unfold swathRuns
  rw [h]
  rfl

/-- The frame that waits at a boundary applies where it names the boundary. -/
def frameAt (u : UnitId) (f : Nat) (m : Wafer) : Option DownFrame → Wafer
  | some d => if d.fnum = f % 2 ^ 16 then applyFrame u d m else m
  | none => m

theorem doDownlinkApply_run (h : (m.unit u).rst = .run) : doDownlinkApply u f s m =
    finishRecord u f (recordMade u f s m) (frameDone u (frameAt u f (stepsSent u f s m) (m.unit u).frame)) := by
  have e : frameAt u f (stepsSent u f s m) (m.unit u).frame =
      frameAt u f (stepsSent u f s m) ((stepsSent u f s m).unit u).frame := by rw [stepsSent_frame]
  have hr : swathRuns u (m.at (800 * f)) = true := swathRuns_run h
  rw [e]
  unfold doDownlinkApply
  exact if_neg (by rw [hr]; decide)

/-- The end of a boundary: no frame waits, and the record goes out. -/
def boundaryDone (u : UnitId) (f : Nat) (r : UpRecord) (m : Wafer) : Wafer := finishRecord u f r (frameDone u m)

theorem boundaryDone_keeps (h : Keeps A m₀ m) (hu : UnitIn A u) (r : UpRecord) : Keeps A m₀ (boundaryDone u f r m) :=
  finishRecord_keeps (h.unitMod hu _) hu f r

/-- What a boundary leaves: no frame, the rung and the levels as the frame left them, the record, and the registers. -/
structure Done (u : UnitId) (r : UpRecord) (m m' : Wafer) : Prop where
  frame : (m'.unit u).frame = none
  rung : (m'.unit u).rung = (m.unit u).applied.2.1
  pgSpine : (m'.unit u).pgSpine = (m.unit u).applied.2.2.1
  sentArrRet : (m'.unit u).sentArrRet = (m.unit u).applied.2.2.2
  uplink : ∃ s, (m'.unit u).uplink = some s ∧ s.i0 = r.i0
  get : ∀ b g, m'.get b g = m.get b g

theorem boundaryDone_done (u : UnitId) (f : Nat) (r : UpRecord) (m : Wafer) : Done u r m (boundaryDone u f r m) := by
  obtain ⟨hl, ha, hg⟩ := finishRecord_gives u f r (frameDone u m)
  rw [frameDone_applied] at ha
  have h (x : UnitSt) (a : Option DownFrame) (b : Nat) (c d : Bool) (h : x.applied = (a, b, c, d)) :
      x.frame = a ∧ x.rung = b ∧ x.pgSpine = c ∧ x.sentArrRet = d := by
    simpa [UnitSt.applied] using h
  obtain ⟨h1, h2, h3, h4⟩ := h _ _ _ _ _ ha
  exact ⟨h1, h2, h3, h4, hl, hg⟩

theorem doDownlinkApply_named {d : DownFrame} (h : (m.unit u).rst = .run) (hf : (m.unit u).frame = some d)
    (hn : d.fnum = f % 2 ^ 16) : doDownlinkApply u f s m =
      boundaryDone u f (recordMade u f s m) (applyFrame u d (stepsSent u f s m)) := by
  rw [doDownlinkApply_run h, hf, frameAt, if_pos hn, boundaryDone]

theorem doDownlinkApply_other {d : DownFrame} (h : (m.unit u).rst = .run) (hf : (m.unit u).frame = some d)
    (hn : d.fnum ≠ f % 2 ^ 16) : doDownlinkApply u f s m = boundaryDone u f (recordMade u f s m) (stepsSent u f s m) := by
  rw [doDownlinkApply_run h, hf, frameAt, if_neg hn, boundaryDone]

theorem doDownlinkApply_none (h : (m.unit u).rst = .run) (hf : (m.unit u).frame = none) : doDownlinkApply u f s m =
    boundaryDone u f (recordMade u f s m) (stepsSent u f s m) := by
  rw [doDownlinkApply_run h, hf, frameAt, boundaryDone]

theorem doDownlinkApply_silent (h : swathRuns u m = false) : doDownlinkApply u f s m =
    (m.at (800 * f)).modUnit u fun x => { x with uplink := none, frame := none } :=
  if_pos (by rw [show swathRuns u (m.at (800 * f)) = false from h]; rfl)

/-- The levels that a frame with no access leaves, once the core gate followed. -/
theorem coreApplied_applied {n : Wafer} {x : Option DownFrame × Nat × Bool × Bool} (h : (n.unit u).applied = x) :
    ((coreApplied u n).unit u).applied = x := (((Quiet.refl u n).coreApplied).keeps UnitSt.applied).trans h

theorem headerLevels_rung (u : UnitId) (d : DownFrame) (x : UnitSt) : (headerLevels u d x).2.1 = d.rung := by
  unfold headerLevels
  split
  · rfl
  · rfl

theorem headerLevels_tussock (h : u.isVerge = false) (d : DownFrame) (x : UnitSt) :
    headerLevels u d x = (x.frame, d.rung, d.pgSpine, d.arrRet) := if_neg (ne_true_of_eq_false h)

/-- The peaks at a boundary with no frame. -/
theorem boundaryDone_peak (r : UpRecord) {g : Fld} (hg : PeakField g) :
    (boundaryDone u f r (stepsSent u f s m)).getI u.base g = (takeSample u s (m.at (800 * f))).getI u.base g := by
  rw [Wafer.getI, (boundaryDone_done u f r _).get, (stepsSent_sampled u f s m).get g hg, ← Wafer.getI]

end

theorem peakField_low (q : Fin 2) : PeakField (TSK_TPK_V.VMIN q) := by
  unfold PeakField
  dsimp only
  omega

theorem peakField_top (q : Fin 2) : PeakField (TSK_TPK_I.IMAX q) := by
  unfold PeakField
  dsimp only
  omega

/-- Settles O48, clause by clause. -/
theorem spokeFrames : Obligations.SpokeFrames := by
  unfold Obligations.SpokeFrames
  have hB (u : UnitId) : UnitIn { unitArea u with
      blocks := [(u.base, 0x1000), (swd u.part, 0x40000)], swards := (· == u.part), sends := true, time := true } u :=
    ⟨List.mem_cons_self, (unitArea_unitIn u).hidden⟩
  have hT (u : UnitId) : UnitIn { unitArea u with time := true } u := ⟨(unitArea_unitIn u).block, (unitArea_unitIn u).hidden⟩
  refine ⟨?_, ?_, ?_, ?_, ?_, ?_, ?_, ?_, ?_, ?_, ?_, ?_, ?_, ?_, ?_, ?_, ?_, ?_, ?_, ?_⟩
  · intro m u a c hr h
    have k := doDownlinkFrameReceive_bad hr (frameTaken_none h)
    refine .of_effect _ (fun _ => rfl) ?_ ?_
    · have hi := ((Keeps.refl { swardArea u.part with fields := [(u.base, TSK_SWATH.BAD_CNT)] } m).incSat u.base
        TSK_SWATH.BAD_CNT (.inl (.head _))).within
      exact hi.trans (k.into ⟨by simp [swardArea], by simp [swardArea], rfl⟩)
    · have hw := k.into (swardArea_swardIn u.part)
      rw [hw.unit_of_sward, hw.get_unit u (by decide), Wafer.get_incSat _ _ (by decide)]
      exact ⟨rfl, by rw [Wafer.unit, Wafer.incSat_units, Wafer.unit]⟩
  · intro m u c hr
    exact .of_idle _ (fun _ => rfl) (if_pos (by rw [hr]; rfl)) rfl
  · intro m u f s d hr hf hn hd
    have e := doDownlinkApply_named (s := s) hr hf hn
    rw [applyFrame_plain hd] at e
    refine .of_effect _ (fun _ => rfl) ?_ ?_
    all_goals rw [e]
    · exact (boundaryDone_keeps (coreApplied_keeps (applyHeader_keeps (stepsSent_keeps (.refl _ m) (hB u) rfl f s) (hB u) d)
        (hB u)) (hB u) _).within
    · have k := boundaryDone_done u f (recordMade u f s m) (coreApplied u (applyHeader u d (stepsSent u f s m)))
      have ha := coreApplied_applied (u := u) (applyHeader_applied d (stepsSent u f s m))
      refine ⟨?_, fun hv => ?_, fun hv => ?_, k.uplink, k.frame⟩
      · rw [k.rung, ha, headerLevels_rung]
      · rw [k.pgSpine, ha, headerLevels_tussock hv]
      · rw [k.sentArrRet, ha, headerLevels_tussock hv]
  · intro m u f s d c hr hf hn hd h1 h2
    have e := doDownlinkApply_named (s := s) hr hf hn
    rw [applyFrame_trim hd] at e
    refine .of_effect _ (fun _ => rfl) ?_ ?_
    all_goals rw [e]
    · exact (boundaryDone_keeps (coreApplied_keeps (applySetpoint_keeps (applyHeader_keeps (stepsSent_keeps (.refl _ m) (hB u) rfl
        f s) (hB u) d) (hB u) c) (hB u)) (hB u) _).within
    · rw [Wafer.getI, (boundaryDone_done u f _ _).get, (Quiet.refl u _).coreApplied.get _ (by unfold QuietField; decide),
        ← Wafer.getI]
      exact applySetpoint_trim ⟨h1, h2⟩ _
  · intro m u f s d hr hf hn
    have e := doDownlinkApply_other (s := s) hr hf hn
    refine .of_effect _ (fun _ => rfl) ?_ ?_
    all_goals rw [e]
    · exact (boundaryDone_keeps (stepsSent_keeps (.refl _ m) (hT u) rfl f s) (hT u) _).within
    · have k := boundaryDone_done u f (recordMade u f s m) (stepsSent u f s m)
      rw [k.rung, k.pgSpine, stepsSent_applied]
      exact ⟨rfl, rfl, k.frame⟩
  · intro m u f s hr
    have hs : swathRuns u m = false := by rw [swathRuns, hr]; rfl
    refine .of_effect _ (fun _ => rfl) ?_ ?_
    all_goals rw [doDownlinkApply_silent hs]
    · exact ((Within.refl _ m).at _ rfl).modUnit _ _ (beq_self_eq_true u)
    · rw [Wafer.unit_modUnit]
  · intro m u a b r hr hs hd hc
    have e := doUplinkRecordReceive_taken hr hs (firstGood_undisturbed hc)
    have hp := swardArea_swardIn u.part
    refine .of_effect _ (fun _ => rfl) ?_ ?_
    all_goals rw [e]
    · exact ((copiesCounted_keeps (.refl _ m) hp _ _).swardMod hp _).within
    · refine ⟨by rw [recordTaken_inbox, hd], recordTaken_got _ _, fun h => ?_⟩
      rw [recordTaken, Wafer.get_modSward]
      exact copiesCounted_flag (by rwa [copyOf_any, copyOf_any]) _
  · intro m u a b r hr hs ha hb
    have e := doUplinkRecordReceive_lost hr hs (firstGood_none (copies_bad ha) (copies_bad hb))
    have hh := copiesCounted_hidden (u := u) (copyOf (recordBits r) a) (copyOf (recordBits r) b) m
    refine .of_effect _ (fun _ => rfl) ?_ ?_
    all_goals rw [e]
    · exact (copiesCounted_keeps (.refl _ m) (swardArea_swardIn u.part) _ _).within
    · refine ⟨congrArg (fun l => Store.get noRec l u.loc) (SwardSt.inbox_beside hh), SwardSt.got_beside hh, fun h => ?_⟩
      refine copiesCounted_flag (h.imp (fun h => ?_) fun h => ?_) m
      · exact copies_flagged ha h
      · exact copies_flagged hb h
  · intro m u a b h
    exact .of_idle _ (fun _ => rfl) (doUplinkRecordReceive_idle h) rfl
  · intro m u f hw hn hs hf
    have e : doTelemetryWindowLatch u f m = telLatched u (m.at (800 * f)) := doTelemetryWindowLatch_latched hw hn hs hf
    refine .of_effect _ (fun _ => rfl) ?_ ?_
    all_goals rw [e]
    · exact (telLatched_keeps ((Keeps.refl _ m).at _ rfl) (hT u)).within
    · refine ⟨telLatched_seq, telLatched_stale, ?_, ?_⟩
      · rw [telLatched_unit]
      · rw [Wafer.getI, telLatched_get (.inr (.inl rfl)) (by decide), Wafer.get_at, ← Wafer.getI]
  · intro m p k hf hn hk
    have e := doMeshPacketSent_taken hf ((meshFirst_other hn).trans hk)
    refine .of_effect _ (fun _ => rfl) ?_ ?_
    all_goals rw [e]
    · exact (packetSent_keeps (.refl _ m) (swardArea_swardIn p) k).within
    · exact ⟨packetSent_contains k, packetSent_mesh k⟩
  · intro m p hm
    refine .of_idle _ (fun _ => rfl) ?_ rfl
    rw [doMeshPacketSent_sward, hm]
    exact ite_self m
  · intro m k rest hk
    refine .of_effect _ (fun _ => rfl) ?_ ?_
    all_goals rw [doMeshPacketSent_heath hk]
    · exact ((Within.refl _ m).modHeath _ rfl).send _ _ _ rfl
    · exact ⟨rfl, rfl⟩
  · intro m p f hr ha hn hs hf
    have hp : SwardIn { swardArea p with time := true } p := ⟨by simp [swardArea], by simp [swardArea], rfl⟩
    have e : doAggregateWindowLatch p f m = aggLatch p f (m.at (800 * f)) := if_neg (ne_true_of_eq_false hr)
    refine .of_effect _ (fun _ => rfl) ?_ ?_
    all_goals rw [e]
    · exact (aggLatch_keeps ((Keeps.refl _ m).at _ rfl) hp f).within
    · exact aggLatch_gives (m := m.at (800 * f)) ha hn hs hf
  · intro m p k hf hk
    obtain ⟨hk, hc⟩ := meshFirst_power hk
    refine .of_effect _ (fun _ => rfl) ?_ ?_
    all_goals rw [doMeshPacketSent_taken hf hk]
    · exact (packetSent_keeps (.refl _ m) (swardArea_swardIn p) k).within
    · have h1 := packetSent_contains (p := p.val) (m := m) k
      have h2 := packetSent_mesh (p := p.val) (m := m) k
      rw [hc] at h1 h2
      exact ⟨h1, h2⟩
  · intro m p hf
    refine .of_idle _ (fun _ => rfl) ?_ rfl
    rw [doMeshPacketSent_sward, if_pos hf]
  · intro m u d b c hr hd hb hv
    refine .of_effect _ (fun _ => rfl) ?_ ?_
    all_goals rw [doDownlinkFrameReceive_taken hr (frameTaken_first hb c)]
    · exact (Within.refl _ m).modUnit _ _ (beq_self_eq_true u)
    · rw [Wafer.unit_modUnit, hv]
  · intro m u b a e hr hb ha hg
    refine .of_effect _ (fun _ => rfl) ?_ ?_
    all_goals rw [doDownlinkFrameReceive_taken hr (frameTaken_second hb ha hg)]
    · exact (Within.refl _ m).modUnit _ _ (beq_self_eq_true u)
    · rw [Wafer.unit_modUnit]
  · intro m u q f s hr hf hq hs
    refine .of_effect _ (fun _ => rfl) ?_ ?_
    all_goals rw [doDownlinkApply_none hr hf]
    · exact (boundaryDone_keeps (stepsSent_keeps (.refl _ m) (hT u) rfl f s) (hT u) _).within
    · rw [boundaryDone_peak _ (peakField_low q), boundaryDone_peak _ (peakField_top q)]
      exact takeSample_idle (m := m.at (800 * f)) ⟨hq, hs⟩ s
  · intro m u q f s i hr hf hq hi hb
    refine .of_effect _ (fun _ => rfl) ?_ ?_
    all_goals rw [doDownlinkApply_none hr hf]
    · exact (boundaryDone_keeps (stepsSent_keeps (.refl _ m) (hT u) rfl f s) (hT u) _).within
    · rw [boundaryDone_peak _ (peakField_top q)]
      exact takeSample_reg (m := m.at (800 * f)) hq hi hb

end Sys2Proof.Machine
end

section
/-! SYNC and the unit's own oscillator: what each command of the reference writes. -/

namespace Sys2Proof.Machine

variable {A : Area} {u : UnitId} {m₀ m : Wafer}

theorem unitEvent_within (h : Within A m₀ m) (hu : A.units u = true) (hv : (u.base, TSK_SWATH.EVQ_OVF) ∈ A.fields)
    (code slot data : Nat) : Within A m₀ (unitEvent u code slot data m) := by
  have hi : Within A m₀ (m.incSat u.base TSK_SWATH.EVQ_OVF) := by
    unfold Wafer.incSat
    split
    · exact h.set _ _ _ (.inl hv)
    · exact h
  unfold unitEvent
  dsimp only
  split
  · exact h.modUnit _ _ hu
  · split
    · exact hi.modUnit _ _ hu
    · exact hi

/-- The unit on its own oscillator, or moving to it, with the count toward SYNC at zero. -/
def movedToOwn (u : UnitId) (m : Wafer) : Wafer := (m.set u.base TSK_SYNC.SRC 2).set u.base TSK_SYNC.GOOD_CNT 0

theorem movedToOwn_src : (movedToOwn u m).get u.base TSK_SYNC.SRC = 2 := by
  rw [movedToOwn, Wafer.get_set_beside _ _ (by decide), Wafer.get_set_fits _ _ (by decide)]

theorem movedToOwn_count : (movedToOwn u m).get u.base TSK_SYNC.GOOD_CNT = 0 := Wafer.get_set_fits _ _ (by decide)

theorem movedToOwn_within (h : Within A m₀ m) (hs : (u.base, TSK_SYNC.SRC) ∈ A.fields)
    (hc : (u.base, TSK_SYNC.GOOD_CNT) ∈ A.fields) : Within A m₀ (movedToOwn u m) :=
  (h.set _ _ _ (.inl hs)).set _ _ _ (.inl hc)

/-- The count of accepted edges begins anew while the own oscillator is the reference (R114). -/
def countAnew (u : UnitId) (m : Wafer) : Wafer := if onOwnOsc u m then m.set u.base TSK_SYNC.GOOD_CNT 0 else m

theorem countAnew_count (h : onOwnOsc u m = true) : (countAnew u m).get u.base TSK_SYNC.GOOD_CNT = 0 := by
  rw [countAnew, if_pos h, Wafer.get_set_fits _ _ (by decide)]

theorem countAnew_within (h : Within A m₀ m) (hc : (u.base, TSK_SYNC.GOOD_CNT) ∈ A.fields) : Within A m₀ (countAnew u m) := by
  unfold countAnew
  split
  · exact h.set _ _ _ (.inl hc)
  · exact h

theorem countAnew_beside {f : Fld} (hf : f.lo + f.wid ≤ 8 ∨ 15 ≤ f.lo) : (countAnew u m).get u.base f = m.get u.base f := by
  unfold countAnew
  split
  · exact Wafer.get_set_beside _ _ (by dsimp only; omega)
  · rfl

theorem countAnew_unit (u v : UnitId) (m : Wafer) : (countAnew u m).unit v = m.unit v := by
  unfold countAnew
  split <;> rfl

/-- Which reference is in use is read from the source alone. -/
theorem onOwnOsc_congr {n : Wafer} (h : n.get u.base TSK_SYNC.SRC = m.get u.base TSK_SYNC.SRC) : onOwnOsc u n = onOwnOsc u m := by
  rw [onOwnOsc, h, onOwnOsc]

/-- An accepted edge corrects the prediction and ends a run of missing edges (R111). -/
def syncTaken (u : UnitId) (err : Int) (m : Wafer) : Wafer :=
  m.modUnit u fun x => { x with syncCorr := x.syncCorr + err, missRun := 0 }

theorem doSyncEdge_accepted {err : Int} (h : -2400 ≤ err ∧ err ≤ 2400) : doSyncEdge u err m =
    if onOwnOsc u m = true ∧ m.get u.base TSK_SYNC.GOOD_CNT < 64 then (syncTaken u err m).inc u.base TSK_SYNC.GOOD_CNT
    else syncTaken u err m := if_pos h

theorem doSyncEdge_rejected {err : Int} (h : err < -2400 ∨ 2400 < err) :
    doSyncEdge u err m = countAnew u (m.incSat u.base TSK_SYNC.REJ_CNT) := if_neg (by omega)

theorem doSyncEdgeMissing_eq : doSyncEdgeMissing u m = countAnew u (m.modUnit u fun x => { x with missRun := min 3 (x.missRun + 1) }) :=
  rfl

theorem doSyncLoss_moves (hr : (m.unit u).missRun = 3) (ho : onOwnOsc u m = false) :
    doSyncLoss u m = flagEvent u TSK_SYNC.SYNC_LOST 24 0 0 (movedToOwn u m) := if_pos ⟨hr, ne_true_of_eq_false ho⟩

theorem doSyncLoss_own (h : onOwnOsc u m = true) : doSyncLoss u m = m := if_neg fun k => k.2 h

theorem flagEvent_get_beside {f g : Fld} (hg : g.off ≠ 0x18) (hb : f.off ≠ g.off ∨ f.lo + f.wid ≤ g.lo ∨ g.lo + g.wid ≤ f.lo)
    (code slot data : Nat) : (flagEvent u f code slot data m).get u.base g = m.get u.base g := by
  unfold flagEvent
  split
  · rfl
  · rw [unitEvent_get hg, Wafer.get_set_beside _ _ hb]

theorem flagEvent_rises {f : Fld} {code : Nat} (h : m.on u.base f = false) (hl : (m.unit u).events.length < 8) :
    ((flagEvent u f code 0 0 m).unit u).events = (m.unit u).events ++ [⟨code, 0, 0⟩] := by
  rw [flagEvent, if_neg (ne_true_of_eq_false h), unitEvent_events (by exact hl), Wafer.unit_set]

theorem flagEvent_within (h : Within A m₀ m) (hu : A.units u = true) (hv : (u.base, TSK_SWATH.EVQ_OVF) ∈ A.fields) {f : Fld}
    (hf : (u.base, f) ∈ A.fields) (code slot data : Nat) : Within A m₀ (flagEvent u f code slot data m) := by
  unfold flagEvent
  split
  · exact h
  · exact unitEvent_within (h.set _ _ _ (.inl hf)) hu hv _ _ _

/-- OWN_OSC_WRITE leaves the reference, or moves it to the own oscillator. -/
theorem doOwnOscWrite_eq (u : UnitId) (on : Bool) (m : Wafer) : doOwnOscWrite u on m =
    if on = true ∧ ¬ onOwnOsc u m = true then movedToOwn u (m.setB u.base TSK_CTL.OWN_OSC on) else m.setB u.base TSK_CTL.OWN_OSC on := by
  have h : onOwnOsc u (m.setB u.base TSK_CTL.OWN_OSC on) = onOwnOsc u m :=
    onOwnOsc_congr (Wafer.get_set_beside _ _ (by decide))
  unfold doOwnOscWrite
  dsimp only
  rw [h]
  rfl

/-- Settles O12, clause by clause. -/
theorem syncReference : Obligations.SyncReference := by
  unfold Obligations.SyncReference
  refine ⟨?_, ?_, ?_, ?_, ?_, ?_, ?_, ?_⟩
  · intro m u err hl hh
    refine .of_effect _ (fun _ => rfl) ?_ ?_
    all_goals rw [doSyncEdge_accepted ⟨hl, hh⟩]
    · have k : Within { fields := [(u.base, TSK_SYNC.GOOD_CNT)], units := (· == u) } m (syncTaken u err m) :=
        (Within.refl _ m).modUnit _ _ (beq_self_eq_true u)
      split
      · exact k.set _ _ _ (.inl (.head _))
      · exact k
    · have hu (n : Wafer) (h : n.unit u = (syncTaken u err m).unit u) :
          (n.unit u).missRun = 0 ∧ (n.unit u).syncCorr = (m.unit u).syncCorr + err := by
        rw [h, syncTaken, Wafer.unit_modUnit]
        exact ⟨rfl, rfl⟩
      split
      · rename_i h
        obtain ⟨hm, hc⟩ := hu ((syncTaken u err m).inc u.base TSK_SYNC.GOOD_CNT) rfl
        exact ⟨hm, hc, fun _ _ => Wafer.get_set_fits _ _ ⟨by decide, Nat.lt_of_le_of_lt h.2 (by decide)⟩⟩
      · rename_i h
        obtain ⟨hm, hc⟩ := hu _ rfl
        exact ⟨hm, hc, fun ho hg => (h ⟨ho, hg⟩).elim⟩
  · intro m u err h
    refine .of_effect _ (fun _ => rfl) ?_ ?_
    all_goals rw [doSyncEdge_rejected h]
    · refine countAnew_within ?_ (.head _)
      unfold Wafer.incSat
      split
      · exact (Within.refl _ m).set _ _ _ (.inl (.tail _ (.head _)))
      · rfl
    · refine ⟨?_, fun ho => countAnew_count ?_⟩
      · exact (countAnew_beside (by decide)).trans (Wafer.get_incSat _ _ (by decide))
      · rw [onOwnOsc_congr (Wafer.get_incSat_beside _ (by decide)), ho]
  · intro m u
    refine .of_effect _ (fun _ => rfl) ?_ ?_
    all_goals rw [doSyncEdgeMissing_eq]
    · exact countAnew_within ((Within.refl _ m).modUnit _ _ (beq_self_eq_true u)) (.head _)
    · rw [countAnew_unit, Wafer.unit_modUnit]
      exact ⟨rfl, fun ho => countAnew_count ho⟩
  · intro m u hr ho
    refine .of_effect _ (fun _ => rfl) ?_ ?_
    all_goals rw [doSyncLoss_moves hr ho]
    · exact flagEvent_within (movedToOwn_within (.refl _ m) (.head _) (.tail _ (.head _))) (beq_self_eq_true u)
        (.tail _ (.tail _ (.tail _ (.head _)))) (.tail _ (.tail _ (.head _))) _ _ _
    · refine ⟨?_, ?_, flagEvent_on (by decide) (by decide) _ _ _, fun hl he => ?_⟩
      · rw [flagEvent_get_beside (by decide) (by decide), movedToOwn_src]
      · rw [flagEvent_get_beside (by decide) (by decide), movedToOwn_count]
      · refine flagEvent_rises (m := movedToOwn u m) ?_ he
        rw [movedToOwn, Wafer.on_set_ne _ _ (by decide), Wafer.on_set_ne _ _ (by decide), hl]
  · intro m u ho
    exact .of_idle _ (fun _ => rfl) (doSyncLoss_own ho) rfl
  · intro m u ho hg hb
    refine .of_effect _ (fun _ => rfl) ?_ ?_
    all_goals rw [show doSyncReturn u m = m.set u.base TSK_SYNC.SRC 3 from if_pos ⟨ho, hg, hb⟩]
    · exact (Within.refl _ m).set _ _ _ (.inl (.head _))
    · exact Wafer.get_set_fits _ _ (by decide)
  · intro m u h
    have e : doRefMoveComplete u m = m.set u.base TSK_SYNC.SRC (if m.get u.base TSK_SYNC.SRC = 2 then 1 else 0) := by
      unfold doRefMoveComplete
      split
      · rfl
      · rw [if_pos (by omega)]
    refine .of_effect _ (fun _ => rfl) ?_ ?_
    all_goals rw [e]
    · exact (Within.refl _ m).set _ _ _ (.inl (.head _))
    · exact Wafer.get_set_fits _ _ ⟨by decide, by split <;> decide⟩
  · intro m u on
    have kb : Within { fields := [(u.base, TSK_CTL.OWN_OSC), (u.base, TSK_SYNC.SRC), (u.base, TSK_SYNC.GOOD_CNT)] } m
        (m.setB u.base TSK_CTL.OWN_OSC on) := (Within.refl _ m).set _ _ _ (.inl (.head _))
    have hb : (m.setB u.base TSK_CTL.OWN_OSC on).on u.base TSK_CTL.OWN_OSC = on := m.on_setB _ _ _ (by decide) (by decide)
    refine .of_effect _ (fun _ => rfl) ?_ ?_
    all_goals rw [doOwnOscWrite_eq]; split
    · exact movedToOwn_within kb (.tail _ (.head _)) (.tail _ (.tail _ (.head _)))
    · exact kb
    · rename_i h
      refine ⟨?_, fun _ _ => ⟨movedToOwn_src, movedToOwn_count⟩, fun k => ?_⟩
      · rw [movedToOwn, Wafer.on_set_ne _ _ (by decide), Wafer.on_set_ne _ _ (by decide), hb]
      · simp [h] at k
    · rename_i h
      exact ⟨hb, fun ho hs => (h ⟨ho, ne_true_of_eq_false hs⟩).elim,
        fun _ => ⟨Wafer.get_set_beside _ _ (by decide), Wafer.get_set_beside _ _ (by decide)⟩⟩

end Sys2Proof.Machine
end

section
/-! The hidden state of phases and rails under the updates of a unit, and what the pulses of a rail leave
of the unit. -/

namespace Sys2Proof.Machine

variable {A : Area} {u : UnitId} {m₀ m : Wafer}

/-! ### Phases and rails of a unit -/

theorem UnitSt.phase_eq (x : UnitSt) {s k : Nat} (h : min s 3 = min k 3) : x.phase s = x.phase k := by
  rcases s with _ | _ | _ | s <;> rcases k with _ | _ | _ | k <;> simp [UnitSt.phase] at h ⊢

theorem UnitSt.phase_setPhase_same (x : UnitSt) (s : Nat) (y : PhaseSt) : (x.setPhase s y).phase s = y := by
  rw [UnitSt.phase_setPhase, if_pos rfl]

theorem UnitSt.phase_setPhase_ne (x : UnitSt) {s k : Nat} (hs : s < 4) (hk : k < 4) (h : k ≠ s) (y : PhaseSt) :
    (x.setPhase s y).phase k = x.phase k := by rw [UnitSt.phase_setPhase, if_neg (by omega)]

theorem UnitSt.setPhase_setPhase (x : UnitSt) (s : Nat) (y z : PhaseSt) : (x.setPhase s y).setPhase s z = x.setPhase s z := by
  rcases s with _ | _ | _ | s <;> rfl

theorem UnitSt.setPhase_phase (x : UnitSt) (s : Nat) : x.setPhase s (x.phase s) = x := by
  rcases s with _ | _ | _ | s <;> rfl

theorem UnitSt.phase_setRail (x : UnitSt) (q k : Nat) (r : RailSt) : (x.setRail q r).phase k = x.phase k := by
  unfold UnitSt.setRail
  split <;> rfl

theorem UnitSt.phase_setPort (x : UnitSt) (n k : Nat) (y : PortSt) : (x.setPort n y).phase k = x.phase k := by
  unfold UnitSt.setPort
  split <;> rfl

theorem Wafer.unit_modPhase (m : Wafer) (u : UnitId) (s : Nat) (f : PhaseSt → PhaseSt) :
    (m.modPhase u s f).unit u = (m.unit u).setPhase s (f ((m.unit u).phase s)) := m.unit_modUnit u _

theorem Wafer.unit_modRail (m : Wafer) (u : UnitId) (q : Nat) (f : RailSt → RailSt) :
    (m.modRail u q f).unit u = (m.unit u).setRail q (f ((m.unit u).rail q)) := m.unit_modUnit u _

@[simp] theorem Wafer.on_modPhase (m : Wafer) (u : UnitId) (s : Nat) (f : PhaseSt → PhaseSt) (b : Nat) (g : Fld) :
    (m.modPhase u s f).on b g = m.on b g := rfl

@[simp] theorem Wafer.on_modRail (m : Wafer) (u : UnitId) (q : Nat) (f : RailSt → RailSt) (b : Nat) (g : Fld) :
    (m.modRail u q f).on b g = m.on b g := rfl

theorem Within.modPhase (h : Within A m₀ m) (hu : A.units u = true) (s : Nat) (f : PhaseSt → PhaseSt) :
    Within A m₀ (m.modPhase u s f) := h.modUnit u _ hu

theorem Within.modRail (h : Within A m₀ m) (hu : A.units u = true) (q : Nat) (f : RailSt → RailSt) :
    Within A m₀ (m.modRail u q f) := h.modUnit u _ hu

/-- What an update of one phase leaves of that phase, it leaves of every phase. -/
theorem UnitSt.phaseKept_setPhase {α : Type} (p : PhaseSt → α) (x : UnitSt) (s k : Nat) {y : PhaseSt}
    (h : p y = p (x.phase s)) : p ((x.setPhase s y).phase k) = p (x.phase k) := by
  rw [UnitSt.phase_setPhase]
  split
  · rename_i e
    rw [h, x.phase_eq e]
  · rfl

/-- What an update of one rail leaves of that rail, it leaves of every rail. -/
theorem UnitSt.railKept_setRail {α : Type} (p : RailSt → α) (x : UnitSt) (q k : Nat) {r : RailSt}
    (h : p r = p (x.rail q)) : p ((x.setRail q r).rail k) = p (x.rail k) := by
  by_cases hq : q = 0 <;> by_cases hk : k = 0 <;> simp [UnitSt.setRail, UnitSt.rail, hq, hk] at h ⊢ <;> exact h

/-- The slots of a rail belong to it (Table 1.2). -/
theorem railSlots_rail {verge : Bool} {q : Nat} (hq : q < 2) {s : Nat} (hs : s ∈ railSlots verge q) : slotRail s = q := by
  obtain rfl | rfl : q = 0 ∨ q = 1 := by omega
  · have : s = 0 ∨ s = 1 := by simpa [railSlots] using hs
    unfold slotRail
    omega
  · have : s = 2 ∨ s = 3 := by cases verge <;> simp [railSlots] at hs <;> omega
    unfold slotRail
    omega

/-! ### What pulses leave (R96, R104, R106, R145, R199) -/

/-- An area takes in what the pulses of a rail change. -/
structure PulsesIn (A : Area) (u : UnitId) (q : Nat) : Prop where
  hidden : A.units u = true
  pulses : ∀ s, s < 4 → (u.base, TSK_PHPULSE.PULSES s) ∈ A.fields
  carry : (u.base, TSK_RSTAT.CARRY_FIRE q) ∈ A.fields
  ties : (u.base, TSK_TIEPULSE.TIE_PULSES) ∈ A.fields

/-- What of a phase no pulse changes. -/
def PhaseSt.unpulsed (x : PhaseSt) : PhaseSt :=
  { x with pulse := .none, bridge := .off, steps := 0, tonMin := 0, fromStart := 0, lateBurst := false, returning := false,
           winPulses := 0, testLeft := 0, testDue := false }

/-- What of a rail no pulse changes. -/
def RailSt.unpulsed (r : RailSt) : RailSt := { r with waiting := false, rot := 0, carry := 0, fllHold := false }

/-- Fields beside the pulse counters and CARRY_FIRE. -/
def UnpulsedField (f : Fld) : Prop :=
  (f.off ≠ 0x20C ∧ f.off ≠ 0x22C ∧ f.off ≠ 0x24C ∧ f.off ≠ 0x26C ∧ f.off ≠ 0x30C) ∧
    (f.off = 0x128 ∨ f.off = 0x168 → f.lo + f.wid ≤ 6 ∨ 7 ≤ f.lo)

/-- The pulse counters and CARRY_FIRE. -/
def PulseField (f : Fld) : Prop :=
  f.off = 0x20C ∨ f.off = 0x22C ∨ f.off = 0x24C ∨ f.off = 0x26C ∨ f.off = 0x30C ∨
    ((f.off = 0x128 ∨ f.off = 0x168) ∧ f.lo = 6 ∧ f.wid = 1)

theorem pulseField_pulses {s : Nat} (hs : s < 4) : PulseField (TSK_PHPULSE.PULSES s) := by
  unfold PulseField
  dsimp only
  omega

/-- From the first controller to the second, as the pulses of a rail leave the unit. -/
structure Fires (A : Area) (u : UnitId) (m m' : Wafer) : Prop where
  within : Within A m m'
  get : ∀ f, UnpulsedField f → m'.get u.base f = m.get u.base f
  rail : ∀ k, ((m'.unit u).rail k).unpulsed = ((m.unit u).rail k).unpulsed
  phase : ∀ k, ((m'.unit u).phase k).unpulsed = ((m.unit u).phase k).unpulsed

namespace Fires

@[refl] theorem refl (A : Area) (u : UnitId) (m : Wafer) : Fires A u m m := ⟨.refl A m, fun _ _ => rfl, fun _ => rfl, fun _ => rfl⟩

theorem trans {m' : Wafer} (h : Fires A u m₀ m) (k : Fires A u m m') : Fires A u m₀ m' :=
  ⟨h.within.trans k.within, fun f hf => (k.get f hf).trans (h.get f hf), fun i => (k.rail i).trans (h.rail i),
    fun i => (k.phase i).trans (h.phase i)⟩

theorem ite {c : Prop} [Decidable c] {a b : Wafer} (ha : Fires A u m₀ a) (hb : Fires A u m₀ b) :
    Fires A u m₀ (if c then a else b) := by
  split
  · exact ha
  · exact hb

theorem set (h : Fires A u m₀ m) {g : Fld} (v : Nat) (hA : (u.base, g) ∈ A.fields) (hg : PulseField g) :
    Fires A u m₀ (m.set u.base g v) :=
  h.trans ⟨(Within.refl A m).set _ _ _ (.inl hA), fun f hf => m.get_set_beside v (by
    unfold UnpulsedField at hf
    unfold PulseField at hg
    omega), fun _ => rfl, fun _ => rfl⟩

theorem modUnit (h : Fires A u m₀ m) (hu : A.units u = true) (f : UnitSt → UnitSt)
    (hr : ∀ x k, ((f x).rail k).unpulsed = (x.rail k).unpulsed := by intro _ _; rfl)
    (hp : ∀ x k, ((f x).phase k).unpulsed = (x.phase k).unpulsed := by intro _ _; rfl) : Fires A u m₀ (m.modUnit u f) :=
  h.trans ⟨(Within.refl A m).modUnit u f hu, fun _ _ => rfl, fun k => by rw [m.unit_modUnit, hr],
    fun k => by rw [m.unit_modUnit, hp]⟩

theorem modRail (h : Fires A u m₀ m) (hu : A.units u = true) (q : Nat) (f : RailSt → RailSt)
    (hf : ∀ r, (f r).unpulsed = r.unpulsed := by intro _; rfl) : Fires A u m₀ (m.modRail u q f) :=
  h.modUnit hu _ (fun _ _ => UnitSt.railKept_setRail _ _ _ _ (hf _)) fun _ _ => by rw [UnitSt.phase_setRail]

theorem modPhase (h : Fires A u m₀ m) (hu : A.units u = true) (s : Nat) (f : PhaseSt → PhaseSt)
    (hf : ∀ x, (f x).unpulsed = x.unpulsed := by intro _; rfl) : Fires A u m₀ (m.modPhase u s f) :=
  h.modUnit hu _ (fun _ _ => by rw [UnitSt.rail_setPhase]) fun _ _ => UnitSt.phaseKept_setPhase _ _ _ _ (hf _)

theorem on (h : Fires A u m₀ m) {f : Fld} (hf : UnpulsedField f) : m.on u.base f = m₀.on u.base f := by
  rw [Wafer.on, h.get f hf, Wafer.on]

section
variable {q s : Nat}

theorem startPulse (h : Fires A u m₀ m) (hA : PulsesIn A u q) (hs : s < 4) (kind : Pulse) (n : Nat) :
    Fires A u m₀ (startPulse u s kind n m) :=
  (h.modPhase hA.hidden s _).set _ (hA.pulses s hs) (pulseField_pulses hs)

theorem issuePulse (h : Fires A u m₀ m) (hA : PulsesIn A u q) (hs : s < 4) (n : Nat) : Fires A u m₀ (issuePulse u q s n m) :=
  (h.modRail hA.hidden q _).startPulse hA hs .normal n

theorem modulate (h : Fires A u m₀ m) (hA : PulsesIn A u q) (hq : q < 2) : Fires A u m₀ (modulate u q m) := by
  unfold Machine.modulate
  split
  · exact h.modRail hA.hidden q _
  · rename_i s hs
    have hl := nextPhase_lt hs
    have hu := hA.hidden
    have hc : PulseField (TSK_RSTAT.CARRY_FIRE q) := by
      unfold PulseField
      dsimp only
      omega
    refine .ite (.ite ?_ ((h.modRail hu q _).modRail hu q _)) ((h.modRail hu q _).issuePulse hA hl _)
    exact (((h.modRail hu q _).modRail hu q _).set 1 hA.carry hc).issuePulse hA hl _

theorem retryRequest (h : Fires A u m₀ m) (hA : PulsesIn A u q) (hq : q < 2) : Fires A u m₀ (retryRequest u q m) :=
  .ite (h.modulate hA hq) h

theorem fireTie (h : Fires A u m₀ m) (hA : PulsesIn A u q) (hs : s < 4) : Fires A u m₀ (fireTie u s m) :=
  ((h.startPulse hA hs _ _).modUnit hA.hidden _).set _ hA.ties (by unfold PulseField; decide)

theorem fireTest (h : Fires A u m₀ m) (hA : PulsesIn A u q) (hs : s < 4) : Fires A u m₀ (fireTest u s m) := by
  unfold Machine.fireTest
  exact (h.startPulse hA hs _ _).modPhase hA.hidden s _

theorem testEval (h : Fires A u m₀ m) (hA : PulsesIn A u q) (hs : s < 4) : Fires A u m₀ (testEval u s m) :=
  .ite (h.fireTest hA hs) h

theorem offerPhase (h : Fires A u m₀ m) (hA : PulsesIn A u (slotRail s)) (hs : s < 4) : Fires A u m₀ (offerPhase u s m) := by
  have k := h.testEval hA hs
  refine .ite k (.ite (k.modPhase hA.hidden s _) ?_)
  split
  · exact .ite (k.fireTie hA hs) ((k.modUnit hA.hidden _).retryRequest hA (slotRail_lt hs))
  · exact k.retryRequest hA (slotRail_lt hs)

theorem offerRail (h : Fires A u m₀ m) (hA : PulsesIn A u q) (hq : q < 2) : Fires A u m₀ (offerRail u q m) := by
  have step (l : List Nat) (hl : ∀ s ∈ l, s < 4 ∧ slotRail s = q) {n : Wafer} (h : Fires A u m₀ n) :
      Fires A u m₀ (l.foldl (fun m s => Machine.offerPhase u s m) n) := by
    induction l generalizing n with
    | nil => exact h
    | cons s t ih =>
      obtain ⟨h4, hr⟩ := hl s List.mem_cons_self
      exact ih (fun k hk => hl k (List.mem_cons_of_mem _ hk)) (h.offerPhase (hr.symm ▸ hA) h4)
  exact step _ (fun s hs => ⟨railSlots_lt _ _ hs, railSlots_rail hq hs⟩) h

end

end Fires

end Sys2Proof.Machine
end

section
/-! Light load and sink mode: a shed phase and its return, the readings and intents that leave the modulator as it
was, and the phases of a rail that sinks. -/

namespace Sys2Proof.Machine

variable {A : Area} {u : UnitId} {m₀ m : Wafer} {q s : Nat}

/-! ### Shed (R119) -/

/-- A rail sheds one of its phases. -/
def shedPhase (u : UnitId) (q s : Nat) (m : Wafer) : Wafer :=
  dropWindow u s ((m.set u.base (TSK_PHSTAT.SHED s) 1).set u.base (TSK_RSTAT.SHED q) 1)

theorem doShedEnter_sheds {q : Fin 2} {s1 s2 : Nat} {i8 : Int} (hl : railSlots u.isVerge q = [s1, s2])
    (hi : i8 < 50 * (m.get u.base (TSK_SHED.SHED_I q) : Int)) (hc : m.get u.base (TSK_SHED.SHED_I q) ≠ 0)
    (hs : m.get u.base (TSK_RSTAT.SHED q) = 0) (hh : ((m.unit u).rail q).shedHold = false) (hr : regulating u q m = true) :
    doShedEnter u q i8 m = shedPhase u q (if inService u s2 m && !inService u s1 m then s1 else s2) m := by
  unfold doShedEnter
  rw [hl]
  exact if_pos ⟨hc, hi, hs, ne_true_of_eq_false hh, hr⟩

theorem doShedEnter_held {q : Fin 2} {i8 : Int} (hh : ((m.unit u).rail q).shedHold = true) : doShedEnter u q i8 m = m := by
  unfold doShedEnter
  dsimp only
  split
  · exact if_neg fun k => k.2.2.2.1 hh
  · rfl

theorem shedPhase_within (h : Within A m₀ m) (hu : A.units u = true) (hr : (u.base, TSK_RSTAT.SHED q) ∈ A.fields)
    (hs : (u.base, TSK_PHSTAT.SHED s) ∈ A.fields) : Within A m₀ (shedPhase u q s m) := by
  unfold shedPhase dropWindow
  exact ((h.set _ _ _ (.inl hs)).set _ _ _ (.inl hr)).modPhase hu _ _

theorem shedPhase_gives (q : Fin 2) (hs : s < 4) (m : Wafer) : (shedPhase u q s m).on u.base (TSK_RSTAT.SHED q) = true ∧
    (shedPhase u q s m).on u.base (TSK_PHSTAT.SHED s) = true ∧ (((shedPhase u q s m).unit u).phase s).winServed = false := by
  refine ⟨?_, ?_, ?_⟩
  · rw [shedPhase, dropWindow, Wafer.on_modPhase, Wafer.on_set_one_of _ _ (by dsimp only; omega)]
  · rw [shedPhase, dropWindow, Wafer.on_modPhase, Wafer.on_set_ne _ _ (.inl (by dsimp only; omega)),
      Wafer.on_set_one_of _ _ (by dsimp only; omega)]
  · rw [shedPhase, dropWindow, Wafer.unit_modPhase, UnitSt.phase_setPhase_same]

/-- One phase leaves shed. -/
def unshed (u : UnitId) (s : Nat) (m : Wafer) : Wafer :=
  if m.on u.base (TSK_PHSTAT.SHED s) then
    (m.set u.base (TSK_PHSTAT.SHED s) 0).modPhase u s fun x => { x with servedFrom := m.wtime }
  else m

/-- The phases of a list of slots leave shed. -/
def unshedAll (u : UnitId) (l : List Nat) (m : Wafer) : Wafer := l.foldl (fun m s => unshed u s m) m

theorem restoreShed_shed (h : m.on u.base (TSK_RSTAT.SHED q) = true) : restoreShed u q m =
    ((unshedAll u (railSlots u.isVerge q) m).modRail u q fun r => { r with shedHold := true }).set u.base (TSK_RSTAT.SHED q) 0 :=
  if_pos h

theorem unshed_off (s : Nat) (m : Wafer) : (unshed u s m).on u.base (TSK_PHSTAT.SHED s) = false := by
  unfold unshed
  split
  · rw [Wafer.on_modPhase, Wafer.on_set_zero_of _ _ (by dsimp only; omega)]
  · rename_i h
    exact Bool.eq_false_iff.2 h

theorem unshed_stays {k : Nat} (h : m.on u.base (TSK_PHSTAT.SHED k) = false) (s : Nat) :
    (unshed u s m).on u.base (TSK_PHSTAT.SHED k) = false := by
  by_cases e : s = k
  · rw [← e]
    exact unshed_off s m
  · unfold unshed
    split
    · rw [Wafer.on_modPhase, Wafer.on_set_ne _ _ (.inl (by dsimp only; omega)), h]
    · exact h

theorem unshedAll_stays {k : Nat} (l : List Nat) (h : m.on u.base (TSK_PHSTAT.SHED k) = false) :
    (unshedAll u l m).on u.base (TSK_PHSTAT.SHED k) = false := by
  induction l generalizing m with
  | nil => exact h
  | cons s t ih => exact ih (unshed_stays h s)

theorem unshedAll_off (l : List Nat) (m : Wafer) {s : Nat} (hs : s ∈ l) :
    (unshedAll u l m).on u.base (TSK_PHSTAT.SHED s) = false := by
  induction l generalizing m with
  | nil => cases hs
  | cons k t ih =>
    rcases List.mem_cons.1 hs with rfl | hs
    · exact unshedAll_stays t (unshed_off s m)
    · exact ih _ hs

theorem unshedAll_within (h : Within A m₀ m) (hu : A.units u = true) (l : List Nat)
    (hs : ∀ s ∈ l, (u.base, TSK_PHSTAT.SHED s) ∈ A.fields) : Within A m₀ (unshedAll u l m) :=
  h.fold _ _ fun m s hm k => by
    unfold unshed
    split
    · exact (k.set _ _ _ (.inl (hs s hm))).modPhase hu _ _
    · exact k

theorem restoreShed_within (h : Within A m₀ m) (hu : A.units u = true) (hr : (u.base, TSK_RSTAT.SHED q) ∈ A.fields)
    (hs : ∀ s ∈ railSlots u.isVerge q, (u.base, TSK_PHSTAT.SHED s) ∈ A.fields) : Within A m₀ (restoreShed u q m) := by
  by_cases hm : m.on u.base (TSK_RSTAT.SHED q) = true
  · rw [restoreShed_shed hm]
    exact ((unshedAll_within h hu _ hs).modRail hu _ _).set _ _ _ (.inl hr)
  · rw [restoreShed, if_neg hm]
    exact h

/-- A rail that shed a phase has none shed any more, and the 64 µs begin. -/
theorem restoreShed_gives {q : Fin 2} (h : m.on u.base (TSK_RSTAT.SHED q) = true) :
    (restoreShed u q m).on u.base (TSK_RSTAT.SHED q) = false ∧
      (∀ s ∈ railSlots u.isVerge q, (restoreShed u q m).on u.base (TSK_PHSTAT.SHED s) = false) ∧
      (((restoreShed u q m).unit u).rail q).shedHold = true := by
  rw [restoreShed_shed h]
  refine ⟨Wafer.on_set_zero_of _ _ (by dsimp only; omega), fun s hs => ?_, ?_⟩
  · have := railSlots_lt _ _ hs
    rw [Wafer.on_set_ne _ _ (.inl (by dsimp only; omega)), Wafer.on_modRail, unshedAll_off _ m hs]
  · rw [Wafer.unit_set, Wafer.unit_modRail, UnitSt.rail_setRail]

theorem doShedExit_restores {q : Fin 2} {i1 : Int} (h : 6250 * (m.get u.base (TSK_SHED.SHED_I q) : Int) < 100 * i1) :
    doShedExit u q i1 m = offerRail u q (restoreShed u q m) := if_pos h

/-- What the return of a rail's shed phases may change. -/
def shedArea (u : UnitId) (q : Nat) : Area :=
  { fields := [(u.base, TSK_RSTAT.SHED q), (u.base, TSK_RSTAT.CARRY_FIRE q), (u.base, TSK_PHSTAT.SHED 0), (u.base, TSK_PHSTAT.SHED 1),
      (u.base, TSK_PHSTAT.SHED 2), (u.base, TSK_PHSTAT.SHED 3), (u.base, TSK_PHPULSE.PULSES 0), (u.base, TSK_PHPULSE.PULSES 1),
      (u.base, TSK_PHPULSE.PULSES 2), (u.base, TSK_PHPULSE.PULSES 3), (u.base, TSK_TIEPULSE.TIE_PULSES)],
    units := (· == u) }

theorem shedArea_shed (q : Nat) {s : Nat} (hs : s < 4) : (u.base, TSK_PHSTAT.SHED s) ∈ (shedArea u q).fields := by
  obtain rfl | rfl | rfl | rfl : s = 0 ∨ s = 1 ∨ s = 2 ∨ s = 3 := by omega
  all_goals simp [shedArea]

theorem shedArea_pulsesIn (u : UnitId) (q : Nat) : PulsesIn (shedArea u q) u q where
  hidden := beq_self_eq_true u
  pulses s hs := by
    obtain rfl | rfl | rfl | rfl : s = 0 ∨ s = 1 ∨ s = 2 ∨ s = 3 := by omega
    all_goals simp [shedArea]
  carry := by simp [shedArea]
  ties := by simp [shedArea]

/-! ### Readings and intents (R60, R156, R158) -/

/-- What of a rail readings and pre-lifts leave: its demand, its waiting request and the hold of K_TON. -/
def RailSt.drive (r : RailSt) : Bool × Bool × Bool := (r.demanding, r.waiting, r.fllHold)

/-- Fields that readings and intents leave: those before the intents' registers, but for VSET_CLAMP. -/
def UnreadField (f : Fld) : Prop := f.off < 0x300 ∧ (f.off = 0x128 ∨ f.off = 0x168 → f.lo + f.wid ≤ 4 ∨ 5 ≤ f.lo)

/-- From the first controller to the second, as readings and intents leave the modulator of a unit. -/
structure Reads (u : UnitId) (m m' : Wafer) : Prop where
  get : ∀ f, UnreadField f → m'.get u.base f = m.get u.base f
  drive : ∀ k, ((m'.unit u).rail k).drive = ((m.unit u).rail k).drive
  phase : ∀ k, (m'.unit u).phase k = (m.unit u).phase k

namespace Reads

@[refl] theorem refl (u : UnitId) (m : Wafer) : Reads u m m := ⟨fun _ _ => rfl, fun _ => rfl, fun _ => rfl⟩

theorem trans {m' : Wafer} (h : Reads u m₀ m) (k : Reads u m m') : Reads u m₀ m' :=
  ⟨fun f hf => (k.get f hf).trans (h.get f hf), fun i => (k.drive i).trans (h.drive i), fun i => (k.phase i).trans (h.phase i)⟩

theorem ite {c : Prop} [Decidable c] {a b : Wafer} (ha : Reads u m₀ a) (hb : Reads u m₀ b) : Reads u m₀ (if c then a else b) := by
  split
  · exact ha
  · exact hb

theorem set (h : Reads u m₀ m) {g : Fld} (v : Nat) (hg : 0x300 ≤ g.off ∨ ((g.off = 0x128 ∨ g.off = 0x168) ∧ g.lo = 4 ∧ g.wid = 1)) :
    Reads u m₀ (m.set u.base g v) :=
  h.trans ⟨fun f hf => m.get_set_beside v (by
    unfold UnreadField at hf
    omega), fun _ => rfl, fun _ => rfl⟩

theorem modRail (h : Reads u m₀ m) (q : Nat) (f : RailSt → RailSt) (hf : ∀ r, (f r).drive = r.drive := by intro _; rfl) :
    Reads u m₀ (m.modRail u q f) :=
  h.trans ⟨fun _ _ => rfl, fun k => by rw [Wafer.unit_modRail, UnitSt.railKept_setRail _ _ _ _ (hf _)],
    fun k => by rw [Wafer.unit_modRail, UnitSt.phase_setRail]⟩

theorem senseRail (h : Reads u m₀ m) (q : Nat) (v : Int) : Reads u m₀ (senseRail u q v m) := by
  unfold Machine.senseRail
  extract_lets m1 m2
  have k1 : Reads u m₀ m1 := h.modRail q _
  have k2 : Reads u m₀ m2 := k1.modRail q _
  have k3 : Reads u m₀ (if q = 0 then ovlEval u m2 else m2) := .ite (k2.modRail 0 _) k2
  exact .ite (k3.set _ (.inl (by dsimp only; omega))) k3

theorem setLift (h : Reads u m₀ m) (q : Nat) (v : Int) : Reads u m₀ (setLift u q v m) :=
  .set (.modRail (.modRail h q _) q _) _ (.inl (by split <;> decide))

theorem liftEval (h : Reads u m₀ m) {q : Nat} (hq : q < 2) : Reads u m₀ (liftEval u q m) :=
  .ite (.ite ((h.setLift q _).set 1 (.inr (by dsimp only; omega))) (h.setLift q _)) h

/-- The entries of a list are logged. -/
theorem logEntries (h : Reads u m₀ m) (outcome : Nat) (l : List IntentEntry) : Reads u m₀ (logEntries u outcome l m) :=
  h.trans ⟨fun f hf => logEntries_get (by unfold UnreadField at hf; omega) l, fun _ => by rw [logEntries_unit],
    fun _ => by rw [logEntries_unit]⟩

theorem observeIntents (h : Reads u m₀ m) (seen : IntentEntry → Bool) : Reads u m₀ (observeIntents u seen m) := by
  have k (n : Wafer) (h : Reads u m₀ n) (f : UnitSt → List IntentEntry) :
      Reads u m₀ (n.modUnit u fun x => { x with intents := f x }) :=
    h.trans ⟨fun _ _ => rfl, fun _ => by rw [n.unit_modUnit]; rfl, fun _ => by rw [n.unit_modUnit]; rfl⟩
  exact .liftEval (.liftEval (k _ (.set (h.logEntries 1 _) _ (.inl (by decide))) _) (by decide)) (by decide)

theorem on (h : Reads u m₀ m) {f : Fld} (hf : UnreadField f) : m.on u.base f = m₀.on u.base f := by
  rw [Wafer.on, h.get f hf, Wafer.on]

end Reads

theorem ovlEval_within (h : Within A m₀ m) (hu : A.units u = true) : Within A m₀ (ovlEval u m) := h.modRail hu _ _

theorem peakVoltage_within (h : Within A m₀ m) (hp : (u.base, TSK_TPK_V.VMIN q) ∈ A.fields) (v : Int) :
    Within A m₀ (peakVoltage u q v m) := by
  unfold peakVoltage
  dsimp only
  split
  · exact h.set _ _ _ (.inl hp)
  · exact h

theorem senseRail_within (h : Within A m₀ m) (hu : A.units u = true) (hp : (u.base, TSK_TPK_V.VMIN q) ∈ A.fields) (v : Int) :
    Within A m₀ (senseRail u q v m) := by
  unfold senseRail
  extract_lets m1 m2
  have k1 : Within A m₀ m1 := h.modRail hu _ _
  have k2 : Within A m₀ m2 := k1.modRail hu _ _
  refine peakVoltage_within ?_ hp v
  split
  · exact ovlEval_within k2 hu
  · exact k2

/-- An update of a rail that leaves its pre-lift leaves that of every rail. -/
theorem modRail_lift (m : Wafer) (q k : Nat) (f : RailSt → RailSt) (hf : ∀ r, (f r).lift = r.lift) :
    (((m.modRail u q f).unit u).rail k).lift = ((m.unit u).rail k).lift := by
  rw [Wafer.unit_modRail, UnitSt.railKept_setRail RailSt.lift _ _ _ (hf _)]

theorem peakVoltage_unit (q : Nat) (v : Int) (m : Wafer) : (peakVoltage u q v m).unit u = m.unit u := by
  unfold peakVoltage
  dsimp only
  split
  · rfl
  · rfl

theorem senseRail_lift (q k : Nat) (v : Int) (m : Wafer) :
    (((senseRail u q v m).unit u).rail k).lift = ((m.unit u).rail k).lift := by
  unfold senseRail
  extract_lets m1 m2
  have h1 : ((m1.unit u).rail k).lift = ((m.unit u).rail k).lift := modRail_lift m q k _ fun _ => rfl
  have h2 : ((m2.unit u).rail k).lift = ((m1.unit u).rail k).lift := modRail_lift m1 q k _ fun _ => rfl
  rw [peakVoltage_unit]
  split
  · have h3 : (((ovlEval u m2).unit u).rail k).lift = ((m2.unit u).rail k).lift := modRail_lift m2 0 k _ fun _ => rfl
    rw [h3, h2, h1]
  · rw [h2, h1]

/-! ### Thresholds -/

/-- Where a rail begins to sink (R120, R125). -/
def sinkLevel (u : UnitId) (q : Nat) (m : Wafer) : Int :=
  if railState u q m = rRAMP_DOWN then vSet u q m + halfBand u q m else vSet u q m + ovSoftEff u q m

section
variable {n : Wafer} {q : Fin 2} (h : Reads u m n) (hl : ((n.unit u).rail q).lift = ((m.unit u).rail q).lift)
include h

theorem Reads.state : railState u q n = railState u q m := h.get _ (by unfold UnreadField; dsimp only; omega)

theorem Reads.vnow : n.getI u.base (TSK_VNOW.VNOW q) = m.getI u.base (TSK_VNOW.VNOW q) := by
  rw [Wafer.getI, h.get _ (by unfold UnreadField; dsimp only; omega), Wafer.getI]

theorem Reads.regulating : regulating u q n = regulating u q m := by
  unfold Machine.regulating
  rw [h.state, h.vnow]

theorem Reads.halfBand : halfBand u q n = halfBand u q m := by
  rw [Machine.halfBand, h.get _ (by unfold UnreadField; dsimp only; omega), Machine.halfBand]

include hl

theorem Reads.vSet : vSet u q n = vSet u q m := by
  unfold Machine.vSet preLift
  rw [h.vnow, hl]

theorem Reads.sinkLevel : sinkLevel u q n = sinkLevel u q m := by
  unfold Machine.sinkLevel ovSoftEff
  rw [h.state, h.vSet hl, h.halfBand, h.get (TSK_OVS.OV_SOFT q) (by unfold UnreadField; dsimp only; omega)]

end

end Sys2Proof.Machine
end

section
/-! A rail in sink mode: its available phases turn on their low sides, and the commands of light load and sink. -/

namespace Sys2Proof.Machine

variable {A : Area} {u : UnitId} {m₀ m n : Wafer} {q s : Nat}

/-! ### Phases in service (R92, R449) -/

/-- Fields that tell whether a phase is in service: TSK_CTL, the rails' states and TSK_PHSTAT. -/
def ServiceField (f : Fld) : Prop :=
  f.off = 4 ∨ ((f.off = 0x128 ∨ f.off = 0x168) ∧ f.lo + f.wid ≤ 3) ∨
    f.off = 0x208 ∨ f.off = 0x228 ∨ f.off = 0x248 ∨ f.off = 0x268

theorem ServiceField.unpulsed {f : Fld} (h : ServiceField f) : UnpulsedField f := by
  unfold ServiceField at h
  unfold UnpulsedField
  omega

theorem ServiceField.unread {f : Fld} (h : ServiceField f) : UnreadField f := by
  unfold ServiceField at h
  unfold UnreadField
  omega

theorem inService_congr (h : ∀ f, ServiceField f → n.get u.base f = m.get u.base f) (hs : s < 4) :
    inService u s n = inService u s m := by
  have on (f : Fld) (hf : ServiceField f) : n.on u.base f = m.on u.base f := by rw [Wafer.on, h f hf, Wafer.on]
  have stat (lo wid : Nat) : ServiceField ⟨0x208 + 0x20 * s, lo, wid⟩ := by
    unfold ServiceField
    dsimp only
    omega
  have hq := slotRail_lt hs
  have hr : railServes u (slotRail s) n = railServes u (slotRail s) m := by
    unfold railServes railEnabled railState
    rw [on (enField (slotRail s)) (by unfold enField; split <;> exact .inl rfl),
      h (TSK_RSTAT.STATE (slotRail s)) (by unfold ServiceField; dsimp only; omega)]
  unfold inService
  rw [hr, on _ (stat 2 1), on _ (stat 3 1), on _ (stat 1 1), on _ (stat 4 1)]

theorem available_congr (h : ∀ f, ServiceField f → n.get u.base f = m.get u.base f) (hs : s < 4)
    (hp : (n.unit u).phase s = (m.unit u).phase s) : available u s n = available u s m := by
  rw [available, inService_congr h hs, hp, available]

/-! ### Phases offered to a rail that sinks (R120) -/

/-- A phase that a sinking rail can take: available, and free of pulses, tests and of the return of its current. -/
structure Idles (u : UnitId) (s : Nat) (m : Wafer) : Prop where
  available : available u s m = true
  pulse : ((m.unit u).phase s).pulse = .none
  test : ((m.unit u).phase s).testDue = false
  returning : ((m.unit u).phase s).returning = false

theorem Idles.congr (h : Idles u s m) (hs : s < 4) (hg : ∀ f, ServiceField f → n.get u.base f = m.get u.base f)
    (hp : (n.unit u).phase s = (m.unit u).phase s) : Idles u s n where
  available := (available_congr hg hs hp).trans h.available
  pulse := by rw [hp, h.pulse]
  test := by rw [hp, h.test]
  returning := by rw [hp, h.returning]

theorem testEval_undue (h : ((m.unit u).phase s).testDue = false) : testEval u s m = m := if_neg (by simp [h])

/-- Of the hidden state of a unit, one phase changes at most. -/
def OnePhase (u : UnitId) (s : Nat) (m n : Wafer) : Prop := ∃ y, n.unit u = (m.unit u).setPhase s y

theorem OnePhase.refl (u : UnitId) (s : Nat) (m : Wafer) : OnePhase u s m m := ⟨_, ((m.unit u).setPhase_phase s).symm⟩

theorem OnePhase.modPhase (h : OnePhase u s m n) (f : PhaseSt → PhaseSt) : OnePhase u s m (n.modPhase u s f) := by
  obtain ⟨y, hy⟩ := h
  refine ⟨f ((n.unit u).phase s), ?_⟩
  rw [Wafer.unit_modPhase, hy, UnitSt.setPhase_setPhase]

theorem OnePhase.set (h : OnePhase u s m n) (b : Nat) (f : Fld) (v : Nat) : OnePhase u s m (n.set b f v) := h

theorem OnePhase.startPulse (h : OnePhase u s m n) (kind : Pulse) (k : Nat) : OnePhase u s m (startPulse u s kind k n) :=
  (h.modPhase _).set _ _ _

theorem OnePhase.testEval (u : UnitId) (s : Nat) (m : Wafer) : OnePhase u s m (testEval u s m) := by
  unfold Machine.testEval
  dsimp only
  split
  · unfold fireTest
    exact ((OnePhase.refl u s m).startPulse _ _).modPhase _
  · exact .refl u s m

/-- The rail's field that says it sinks, while a phase of it is offered. -/
theorem sink_unpulsed (hq : q < 2) : UnpulsedField (TSK_RSTAT.SINK q) := by
  unfold UnpulsedField
  dsimp only
  omega

/-- What pulses may change, of a rail. -/
def pulseArea (u : UnitId) (q : Nat) : Area :=
  { fields := [(u.base, TSK_PHPULSE.PULSES 0), (u.base, TSK_PHPULSE.PULSES 1), (u.base, TSK_PHPULSE.PULSES 2),
      (u.base, TSK_PHPULSE.PULSES 3), (u.base, TSK_RSTAT.CARRY_FIRE q), (u.base, TSK_TIEPULSE.TIE_PULSES)], units := (· == u) }

theorem pulseArea_pulsesIn (u : UnitId) (q : Nat) : PulsesIn (pulseArea u q) u q where
  hidden := beq_self_eq_true u
  pulses s hs := by
    obtain rfl | rfl | rfl | rfl : s = 0 ∨ s = 1 ∨ s = 2 ∨ s = 3 := by omega
    all_goals simp [pulseArea]
  carry := by simp [pulseArea]
  ties := by simp [pulseArea]

/-- A sinking rail gives no pulse to a phase that is offered: only that phase changes. -/
theorem offerPhase_sinking (hs : s < 4) (h : m.on u.base (TSK_RSTAT.SINK (slotRail s)) = true) :
    OnePhase u s m (offerPhase u s m) := by
  have hk := ((Fires.refl _ u m).testEval (pulseArea_pulsesIn u (slotRail s)) hs).on (sink_unpulsed (slotRail_lt hs))
  unfold offerPhase
  dsimp only
  rw [hk, h, if_pos rfl]
  split
  · exact .testEval u s m
  · exact (OnePhase.testEval u s m).modPhase _

theorem offerPhase_idles (hi : Idles u s m) (h : m.on u.base (TSK_RSTAT.SINK (slotRail s)) = true) :
    (((offerPhase u s m).unit u).phase s).bridge = .low := by
  unfold offerPhase
  dsimp only
  rw [testEval_undue hi.test, h, hi.available, hi.pulse, if_neg (by decide), if_pos rfl, Wafer.unit_modPhase,
    UnitSt.phase_setPhase_same]
  exact if_neg (by simp [hi.returning])

/-- Slots of a sinking rail offered in turn: rails, the sink flag and other phases stay, and each idle phase turns on
its low side. -/
structure Sinks (u : UnitId) (q : Nat) (l : List Nat) (m m' : Wafer) : Prop where
  rail : ∀ k, (m'.unit u).rail k = (m.unit u).rail k
  sink : m'.on u.base (TSK_RSTAT.SINK q) = true
  other : ∀ k, k < 4 → k ∉ l → (m'.unit u).phase k = (m.unit u).phase k
  low : ∀ s ∈ l, Idles u s m → ((m'.unit u).phase s).bridge = .low

theorem offered_sinks (hq : q < 2) (l : List Nat) (hl : ∀ s ∈ l, s < 4 ∧ slotRail s = q) (hn : l.Nodup) (m : Wafer)
    (h : m.on u.base (TSK_RSTAT.SINK q) = true) : Sinks u q l m (l.foldl (fun m s => offerPhase u s m) m) := by
  induction l generalizing m with
  | nil => exact ⟨fun _ => rfl, h, fun _ _ _ => rfl, fun _ hs => by cases hs⟩
  | cons s t ih =>
    obtain ⟨hs, rfl⟩ := hl s List.mem_cons_self
    obtain ⟨hst, ht⟩ := List.nodup_cons.1 hn
    obtain ⟨y, hy⟩ := offerPhase_sinking hs h
    have hf := (Fires.refl _ u m).offerPhase (pulseArea_pulsesIn u (slotRail s)) hs
    have hp (k : Nat) (hk : k < 4) (hne : k ≠ s) : ((offerPhase u s m).unit u).phase k = (m.unit u).phase k := by
      rw [hy, UnitSt.phase_setPhase_ne _ hs hk hne]
    obtain ⟨rail, sink, other, low⟩ := ih (fun k hk => hl k (List.mem_cons_of_mem _ hk)) ht (offerPhase u s m)
      ((hf.on (sink_unpulsed hq)).trans h)
    refine ⟨fun k => ?_, sink, fun k hk hm => ?_, fun k hk hi => ?_⟩
    · exact (rail k).trans (by rw [hy, UnitSt.rail_setPhase])
    · obtain ⟨hne, hkt⟩ := not_or.1 (mt List.mem_cons.2 hm)
      exact (other k hk hkt).trans (hp k hk hne)
    · rcases List.mem_cons.1 hk with rfl | hkt
      · exact (congrArg PhaseSt.bridge (other k hs hst)).trans (offerPhase_idles hi h)
      · have hk4 := (hl k hk).1
        exact low k hkt (hi.congr hk4 (fun f hf' => hf.get f hf'.unpulsed)
          (hp k hk4 fun e => hst (e ▸ hkt)))

theorem railSlots_nodup (verge : Bool) (q : Nat) : (railSlots verge q).Nodup := by
  unfold railSlots
  split
  · decide
  · split <;> decide

theorem offerRail_sinks (hq : q < 2) (m : Wafer) (h : m.on u.base (TSK_RSTAT.SINK q) = true) :
    Sinks u q (railSlots u.isVerge q) m (offerRail u q m) :=
  offered_sinks hq _ (fun _ hs => ⟨railSlots_lt _ _ hs, railSlots_rail hq hs⟩) (railSlots_nodup _ _) m h

/-! ### The commands of sink mode (R120, R121, R125) -/

/-- A rail above its sink threshold issues no more pulses. -/
def demandOver (u : UnitId) (q : Nat) (m : Wafer) : Wafer :=
  m.modRail u q fun r => { r with demanding := false, waiting := false }

/-- A rail takes up sink mode, and the intents of a step down on it are observed. -/
def sinkBegun (u : UnitId) (q : Fin 2) (m : Wafer) : Wafer :=
  observeIntents u (fun e => e.rail = q ∧ ¬ e.stepUp) ((m.modRail u q fun r => { r with fllHold := true }).set u.base
    (TSK_RSTAT.SINK q) 1)

section
variable {q : Fin 2} {v : Int}

theorem Reads.sinkLimit (h : Reads u m n) : n.get u.base (TSK_OVS.SINK_LIM q) = m.get u.base (TSK_OVS.SINK_LIM q) :=
  h.get _ (by unfold UnreadField; dsimp only; omega)

theorem Reads.sinkInhibit (h : Reads u m n) : n.get u.base TSK_STAT.SINK_INH = m.get u.base TSK_STAT.SINK_INH :=
  h.get _ (by unfold UnreadField; decide)

/-- Above the threshold, as the reading leaves it. -/
theorem sinkLevel_sensed (hr : regulating u q m = true) (hv : sinkLevel u q m < v) :
    regulating u q (senseRail u q v m) = true ∧ sinkLevel u q (senseRail u q v m) < v := by
  have h := (Reads.refl u m).senseRail q v
  rw [h.regulating, h.sinkLevel (senseRail_lift q q v m)]
  exact ⟨hr, hv⟩

theorem doSinkEnter_sinks (hr : regulating u q m = true) (hl : m.get u.base (TSK_OVS.SINK_LIM q) ≠ 0)
    (hi : m.get u.base TSK_STAT.SINK_INH = 0) (hv : sinkLevel u q m < v) :
    doSinkEnter u q v m = offerRail u q (sinkBegun u q (demandOver u q (senseRail u q v m))) := by
  have h := (Reads.refl u m).senseRail q v
  refine (if_pos (sinkLevel_sensed hr hv)).trans (if_pos ⟨?_, ?_⟩)
  · rw [Wafer.get_modRail, h.sinkLimit]
    exact hl
  · rw [Wafer.get_modRail, h.sinkInhibit, hi]

theorem doSinkEnter_inhibited (hr : regulating u q m = true)
    (hl : m.get u.base (TSK_OVS.SINK_LIM q) = 0 ∨ m.get u.base TSK_STAT.SINK_INH ≠ 0) (hv : sinkLevel u q m < v) :
    doSinkEnter u q v m = demandOver u q (senseRail u q v m) := by
  have h := (Reads.refl u m).senseRail q v
  refine (if_pos (sinkLevel_sensed hr hv)).trans (if_neg ?_)
  rw [Wafer.get_modRail, Wafer.get_modRail, h.sinkLimit, h.sinkInhibit]
  exact fun k => hl.elim k.1 fun hi => hi k.2

theorem doSinkExit_ends (hv : v < vSet u q m + halfBand u q m) :
    doSinkExit u q v m = (senseRail u q v m).set u.base (TSK_RSTAT.SINK q) 0 := by
  have h := (Reads.refl u m).senseRail q v
  exact if_pos (by rwa [h.vSet (senseRail_lift q q v m), h.halfBand])

theorem demandOver_rail (m : Wafer) : ((demandOver u q m).unit u).rail q =
    { (m.unit u).rail q with demanding := false, waiting := false } := by
  rw [demandOver, Wafer.unit_modRail, UnitSt.rail_setRail]

theorem demandOver_phase (k : Nat) (m : Wafer) : ((demandOver u q m).unit u).phase k = (m.unit u).phase k := by
  rw [demandOver, Wafer.unit_modRail, UnitSt.phase_setRail]

/-- What sink mode finds as it begins: its flag, a rail without demand that holds K_TON, and the phases as they were. -/
structure SinkBegun (u : UnitId) (q : Fin 2) (m m' : Wafer) : Prop where
  sink : m'.on u.base (TSK_RSTAT.SINK q) = true
  drive : ((m'.unit u).rail q).drive = (((m.unit u).rail q).demanding, ((m.unit u).rail q).waiting, true)
  phase : ∀ k, (m'.unit u).phase k = (m.unit u).phase k
  service : ∀ f, ServiceField f → m'.get u.base f = m.get u.base f

theorem sinkBegun_begun (q : Fin 2) (m : Wafer) : SinkBegun u q m (sinkBegun u q m) := by
  have h := (Reads.refl u ((m.modRail u q fun r => { r with fllHold := true }).set u.base (TSK_RSTAT.SINK q) 1)).observeIntents
    fun e => e.rail = q ∧ ¬ e.stepUp
  refine ⟨?_, ?_, fun k => ?_, fun f hf => ?_⟩
  · rw [sinkBegun, h.on (by unfold UnreadField; dsimp only; omega), Wafer.on_set_one_of _ _ (by dsimp only; omega)]
  · rw [sinkBegun, h.drive, Wafer.unit_set, Wafer.unit_modRail, UnitSt.rail_setRail]
    rfl
  · rw [sinkBegun, h.phase, Wafer.unit_set, Wafer.unit_modRail, UnitSt.phase_setRail]
  · rw [sinkBegun, h.get f hf.unread, Wafer.get_set_beside _ _ (by unfold ServiceField at hf; dsimp only; omega), Wafer.get_modRail]

theorem sinkBegun_keeps (h : Keeps A m₀ m) (hu : UnitIn A u) (q : Fin 2) : Keeps A m₀ (sinkBegun u q m) :=
  observeIntents_keeps ((h.unitMod hu _).unitSet hu 1 (by dsimp only; omega)) hu _

end

/-- Settles O13, clause by clause. -/
theorem lightLoadAndSink : Obligations.LightLoadAndSink := by
  unfold Obligations.LightLoadAndSink
  refine ⟨?_, ?_, ?_, ?_, ?_, ?_, ?_, ?_⟩
  · intro m u q s1 s2 i8 hl hi hc hs hh hr hx
    have h2 : s2 < 4 := railSlots_lt u.isVerge q (by simp [hl])
    have e : doShedEnter u q i8 m = shedPhase u q s2 m := by
      rw [doShedEnter_sheds hl hi hc hs hh hr, if_neg (by simpa using hx)]
    refine .of_effect _ (fun _ => rfl) ?_ ?_
    all_goals rw [e]
    · exact shedPhase_within (.refl _ m) (beq_self_eq_true u) (.head _) (.tail _ (.head _))
    · exact shedPhase_gives q h2 m
  · intro m u q s1 s2 i8 hl hi hc hs hh hr h2 h1
    have h4 : s1 < 4 := railSlots_lt u.isVerge q (by simp [hl])
    have e : doShedEnter u q i8 m = shedPhase u q s1 m := by
      rw [doShedEnter_sheds hl hi hc hs hh hr, if_pos (by simp [h1, h2])]
    refine .of_effect _ (fun _ => rfl) ?_ ?_
    all_goals rw [e]
    · exact shedPhase_within (.refl _ m) (beq_self_eq_true u) (.head _) (.tail _ (.head _))
    · exact shedPhase_gives q h4 m
  · intro m u q i8 hh
    exact .of_idle _ (fun _ => rfl) (doShedEnter_held hh) rfl
  · intro m u q i1 hi hs
    have hf := (Fires.refl (shedArea u q) u (restoreShed u q m)).offerRail (shedArea_pulsesIn u q) q.isLt
    obtain ⟨ho, hp, hh⟩ := restoreShed_gives hs
    refine .of_effect _ (fun _ => rfl) ?_ ?_
    all_goals rw [doShedExit_restores hi]
    · exact (restoreShed_within (.refl _ m) (beq_self_eq_true u) (.head _) fun s hs =>
        shedArea_shed q (railSlots_lt _ _ hs)).trans hf.within
    · refine ⟨?_, fun s hs => ?_, ?_⟩
      · rw [hf.on (by unfold UnpulsedField; dsimp only; omega), ho]
      · have := railSlots_lt _ _ hs
        rw [hf.on (by unfold UnpulsedField; dsimp only; omega), hp s hs]
      · exact (congrArg RailSt.shedHold (hf.rail q)).trans hh
  · intro m u q
    refine .of_effect _ (fun _ => rfl) ((Within.refl _ m).modRail (beq_self_eq_true u) _ _) ?_
    rw [doShedHoldExpire, Wafer.unit_modRail, UnitSt.rail_setRail]
  · intro m u q v hr hl hi hv
    have hu := unitArea_unitIn u
    have hread := (Reads.refl u m).senseRail q v
    have hb := sinkBegun_begun (u := u) q (demandOver u q (senseRail u q v m))
    have hs := offerRail_sinks (u := u) q.isLt _ hb.sink
    have hd := hb.drive
    rw [demandOver_rail] at hd
    have hk (s : Nat) : ((sinkBegun u q (demandOver u q (senseRail u q v m))).unit u).phase s = (m.unit u).phase s := by
      rw [hb.phase, demandOver_phase, hread.phase]
    refine .of_effect _ (fun _ => rfl) ?_ ?_
    all_goals rw [doSinkEnter_sinks hr hl hi hv]
    · exact (offerRail_keeps (sinkBegun_keeps ((senseRail_keeps (.refl _ m) hu q.isLt v).unitMod hu _) hu q) hu q).within
    · refine ⟨hs.sink, ?_, ?_, ?_, fun s hm ha hp ht hret => ?_⟩
      · rw [hs.rail]
        exact congrArg (fun x => x.1) hd
      · rw [hs.rail]
        exact congrArg (fun x => x.2.2) hd
      · rw [hs.rail]
        exact congrArg (fun x => x.2.1) hd
      · have hi : Idles u s m := ⟨ha, hp, ht, hret⟩
        refine hs.low s hm (hi.congr (railSlots_lt _ _ hm) (fun f hf => ?_) (hk s))
        rw [hb.service f hf, demandOver, Wafer.get_modRail, hread.get f hf.unread]
  · intro m u q v hr hl hv
    refine .of_effect _ (fun _ => rfl) ?_ ?_
    all_goals rw [doSinkEnter_inhibited hr hl hv]
    · exact (senseRail_within (.refl _ m) (beq_self_eq_true u) (.head _) v).modRail (beq_self_eq_true u) _ _
    · rw [demandOver_rail]
      exact ⟨rfl, rfl⟩
  · intro m u q v hv
    refine .of_effect _ (fun _ => rfl) ?_ ?_
    all_goals rw [doSinkExit_ends hv]
    · exact (senseRail_within (.refl _ m) (beq_self_eq_true u) (.tail _ (.head _)) v).set _ _ _ (.inl (.head _))
    · exact Wafer.on_set_zero_of _ _ (by dsimp only; omega)

end Sys2Proof.Machine
end

section
/-! The end of pulses and the loss of phases: what a burst's end, a pulse's end, a phase off and the loss of a rail
leave of the unit. -/

namespace Sys2Proof.Machine

variable {A : Area} {u : UnitId} {m₀ m n : Wafer} {q s : Nat}

/-! ### The end of a burst (R142, R151) -/

/-- An area takes in what the end of a burst changes. -/
structure BurstIn (A : Area) (u : UnitId) : Prop where
  hidden : A.units u = true
  burst : (u.base, TSK_GSTAT.BURST) ∈ A.fields
  rearm : (u.base, TSK_GSTAT.REARM_WAIT) ∈ A.fields

/-- From the first controller to the second, phases and rails of a unit stay. -/
structure Idling (A : Area) (u : UnitId) (m m' : Wafer) : Prop where
  within : Within A m m'
  phase : ∀ k, (m'.unit u).phase k = (m.unit u).phase k
  rail : ∀ k, (m'.unit u).rail k = (m.unit u).rail k

namespace Idling

@[refl] theorem refl (A : Area) (u : UnitId) (m : Wafer) : Idling A u m m := ⟨.refl A m, fun _ => rfl, fun _ => rfl⟩

theorem trans (h : Idling A u m₀ m) (k : Idling A u m n) : Idling A u m₀ n :=
  ⟨h.within.trans k.within, fun i => (k.phase i).trans (h.phase i), fun i => (k.rail i).trans (h.rail i)⟩

theorem ite {c : Prop} [Decidable c] {a b : Wafer} (ha : Idling A u m₀ a) (hb : Idling A u m₀ b) :
    Idling A u m₀ (if c then a else b) := by
  split
  · exact ha
  · exact hb

theorem fold {α : Type} (h : Idling A u m₀ m) (l : List α) (f : Wafer → α → Wafer)
    (hf : ∀ m x, Idling A u m₀ m → Idling A u m₀ (f m x)) : Idling A u m₀ (l.foldl f m) := by
  induction l generalizing m with
  | nil => exact h
  | cons x t ih => exact ih (hf m x h)

theorem set (h : Idling A u m₀ m) (f : Fld) (v : Nat) (hf : (u.base, f) ∈ A.fields) : Idling A u m₀ (m.set u.base f v) :=
  h.trans ⟨(Within.refl A m).set _ _ _ (.inl hf), fun _ => rfl, fun _ => rfl⟩

theorem modPort (h : Idling A u m₀ m) (hu : A.units u = true) (k : Nat) (f : PortSt → PortSt) :
    Idling A u m₀ (m.modPort u k f) :=
  h.trans ⟨(Within.refl A m).modUnit u _ hu, fun _ => by rw [Wafer.modPort, m.unit_modUnit, UnitSt.phase_setPort],
    fun _ => by rw [Wafer.modPort, m.unit_modUnit, UnitSt.rail_setPort]⟩

theorem burstOver (h : Idling A u m₀ m) (hA : BurstIn A u) : Idling A u m₀ (burstOver u m) :=
  .ite (.fold ((h.set _ 0 hA.burst).set _ 1 hA.rearm) _ _ fun _ _ k => .ite (k.modPort hA.hidden _ _) k) h

theorem unitEvent (h : Idling A u m₀ m) (hu : A.units u = true) (hv : (u.base, TSK_SWATH.EVQ_OVF) ∈ A.fields)
    (code slot data : Nat) : Idling A u m₀ (unitEvent u code slot data m) := by
  have hb (x : UnitSt) (k : Nat) : x.besideEvents.phase k = x.phase k := rfl
  refine h.trans ⟨unitEvent_within (.refl A m) hu hv _ _ _, fun k => ?_, fun k => unitEvent_rail _ _ _ k⟩
  rw [← hb, unitEvent_unit, hb]

/-- The loss of a rail changes ports, loss flags and the event queue. -/
theorem railLoss (h : Idling A u m₀ m) (hu : A.units u = true) (hv : (u.base, TSK_SWATH.EVQ_OVF) ∈ A.fields)
    (hf : ∀ f ∈ [TSK_HSTAT.ADOPTED, TSK_HSTAT.ARR_LOSS, TSK_HSTAT.LINK_LOSS, TSK_HSTAT.MIF_LOSS], (u.base, f) ∈ A.fields) (s : Nat) :
    Idling A u m₀ (railLoss u s m) := by
  cases u with
  | tussock g =>
    refine .ite (.ite ?_ h) ((h.set _ 1 (hf _ (by simp))).unitEvent hu hv _ _ _)
    exact .unitEvent (.set (.fold h _ _ fun _ _ k => .ite (k.modPort hu _ _) k) _ 1 (hf _ (by simp))) hu hv _ _ _
  | verge k =>
    have ke (f : Fld) (hm : (UnitId.base (.verge k), f) ∈ A.fields) (code slot data : Nat) :=
      (h.set f 1 hm).unitEvent hu hv code slot data
    exact .ite (.ite (ke _ (hf _ (by simp)) _ _ _) h) (.ite (ke _ (hf _ (by simp)) _ _ _) h)

end Idling

/-! ### The end of a pulse (R103, R104, R105) -/

/-- A phase whose on-time has ended. -/
def pulseEnded (limited : Bool) (now : Nat) (x : PhaseSt) : PhaseSt :=
  { x with pulse := .none, bridge := .low, offWait := true, lateBurst := false, lastTie := x.pulse == .tie,
           limitAt := if limited then some now else x.limitAt, freeAt := if limited then x.freeAt else some now }

theorem endPulse_ends {limited : Bool} (hA : BurstIn A u) (h : ((m.unit u).phase s).pulse ≠ .none) :
    Idling A u (m.modPhase u s (pulseEnded limited m.wtime)) (endPulse u s limited m) := by
  have k : Idling A u (m.modPhase u s (pulseEnded limited m.wtime)) (m.modPhase u s (pulseEnded limited m.wtime)) := .refl _ _ _
  rw [endPulse, if_neg h]
  exact .ite k (k.burstOver hA)

theorem endPulse_none {limited : Bool} (h : ((m.unit u).phase s).pulse = .none) : endPulse u s limited m = m := if_pos h

/-- From the first controller to the second, rails stay and a phase keeps the times of its suspensions. -/
structure Halts (A : Area) (u : UnitId) (s : Nat) (m m' : Wafer) : Prop where
  within : Within A m m'
  rail : ∀ k, (m'.unit u).rail k = (m.unit u).rail k
  suspendedAt : ((m'.unit u).phase s).suspendedAt = ((m.unit u).phase s).suspendedAt

namespace Halts

@[refl] theorem refl (A : Area) (u : UnitId) (s : Nat) (m : Wafer) : Halts A u s m m := ⟨.refl A m, fun _ => rfl, rfl⟩

theorem idling (h : Halts A u s m₀ m) (k : Idling A u m n) : Halts A u s m₀ n :=
  ⟨h.within.trans k.within, fun i => (k.rail i).trans (h.rail i), by rw [k.phase, h.suspendedAt]⟩

theorem modPhase (h : Halts A u s m₀ m) (hu : A.units u = true) (f : PhaseSt → PhaseSt)
    (hf : ∀ x, (f x).suspendedAt = x.suspendedAt := by intro _; rfl) : Halts A u s m₀ (m.modPhase u s f) :=
  ⟨h.within.modPhase hu _ _, fun k => by rw [Wafer.unit_modPhase, UnitSt.rail_setPhase, h.rail],
    by rw [Wafer.unit_modPhase, UnitSt.phase_setPhase_same, hf, h.suspendedAt]⟩

theorem endPulse (h : Halts A u s m₀ m) (hA : BurstIn A u) (limited : Bool) : Halts A u s m₀ (endPulse u s limited m) := by
  by_cases hp : ((m.unit u).phase s).pulse = .none
  · rw [endPulse_none hp]
    exact h
  · exact (h.modPhase hA.hidden (pulseEnded limited m.wtime)).idling (endPulse_ends hA hp)

end Halts

/-! ### A phase off (R173, R191) -/

/-- A phase with both transistors off. -/
def phaseOpened (u : UnitId) (s : Nat) (m : Wafer) : Wafer :=
  (endPulse u s false m).modPhase u s fun x => { x with bridge := .off, joinBurst := false, winServed := false, returning := false }

theorem phaseOff_idling (hA : BurstIn A u) (s : Nat) (m : Wafer) : Idling A u (phaseOpened u s m) (phaseOff u s m) :=
  .ite (.refl _ _ _) ((Idling.refl A u (phaseOpened u s m)).burstOver hA)

theorem phaseOff_halts (hA : BurstIn A u) (s : Nat) (m : Wafer) : Halts A u s m (phaseOff u s m) :=
  (((Halts.refl A u s m).endPulse hA false).modPhase hA.hidden _).idling (phaseOff_idling hA s m)

/-- What the end of a burst may change. -/
def burstArea (u : UnitId) : Area :=
  { fields := [(u.base, TSK_GSTAT.BURST), (u.base, TSK_GSTAT.REARM_WAIT)], units := (· == u) }

theorem burstArea_burstIn (u : UnitId) : BurstIn (burstArea u) u := ⟨beq_self_eq_true u, .head _, .tail _ (.head _)⟩

theorem phaseOff_bridge (s : Nat) (m : Wafer) : (((phaseOff u s m).unit u).phase s).bridge = .off := by
  rw [(phaseOff_idling (burstArea_burstIn u) s m).phase, phaseOpened, Wafer.unit_modPhase, UnitSt.phase_setPhase_same]

/-- A field outside an area that names fields of the unit alone. -/
theorem Within.get_listed (h : Within A m₀ m) {f : Fld} (hb : A.blocks = []) (hf : ∀ e ∈ A.fields, Apart e.1 e.2 u.base f) :
    m.get u.base f = m₀.get u.base f :=
  h.get _ _ fun i _ h1 h2 hA => by
    rcases hA with ⟨e, he, h⟩ | ⟨e, he, -⟩
    · have := hf e he
      unfold Apart at this
      omega
    · rw [hb] at he
      cases he

theorem phaseOff_get {f : Fld} (hf : f.off ≠ 0x304) (s : Nat) (m : Wafer) : (phaseOff u s m).get u.base f = m.get u.base f := by
  refine (phaseOff_halts (burstArea_burstIn u) s m).within.get_listed rfl fun e he => .inl ?_
  rcases List.mem_cons.1 he with rfl | he
  · dsimp only
    omega
  · rw [List.mem_singleton.1 he]
    dsimp only
    omega

/-- What the loss of a rail may change. -/
def lossArea (u : UnitId) : Area :=
  { fields := [(u.base, TSK_HSTAT.ADOPTED), (u.base, TSK_HSTAT.ARR_LOSS), (u.base, TSK_HSTAT.LINK_LOSS), (u.base, TSK_HSTAT.MIF_LOSS),
      (u.base, TSK_SWATH.EVQ_OVF)], units := (· == u) }

/-- What follows a phase's retirement: its event, and the loss of its rail. -/
theorem lost_idling (code slot data : Nat) (s : Nat) (m : Wafer) :
    Idling (lossArea u) u m (railLoss u s (unitEvent u code slot data m)) := by
  have hu : (lossArea u).units u = true := beq_self_eq_true u
  have hv : (u.base, TSK_SWATH.EVQ_OVF) ∈ (lossArea u).fields := by simp [lossArea]
  exact ((Idling.refl _ u m).unitEvent hu hv _ _ _).railLoss hu hv (by simp [lossArea]) s

theorem lost_get {f : Fld} (hf : f.off ≠ 0x4CC ∧ f.off ≠ 0x18) (code slot data : Nat) (s : Nat) (m : Wafer) :
    (railLoss u s (unitEvent u code slot data m)).get u.base f = m.get u.base f := by
  refine (lost_idling code slot data s m).within.get_listed rfl fun e he => .inl ?_
  simp only [lossArea, List.mem_cons, List.not_mem_nil, or_false] at he
  rcases he with rfl | rfl | rfl | rfl | rfl <;> dsimp only <;> omega

end Sys2Proof.Machine
end

section
/-! Current limit, phase faults and suspension: the commands on one phase (R171 to R174, R199). -/

namespace Sys2Proof.Machine

variable {A : Area} {u : UnitId} {m₀ m n : Wafer} {s : Nat}

/-! ### A fault noted and its phase off (R173) -/

/-- The carry of a phase's rail is cleared where the phase is next in rotation. -/
def carryCleared (u : UnitId) (s : Nat) (m : Wafer) : Wafer :=
  if nextInRotation u (slotRail s) m = some s then m.modRail u (slotRail s) fun r => { r with carry := 0 } else m

theorem faultOff_eq (u : UnitId) (s : Nat) (m : Wafer) : faultOff u s m = phaseOff u s (carryCleared u s m) := rfl

theorem carryCleared_get (u : UnitId) (s : Nat) (m : Wafer) (f : Fld) : (carryCleared u s m).get u.base f = m.get u.base f := by
  unfold carryCleared
  split
  · exact Wafer.get_modRail _ _ _ _ _ _
  · rfl

theorem carryCleared_within (h : Within A m₀ m) (hu : A.units u = true) (s : Nat) : Within A m₀ (carryCleared u s m) := by
  unfold carryCleared
  split
  · exact h.modRail hu _ _
  · exact h

theorem carryCleared_phase (u : UnitId) (s k : Nat) (m : Wafer) : ((carryCleared u s m).unit u).phase k = (m.unit u).phase k := by
  unfold carryCleared
  split
  · rw [Wafer.unit_modRail, UnitSt.phase_setRail]
  · rfl

theorem carryCleared_carry (h : nextInRotation u (slotRail s) m = some s) :
    (((carryCleared u s m).unit u).rail (slotRail s)).carry = 0 := by
  rw [carryCleared, if_pos h, Wafer.unit_modRail, UnitSt.rail_setRail]

/-- The phase next in rotation depends on what is in service and on the rail's place. -/
theorem nextInRotation_congr {q : Nat} (h : ∀ f, ServiceField f → n.get u.base f = m.get u.base f)
    (hr : ((n.unit u).rail q).rot = ((m.unit u).rail q).rot) : nextInRotation u q n = nextInRotation u q m := by
  unfold nextInRotation
  rw [hr]
  refine List.find?_congr fun k hk => inService_congr h ?_
  rcases List.mem_append.1 hk with hk | hk
  · exact railSlots_lt _ _ (List.mem_of_mem_drop hk)
  · exact railSlots_lt _ _ (List.mem_of_mem_take hk)

/-- A phase off for the faults seen, which are recorded. -/
def faultNoted (u : UnitId) (s : Nat) (seen : BitVec 6) (m : Wafer) : Wafer :=
  faultOff u s (m.set u.base (causeField s) (m.get u.base (causeField s) ||| seen.toNat))

/-- What a recorded fault may change. -/
def noteArea (u : UnitId) (s : Nat) : Area :=
  { fields := [(u.base, causeField s), (u.base, TSK_GSTAT.BURST), (u.base, TSK_GSTAT.REARM_WAIT)], units := (· == u) }

theorem noteArea_burstIn (u : UnitId) (s : Nat) : BurstIn (noteArea u s) u :=
  ⟨beq_self_eq_true u, .tail _ (.head _), .tail _ (.tail _ (.head _))⟩

section
variable (hs : s < 4) (seen : BitVec 6) (m : Wafer)

theorem faultNoted_within : Within (noteArea u s) m (faultNoted u s seen m) := by
  have hb := noteArea_burstIn u s
  rw [faultNoted, faultOff_eq]
  exact (carryCleared_within ((Within.refl _ m).set _ _ _ (.inl (.head _))) hb.hidden s).trans (phaseOff_halts hb s _).within

theorem faultNoted_bridge : (((faultNoted u s seen m).unit u).phase s).bridge = .off := phaseOff_bridge s _

theorem faultNoted_suspendedAt :
    (((faultNoted u s seen m).unit u).phase s).suspendedAt = ((m.unit u).phase s).suspendedAt := by
  rw [faultNoted, faultOff_eq, (phaseOff_halts (burstArea_burstIn u) s _).suspendedAt, carryCleared_phase, Wafer.unit_set]

theorem faultNoted_get {f : Fld} (hf : f.off ≠ 0x304 ∧ (f.off ≠ 0x408 + 0x20 * s ∨ 7 ≤ f.lo)) :
    (faultNoted u s seen m).get u.base f = m.get u.base f := by
  rw [faultNoted, faultOff_eq, phaseOff_get hf.1, carryCleared_get,
    Wafer.get_set_beside _ _ (by unfold causeField; dsimp only; omega)]

theorem faultNoted_on {f : Fld} (hf : f.off ≠ 0x304 ∧ (f.off ≠ 0x408 + 0x20 * s ∨ 7 ≤ f.lo)) :
    (faultNoted u s seen m).on u.base f = m.on u.base f := by rw [Wafer.on, faultNoted_get seen m hf, Wafer.on]

include hs

theorem faultNoted_cause :
    (faultNoted u s seen m).get u.base (causeField s) = m.get u.base (causeField s) ||| seen.toNat := by
  have hl : m.get u.base (causeField s) < 2 ^ 7 := getBits_lt _ _ _
  have hb : seen.toNat < 2 ^ 7 := seen.isLt.trans (by decide)
  rw [faultNoted, faultOff_eq, phaseOff_get (by unfold causeField; dsimp only; omega), carryCleared_get,
    Wafer.get_set_fits _ _ ⟨by unfold causeField; dsimp only; omega, Nat.or_lt_two_pow hl hb⟩]

theorem faultNoted_carry (h : nextInRotation u (slotRail s) m = some s) :
    (((faultNoted u s seen m).unit u).rail (slotRail s)).carry = 0 := by
  rw [faultNoted, faultOff_eq, (phaseOff_halts (burstArea_burstIn u) s _).rail]
  refine carryCleared_carry ((nextInRotation_congr (fun f hf => Wafer.get_set_beside _ _ (.inl ?_)) ?_).trans h)
  · unfold ServiceField at hf
    unfold causeField
    dsimp only
    omega
  · rw [Wafer.unit_set]

theorem faultNoted_keeps (h : Keeps A m₀ m) (hu : UnitIn A u) : Keeps A m₀ (faultNoted u s seen m) :=
  faultOff_keeps (h.unitSet hu _ (by unfold causeField; dsimp only; omega)) hu s

end

/-! ### What follows a fault (R172, R174, R191, R199) -/

/-- A phase suspended, with the times of its latest suspensions. -/
def phaseSuspended (u : UnitId) (s : Nat) (times : List Nat) (m : Wafer) : Wafer :=
  ((m.modPhase u s fun x => { x with suspendedAt := times }).set u.base (TSK_PHSTAT.SUSPENDED s) 1).incSat u.base
    (TSK_PHFLT.RETRIES s)

/-- The flags of a phase that is retired. -/
def phaseRetired (u : UnitId) (s : Nat) (m : Wafer) : Wafer :=
  (((phaseOff u s m).set u.base (TSK_PHHLTH.RETIRE s) 1).set u.base (TSK_PHSTAT.RETIRED s) 1).set u.base (TSK_PHSTAT.SUSPENDED s) 0

section
variable {slot : Fin 4} {r : PhaseReading}

/-- A reading in which a present phase shows a fault. -/
structure FaultSeen (u : UnitId) (slot : Fin 4) (r : PhaseReading) (m : Wafer) : Prop where
  present : slotAbsent u slot = false
  seen : seenFaults u slot r m ≠ 0

theorem FaultSeen.noted (h : FaultSeen u slot r m) : ¬ (slotAbsent u slot = true ∨ seenFaults u slot r m = 0) :=
  not_or.2 ⟨ne_true_of_eq_false h.present, h.seen⟩

/-- Flags of a phase outside the recorded causes. -/
theorem faultNoted_flag (s : Nat) (seen : BitVec 6) (m : Wafer) {f : Fld} (hf : f.off = 0x404 + 0x20 * s ∨ f.off = 0x208 + 0x20 * s)
    (hs : s < 4) : (faultNoted u s seen m).on u.base f = m.on u.base f := faultNoted_on seen m (by omega)

theorem doPhaseFaultDetect_test (h : FaultSeen u slot r m) (ht : m.on u.base (TSK_PHHLTH.TEST_BUSY slot) = true) :
    doPhaseFaultDetect u slot r m =
      (faultNoted u slot (seenFaults u slot r m) m).modPhase u slot fun x => { x with testFault := true } :=
  (if_neg h.noted).trans (if_pos ((faultNoted_flag _ _ m (.inl rfl) slot.isLt).trans ht))

/-- A phase that is not under test has its fault noted, and what follows depends on its state. -/
theorem doPhaseFaultDetect_untested (h : FaultSeen u slot r m) (ht : m.on u.base (TSK_PHHLTH.TEST_BUSY slot) = false) :
    doPhaseFaultDetect u slot r m =
      let n := faultNoted u slot (seenFaults u slot r m) m
      let recent := recentTimes n.wtime ((n.unit u).phase slot).suspendedAt
      if m.on u.base (TSK_PHSTAT.RETIRED slot) then n
      else if seenFaults u slot r m &&& 3 ≠ 0 then retirePhase u slot n
      else if recent.length < n.get u.base TSK_HCTL.RETRY_MAX then
        let k := phaseSuspended u slot (n.wtime :: recent) n
        unitEvent u 0 slot (k.get u.base (causeField slot)) k
      else retirePhase u slot n :=
  (if_neg h.noted).trans (if_neg (ne_true_of_eq_false ((faultNoted_flag _ _ m (.inl rfl) slot.isLt).trans ht)))

/-- The suspensions that still count, and how many may be retried, after a fault is noted. -/
theorem faultNoted_recent (slot : Fin 4) (seen : BitVec 6) (m : Wafer) :
    (faultNoted u slot seen m).wtime = m.wtime ∧
      recentTimes (faultNoted u slot seen m).wtime (((faultNoted u slot seen m).unit u).phase slot).suspendedAt =
        recentTimes m.wtime ((m.unit u).phase slot).suspendedAt ∧
      (faultNoted u slot seen m).get u.base TSK_HCTL.RETRY_MAX = m.get u.base TSK_HCTL.RETRY_MAX := by
  have ht : (faultNoted u slot seen m).wtime = m.wtime := (faultNoted_within seen m).time rfl
  exact ⟨ht, by rw [ht, faultNoted_suspendedAt], faultNoted_get seen m (by dsimp only; omega)⟩

theorem doPhaseFaultDetect_suspends (h : FaultSeen u slot r m) (ht : m.on u.base (TSK_PHHLTH.TEST_BUSY slot) = false)
    (hr : m.on u.base (TSK_PHSTAT.RETIRED slot) = false) (h3 : seenFaults u slot r m &&& 3 = 0)
    (hl : (recentTimes m.wtime ((m.unit u).phase slot).suspendedAt).length < m.get u.base TSK_HCTL.RETRY_MAX) :
    ∃ d, doPhaseFaultDetect u slot r m = unitEvent u 0 slot d (phaseSuspended u slot
      (m.wtime :: recentTimes m.wtime ((m.unit u).phase slot).suspendedAt) (faultNoted u slot (seenFaults u slot r m) m)) := by
  obtain ⟨hw, hx, hm⟩ := faultNoted_recent (u := u) slot (seenFaults u slot r m) m
  rw [doPhaseFaultDetect_untested h ht]
  dsimp only
  rw [hr, if_neg Bool.false_ne_true, if_neg (not_not_intro h3), hx, hm, if_pos hl, hw]
  exact ⟨_, rfl⟩

theorem doPhaseFaultDetect_retires (h : FaultSeen u slot r m) (ht : m.on u.base (TSK_PHHLTH.TEST_BUSY slot) = false)
    (hr : m.on u.base (TSK_PHSTAT.RETIRED slot) = false)
    (hl : seenFaults u slot r m &&& 3 ≠ 0 ∨
      m.get u.base TSK_HCTL.RETRY_MAX ≤ (recentTimes m.wtime ((m.unit u).phase slot).suspendedAt).length) :
    doPhaseFaultDetect u slot r m = retirePhase u slot (faultNoted u slot (seenFaults u slot r m) m) := by
  obtain ⟨-, hx, hm⟩ := faultNoted_recent (u := u) slot (seenFaults u slot r m) m
  rw [doPhaseFaultDetect_untested h ht]
  dsimp only
  rw [hr, if_neg Bool.false_ne_true, hx, hm]
  split
  · rfl
  · rename_i h3
    exact if_neg (Nat.not_lt.2 (hl.resolve_left h3))

theorem doPhaseFaultDetect_retired (h : FaultSeen u slot r m) (ht : m.on u.base (TSK_PHHLTH.TEST_BUSY slot) = false)
    (hr : m.on u.base (TSK_PHSTAT.RETIRED slot) = true) :
    doPhaseFaultDetect u slot r m = faultNoted u slot (seenFaults u slot r m) m := by
  rw [doPhaseFaultDetect_untested h ht]
  exact if_pos hr

/-- A retired phase shows the short of its high side alone (R191). -/
theorem seenFaults_retired (hs : seenFaults u slot r m ≠ 0) (ht : m.on u.base (TSK_PHHLTH.TEST_BUSY slot) = false)
    (hr : m.on u.base (TSK_PHSTAT.RETIRED slot) = true) : (seenFaults u slot r m).toNat = 1 := by
  have one : ∀ b : BitVec 6, b &&& 1 ≠ 0 → (b &&& 1).toNat = 1 := by decide
  have e : seenFaults u slot r m = faultBits u slot r m &&& 1 := if_pos (by rw [hr, ht]; rfl)
  rw [e] at hs ⊢
  exact one _ hs

end

/-! ### A suspended phase -/

theorem phaseSuspended_gives (s : Nat) (times : List Nat) (m : Wafer) :
    (phaseSuspended u s times m).on u.base (TSK_PHSTAT.SUSPENDED s) = true ∧
      ((phaseSuspended u s times m).unit u).phase s = { (m.unit u).phase s with suspendedAt := times } ∧
      (∀ k, ((phaseSuspended u s times m).unit u).rail k = (m.unit u).rail k) ∧
      (phaseSuspended u s times m).get u.base (TSK_PHFLT.RETRIES s) =
        min (2 ^ (TSK_PHFLT.RETRIES s).wid - 1) (m.get u.base (TSK_PHFLT.RETRIES s) + 1) ∧
      (phaseSuspended u s times m).get u.base (causeField s) = m.get u.base (causeField s) := by
  have hu : (phaseSuspended u s times m).unit u = (m.unit u).setPhase s { (m.unit u).phase s with suspendedAt := times } := by
    rw [phaseSuspended, Wafer.unit, Wafer.incSat_units, ← Wafer.unit, Wafer.unit_set, Wafer.unit_modPhase]
  refine ⟨?_, by rw [hu, UnitSt.phase_setPhase_same], fun k => by rw [hu, UnitSt.rail_setPhase], ?_, ?_⟩
  · rw [phaseSuspended, Wafer.on_incSat_beside _ (.inl (by dsimp only; omega)), Wafer.on_set_one_of _ _ (by dsimp only; omega)]
  · rw [phaseSuspended, Wafer.get_incSat _ _ (by dsimp only; omega), Wafer.get_set_beside _ _ (.inl (by dsimp only; omega)),
      Wafer.get_modPhase]
  · rw [phaseSuspended, Wafer.get_incSat_beside _ (.inr (.inr (by unfold causeField; dsimp only; omega))),
      Wafer.get_set_beside _ _ (.inl (by unfold causeField; dsimp only; omega)), Wafer.get_modPhase]

theorem phaseSuspended_keeps (h : Keeps A m₀ m) (hu : UnitIn A u) (hs : s < 4) (times : List Nat) :
    Keeps A m₀ (phaseSuspended u s times m) :=
  ((h.unitMod hu _).unitSet hu 1 (by dsimp only; omega)).incSat _ _ (hu.has (by dsimp only; omega))

theorem unitEvent_phase (code slot data k : Nat) (m : Wafer) :
    ((unitEvent u code slot data m).unit u).phase k = (m.unit u).phase k :=
  show ((unitEvent u code slot data m).unit u).besideEvents.phase k = _ by rw [unitEvent_unit]; rfl

/-! ### A retired phase (R191) -/

theorem retirePhase_retires (ha : slotAbsent u s = false) (hr : m.on u.base (TSK_PHHLTH.RETIRE s) = false) :
    ∃ d, retirePhase u s m = railLoss u s (unitEvent u 1 s d (phaseRetired u s m)) :=
  ⟨_, if_neg (not_or.2 ⟨ne_true_of_eq_false ha, ne_true_of_eq_false hr⟩)⟩

theorem phaseRetired_gives (s : Nat) (m : Wafer) :
    (phaseRetired u s m).on u.base (TSK_PHSTAT.RETIRED s) = true ∧ (phaseRetired u s m).on u.base (TSK_PHHLTH.RETIRE s) = true ∧
      (((phaseRetired u s m).unit u).phase s).bridge = .off ∧
      (phaseRetired u s m).get u.base (causeField s) = m.get u.base (causeField s) := by
  refine ⟨?_, ?_, phaseOff_bridge s m, ?_⟩
  · rw [phaseRetired, Wafer.on_set_ne _ _ (by dsimp only; omega), Wafer.on_set_one_of _ _ (by dsimp only; omega)]
  · rw [phaseRetired, Wafer.on_set_ne _ _ (.inl (by dsimp only; omega)), Wafer.on_set_ne _ _ (.inl (by dsimp only; omega)),
      Wafer.on_set_one_of _ _ (by dsimp only; omega)]
  · have hc : (causeField s).off = 0x408 + 0x20 * s := rfl
    rw [phaseRetired, Wafer.get_set_beside _ _ (.inl (by dsimp only; omega)), Wafer.get_set_beside _ _ (.inl (by dsimp only; omega)),
      Wafer.get_set_beside _ _ (.inl (by dsimp only; omega)), phaseOff_get (by omega)]

/-- After the retirement of a phase and whatever the loss of its rail brings. -/
theorem retirePhase_gives (ha : slotAbsent u s = false) (hr : m.on u.base (TSK_PHHLTH.RETIRE s) = false) :
    (retirePhase u s m).on u.base (TSK_PHSTAT.RETIRED s) = true ∧ (retirePhase u s m).on u.base (TSK_PHHLTH.RETIRE s) = true ∧
      (((retirePhase u s m).unit u).phase s).bridge = .off ∧
      (retirePhase u s m).get u.base (causeField s) = m.get u.base (causeField s) := by
  obtain ⟨d, e⟩ := retirePhase_retires ha hr
  obtain ⟨h1, h2, h3, h4⟩ := phaseRetired_gives (u := u) s m
  have hc : (causeField s).off = 0x408 + 0x20 * s := rfl
  rw [e]
  refine ⟨?_, ?_, ?_, ?_⟩
  · rw [Wafer.on, lost_get (by dsimp only; omega), ← Wafer.on, h1]
  · rw [Wafer.on, lost_get (by dsimp only; omega), ← Wafer.on, h2]
  · rw [(lost_idling 1 s d s _).phase, h3]
  · rw [lost_get (by omega), h4]

/-! ### The current limit (R103, R110, R120, R171) -/

/-- A pulse at its limit: the current is taken, in REG with its peak, and the rail holds K_TON. -/
def limitReached (u : UnitId) (s : Nat) (i : Int) (m : Wafer) : Wafer :=
  let k := m.modPhase u s fun x => { x with current := i }
  (if railState u (slotRail s) k = rREG then peakMax u (TSK_TPK_PI.IMAX s) i k else k).modRail u (slotRail s) fun r =>
    { r with fllHold := true }

theorem peakMax_idling (hp : (u.base, TSK_TPK_PI.IMAX s) ∈ A.fields) (i : Int) (m : Wafer) :
    Idling A u m (peakMax u (TSK_TPK_PI.IMAX s) i m) := .ite ((Idling.refl A u m).set _ _ hp) (.refl A u m)

theorem limitReached_within (h : Within A m₀ m) (hu : A.units u = true) (hp : (u.base, TSK_TPK_PI.IMAX s) ∈ A.fields) (i : Int) :
    Within A m₀ (limitReached u s i m) := by
  have k := h.modPhase hu s fun x => { x with current := i }
  unfold limitReached
  refine Within.modRail ?_ hu _ _
  split
  · exact k.trans (peakMax_idling hp i _).within
  · exact k

theorem limitReached_unit (s : Nat) (i : Int) (m : Wafer) :
    ((limitReached u s i m).unit u).phase s = { (m.unit u).phase s with current := i } ∧
      (((limitReached u s i m).unit u).rail (slotRail s)).fllHold = true := by
  have hp (n : Wafer) : (peakMax u (TSK_TPK_PI.IMAX s) i n).unit u = n.unit u := by
    unfold peakMax
    split <;> rfl
  unfold limitReached
  dsimp only
  rw [Wafer.unit_modRail, UnitSt.phase_setRail, UnitSt.rail_setRail]
  refine ⟨?_, rfl⟩
  split
  · rw [hp, Wafer.unit_modPhase, UnitSt.phase_setPhase_same]
  · rw [Wafer.unit_modPhase, UnitSt.phase_setPhase_same]

/-- What a pulse's end at its limit may change. -/
def limitArea (u : UnitId) (s : Nat) : Area :=
  { fields := [(u.base, TSK_GSTAT.BURST), (u.base, TSK_GSTAT.REARM_WAIT), (u.base, TSK_TPK_PI.IMAX s)], units := (· == u) }

theorem limitArea_burstIn (u : UnitId) (s : Nat) : BurstIn (limitArea u s) u := ⟨beq_self_eq_true u, .head _, .tail _ (.head _)⟩

theorem doCurrentLimitHit_limits {slot : Fin 4} {i : Int} (hp : ((m.unit u).phase slot).pulse ≠ .none)
    (hi : 50 * (foldBack u slot m : Int) ≤ i) :
    doCurrentLimitHit u slot i m = ovlEval u (endPulse u slot true (limitReached u slot i m)) := if_pos ⟨hp, hi⟩

theorem doCurrentLimitHit_returns {slot : Fin 4} {i : Int} (hs : m.on u.base (TSK_RSTAT.SINK (slotRail slot)) = true)
    (hp : ((m.unit u).phase slot).pulse = .none) (hb : ((m.unit u).phase slot).bridge = .low) (ha : available u slot m = true)
    (hi : i ≤ -250 * (m.get u.base (TSK_OVS.SINK_LIM (slotRail slot)) : Int)) :
    doCurrentLimitHit u slot i m = m.modPhase u slot fun x => { x with bridge := .high, returning := true, current := i } :=
  (if_neg fun k => k.1 hp).trans (if_pos ⟨hs, hp, hb, ha, hi⟩)

theorem ovlEval_phase (k : Nat) (m : Wafer) : ((ovlEval u m).unit u).phase k = (m.unit u).phase k := by
  rw [ovlEval, Wafer.unit_modRail, UnitSt.phase_setRail]

theorem ovlEval_fllHold (k : Nat) (m : Wafer) : (((ovlEval u m).unit u).rail k).fllHold = ((m.unit u).rail k).fllHold := by
  rw [ovlEval, Wafer.unit_modRail, UnitSt.railKept_setRail RailSt.fllHold]
  rfl

/-! ### The end of a suspension (R174) -/

/-- What a phase's return from suspension may change. -/
def returnArea (u : UnitId) (s : Nat) : Area :=
  { fields := [(u.base, TSK_PHSTAT.SUSPENDED s), (u.base, TSK_PHPULSE.PULSES 0), (u.base, TSK_PHPULSE.PULSES 1),
      (u.base, TSK_PHPULSE.PULSES 2), (u.base, TSK_PHPULSE.PULSES 3), (u.base, TSK_RSTAT.CARRY_FIRE 0),
      (u.base, TSK_RSTAT.CARRY_FIRE 1), (u.base, TSK_TIEPULSE.TIE_PULSES)], units := (· == u) }

theorem returnArea_pulsesIn (u : UnitId) {s q : Nat} (hq : q < 2) : PulsesIn (returnArea u s) u q where
  hidden := beq_self_eq_true u
  pulses k hk := by
    obtain rfl | rfl | rfl | rfl : k = 0 ∨ k = 1 ∨ k = 2 ∨ k = 3 := by omega
    all_goals simp [returnArea]
  carry := by
    obtain rfl | rfl : q = 0 ∨ q = 1 := by omega
    all_goals simp [returnArea]
  ties := by simp [returnArea]

/-- A phase back from suspension, before it is offered. -/
def phaseReturned (u : UnitId) (s : Nat) (m : Wafer) : Wafer :=
  (m.set u.base (TSK_PHSTAT.SUSPENDED s) 0).modPhase u s fun x => { x with servedFrom := m.wtime }

theorem doSuspensionEnd_returns {slot : Fin 4} (h : m.on u.base (TSK_PHSTAT.SUSPENDED slot) = true) :
    doSuspensionEnd u slot m = offerPhase u slot (phaseReturned u slot m) := if_pos h

/-- Settles O19, clause by clause. -/
theorem phaseProtection : Obligations.PhaseProtection := by
  unfold Obligations.PhaseProtection
  refine ⟨?_, ?_, ?_, ?_, ?_, ?_, ?_⟩
  · intro m u slot i hp hi
    have hA := limitArea_burstIn u slot
    have hw := limitReached_within (s := slot) (.refl _ m) hA.hidden (.tail _ (.tail _ (.head _))) i
    obtain ⟨hx, hf⟩ := limitReached_unit (u := u) slot i m
    have he := endPulse_ends (limited := true) hA (m := limitReached u slot i m) (s := slot) (by rw [hx]; exact hp)
    have hph : ((endPulse u slot true (limitReached u slot i m)).unit u).phase slot =
        pulseEnded true m.wtime { (m.unit u).phase slot with current := i } := by
      rw [he.phase, Wafer.unit_modPhase, UnitSt.phase_setPhase_same, hx, hw.time rfl]
    refine .of_effect _ (fun _ => rfl) ?_ ?_
    all_goals rw [doCurrentLimitHit_limits hp hi]
    · exact ovlEval_within ((hw.modPhase hA.hidden _ _).trans he.within) hA.hidden
    · rw [ovlEval_phase, ovlEval_fllHold, hph, he.rail, Wafer.unit_modPhase, UnitSt.rail_setPhase]
      exact ⟨rfl, rfl, rfl, hf, rfl⟩
  · intro m u slot i hs hp hb ha hi
    refine .of_effect _ (fun _ => rfl) ?_ ?_
    all_goals rw [doCurrentLimitHit_returns hs hp hb ha hi]
    · exact (Within.refl _ m).modPhase (beq_self_eq_true u) _ _
    · rw [Wafer.unit_modPhase, UnitSt.phase_setPhase_same]
      exact ⟨rfl, rfl, rfl⟩
  · intro m u slot r ha hs h3 hr ht hl
    have hu := unitArea_unitIn u
    obtain ⟨d, e⟩ := doPhaseFaultDetect_suspends ⟨ha, hs⟩ ht hr h3 hl
    obtain ⟨g1, g2, g3, g4, g5⟩ := phaseSuspended_gives (u := u) slot
      (m.wtime :: recentTimes m.wtime ((m.unit u).phase slot).suspendedAt) (faultNoted u slot (seenFaults u slot r m) m)
    refine .of_effect _ (fun _ => rfl) ?_ ?_
    all_goals rw [e]
    · exact (unitEvent_keeps (phaseSuspended_keeps (faultNoted_keeps slot.isLt _ _ (.refl _ m) hu) hu slot.isLt _) hu _ _ _).within
    · have hc : (causeField slot).off = 0x408 + 0x20 * slot := rfl
      rw [Wafer.on, unitEvent_get (by dsimp only; omega), ← Wafer.on, unitEvent_phase, g2, unitEvent_get (by dsimp only; omega),
        unitEvent_get (by omega), unitEvent_rail, g3, g4, g5, faultNoted_get _ _ (by dsimp only; omega), faultNoted_cause slot.isLt]
      exact ⟨g1, rfl, faultNoted_bridge _ _, rfl, rfl, faultNoted_carry slot.isLt _ _⟩
  · intro m u slot r ha hs hl hr hh ht
    have hu := unitArea_unitIn u
    obtain ⟨g1, g2, g3, g4⟩ := retirePhase_gives (u := u) (m := faultNoted u slot (seenFaults u slot r m) m) ha
      ((faultNoted_flag _ _ m (.inl rfl) slot.isLt).trans hh)
    refine .of_effect _ (fun _ => rfl) ?_ ?_
    all_goals rw [doPhaseFaultDetect_retires ⟨ha, hs⟩ ht hr hl]
    · exact (retirePhase_keeps (faultNoted_keeps slot.isLt _ _ (.refl _ m) hu) hu slot.isLt).within
    · exact ⟨g1, g2, g3, g4.trans (faultNoted_cause slot.isLt _ _)⟩
  · intro m u slot r ha hs ht
    refine .of_effect _ (fun _ => rfl) ?_ ?_
    all_goals rw [doPhaseFaultDetect_test ⟨ha, hs⟩ ht]
    · exact (faultNoted_within _ m).modPhase (beq_self_eq_true u) _ _
    · rw [Wafer.unit_modPhase, UnitSt.phase_setPhase_same, Wafer.get_modPhase, faultNoted_cause slot.isLt]
      exact ⟨rfl, faultNoted_bridge _ _, rfl⟩
  · intro m u slot r ha hs hr ht
    refine .of_effect _ (fun _ => rfl) ?_ ?_
    all_goals rw [doPhaseFaultDetect_retired ⟨ha, hs⟩ ht hr]
    · exact faultNoted_within _ m
    · rw [faultNoted_cause slot.isLt, seenFaults_retired hs ht hr]
      exact ⟨rfl, faultNoted_bridge _ _⟩
  · intro m u slot hs
    have hf := (Fires.refl (returnArea u slot) u (phaseReturned u slot m)).offerPhase
      (returnArea_pulsesIn u (slotRail_lt slot.isLt)) slot.isLt
    refine .of_effect _ (fun _ => rfl) ?_ ?_
    all_goals rw [doSuspensionEnd_returns hs]
    · exact (((Within.refl _ m).set _ _ _ (.inl (.head _))).modPhase (beq_self_eq_true u) _ _).trans hf.within
    · refine ⟨?_, (congrArg PhaseSt.servedFrom (hf.phase slot)).trans ?_⟩
      · rw [hf.on (by unfold UnpulsedField; dsimp only; omega), phaseReturned, Wafer.on_modPhase,
          Wafer.on_set_zero_of _ _ (by dsimp only; omega)]
      · rw [phaseReturned, Wafer.unit_modPhase, UnitSt.phase_setPhase_same]
        rfl

end Sys2Proof.Machine
end
